-- ==== Sys2Proof/Word.lean ====
section
/-!
DEFINITION. Sys2Proof/Word.lean: the types of the numbers the Thizal 9640 holds in bits, and the parts that the spec names by
fixed names (00 R1-R5, 01 R23, 03 R53).
-/

namespace Sys2Proof

/-- An instruction word of R53. -/
abbrev Word := BitVec 32

/-- A byte of memory (R2). -/
abbrev Byte := BitVec 8

/-- The contents of a g register (R60). -/
abbrev Reg := BitVec 64

/-- A tile register of 4 KiB (R60). -/
abbrev Tile := BitVec 32768

/-- A mask-stack entry: one bit per element, the full 4096 positions (R60, R156). -/
abbrev Mask := BitVec 4096

/-- The four engines of an activation slot: the sequencer, the vector engine, the matrix engine and the asynchronous
slot, in the order of the tags of R53. -/
inductive Engine where
  | S | V | M | A
  deriving DecidableEq, Repr, Inhabited

/-- The engine tag of R53. -/
def Engine.tag : Engine → Nat
  | .S => 0
  | .V => 1
  | .M => 2
  | .A => 3

/-- The engine a tag of R53 names. -/
def Engine.ofTag : Nat → Engine
  | 0 => .S
  | 1 => .V
  | 2 => .M
  | _ => .A

end Sys2Proof
end

