-- ==== Sys2Proof/Machine/Bits.lean ====
section
/-!
DEFINITION. Sys2Proof/Machine/Bits.lean: bit fields, sign extension and byte order (00 R2, R3; 03 R59), and the small arithmetic
on natural numbers that the rules use.
-/

namespace Sys2Proof.Machine

/-- The field [hi:lo] of R3 of a number read as bits. -/
def field (x hi lo : Nat) : Nat := x / 2 ^ lo % 2 ^ (hi - lo + 1)

/-- One bit of R3. -/
def bitAt (x n : Nat) : Bool := x / 2 ^ n % 2 == 1

/-- sext of R59: `x` holds `n` bits. -/
def sext (x n : Nat) : Int := if x / 2 ^ (n - 1) % 2 = 1 then (x : Int) - 2 ^ n else x

/-- The two's-complement value of an integer in `n` bits, as a number. -/
def wrapN (n : Nat) (x : Int) : Nat := (x % 2 ^ n).toNat

/-- The value of the bit `b` as a number. -/
def bitN (b : Bool) : Nat := if b then 1 else 0

/-- ceil(a / b) of the rules. -/
def ceilDiv (a b : Nat) : Nat := (a + b - 1) / b

/-- The least multiple of `b` not below `a`. -/
def alignUp (a b : Nat) : Nat := ceilDiv a b * b

/-- Little-endian bytes of a number under R2. -/
def toBytes : Nat → Nat → List Byte
  | 0, _ => []
  | n + 1, x => BitVec.ofNat 8 x :: toBytes n (x / 256)

/-- The number little-endian bytes hold under R2. -/
def ofBytes : List Byte → Nat
  | [] => 0
  | b :: t => b.toNat + 256 * ofBytes t

/-- Count the one bits of the low `n` bits of a number. -/
def popCount : Nat → Nat → Nat
  | 0, _ => 0
  | n + 1, x => x % 2 + popCount n (x / 2)

/-- Leading zero bits of the low `n` bits of a number. -/
def leadZeros : Nat → Nat → Nat
  | 0, _ => 0
  | n + 1, x => if bitAt x n then 0 else 1 + leadZeros n x

/-- Trailing zero bits of the low `n` bits of a number; `n` if none is set. -/
def trailZeros : Nat → Nat → Nat
  | 0, _ => 0
  | n + 1, x => if x % 2 = 1 then 0 else 1 + trailZeros n (x / 2)

/-- The natural numbers from `a` on, `n` of them. -/
def rangeFrom (a : Nat) : Nat → List Nat
  | 0 => []
  | n + 1 => a :: rangeFrom (a + 1) n

/-- Replace element `i` of a list, if there is one. -/
def setAt {α : Type} : List α → Nat → α → List α
  | [], _, _ => []
  | _ :: t, 0, v => v :: t
  | h :: t, n + 1, v => h :: setAt t n v

/-- Remove the first element that meets a test. -/
def dropFirst {α : Type} (p : α → Bool) : List α → List α
  | [] => []
  | h :: t => if p h then t else h :: dropFirst p t

/-- Replace the first element that meets a test. -/
def mapFirst {α : Type} (p : α → Bool) (f : α → α) : List α → List α
  | [] => []
  | h :: t => if p h then f h :: t else h :: mapFirst p f t

/-- The position at which a half-open range overlaps another. -/
def overlaps (a la b lb : Nat) : Bool := a < b + lb && b < a + la && 0 < la && 0 < lb

end Sys2Proof.Machine
end

