-- ==== Sys2Proof/Machine/Flags.lean ====
section
/-!
DEFINITION. Sys2Proof/Machine/Flags.lean: the conditions that set a c flag (05 R119).
-/

namespace Sys2Proof.Machine

/-- The condition `cc` of CMP and CMPI on two operands (R119). -/
def cmpHolds (cc : Nat) (a b : Reg) : Bool :=
  match cc with
  | 0 => a == b
  | 1 => a != b
  | 2 => decide (a.toInt < b.toInt)
  | 3 => decide (b.toInt ≤ a.toInt)
  | 4 => decide (a.toNat < b.toNat)
  | 5 => decide (b.toNat ≤ a.toNat)
  | 6 => (a &&& b) != 0
  | _ => (a &&& b) == 0

end Sys2Proof.Machine
end

