-- ==== Sys2Proof/Machine/Kinds.lean ====
section
/-!
DEFINITION. Sys2Proof/Machine/Kinds.lean: what the package steps of the opcode table name besides numbers: the agent of a page
walk, and what arrives from outside the package (packets, host requests, images).
-/

namespace Sys2Proof

/-- The agents whose accesses are translated one by one (09 R237, 10 R273): a sequencer's global accesses, the bursts of a slot's
load or store commands, and a winch. -/
inductive Agent where
  | seq (slot : Nat)
  | stream (slot : Nat) (store : Bool)
  | winch (w : Nat)
  deriving DecidableEq, Repr, Inhabited

/-- What a participant's first packet of a collective carries (17 R389): KIND, OP, FMT, E0 to E3, n and the ranks. -/
structure PeerCheck where
  kind : Nat
  op : Nat
  fmt : Nat
  ext : List Nat
  n : Nat
  ranks : List Nat
  deriving DecidableEq, Repr, Inhabited

/-- A packet that reaches a port (16 R373): the port, whether it came encrypted and then whether it passed authentication, the
16-byte device header and the payload. -/
structure Arrival where
  port : Nat
  encrypted : Bool
  authentic : Bool
  header : BitVec 128
  payload : List Byte
  deriving DecidableEq, Repr, Inhabited

/-- A read or a posted write of the host or of a drive through BAR2 (16 R367, R369): whether the requester is the root port, the
offset in BAR2, and the bytes written, or how many are read. -/
structure HostReq where
  root : Bool
  off : Nat
  data : Option (List Byte)
  len : Nat
  deriving DecidableEq, Repr, Inhabited

/-- An Irilo image as Keel reads it from the flash (19 R425): its header, and the bytes behind it, payload and signature (log 31). -/
structure FlashImage where
  header : BitVec 2048
  rest : List Byte
  deriving DecidableEq, Repr, Inhabited

end Sys2Proof
end

