-- ==== Sys2Proof/Syntax.lean ====
section
/-!
DEFINITION. Sys2Proof/Syntax.lean: the operations and steps of the Thizal 9640, one constructor for each row of
spec/opcode_table.json: the words in the order of the table, then the package steps. A word keeps its fields as the bits of its
encoding (03 R56). A package step has no word: the slot, queue, context or other unit it acts at is the number State.cur, and it
keeps what else it names.
-/

namespace Sys2Proof

/-- The instruction words and the package steps (03 R75-R79; 95). -/
inductive Instr where
  /-- BPREP (R102). -/
  | bprep (t : BitVec 3) (o : BitVec 18)
  /-- BPREPG (R102). -/
  | bprepg (d : BitVec 6) (a : BitVec 6) (i : BitVec 12)
  /-- BLINK (R102). -/
  | blink (t : BitVec 3) (l : BitVec 3)
  /-- BGO (R102). -/
  | bgo (p : BitVec 1) (t : BitVec 3) (f : BitVec 3)
  /-- LSET (R103). -/
  | lset (s : BitVec 3) (l : BitVec 3) (a : BitVec 6) (i : BitVec 12)
  /-- LSTEP (R104). -/
  | lstep (d : BitVec 6) (a : BitVec 6) (i : BitVec 12)
  /-- LONLY_FIRST (R105). -/
  | lonlyFirst (l : BitVec 3) (n : BitVec 12)
  /-- LONLY_LAST (R105). -/
  | lonlyLast (l : BitVec 3) (n : BitVec 12)
  /-- LONLY_STAGE (R105). -/
  | lonlyStage (l : BitVec 3) (s : BitVec 6) (n : BitVec 12)
  /-- ROTSET (R108). -/
  | rotset (i : BitVec 12)
  /-- RGN (R109). -/
  | rgn (s : BitVec 1) (a : BitVec 6) (i : BitVec 12)
  /-- HALT (R111). -/
  | halt (a : BitVec 6)
  /-- ICINV (R95). -/
  | icinv (d : BitVec 6) (a : BitVec 6) (i : BitVec 12)
  /-- ADD (R116). -/
  | add (d : BitVec 6) (a : BitVec 6) (b : BitVec 6)
  /-- SUB (R116). -/
  | sub (d : BitVec 6) (a : BitVec 6) (b : BitVec 6)
  /-- AND (R116). -/
  | and (d : BitVec 6) (a : BitVec 6) (b : BitVec 6)
  /-- OR (R116). -/
  | or (d : BitVec 6) (a : BitVec 6) (b : BitVec 6)
  /-- XOR (R116). -/
  | xor (d : BitVec 6) (a : BitVec 6) (b : BitVec 6)
  /-- SHL (R116). -/
  | shl (d : BitVec 6) (a : BitVec 6) (b : BitVec 6)
  /-- SHR (R116). -/
  | shr (d : BitVec 6) (a : BitVec 6) (b : BitVec 6)
  /-- SAR (R116). -/
  | sar (d : BitVec 6) (a : BitVec 6) (b : BitVec 6)
  /-- MUL (R116). -/
  | mul (d : BitVec 6) (a : BitVec 6) (b : BitVec 6)
  /-- MULH (R116). -/
  | mulh (d : BitVec 6) (a : BitVec 6) (b : BitVec 6)
  /-- MULHN (R116). -/
  | mulhn (d : BitVec 6) (a : BitVec 6) (b : BitVec 6)
  /-- DIV (R116). -/
  | div (d : BitVec 6) (a : BitVec 6) (b : BitVec 6)
  /-- DIVN (R116). -/
  | divn (d : BitVec 6) (a : BitVec 6) (b : BitVec 6)
  /-- REM (R116). -/
  | rem (d : BitVec 6) (a : BitVec 6) (b : BitVec 6)
  /-- REMN (R116). -/
  | remn (d : BitVec 6) (a : BitVec 6) (b : BitVec 6)
  /-- MIN (R116). -/
  | min (d : BitVec 6) (a : BitVec 6) (b : BitVec 6)
  /-- MAX (R116). -/
  | max (d : BitVec 6) (a : BitVec 6) (b : BitVec 6)
  /-- MINN (R116). -/
  | minn (d : BitVec 6) (a : BitVec 6) (b : BitVec 6)
  /-- MAXN (R116). -/
  | maxn (d : BitVec 6) (a : BitVec 6) (b : BitVec 6)
  /-- CLZ (R116). -/
  | clz (d : BitVec 6) (a : BitVec 6)
  /-- CTZ (R116). -/
  | ctz (d : BitVec 6) (a : BitVec 6)
  /-- POPC (R116). -/
  | popc (d : BitVec 6) (a : BitVec 6)
  /-- SEL_FUNC16 (R116). -/
  | selFunc16 (d : BitVec 6) (a : BitVec 6) (b : BitVec 6)
  /-- ADDX (R116). -/
  | addx (d : BitVec 6) (a : BitVec 6) (b : BitVec 6) (s : BitVec 2)
  /-- SEL (R116). -/
  | sel (d : BitVec 6) (a : BitVec 6) (b : BitVec 6) (f : BitVec 3)
  /-- CMP (R119). -/
  | cmp (c : BitVec 3) (f : BitVec 3) (a : BitVec 6) (b : BitVec 6)
  /-- CMPI (R119). -/
  | cmpi (c : BitVec 3) (f : BitVec 3) (a : BitVec 6) (i : BitVec 12)
  /-- ADDI (R117). -/
  | addi (d : BitVec 6) (a : BitVec 6) (i : BitVec 12)
  /-- ANDI (R117). -/
  | andi (d : BitVec 6) (a : BitVec 6) (i : BitVec 12)
  /-- ORI (R117). -/
  | ori (d : BitVec 6) (a : BitVec 6) (i : BitVec 12)
  /-- XORI (R117). -/
  | xori (d : BitVec 6) (a : BitVec 6) (i : BitVec 12)
  /-- SHLI (R117). -/
  | shli (d : BitVec 6) (a : BitVec 6) (i : BitVec 12)
  /-- SHRI (R117). -/
  | shri (d : BitVec 6) (a : BitVec 6) (i : BitVec 12)
  /-- SARI (R117). -/
  | sari (d : BitVec 6) (a : BitVec 6) (i : BitVec 12)
  /-- MULI (R117). -/
  | muli (d : BitVec 6) (a : BitVec 6) (i : BitVec 12)
  /-- LUI (R118). -/
  | lui (d : BitVec 6) (i : BitVec 18)
  /-- LDS (R120). -/
  | lds (d : BitVec 6) (a : BitVec 6) (k : BitVec 3) (o : BitVec 9)
  /-- STS (R120). -/
  | sts (d : BitVec 6) (a : BitVec 6) (k : BitVec 3) (o : BitVec 9)
  /-- GLD (R124). -/
  | gld (d : BitVec 6) (a : BitVec 6) (c : BitVec 4) (k : BitVec 3)
  /-- GST (R124). -/
  | gst (d : BitVec 6) (a : BitVec 6) (c : BitVec 4) (k : BitVec 3)
  /-- GATOM (R124). -/
  | gatom (d : BitVec 6) (a : BitVec 6) (c : BitVec 4) (s : BitVec 1) (o : BitVec 4)
  /-- MFC (R126). -/
  | mfc (d : BitVec 6) (i : BitVec 12)
  /-- MTC (R126). -/
  | mtc (a : BitVec 6) (i : BitVec 12)
  /-- SHPW (R127). -/
  | shpw (d : BitVec 6) (k : BitVec 2) (r : BitVec 2) (f : BitVec 5)
  /-- SHPR (R127). -/
  | shpr (d : BitVec 6) (k : BitVec 2) (r : BitVec 2) (c : BitVec 1) (f : BitVec 5)
  /-- KWAIT_S (R129). -/
  | kwaitS (d : BitVec 6) (i : BitVec 12)
  /-- KSIG_S (R131). -/
  | ksigS (d : BitVec 6) (i : BitVec 12)
  /-- KCFG (R128). -/
  | kcfg (d : BitVec 6) (a : BitVec 6)
  /-- STAMP (R132). -/
  | stamp (d : BitVec 6)
  /-- WALL (R132). -/
  | wall (d : BitVec 6)
  /-- VGET (R133). -/
  | vget (f : BitVec 3)
  /-- MSEND (R134). -/
  | msend (d : BitVec 6) (a : BitVec 6) (b : BitVec 6)
  /-- MRECV (R135). -/
  | mrecv (d : BitVec 6)
  /-- FENCE_REL (R137). -/
  | fenceRel (m : BitVec 4) (s : BitVec 2) (n : BitVec 12)
  /-- FENCE_ACQ (R137). -/
  | fenceAcq (m : BitVec 4) (s : BitVec 2) (n : BitVec 12)
  /-- FENCE_AR (R137). -/
  | fenceAr (m : BitVec 4) (s : BitVec 2) (n : BitVec 12)
  /-- FENCE_E (R138). -/
  | fenceE (e : BitVec 3)
  /-- TRAP (R139). -/
  | trap (i : BitVec 18)
  /-- TRAP_WARN (R139). -/
  | trapWarn (i : BitVec 18)
  /-- TLBINV (R275). -/
  | tlbinv (d : BitVec 6) (a : BitVec 6) (b : BitVec 6)
  /-- PGQRY (R276). -/
  | pgqry (d : BitVec 6) (a : BitVec 6)
  /-- PGHINT_TRANS (R277). -/
  | pghintTrans (a : BitVec 6) (b : BitVec 6)
  /-- PGHINT_ENC (R277). -/
  | pghintEnc (a : BitVec 6) (b : BitVec 6)
  /-- GOVRD (R289). -/
  | govrd (d : BitVec 6) (a : BitVec 6) (f : BitVec 6)
  /-- GOVWR (R289). -/
  | govwr (f : BitVec 6) (a : BitVec 6) (b : BitVec 6)
  /-- GOVSTEP (R290). -/
  | govstep (d : BitVec 6) (a : BitVec 6)
  /-- GOVPIN (R285). -/
  | govpin (a : BitVec 6) (b : BitVec 6)
  /-- WQPUSH (R300). -/
  | wqpush (a : BitVec 6) (b : BitVec 6)
  /-- WQPOP (R301). -/
  | wqpop (d : BitVec 6) (b : BitVec 6)
  /-- WQROOM (R302). -/
  | wqroom (d : BitVec 6) (b : BitVec 6)
  /-- CQPOP (R307). -/
  | cqpop (d : BitVec 6)
  /-- GRPID (R330). -/
  | grpid (d : BitVec 6) (b : BitVec 6)
  /-- BANDQ (R331). -/
  | bandq (d : BitVec 6) (b : BitVec 6)
  /-- PHASE (R332). -/
  | phase (d : BitVec 6) (a : BitVec 6) (b : BitVec 6)
  /-- BARR (R344). -/
  | barr (d : BitVec 6) (b : BitVec 6)
  /-- BARW (R344). -/
  | barw (d : BitVec 6) (a : BitVec 6) (b : BitVec 6)
  /-- BARS (R344). -/
  | bars (d : BitVec 6) (b : BitVec 6)
  /-- WAITC (R345). -/
  | waitc (c : BitVec 4) (a : BitVec 6) (b : BitVec 6)
  /-- RCLF (R359). -/
  | rclf (d : BitVec 6) (a : BitVec 6)
  /-- INCQRY (R360). -/
  | incqry (d : BitVec 6) (a : BitVec 6) (b : BitVec 6)
  /-- YIELD (R361). -/
  | yield (d : BitVec 6)
  /-- BRK (R421). -/
  | brk (a : BitVec 6)
  /-- TRCMARK (R422). -/
  | trcmark (a : BitVec 6)
  /-- VFMA (R151). -/
  | vfma (p : BitVec 2) (d : BitVec 6) (a : BitVec 6) (b : BitVec 6) (c : BitVec 6)
  /-- VFMS (R151). -/
  | vfms (p : BitVec 2) (d : BitVec 6) (a : BitVec 6) (b : BitVec 6) (c : BitVec 6)
  /-- VFNMA (R151). -/
  | vfnma (p : BitVec 2) (d : BitVec 6) (a : BitVec 6) (b : BitVec 6) (c : BitVec 6)
  /-- VIMAD (R155). -/
  | vimad (p : BitVec 2) (d : BitVec 6) (a : BitVec 6) (b : BitVec 6) (c : BitVec 6)
  /-- VQNT (R161). -/
  | vqnt (p : BitVec 2) (d : BitVec 6) (a : BitVec 6) (b : BitVec 6) (c : BitVec 6)
  /-- VADD (R151). -/
  | vadd (d : BitVec 6) (a : BitVec 6) (b : BitVec 6) (s : BitVec 2) (w : BitVec 1)
  /-- VSUB (R151). -/
  | vsub (d : BitVec 6) (a : BitVec 6) (b : BitVec 6) (s : BitVec 2) (w : BitVec 1)
  /-- VMUL (R151). -/
  | vmul (d : BitVec 6) (a : BitVec 6) (b : BitVec 6) (s : BitVec 2) (w : BitVec 1)
  /-- VMIN (R153). -/
  | vmin (d : BitVec 6) (a : BitVec 6) (b : BitVec 6) (s : BitVec 2) (w : BitVec 1)
  /-- VMAX (R153). -/
  | vmax (d : BitVec 6) (a : BitVec 6) (b : BitVec 6) (s : BitVec 2) (w : BitVec 1)
  /-- VABS (R153). -/
  | vabs (d : BitVec 6) (a : BitVec 6) (s : BitVec 2) (w : BitVec 1)
  /-- VNEG (R153). -/
  | vneg (d : BitVec 6) (a : BitVec 6) (s : BitVec 2) (w : BitVec 1)
  /-- VRCP (R154). -/
  | vrcp (d : BitVec 6) (a : BitVec 6) (s : BitVec 2) (w : BitVec 1)
  /-- VRSQ (R154). -/
  | vrsq (d : BitVec 6) (a : BitVec 6) (s : BitVec 2) (w : BitVec 1)
  /-- VSQRT (R154). -/
  | vsqrt (d : BitVec 6) (a : BitVec 6) (s : BitVec 2) (w : BitVec 1)
  /-- VEXP2 (R154). -/
  | vexp2 (d : BitVec 6) (a : BitVec 6) (s : BitVec 2) (w : BitVec 1)
  /-- VLOG2 (R154). -/
  | vlog2 (d : BitVec 6) (a : BitVec 6) (s : BitVec 2) (w : BitVec 1)
  /-- VTANH (R154). -/
  | vtanh (d : BitVec 6) (a : BitVec 6) (s : BitVec 2) (w : BitVec 1)
  /-- VSIGM (R154). -/
  | vsigm (d : BitVec 6) (a : BitVec 6) (s : BitVec 2) (w : BitVec 1)
  /-- VIADD (R155). -/
  | viadd (d : BitVec 6) (a : BitVec 6) (b : BitVec 6) (s : BitVec 2) (w : BitVec 1) (t : BitVec 1)
  /-- VISUB (R155). -/
  | visub (d : BitVec 6) (a : BitVec 6) (b : BitVec 6) (s : BitVec 2) (w : BitVec 1) (t : BitVec 1)
  /-- VIMUL (R155). -/
  | vimul (d : BitVec 6) (a : BitVec 6) (b : BitVec 6) (s : BitVec 2) (w : BitVec 1) (t : BitVec 1)
  /-- VAND (R155). -/
  | vand (d : BitVec 6) (a : BitVec 6) (b : BitVec 6) (s : BitVec 2) (w : BitVec 1)
  /-- VOR (R155). -/
  | vor (d : BitVec 6) (a : BitVec 6) (b : BitVec 6) (s : BitVec 2) (w : BitVec 1)
  /-- VXOR (R155). -/
  | vxor (d : BitVec 6) (a : BitVec 6) (b : BitVec 6) (s : BitVec 2) (w : BitVec 1)
  /-- VSHL (R155). -/
  | vshl (d : BitVec 6) (a : BitVec 6) (b : BitVec 6) (s : BitVec 2) (w : BitVec 1) (i : BitVec 1)
  /-- VSHR (R155). -/
  | vshr (d : BitVec 6) (a : BitVec 6) (b : BitVec 6) (s : BitVec 2) (w : BitVec 1) (i : BitVec 1)
  /-- VSAR (R155). -/
  | vsar (d : BitVec 6) (a : BitVec 6) (b : BitVec 6) (s : BitVec 2) (w : BitVec 1) (i : BitVec 1)
  /-- VCMP (R157). -/
  | vcmp (a : BitVec 6) (b : BitVec 6) (s : BitVec 2) (w : BitVec 1) (c : BitVec 3)
  /-- VMAND (R157). -/
  | vmand (a : BitVec 6) (s : BitVec 2) (w : BitVec 1)
  /-- VSEL (R158). -/
  | vsel (d : BitVec 6) (a : BitVec 6) (b : BitVec 6) (s : BitVec 2) (w : BitVec 1)
  /-- VANY (R159). -/
  | vany (s : BitVec 2) (w : BitVec 1)
  /-- VALL (R159). -/
  | vall (s : BitVec 2) (w : BitVec 1)
  /-- VCVT_FLT (R160). -/
  | vcvtFlt (d : BitVec 6) (a : BitVec 6) (r : BitVec 6) (s : BitVec 2) (w : BitVec 1) (t : BitVec 2)
  /-- VCVT_INT (R160). -/
  | vcvtInt (d : BitVec 6) (a : BitVec 6) (r : BitVec 6) (s : BitVec 2) (w : BitVec 1) (t : BitVec 2)
  /-- VDQ (R162). -/
  | vdq (d : BitVec 6) (a : BitVec 6) (b : BitVec 6) (s : BitVec 2) (w : BitVec 1)
  /-- VAMAX (R163). -/
  | vamax (d : BitVec 6) (a : BitVec 6) (s : BitVec 2) (w : BitVec 1) (c : BitVec 1)
  /-- VSCL (R164). -/
  | vscl (d : BitVec 6) (a : BitVec 6) (b : BitVec 6) (s : BitVec 2) (w : BitVec 1) (n : BitVec 1)
  /-- VRSUM (R165). -/
  | vrsum (d : BitVec 6) (a : BitVec 6) (s : BitVec 2) (w : BitVec 1) (r : BitVec 1)
  /-- VRMAX (R165). -/
  | vrmax (d : BitVec 6) (a : BitVec 6) (s : BitVec 2) (w : BitVec 1) (r : BitVec 1)
  /-- VRMIN (R165). -/
  | vrmin (d : BitVec 6) (a : BitVec 6) (s : BitVec 2) (w : BitVec 1) (r : BitVec 1)
  /-- VMOV (R166). -/
  | vmov (d : BitVec 6) (a : BitVec 6) (s : BitVec 2) (w : BitVec 1)
  /-- VBCAST (R166). -/
  | vbcast (d : BitVec 6) (a : BitVec 6) (s : BitVec 2) (w : BitVec 1) (m : BitVec 3)
  /-- VIOTA (R166). -/
  | viota (d : BitVec 6) (s : BitVec 2) (w : BitVec 1) (m : BitVec 3)
  /-- VLD (R167). -/
  | vld (d : BitVec 6) (a : BitVec 6) (b : BitVec 6) (s : BitVec 2) (w : BitVec 1)
  /-- VST (R167). -/
  | vst (d : BitVec 6) (a : BitVec 6) (b : BitVec 6) (s : BitVec 2) (w : BitVec 1)
  /-- VLDX (R168). -/
  | vldx (d : BitVec 6) (a : BitVec 6) (b : BitVec 6) (s : BitVec 2) (w : BitVec 1)
  /-- VSTX (R168). -/
  | vstx (d : BitVec 6) (a : BitVec 6) (b : BitVec 6) (s : BitVec 2) (w : BitVec 1)
  /-- VTRN (R169). -/
  | vtrn (d : BitVec 6) (a : BitVec 6) (s : BitVec 2) (w : BitVec 1)
  /-- VPERM (R169). -/
  | vperm (d : BitVec 6) (a : BitVec 6) (b : BitVec 6) (s : BitVec 2) (w : BitVec 1)
  /-- VRNG (R170). -/
  | vrng (d : BitVec 6) (a : BitVec 6) (b : BitVec 6) (s : BitVec 2) (w : BitVec 1)
  /-- VSTAT_QE (R171). -/
  | vstatQe (d : BitVec 6) (a : BitVec 6) (b : BitVec 6) (s : BitVec 2) (w : BitVec 1)
  /-- VSTAT_GN (R171). -/
  | vstatGn (d : BitVec 6) (a : BitVec 6) (s : BitVec 2) (w : BitVec 1)
  /-- VSTAT_GNSUM (R171). -/
  | vstatGnsum (d : BitVec 6) (a : BitVec 6) (s : BitVec 2) (w : BitVec 1)
  /-- VSTAT_OV (R171). -/
  | vstatOv (d : BitVec 6) (a : BitVec 6) (s : BitVec 2) (w : BitVec 1)
  /-- KWAIT_V (R172). -/
  | kwaitV (d : BitVec 6) (n : BitVec 12)
  /-- KSIG_V (R172). -/
  | ksigV (d : BitVec 6) (n : BitVec 12)
  /-- MLDB (R190). -/
  | mldb (p : BitVec 2) (w : BitVec 1) (c : BitVec 1) (t : BitVec 12)
  /-- MMA (R191). -/
  | mma (a : BitVec 3) (p : BitVec 2) (w : BitVec 1) (t : BitVec 12)
  /-- MMA_T (R192). -/
  | mmaT (a : BitVec 3) (p : BitVec 2) (w : BitVec 1) (t : BitVec 12)
  /-- MZERO (R193). -/
  | mzero (a : BitVec 3) (p : BitVec 2) (w : BitVec 1) (t : BitVec 12)
  /-- MINIT (R193). -/
  | minit (a : BitVec 3) (p : BitVec 2) (w : BitVec 1) (b : BitVec 1) (t : BitVec 12)
  /-- MDRAIN (R195). -/
  | mdrain (a : BitVec 3) (p : BitVec 2) (w : BitVec 1) (l : BitVec 1) (r : BitVec 1) (t : BitVec 12) (x : BitVec 1) (m : BitVec 2)
  /-- MDRAINV (R196). -/
  | mdrainv (a : BitVec 3) (p : BitVec 2) (w : BitVec 1) (v : BitVec 3) (t : BitVec 12) (u : BitVec 3)
  /-- MZP (R194). -/
  | mzp (a : BitVec 3) (p : BitVec 2) (w : BitVec 1) (t : BitVec 12)
  /-- MPRI (R197). -/
  | mpri (p : BitVec 12)
  /-- KWAIT_M (R198). -/
  | kwaitM (k : BitVec 3) (n : BitVec 12) (j : BitVec 1)
  /-- KSIG_M (R198). -/
  | ksigM (k : BitVec 3) (n : BitVec 12) (j : BitVec 1)
  /-- SLOAD (R211). -/
  | sload (g : BitVec 6) (s : BitVec 2) (w : BitVec 1) (c : BitVec 3)
  /-- SSTORE (R211). -/
  | sstore (g : BitVec 6) (s : BitVec 2) (w : BitVec 1)
  /-- SPAIR (R214). -/
  | spair (g : BitVec 6) (h : BitVec 6) (s : BitVec 2) (w : BitVec 1)
  /-- SGATH (R212). -/
  | sgath (g : BitVec 6) (h : BitVec 6) (s : BitVec 2) (w : BitVec 1) (c : BitVec 3) (k : BitVec 1)
  /-- SSCAT (R212). -/
  | sscat (g : BitVec 6) (h : BitVec 6) (s : BitVec 2) (w : BitVec 1) (k : BitVec 1)
  /-- SWIN (R213). -/
  | swin (g : BitVec 6) (h : BitVec 6) (s : BitVec 2) (w : BitVec 1) (c : BitVec 3) (y : BitVec 2) (x : BitVec 2)
  /-- SMCAST (R215). -/
  | smcast (g : BitVec 6) (h : BitVec 6) (s : BitVec 2) (w : BitVec 1) (b : BitVec 1) (k : BitVec 4)
  /-- SPUT (R216). -/
  | sput (g : BitVec 6) (h : BitVec 6) (s : BitVec 2) (w : BitVec 1) (k : BitVec 4)
  /-- SCUR_OPEN (R217). -/
  | scurOpen (g : BitVec 6) (h : BitVec 6) (c : BitVec 3)
  /-- SCUR_CLOSE (R217). -/
  | scurClose (c : BitVec 3)
  /-- SCUR_REPORT (R217). -/
  | scurReport (g : BitVec 6) (c : BitVec 3)
  /-- KWAIT_A (R218). -/
  | kwaitA (k : BitVec 6) (n : BitVec 6) (m : BitVec 6)
  /-- KSIG_A (R218). -/
  | ksigA (k : BitVec 6) (n : BitVec 6) (m : BitVec 6)
  /-- CQPUSH (R305). -/
  | cqpush (g : BitVec 6) (c : BitVec 4)
  /-- WCOPY (R226). -/
  | wcopy (g : BitVec 6) (s : BitVec 2) (w : BitVec 1) (x : BitVec 3)
  /-- WLAYOUT (R234). -/
  | wlayout (g : BitVec 6) (h : BitVec 6) (s : BitVec 2) (w : BitVec 1) (x : BitVec 3)
  /-- WOFF (R227). -/
  | woff (g : BitVec 6) (w : BitVec 3)
  /-- WRET (R227). -/
  | wret (g : BitVec 6) (w : BitVec 3)
  /-- WENC (R228). -/
  | wenc (g : BitVec 6) (w : BitVec 3)
  /-- WCSUM (R229). -/
  | wcsum (g : BitVec 6) (h : BitVec 6) (w : BitVec 3)
  /-- WDEC (R230). -/
  | wdec (g : BitVec 6) (h : BitVec 6) (w : BitVec 3)
  /-- WNVME (R231). -/
  | wnvme (g : BitVec 6) (h : BitVec 6) (w : BitVec 3)
  /-- WFILL (R226). -/
  | wfill (g : BitVec 6) (h : BitVec 6) (w : BitVec 3)
  /-- LOOP_BODY_END (R106). -/
  | loopBodyEnd (e : Engine)
  /-- LAGGING_OUTCOME_TAKE (R99). -/
  | laggingOutcomeTake (e : Engine)
  /-- BAND_HANDOVER (R186), at the core of State.cur. -/
  | bandHandover (band : Nat)
  /-- TOKEN_WAIT_PERFORM (R129), at the slot of State.cur. -/
  | tokenWaitPerform (e : Engine)
  /-- TOKEN_SIGNAL (R131), at the slot of State.cur. -/
  | tokenSignal (e : Engine)
  /-- STREAM_BURST_START (R206), at the core of State.cur. -/
  | streamBurstStart (store : Bool)
  /-- STREAM_BURST_COMPLETE (R204), at the slot of State.cur. -/
  | streamBurstComplete (store : Bool) (k : Nat)
  /-- STREAM_BURST_FAULT (R205), at the slot of State.cur. -/
  | streamBurstFault (store : Bool)
  /-- WALK_DONE (R274). -/
  | walkDone (agent : Agent) (k : Nat)
  /-- GLOBAL_LOAD_RESPONSE (R124), at the slot of State.cur. -/
  | globalLoadResponse (k : Nat)
  /-- GLOBAL_STORE_ACK (R125), at the die of State.cur. -/
  | globalStoreAck (k : Nat)
  /-- SCRATCHPAD_ZEROING_DONE (R61), at the core of State.cur. -/
  | scratchpadZeroingDone (bank : Nat)
  /-- BSTORE_ZEROING_DONE (R176), at the core of State.cur. -/
  | bstoreZeroingDone (band : Nat)
  /-- EMPTY_NODE_TAKEN (R317), at the graph of State.cur. -/
  | emptyNodeTaken (n : Nat)
  /-- KERNEL_NODE_DISPATCH (R317), at the graph of State.cur. -/
  | kernelNodeDispatch (n : Nat)
  /-- KERNEL_VALIDATION (R92), at the graph of State.cur. -/
  | kernelValidation (n : Nat)
  /-- COPY_NODE_PUSH (R318), at the graph of State.cur. -/
  | copyNodePush (n : Nat)
  /-- COLLECTIVE_NODE_PUSH (R318), at the graph of State.cur. -/
  | collectiveNodePush (n : Nat)
  /-- CONTROL_NODE_EVALUATE (R320), at the graph of State.cur. -/
  | controlNodeEvaluate (n : Nat)
  /-- CHILD_GRAPH_END (R317), at the graph of State.cur. -/
  | childGraphEnd (n : Nat)
  /-- TILE_DISPATCH (R322), at the graph of State.cur. -/
  | tileDispatch (n : Nat) (die : Nat)
  /-- TILE_STEAL (R323), at the graph of State.cur. -/
  | tileSteal (n : Nat) (die : Nat)
  /-- TIMED_NODE_DUE (R317), at the graph of State.cur. -/
  | timedNodeDue (n : Nat)
  /-- QUEUE_DOORBELL (R293), at the queue of State.cur. -/
  | queueDoorbell (n : Nat)
  /-- FRES_RESUME (R413). -/
  | fresResume (seq : BitVec 16)
  /-- FRES_ABORT (R413). -/
  | fresAbort (seq : BitVec 16)
  /-- TRAP_RING_CONTROL_WRITE (R410). -/
  | trapRingControlWrite (event : Bool) (v : BitVec 64)
  /-- TRACE_TRIGGER (R419), at the core of State.cur. -/
  | traceTrigger (side : Nat)
  /-- TETHER_WAIT_SATISFIED (R390), at the stream of State.cur. -/
  | tetherWaitSatisfied (lane : Bool)
  /-- PEER_CHECK_ARRIVAL (R389), at a port: whether the packet is encrypted and whether it verifies, its header, and its payload. -/
  | peerCheckArrival (port : Nat) (auth : Bool × Bool) (body : BitVec 128 × List Byte)
  /-- TETHER_COMMAND_COMPLETE (R391), at the stream of State.cur. -/
  | tetherCommandComplete (lane : Bool)
  /-- TETHER_FAULT (R404), at the stream of State.cur. -/
  | tetherFault (lane : Bool)
  /-- PACKET_DATA (R375). -/
  | packetData (p : Arrival)
  /-- PACKET_RELEASE (R375). -/
  | packetRelease (p : Arrival)
  /-- FENCE_REQUEST_PACKET (R374). -/
  | fenceRequestPacket (p : Arrival)
  /-- FENCE_CONFIRM_PACKET (R355). -/
  | fenceConfirmPacket (p : Arrival)
  /-- BARRIER_DONE_REPORT (R340). -/
  | barrierDoneReport (p : Arrival)
  /-- BARRIER_BREAK_REPORT (R335). -/
  | barrierBreakReport (p : Arrival)
  /-- PACKET_RETRY_EXPIRY (R376). -/
  | packetRetryExpiry (k : Nat)
  /-- HOST_REQUEST (R369). -/
  | hostRequest (r : HostReq)
  /-- LINK_TRAINING_DONE (R364), at the link of State.cur. -/
  | linkTrainingDone (lanes : Nat)
  /-- LINK_DISABLE_WRITE (R364), at the link of State.cur. -/
  | linkDisableWrite (v : Bool)
  /-- PTP_SYNC (R381), at the port of State.cur. -/
  | ptpSync (time : BitVec 64)
  /-- WTIME_WRITE (R381). -/
  | wtimeWrite (v : BitVec 64)
  /-- KEEL_IMAGE_CHECK (R425). -/
  | keelImageCheck (image : FlashImage)
  /-- CD0_TRAINED (R426). -/
  | cd0Trained (ok : Bool)
  /-- ALL_DIES_TRAINED (R426). -/
  | allDiesTrained (ok : BitVec 5)
  /-- DRVFEAT_WRITE (R429). -/
  | drvfeatWrite (v : BitVec 128)
  /-- THROTTLE (R434). -/
  | throttle (on : Bool)
  /-- TEMPERATURE_SAMPLE (R423). -/
  | temperatureSample (degrees : Int)
  /-- READ_CLEAR (R6). -/
  | readClear (off : Nat)
  /-- REGISTER_WRITE (R6). -/
  | registerWrite (off : Nat) (v : BitVec 64)
  /-- NOT_AN_INSTRUCTION (R81). -/
  | notAnInstruction (w : Word)
  /-- SOFT_ERROR_CORRECTION (R423). -/
  | softErrorCorrection (counter : Nat)
  /-- PEER_DELAY_EXCHANGE (R376), at the port of State.cur. -/
  | peerDelayExchange (delay : BitVec 32)
  /-- NOP (R96). -/
  | nop
  /-- RGNEND (R109). -/
  | rgnend
  /-- END (R110). -/
  | endActivation
  /-- VMPOP (R156). -/
  | vmpop
  /-- VMINV (R156). -/
  | vminv
  /-- BARRIER_WAKE (R344), at the slot of State.cur. -/
  | barrierWake
  /-- WAITC_COMPLETE (R345), at the slot of State.cur. -/
  | waitcComplete
  /-- V_RESULTS_WRITTEN (R145), at the slot of State.cur. -/
  | vResultsWritten
  /-- M_WORD_START (R183), at the slot of State.cur. -/
  | mWordStart
  /-- M_WORD_COMPLETE (R184), at the slot of State.cur. -/
  | mWordComplete
  /-- REGION_SLACK_EXPIRY (R188), at the slot of State.cur. -/
  | regionSlackExpiry
  /-- WINCH_COMMAND_START (R220), at the winch of State.cur. -/
  | winchCommandStart
  /-- WINCH_COMMAND_COMPLETE (R223), at the winch of State.cur. -/
  | winchCommandComplete
  /-- WINCH_FAULT (R224), at the winch of State.cur. -/
  | winchFault
  /-- NVME_COMPLETION_OBSERVED (R231), at the winch of State.cur. -/
  | nvmeCompletionObserved
  /-- REENCODE_TAKE (R269), at the winch of State.cur. -/
  | reencodeTake
  /-- REENCODE_WRITTEN (R271), at the winch of State.cur. -/
  | reencodeWritten
  /-- OUTBOUND_DONE (R271), at the winch of State.cur. -/
  | outboundDone
  /-- INBOUND_DONE (R271), at the winch of State.cur. -/
  | inboundDone
  /-- MAILBOX_ACCEPT (R134), at the slot of State.cur. -/
  | mailboxAccept
  /-- WQPOP_WAKE (R303), at the queue of State.cur. -/
  | wqpopWake
  /-- PROBE_ACCEPT (R282), at the slot of State.cur. -/
  | probeAccept
  /-- QUEUE_RECORD_NOP (R296), at the queue of State.cur. -/
  | queueRecordNop
  /-- QUEUE_RECORD_LAUNCH (R297), at the queue of State.cur. -/
  | queueRecordLaunch
  /-- QUEUE_RECORD_ICODE (R298), at the queue of State.cur. -/
  | queueRecordIcode
  /-- GRAPH_COMPLETION_WRITE (R297), at the graph of State.cur. -/
  | graphCompletionWrite
  /-- ACTIVATION_END (R110), at the slot of State.cur. -/
  | activationEnd
  /-- BAND_EXTRA_GRANT (R329), at the slot of State.cur. -/
  | bandExtraGrant
  /-- BAND_WITHDRAW (R175), at the slot of State.cur. -/
  | bandWithdraw
  /-- FRAME_BOUNDARY (R310). -/
  | frameBoundary
  /-- WATCHDOG (R311), at the queue of State.cur. -/
  | watchdog
  /-- BARRIER_TIMEOUT (R335), at the barrier of State.cur. -/
  | barrierTimeout
  /-- CONTEXT_LOAD_START (R357). -/
  | contextLoadStart
  /-- CONTEXT_LOAD_DONE (R350), at the context of State.cur. -/
  | contextLoadDone
  /-- CONTEXT_SAVE_START (R350), at the context of State.cur. -/
  | contextSaveStart
  /-- CONTEXT_SAVE_DONE (R350), at the context of State.cur. -/
  | contextSaveDone
  /-- QUEUE_BIND (R293), at the queue of State.cur. -/
  | queueBind
  /-- QUEUE_RESUME (R293), at the queue of State.cur. -/
  | queueResume
  /-- QUEUE_UNBIND (R293), at the queue of State.cur. -/
  | queueUnbind
  /-- BARRIER_BIND (R335), at the barrier of State.cur. -/
  | barrierBind
  /-- BARRIER_RESET (R335), at the barrier of State.cur. -/
  | barrierReset
  /-- BARRIER_UNBIND (R335), at the barrier of State.cur. -/
  | barrierUnbind
  /-- BARRIER_BREAK (R335), at the barrier of State.cur. -/
  | barrierBreakCmd
  /-- CONTEXT_CREATE (R350), at the context of State.cur. -/
  | contextCreate
  /-- CONTEXT_DESTROY (R350), at the context of State.cur. -/
  | contextDestroy
  /-- KILL (R352), at the context of State.cur. -/
  | kill
  /-- INCARNATION_INSTALLED (R353), at the context of State.cur. -/
  | incarnationInstalled
  /-- RCLF_COMMAND (R355), at the context of State.cur. -/
  | rclfCommand
  /-- RCLF_COMPLETE (R355), at the context of State.cur. -/
  | rclfComplete
  /-- FAULT_TABLE_RECORD_WRITE (R411). -/
  | faultTableRecordWrite
  /-- TRACEFREEZE (R419), at the core of State.cur. -/
  | tracefreeze
  /-- TRACE_DUMP (R419), at the core of State.cur. -/
  | traceDump
  /-- TRACE_REARM (R419), at the core of State.cur. -/
  | traceRearm
  /-- TETHER_COMMAND_START (R388), at the stream of State.cur. -/
  | tetherCommandStart
  /-- TRIGGER_FIRE (R406), at the stream of State.cur. -/
  | triggerFire
  /-- LINK_TRAINING_FAILED (R364), at the link of State.cur. -/
  | linkTrainingFailed
  /-- LINK_CORRECTABLE_ERROR (R364), at the link of State.cur. -/
  | linkCorrectableError
  /-- LINK_UNCORRECTABLE_ERROR (R364), at the link of State.cur. -/
  | linkUncorrectableError
  /-- LINK_RETRAIN (R364), at the link of State.cur. -/
  | linkRetrain
  /-- PTP_SYNC_LOSS (R381). -/
  | ptpSyncLoss
  /-- PACKAGE_RESET_RELEASE (R426). -/
  | packageResetRelease
  /-- SWITCHING_DONE (R426). -/
  | switchingDone
  /-- DCMD_FULL (R426). -/
  | dcmdFull
  /-- DCMD_RECOVER (R426). -/
  | dcmdRecover
  /-- ATTESTATION_REQUEST (R432). -/
  | attestationRequest
  /-- JUNCTION_OVERTEMP_RESET (R434). -/
  | junctionOvertempReset
  /-- LIFETIME_COUNTER_SAVE (R423). -/
  | lifetimeCounterSave
  /-- CORE_RAIL_DROOP (R423). -/
  | coreRailDroop
  /-- WINCH_BURST_COMPLETE (R227), at the winch of State.cur. -/
  | winchBurstComplete
  /-- PACKAGE_RESET (R9). -/
  | packageReset
  /-- POWER_LOSS (R423). -/
  | powerLoss
  /-- ORDERLY_SHUTDOWN (R423). -/
  | orderlyShutdown
  deriving DecidableEq, Repr, Inhabited

end Sys2Proof
end

