-- ==== Sys2Proof/Decode.lean ====
section
/-!
DEFINITION. Sys2Proof/Decode.lean: the decoder of instruction words, written from the formats and the opcode map of 03 (R53-R58,
R75-R80), and after it the encoder. The decoder rejects unassigned opcodes and non-zero reserved fields; the limits on the values of
the fields are in Sys2Proof/WellFormed.lean.
-/

namespace Sys2Proof

open Sys2Proof.Machine (field)

/-- The field of a word whose low bit is `lo`, `n` bits wide (R3). -/
def fld (n lo : Nat) (w : Nat) : BitVec n := BitVec.ofNat n (w / 2 ^ lo)

/-- The bits [hi:lo] of the word must hold `v`: a function code, or the zero of a reserved field (R7, R80). -/
def fixed (w hi lo v : Nat) (i : Option Instr) : Option Instr := if field w hi lo = v then i else none

/-- The instructions that share the first byte 0x08 (R75-R79). -/
def decodeMajor08 (w : Nat) : Option Instr :=
  (fixed w 23 21 0x0 <| fixed w 17 12 0x0 (some (.lonlyFirst (fld 3 18 w) (fld 12 0 w))))
  <|> (fixed w 23 21 0x1 <| fixed w 17 12 0x0 (some (.lonlyLast (fld 3 18 w) (fld 12 0 w))))
  <|> (fixed w 23 21 0x2 (some (.lonlyStage (fld 3 18 w) (fld 6 12 w) (fld 12 0 w))))

/-- The instructions that share the first byte 0x10 (R75-R79). -/
def decodeMajor10 (w : Nat) : Option Instr :=
  (fixed w 5 0 0x0 (some (.add (fld 6 18 w) (fld 6 12 w) (fld 6 6 w))))
  <|> (fixed w 5 0 0x1 (some (.sub (fld 6 18 w) (fld 6 12 w) (fld 6 6 w))))
  <|> (fixed w 5 0 0x2 (some (.and (fld 6 18 w) (fld 6 12 w) (fld 6 6 w))))
  <|> (fixed w 5 0 0x3 (some (.or (fld 6 18 w) (fld 6 12 w) (fld 6 6 w))))
  <|> (fixed w 5 0 0x4 (some (.xor (fld 6 18 w) (fld 6 12 w) (fld 6 6 w))))
  <|> (fixed w 5 0 0x5 (some (.shl (fld 6 18 w) (fld 6 12 w) (fld 6 6 w))))
  <|> (fixed w 5 0 0x6 (some (.shr (fld 6 18 w) (fld 6 12 w) (fld 6 6 w))))
  <|> (fixed w 5 0 0x7 (some (.sar (fld 6 18 w) (fld 6 12 w) (fld 6 6 w))))
  <|> (fixed w 5 0 0x8 (some (.mul (fld 6 18 w) (fld 6 12 w) (fld 6 6 w))))
  <|> (fixed w 5 0 0x9 (some (.mulh (fld 6 18 w) (fld 6 12 w) (fld 6 6 w))))
  <|> (fixed w 5 0 0xA (some (.mulhn (fld 6 18 w) (fld 6 12 w) (fld 6 6 w))))
  <|> (fixed w 5 0 0xB (some (.div (fld 6 18 w) (fld 6 12 w) (fld 6 6 w))))
  <|> (fixed w 5 0 0xC (some (.divn (fld 6 18 w) (fld 6 12 w) (fld 6 6 w))))
  <|> (fixed w 5 0 0xD (some (.rem (fld 6 18 w) (fld 6 12 w) (fld 6 6 w))))
  <|> (fixed w 5 0 0xE (some (.remn (fld 6 18 w) (fld 6 12 w) (fld 6 6 w))))
  <|> (fixed w 5 0 0xF (some (.min (fld 6 18 w) (fld 6 12 w) (fld 6 6 w))))
  <|> (fixed w 5 0 0x10 (some (.max (fld 6 18 w) (fld 6 12 w) (fld 6 6 w))))
  <|> (fixed w 5 0 0x11 (some (.minn (fld 6 18 w) (fld 6 12 w) (fld 6 6 w))))
  <|> (fixed w 5 0 0x12 (some (.maxn (fld 6 18 w) (fld 6 12 w) (fld 6 6 w))))
  <|> (fixed w 11 0 0x13 (some (.clz (fld 6 18 w) (fld 6 12 w))))
  <|> (fixed w 11 0 0x14 (some (.ctz (fld 6 18 w) (fld 6 12 w))))
  <|> (fixed w 11 0 0x15 (some (.popc (fld 6 18 w) (fld 6 12 w))))
  <|> (fixed w 5 0 0x16 (some (.selFunc16 (fld 6 18 w) (fld 6 12 w) (fld 6 6 w))))
  <|> (fixed w 5 2 0x6 (some (.addx (fld 6 18 w) (fld 6 12 w) (fld 6 6 w) (fld 2 0 w))))
  <|> (fixed w 5 3 0x4 (some (.sel (fld 6 18 w) (fld 6 12 w) (fld 6 6 w) (fld 3 0 w))))

/-- The instructions that share the first byte 0x28 (R75-R79). -/
def decodeMajor28 (w : Nat) : Option Instr :=
  (fixed w 17 0 0x0 (some (.stamp (fld 6 18 w))))
  <|> (fixed w 17 0 0x1 (some (.wall (fld 6 18 w))))
  <|> (fixed w 23 21 0x0 <| fixed w 17 0 0x2 (some (.vget (fld 3 18 w))))

/-- The instructions that share the first byte 0x29 (R75-R79). -/
def decodeMajor29 (w : Nat) : Option Instr :=
  (fixed w 5 0 0x0 (some (.msend (fld 6 18 w) (fld 6 12 w) (fld 6 6 w))))
  <|> (fixed w 17 0 0x1 (some (.mrecv (fld 6 18 w))))

/-- The instructions that share the first byte 0x2A (R75-R79). -/
def decodeMajor2A (w : Nat) : Option Instr :=
  (fixed w 23 22 0x0 <| fixed w 17 14 0x1 (some (.fenceRel (fld 4 18 w) (fld 2 12 w) (fld 12 0 w))))
  <|> (fixed w 23 22 0x0 <| fixed w 17 14 0x2 (some (.fenceAcq (fld 4 18 w) (fld 2 12 w) (fld 12 0 w))))
  <|> (fixed w 23 22 0x0 <| fixed w 17 14 0x3 (some (.fenceAr (fld 4 18 w) (fld 2 12 w) (fld 12 0 w))))

/-- The instructions that share the first byte 0x2C (R75-R79). -/
def decodeMajor2C (w : Nat) : Option Instr :=
  (fixed w 23 18 0x0 (some (.trap (fld 18 0 w))))
  <|> (fixed w 23 18 0x1 (some (.trapWarn (fld 18 0 w))))

/-- The instructions that share the first byte 0x2D (R75-R79). -/
def decodeMajor2D (w : Nat) : Option Instr :=
  (fixed w 5 0 0x0 (some (.tlbinv (fld 6 18 w) (fld 6 12 w) (fld 6 6 w))))
  <|> (fixed w 11 0 0x1 (some (.pgqry (fld 6 18 w) (fld 6 12 w))))
  <|> (fixed w 23 18 0x0 <| fixed w 5 0 0x2 (some (.pghintTrans (fld 6 12 w) (fld 6 6 w))))
  <|> (fixed w 23 18 0x1 <| fixed w 5 0 0x2 (some (.pghintEnc (fld 6 12 w) (fld 6 6 w))))

/-- The instructions that share the first byte 0x2E (R75-R79). -/
def decodeMajor2E (w : Nat) : Option Instr :=
  (fixed w 5 0 0x0 (some (.govrd (fld 6 18 w) (fld 6 12 w) (fld 6 6 w))))
  <|> (fixed w 5 0 0x1 (some (.govwr (fld 6 18 w) (fld 6 12 w) (fld 6 6 w))))
  <|> (fixed w 11 0 0x2 (some (.govstep (fld 6 18 w) (fld 6 12 w))))
  <|> (fixed w 23 18 0x0 <| fixed w 5 0 0x3 (some (.govpin (fld 6 12 w) (fld 6 6 w))))

/-- The instructions that share the first byte 0x2F (R75-R79). -/
def decodeMajor2F (w : Nat) : Option Instr :=
  (fixed w 23 18 0x0 <| fixed w 5 0 0x0 (some (.wqpush (fld 6 12 w) (fld 6 6 w))))
  <|> (fixed w 17 12 0x0 <| fixed w 5 0 0x1 (some (.wqpop (fld 6 18 w) (fld 6 6 w))))
  <|> (fixed w 17 12 0x0 <| fixed w 5 0 0x2 (some (.wqroom (fld 6 18 w) (fld 6 6 w))))
  <|> (fixed w 17 0 0x3 (some (.cqpop (fld 6 18 w))))

/-- The instructions that share the first byte 0x30 (R75-R79). -/
def decodeMajor30 (w : Nat) : Option Instr :=
  (fixed w 17 12 0x0 <| fixed w 5 0 0x0 (some (.grpid (fld 6 18 w) (fld 6 6 w))))
  <|> (fixed w 17 12 0x0 <| fixed w 5 0 0x1 (some (.bandq (fld 6 18 w) (fld 6 6 w))))
  <|> (fixed w 5 0 0x2 (some (.phase (fld 6 18 w) (fld 6 12 w) (fld 6 6 w))))

/-- The instructions that share the first byte 0x31 (R75-R79). -/
def decodeMajor31 (w : Nat) : Option Instr :=
  (fixed w 17 12 0x0 <| fixed w 5 0 0x0 (some (.barr (fld 6 18 w) (fld 6 6 w))))
  <|> (fixed w 5 0 0x1 (some (.barw (fld 6 18 w) (fld 6 12 w) (fld 6 6 w))))
  <|> (fixed w 17 12 0x0 <| fixed w 5 0 0x2 (some (.bars (fld 6 18 w) (fld 6 6 w))))
  <|> (fixed w 23 22 0x0 <| fixed w 5 0 0x3 (some (.waitc (fld 4 18 w) (fld 6 12 w) (fld 6 6 w))))

/-- The instructions that share the first byte 0x32 (R75-R79). -/
def decodeMajor32 (w : Nat) : Option Instr :=
  (fixed w 11 0 0x0 (some (.rclf (fld 6 18 w) (fld 6 12 w))))
  <|> (fixed w 5 0 0x1 (some (.incqry (fld 6 18 w) (fld 6 12 w) (fld 6 6 w))))
  <|> (fixed w 17 0 0x2 (some (.yield (fld 6 18 w))))

/-- The instructions that share the first byte 0x33 (R75-R79). -/
def decodeMajor33 (w : Nat) : Option Instr :=
  (fixed w 23 18 0x0 <| fixed w 11 0 0x0 (some (.brk (fld 6 12 w))))
  <|> (fixed w 23 18 0x0 <| fixed w 11 0 0x1 (some (.trcmark (fld 6 12 w))))

/-- The instructions that share the first byte 0x59 (R75-R79). -/
def decodeMajor59 (w : Nat) : Option Instr :=
  (fixed w 11 6 0x0 <| fixed w 2 0 0x0 (some (.vabs (fld 6 18 w) (fld 6 12 w) (fld 2 4 w) (fld 1 3 w))))
  <|> (fixed w 11 6 0x1 <| fixed w 2 0 0x0 (some (.vneg (fld 6 18 w) (fld 6 12 w) (fld 2 4 w) (fld 1 3 w))))
  <|> (fixed w 11 6 0x2 <| fixed w 2 0 0x0 (some (.vrcp (fld 6 18 w) (fld 6 12 w) (fld 2 4 w) (fld 1 3 w))))
  <|> (fixed w 11 6 0x3 <| fixed w 2 0 0x0 (some (.vrsq (fld 6 18 w) (fld 6 12 w) (fld 2 4 w) (fld 1 3 w))))
  <|> (fixed w 11 6 0x4 <| fixed w 2 0 0x0 (some (.vsqrt (fld 6 18 w) (fld 6 12 w) (fld 2 4 w) (fld 1 3 w))))
  <|> (fixed w 11 6 0x5 <| fixed w 2 0 0x0 (some (.vexp2 (fld 6 18 w) (fld 6 12 w) (fld 2 4 w) (fld 1 3 w))))
  <|> (fixed w 11 6 0x6 <| fixed w 2 0 0x0 (some (.vlog2 (fld 6 18 w) (fld 6 12 w) (fld 2 4 w) (fld 1 3 w))))
  <|> (fixed w 11 6 0x7 <| fixed w 2 0 0x0 (some (.vtanh (fld 6 18 w) (fld 6 12 w) (fld 2 4 w) (fld 1 3 w))))
  <|> (fixed w 11 6 0x8 <| fixed w 2 0 0x0 (some (.vsigm (fld 6 18 w) (fld 6 12 w) (fld 2 4 w) (fld 1 3 w))))

/-- The instructions that share the first byte 0x7C (R75-R79). -/
def decodeMajor7C (w : Nat) : Option Instr :=
  (fixed w 2 0 0x0 (some (.vstatQe (fld 6 18 w) (fld 6 12 w) (fld 6 6 w) (fld 2 4 w) (fld 1 3 w))))
  <|> (fixed w 11 6 0x0 <| fixed w 2 0 0x1 (some (.vstatGn (fld 6 18 w) (fld 6 12 w) (fld 2 4 w) (fld 1 3 w))))
  <|> (fixed w 11 6 0x0 <| fixed w 2 0 0x2 (some (.vstatGnsum (fld 6 18 w) (fld 6 12 w) (fld 2 4 w) (fld 1 3 w))))
  <|> (fixed w 11 6 0x0 <| fixed w 2 0 0x3 (some (.vstatOv (fld 6 18 w) (fld 6 12 w) (fld 2 4 w) (fld 1 3 w))))

/-- The instructions that share the first byte 0xC8 (R75-R79). -/
def decodeMajorC8 (w : Nat) : Option Instr :=
  (fixed w 11 9 0x0 <| fixed w 5 0 0x0 (some (.scurOpen (fld 6 18 w) (fld 6 12 w) (fld 3 6 w))))
  <|> (fixed w 23 9 0x0 <| fixed w 5 0 0x1 (some (.scurClose (fld 3 6 w))))
  <|> (fixed w 17 9 0x0 <| fixed w 5 0 0x2 (some (.scurReport (fld 6 18 w) (fld 3 6 w))))

/-- The words whose tag names the sequencer, by their major opcode (R75-R79). -/
def decodeTagS (major w : Nat) : Option Instr :=
  match major with
  | 0x00 => fixed w 23 0 0x0 (some .nop)
  | 0x01 => fixed w 20 18 0x0 (some (.bprep (fld 3 21 w) (fld 18 0 w)))
  | 0x02 => some (.bprepg (fld 6 18 w) (fld 6 12 w) (fld 12 0 w))
  | 0x03 => fixed w 17 0 0x0 (some (.blink (fld 3 21 w) (fld 3 18 w)))
  | 0x04 => fixed w 17 0 0x0 (some (.bgo (fld 1 24 w) (fld 3 21 w) (fld 3 18 w)))
  | 0x05 => fixed w 17 0 0x0 (some (.bgo (fld 1 24 w) (fld 3 21 w) (fld 3 18 w)))
  | 0x06 => some (.lset (fld 3 21 w) (fld 3 18 w) (fld 6 12 w) (fld 12 0 w))
  | 0x07 => some (.lstep (fld 6 18 w) (fld 6 12 w) (fld 12 0 w))
  | 0x08 => decodeMajor08 w
  | 0x09 => fixed w 23 12 0x0 (some (.rotset (fld 12 0 w)))
  | 0x0A => fixed w 23 19 0x0 (some (.rgn (fld 1 18 w) (fld 6 12 w) (fld 12 0 w)))
  | 0x0B => fixed w 23 0 0x0 (some .rgnend)
  | 0x0C => fixed w 23 0 0x0 (some .endActivation)
  | 0x0D => fixed w 23 18 0x0 <| fixed w 11 0 0x0 (some (.halt (fld 6 12 w)))
  | 0x0E => some (.icinv (fld 6 18 w) (fld 6 12 w) (fld 12 0 w))
  | 0x10 => decodeMajor10 w
  | 0x11 => fixed w 5 0 0x0 (some (.cmp (fld 3 21 w) (fld 3 18 w) (fld 6 12 w) (fld 6 6 w)))
  | 0x12 => some (.cmpi (fld 3 21 w) (fld 3 18 w) (fld 6 12 w) (fld 12 0 w))
  | 0x13 => some (.addi (fld 6 18 w) (fld 6 12 w) (fld 12 0 w))
  | 0x14 => some (.andi (fld 6 18 w) (fld 6 12 w) (fld 12 0 w))
  | 0x15 => some (.ori (fld 6 18 w) (fld 6 12 w) (fld 12 0 w))
  | 0x16 => some (.xori (fld 6 18 w) (fld 6 12 w) (fld 12 0 w))
  | 0x17 => some (.shli (fld 6 18 w) (fld 6 12 w) (fld 12 0 w))
  | 0x18 => some (.shri (fld 6 18 w) (fld 6 12 w) (fld 12 0 w))
  | 0x19 => some (.sari (fld 6 18 w) (fld 6 12 w) (fld 12 0 w))
  | 0x1A => some (.muli (fld 6 18 w) (fld 6 12 w) (fld 12 0 w))
  | 0x1B => some (.lui (fld 6 18 w) (fld 18 0 w))
  | 0x1C => some (.lds (fld 6 18 w) (fld 6 12 w) (fld 3 9 w) (fld 9 0 w))
  | 0x1D => some (.sts (fld 6 18 w) (fld 6 12 w) (fld 3 9 w) (fld 9 0 w))
  | 0x1E => fixed w 11 10 0x0 <| fixed w 5 3 0x0 (some (.gld (fld 6 18 w) (fld 6 12 w) (fld 4 6 w) (fld 3 0 w)))
  | 0x1F => fixed w 11 10 0x0 <| fixed w 5 3 0x0 (some (.gst (fld 6 18 w) (fld 6 12 w) (fld 4 6 w) (fld 3 0 w)))
  | 0x20 => fixed w 11 10 0x0 <| fixed w 5 5 0x0 (some (.gatom (fld 6 18 w) (fld 6 12 w) (fld 4 6 w) (fld 1 4 w) (fld 4 0 w)))
  | 0x21 => fixed w 17 12 0x0 (some (.mfc (fld 6 18 w) (fld 12 0 w)))
  | 0x22 => fixed w 23 18 0x0 (some (.mtc (fld 6 12 w) (fld 12 0 w)))
  | 0x23 => fixed w 15 14 0x0 <| fixed w 11 5 0x0 (some (.shpw (fld 6 18 w) (fld 2 16 w) (fld 2 12 w) (fld 5 0 w)))
  | 0x24 => fixed w 15 14 0x0 <| fixed w 11 6 0x0 (some (.shpr (fld 6 18 w) (fld 2 16 w) (fld 2 12 w) (fld 1 5 w) (fld 5 0 w)))
  | 0x25 => fixed w 17 12 0x0 (some (.kwaitS (fld 6 18 w) (fld 12 0 w)))
  | 0x26 => fixed w 17 12 0x0 (some (.ksigS (fld 6 18 w) (fld 12 0 w)))
  | 0x27 => fixed w 11 0 0x0 (some (.kcfg (fld 6 18 w) (fld 6 12 w)))
  | 0x28 => decodeMajor28 w
  | 0x29 => decodeMajor29 w
  | 0x2A => decodeMajor2A w
  | 0x2B => fixed w 23 3 0x0 (some (.fenceE (fld 3 0 w)))
  | 0x2C => decodeMajor2C w
  | 0x2D => decodeMajor2D w
  | 0x2E => decodeMajor2E w
  | 0x2F => decodeMajor2F w
  | 0x30 => decodeMajor30 w
  | 0x31 => decodeMajor31 w
  | 0x32 => decodeMajor32 w
  | 0x33 => decodeMajor33 w
  | _ => none

/-- The words whose tag names the vector engine, by their major opcode (R75-R79). -/
def decodeTagV (major w : Nat) : Option Instr :=
  match major with
  | 0x00 => some (.vfma (fld 2 24 w) (fld 6 18 w) (fld 6 12 w) (fld 6 6 w) (fld 6 0 w))
  | 0x01 => some (.vfma (fld 2 24 w) (fld 6 18 w) (fld 6 12 w) (fld 6 6 w) (fld 6 0 w))
  | 0x02 => some (.vfma (fld 2 24 w) (fld 6 18 w) (fld 6 12 w) (fld 6 6 w) (fld 6 0 w))
  | 0x03 => some (.vfma (fld 2 24 w) (fld 6 18 w) (fld 6 12 w) (fld 6 6 w) (fld 6 0 w))
  | 0x04 => some (.vfms (fld 2 24 w) (fld 6 18 w) (fld 6 12 w) (fld 6 6 w) (fld 6 0 w))
  | 0x05 => some (.vfms (fld 2 24 w) (fld 6 18 w) (fld 6 12 w) (fld 6 6 w) (fld 6 0 w))
  | 0x06 => some (.vfms (fld 2 24 w) (fld 6 18 w) (fld 6 12 w) (fld 6 6 w) (fld 6 0 w))
  | 0x07 => some (.vfms (fld 2 24 w) (fld 6 18 w) (fld 6 12 w) (fld 6 6 w) (fld 6 0 w))
  | 0x08 => some (.vfnma (fld 2 24 w) (fld 6 18 w) (fld 6 12 w) (fld 6 6 w) (fld 6 0 w))
  | 0x09 => some (.vfnma (fld 2 24 w) (fld 6 18 w) (fld 6 12 w) (fld 6 6 w) (fld 6 0 w))
  | 0x0A => some (.vfnma (fld 2 24 w) (fld 6 18 w) (fld 6 12 w) (fld 6 6 w) (fld 6 0 w))
  | 0x0B => some (.vfnma (fld 2 24 w) (fld 6 18 w) (fld 6 12 w) (fld 6 6 w) (fld 6 0 w))
  | 0x0C => some (.vimad (fld 2 24 w) (fld 6 18 w) (fld 6 12 w) (fld 6 6 w) (fld 6 0 w))
  | 0x0D => some (.vimad (fld 2 24 w) (fld 6 18 w) (fld 6 12 w) (fld 6 6 w) (fld 6 0 w))
  | 0x0E => some (.vimad (fld 2 24 w) (fld 6 18 w) (fld 6 12 w) (fld 6 6 w) (fld 6 0 w))
  | 0x0F => some (.vimad (fld 2 24 w) (fld 6 18 w) (fld 6 12 w) (fld 6 6 w) (fld 6 0 w))
  | 0x10 => some (.vqnt (fld 2 24 w) (fld 6 18 w) (fld 6 12 w) (fld 6 6 w) (fld 6 0 w))
  | 0x11 => some (.vqnt (fld 2 24 w) (fld 6 18 w) (fld 6 12 w) (fld 6 6 w) (fld 6 0 w))
  | 0x12 => some (.vqnt (fld 2 24 w) (fld 6 18 w) (fld 6 12 w) (fld 6 6 w) (fld 6 0 w))
  | 0x13 => some (.vqnt (fld 2 24 w) (fld 6 18 w) (fld 6 12 w) (fld 6 6 w) (fld 6 0 w))
  | 0x14 => fixed w 2 0 0x0 (some (.vadd (fld 6 18 w) (fld 6 12 w) (fld 6 6 w) (fld 2 4 w) (fld 1 3 w)))
  | 0x15 => fixed w 2 0 0x0 (some (.vsub (fld 6 18 w) (fld 6 12 w) (fld 6 6 w) (fld 2 4 w) (fld 1 3 w)))
  | 0x16 => fixed w 2 0 0x0 (some (.vmul (fld 6 18 w) (fld 6 12 w) (fld 6 6 w) (fld 2 4 w) (fld 1 3 w)))
  | 0x17 => fixed w 2 0 0x0 (some (.vmin (fld 6 18 w) (fld 6 12 w) (fld 6 6 w) (fld 2 4 w) (fld 1 3 w)))
  | 0x18 => fixed w 2 0 0x0 (some (.vmax (fld 6 18 w) (fld 6 12 w) (fld 6 6 w) (fld 2 4 w) (fld 1 3 w)))
  | 0x19 => decodeMajor59 w
  | 0x1A => fixed w 2 1 0x0 (some (.viadd (fld 6 18 w) (fld 6 12 w) (fld 6 6 w) (fld 2 4 w) (fld 1 3 w) (fld 1 0 w)))
  | 0x1B => fixed w 2 1 0x0 (some (.visub (fld 6 18 w) (fld 6 12 w) (fld 6 6 w) (fld 2 4 w) (fld 1 3 w) (fld 1 0 w)))
  | 0x1C => fixed w 2 1 0x0 (some (.vimul (fld 6 18 w) (fld 6 12 w) (fld 6 6 w) (fld 2 4 w) (fld 1 3 w) (fld 1 0 w)))
  | 0x1D => fixed w 2 0 0x0 (some (.vand (fld 6 18 w) (fld 6 12 w) (fld 6 6 w) (fld 2 4 w) (fld 1 3 w)))
  | 0x1E => fixed w 2 0 0x0 (some (.vor (fld 6 18 w) (fld 6 12 w) (fld 6 6 w) (fld 2 4 w) (fld 1 3 w)))
  | 0x1F => fixed w 2 0 0x0 (some (.vxor (fld 6 18 w) (fld 6 12 w) (fld 6 6 w) (fld 2 4 w) (fld 1 3 w)))
  | 0x20 => fixed w 2 1 0x0 (some (.vshl (fld 6 18 w) (fld 6 12 w) (fld 6 6 w) (fld 2 4 w) (fld 1 3 w) (fld 1 0 w)))
  | 0x21 => fixed w 2 1 0x0 (some (.vshr (fld 6 18 w) (fld 6 12 w) (fld 6 6 w) (fld 2 4 w) (fld 1 3 w) (fld 1 0 w)))
  | 0x22 => fixed w 2 1 0x0 (some (.vsar (fld 6 18 w) (fld 6 12 w) (fld 6 6 w) (fld 2 4 w) (fld 1 3 w) (fld 1 0 w)))
  | 0x23 => fixed w 23 18 0x0 (some (.vcmp (fld 6 12 w) (fld 6 6 w) (fld 2 4 w) (fld 1 3 w) (fld 3 0 w)))
  | 0x24 => fixed w 23 0 0x0 (some .vmpop)
  | 0x25 => fixed w 23 0 0x0 (some .vminv)
  | 0x26 => fixed w 23 18 0x0 <| fixed w 11 6 0x0 <| fixed w 2 0 0x0 (some (.vmand (fld 6 12 w) (fld 2 4 w) (fld 1 3 w)))
  | 0x27 => fixed w 2 0 0x0 (some (.vsel (fld 6 18 w) (fld 6 12 w) (fld 6 6 w) (fld 2 4 w) (fld 1 3 w)))
  | 0x28 => fixed w 23 6 0x0 <| fixed w 2 0 0x0 (some (.vany (fld 2 4 w) (fld 1 3 w)))
  | 0x29 => fixed w 23 6 0x0 <| fixed w 2 0 0x0 (some (.vall (fld 2 4 w) (fld 1 3 w)))
  | 0x2A => fixed w 2 2 0x0 (some (.vcvtFlt (fld 6 18 w) (fld 6 12 w) (fld 6 6 w) (fld 2 4 w) (fld 1 3 w) (fld 2 0 w)))
  | 0x2B => fixed w 2 2 0x0 (some (.vcvtInt (fld 6 18 w) (fld 6 12 w) (fld 6 6 w) (fld 2 4 w) (fld 1 3 w) (fld 2 0 w)))
  | 0x2C => fixed w 2 0 0x0 (some (.vdq (fld 6 18 w) (fld 6 12 w) (fld 6 6 w) (fld 2 4 w) (fld 1 3 w)))
  | 0x2D => fixed w 11 6 0x0 <| fixed w 2 1 0x0 (some (.vamax (fld 6 18 w) (fld 6 12 w) (fld 2 4 w) (fld 1 3 w) (fld 1 0 w)))
  | 0x2E => fixed w 2 1 0x0 (some (.vscl (fld 6 18 w) (fld 6 12 w) (fld 6 6 w) (fld 2 4 w) (fld 1 3 w) (fld 1 0 w)))
  | 0x2F => fixed w 11 6 0x0 <| fixed w 2 1 0x0 (some (.vrsum (fld 6 18 w) (fld 6 12 w) (fld 2 4 w) (fld 1 3 w) (fld 1 0 w)))
  | 0x30 => fixed w 11 6 0x0 <| fixed w 2 1 0x0 (some (.vrmax (fld 6 18 w) (fld 6 12 w) (fld 2 4 w) (fld 1 3 w) (fld 1 0 w)))
  | 0x31 => fixed w 11 6 0x0 <| fixed w 2 1 0x0 (some (.vrmin (fld 6 18 w) (fld 6 12 w) (fld 2 4 w) (fld 1 3 w) (fld 1 0 w)))
  | 0x32 => fixed w 11 6 0x0 <| fixed w 2 0 0x0 (some (.vmov (fld 6 18 w) (fld 6 12 w) (fld 2 4 w) (fld 1 3 w)))
  | 0x33 => fixed w 11 6 0x0 (some (.vbcast (fld 6 18 w) (fld 6 12 w) (fld 2 4 w) (fld 1 3 w) (fld 3 0 w)))
  | 0x34 => fixed w 17 6 0x0 (some (.viota (fld 6 18 w) (fld 2 4 w) (fld 1 3 w) (fld 3 0 w)))
  | 0x35 => fixed w 2 0 0x0 (some (.vld (fld 6 18 w) (fld 6 12 w) (fld 6 6 w) (fld 2 4 w) (fld 1 3 w)))
  | 0x36 => fixed w 2 0 0x0 (some (.vst (fld 6 18 w) (fld 6 12 w) (fld 6 6 w) (fld 2 4 w) (fld 1 3 w)))
  | 0x37 => fixed w 2 0 0x0 (some (.vldx (fld 6 18 w) (fld 6 12 w) (fld 6 6 w) (fld 2 4 w) (fld 1 3 w)))
  | 0x38 => fixed w 2 0 0x0 (some (.vstx (fld 6 18 w) (fld 6 12 w) (fld 6 6 w) (fld 2 4 w) (fld 1 3 w)))
  | 0x39 => fixed w 11 6 0x0 <| fixed w 2 0 0x0 (some (.vtrn (fld 6 18 w) (fld 6 12 w) (fld 2 4 w) (fld 1 3 w)))
  | 0x3A => fixed w 2 0 0x0 (some (.vperm (fld 6 18 w) (fld 6 12 w) (fld 6 6 w) (fld 2 4 w) (fld 1 3 w)))
  | 0x3B => fixed w 2 0 0x0 (some (.vrng (fld 6 18 w) (fld 6 12 w) (fld 6 6 w) (fld 2 4 w) (fld 1 3 w)))
  | 0x3C => decodeMajor7C w
  | 0x3D => fixed w 5 0 0x0 (some (.kwaitV (fld 6 18 w) (fld 12 6 w)))
  | 0x3E => fixed w 5 0 0x0 (some (.ksigV (fld 6 18 w) (fld 12 6 w)))
  | _ => none

/-- The words whose tag names the matrix engine, by their major opcode (R75-R79). -/
def decodeTagM (major w : Nat) : Option Instr :=
  match major with
  | 0x00 => fixed w 23 21 0x0 <| fixed w 17 16 0x0 <| fixed w 2 0 0x0 (some (.mldb (fld 2 19 w) (fld 1 18 w) (fld 1 15 w) (fld 12 3 w)))
  | 0x01 => fixed w 17 15 0x0 <| fixed w 2 0 0x0 (some (.mma (fld 3 21 w) (fld 2 19 w) (fld 1 18 w) (fld 12 3 w)))
  | 0x02 => fixed w 17 15 0x0 <| fixed w 2 0 0x0 (some (.mmaT (fld 3 21 w) (fld 2 19 w) (fld 1 18 w) (fld 12 3 w)))
  | 0x03 => fixed w 17 15 0x0 <| fixed w 2 0 0x0 (some (.mzero (fld 3 21 w) (fld 2 19 w) (fld 1 18 w) (fld 12 3 w)))
  | 0x04 => fixed w 17 16 0x0 <| fixed w 2 0 0x0 (some (.minit (fld 3 21 w) (fld 2 19 w) (fld 1 18 w) (fld 1 15 w) (fld 12 3 w)))
  | 0x05 => fixed w 17 17 0x0 (some (.mdrain (fld 3 21 w) (fld 2 19 w) (fld 1 18 w) (fld 1 16 w) (fld 1 15 w) (fld 12 3 w) (fld 1 2 w) (fld 2 0 w)))
  | 0x06 => some (.mdrainv (fld 3 21 w) (fld 2 19 w) (fld 1 18 w) (fld 3 15 w) (fld 12 3 w) (fld 3 0 w))
  | 0x07 => fixed w 17 15 0x0 <| fixed w 2 0 0x0 (some (.mzp (fld 3 21 w) (fld 2 19 w) (fld 1 18 w) (fld 12 3 w)))
  | 0x08 => fixed w 23 15 0x0 <| fixed w 2 0 0x0 (some (.mpri (fld 12 3 w)))
  | 0x09 => fixed w 20 15 0x0 <| fixed w 2 1 0x0 (some (.kwaitM (fld 3 21 w) (fld 12 3 w) (fld 1 0 w)))
  | 0x0A => fixed w 20 15 0x0 <| fixed w 2 1 0x0 (some (.ksigM (fld 3 21 w) (fld 12 3 w) (fld 1 0 w)))
  | _ => none

/-- The words whose tag names the asynchronous slot, by their major opcode (R75-R79). -/
def decodeTagA (major w : Nat) : Option Instr :=
  match major with
  | 0x00 => fixed w 17 12 0x0 <| fixed w 5 0 0x0 (some (.sload (fld 6 18 w) (fld 2 10 w) (fld 1 9 w) (fld 3 6 w)))
  | 0x01 => fixed w 17 12 0x0 <| fixed w 8 0 0x0 (some (.sstore (fld 6 18 w) (fld 2 10 w) (fld 1 9 w)))
  | 0x02 => fixed w 8 0 0x0 (some (.spair (fld 6 18 w) (fld 6 12 w) (fld 2 10 w) (fld 1 9 w)))
  | 0x03 => fixed w 5 1 0x0 (some (.sgath (fld 6 18 w) (fld 6 12 w) (fld 2 10 w) (fld 1 9 w) (fld 3 6 w) (fld 1 0 w)))
  | 0x04 => fixed w 8 1 0x0 (some (.sscat (fld 6 18 w) (fld 6 12 w) (fld 2 10 w) (fld 1 9 w) (fld 1 0 w)))
  | 0x05 => fixed w 5 4 0x0 (some (.swin (fld 6 18 w) (fld 6 12 w) (fld 2 10 w) (fld 1 9 w) (fld 3 6 w) (fld 2 2 w) (fld 2 0 w)))
  | 0x06 => fixed w 8 5 0x0 (some (.smcast (fld 6 18 w) (fld 6 12 w) (fld 2 10 w) (fld 1 9 w) (fld 1 4 w) (fld 4 0 w)))
  | 0x07 => fixed w 8 4 0x0 (some (.sput (fld 6 18 w) (fld 6 12 w) (fld 2 10 w) (fld 1 9 w) (fld 4 0 w)))
  | 0x08 => decodeMajorC8 w
  | 0x09 => fixed w 11 6 0x0 (some (.kwaitA (fld 6 18 w) (fld 6 12 w) (fld 6 0 w)))
  | 0x0A => fixed w 11 6 0x0 (some (.ksigA (fld 6 18 w) (fld 6 12 w) (fld 6 0 w)))
  | 0x0B => fixed w 17 4 0x0 (some (.cqpush (fld 6 18 w) (fld 4 0 w)))
  | 0x10 => fixed w 17 12 0x0 <| fixed w 8 3 0x0 (some (.wcopy (fld 6 18 w) (fld 2 10 w) (fld 1 9 w) (fld 3 0 w)))
  | 0x11 => fixed w 8 3 0x0 (some (.wlayout (fld 6 18 w) (fld 6 12 w) (fld 2 10 w) (fld 1 9 w) (fld 3 0 w)))
  | 0x12 => fixed w 17 3 0x0 (some (.woff (fld 6 18 w) (fld 3 0 w)))
  | 0x13 => fixed w 17 3 0x0 (some (.wret (fld 6 18 w) (fld 3 0 w)))
  | 0x14 => fixed w 17 3 0x0 (some (.wenc (fld 6 18 w) (fld 3 0 w)))
  | 0x15 => fixed w 11 3 0x0 (some (.wcsum (fld 6 18 w) (fld 6 12 w) (fld 3 0 w)))
  | 0x16 => fixed w 11 3 0x0 (some (.wdec (fld 6 18 w) (fld 6 12 w) (fld 3 0 w)))
  | 0x17 => fixed w 11 3 0x0 (some (.wnvme (fld 6 18 w) (fld 6 12 w) (fld 3 0 w)))
  | 0x18 => fixed w 11 3 0x0 (some (.wfill (fld 6 18 w) (fld 6 12 w) (fld 3 0 w)))
  | _ => none

/-- Decode a word by its tag and its major opcode (R53): `none` where it is not an instruction of the opcode map. -/
def decode (w : Word) : Option Instr :=
  match field w.toNat 31 30 with
  | 0 => decodeTagS (field w.toNat 29 24) w.toNat
  | 1 => decodeTagV (field w.toNat 29 24) w.toNat
  | 2 => decodeTagM (field w.toNat 29 24) w.toNat
  | _ => decodeTagA (field w.toNat 29 24) w.toNat

/-- A field placed at bit `lo` of a word. -/
def place {n : Nat} (x : BitVec n) (lo : Nat) : Nat := x.toNat * 2 ^ lo

/-- The word of an instruction, from the formats of R56 and the opcode map; a package step has no word. -/
def encode : Instr → Option Word
  | .nop => some (BitVec.ofNat 32 (0x00000000))
  | .bprep t o => some (BitVec.ofNat 32 (0x01000000 + place t 21 + place o 0))
  | .bprepg d a i => some (BitVec.ofNat 32 (0x02000000 + place d 18 + place a 12 + place i 0))
  | .blink t l => some (BitVec.ofNat 32 (0x03000000 + place t 21 + place l 18))
  | .bgo p t f => some (BitVec.ofNat 32 (0x04000000 + place p 24 + place t 21 + place f 18))
  | .lset s l a i => some (BitVec.ofNat 32 (0x06000000 + place s 21 + place l 18 + place a 12 + place i 0))
  | .lstep d a i => some (BitVec.ofNat 32 (0x07000000 + place d 18 + place a 12 + place i 0))
  | .lonlyFirst l n => some (BitVec.ofNat 32 (0x08000000 + place l 18 + place n 0))
  | .lonlyLast l n => some (BitVec.ofNat 32 (0x08200000 + place l 18 + place n 0))
  | .lonlyStage l s n => some (BitVec.ofNat 32 (0x08400000 + place l 18 + place s 12 + place n 0))
  | .rotset i => some (BitVec.ofNat 32 (0x09000000 + place i 0))
  | .rgn s a i => some (BitVec.ofNat 32 (0x0A000000 + place s 18 + place a 12 + place i 0))
  | .rgnend => some (BitVec.ofNat 32 (0x0B000000))
  | .endActivation => some (BitVec.ofNat 32 (0x0C000000))
  | .halt a => some (BitVec.ofNat 32 (0x0D000000 + place a 12))
  | .icinv d a i => some (BitVec.ofNat 32 (0x0E000000 + place d 18 + place a 12 + place i 0))
  | .add d a b => some (BitVec.ofNat 32 (0x10000000 + place d 18 + place a 12 + place b 6))
  | .sub d a b => some (BitVec.ofNat 32 (0x10000001 + place d 18 + place a 12 + place b 6))
  | .and d a b => some (BitVec.ofNat 32 (0x10000002 + place d 18 + place a 12 + place b 6))
  | .or d a b => some (BitVec.ofNat 32 (0x10000003 + place d 18 + place a 12 + place b 6))
  | .xor d a b => some (BitVec.ofNat 32 (0x10000004 + place d 18 + place a 12 + place b 6))
  | .shl d a b => some (BitVec.ofNat 32 (0x10000005 + place d 18 + place a 12 + place b 6))
  | .shr d a b => some (BitVec.ofNat 32 (0x10000006 + place d 18 + place a 12 + place b 6))
  | .sar d a b => some (BitVec.ofNat 32 (0x10000007 + place d 18 + place a 12 + place b 6))
  | .mul d a b => some (BitVec.ofNat 32 (0x10000008 + place d 18 + place a 12 + place b 6))
  | .mulh d a b => some (BitVec.ofNat 32 (0x10000009 + place d 18 + place a 12 + place b 6))
  | .mulhn d a b => some (BitVec.ofNat 32 (0x1000000A + place d 18 + place a 12 + place b 6))
  | .div d a b => some (BitVec.ofNat 32 (0x1000000B + place d 18 + place a 12 + place b 6))
  | .divn d a b => some (BitVec.ofNat 32 (0x1000000C + place d 18 + place a 12 + place b 6))
  | .rem d a b => some (BitVec.ofNat 32 (0x1000000D + place d 18 + place a 12 + place b 6))
  | .remn d a b => some (BitVec.ofNat 32 (0x1000000E + place d 18 + place a 12 + place b 6))
  | .min d a b => some (BitVec.ofNat 32 (0x1000000F + place d 18 + place a 12 + place b 6))
  | .max d a b => some (BitVec.ofNat 32 (0x10000010 + place d 18 + place a 12 + place b 6))
  | .minn d a b => some (BitVec.ofNat 32 (0x10000011 + place d 18 + place a 12 + place b 6))
  | .maxn d a b => some (BitVec.ofNat 32 (0x10000012 + place d 18 + place a 12 + place b 6))
  | .clz d a => some (BitVec.ofNat 32 (0x10000013 + place d 18 + place a 12))
  | .ctz d a => some (BitVec.ofNat 32 (0x10000014 + place d 18 + place a 12))
  | .popc d a => some (BitVec.ofNat 32 (0x10000015 + place d 18 + place a 12))
  | .selFunc16 d a b => some (BitVec.ofNat 32 (0x10000016 + place d 18 + place a 12 + place b 6))
  | .addx d a b s => some (BitVec.ofNat 32 (0x10000018 + place d 18 + place a 12 + place b 6 + place s 0))
  | .sel d a b f => some (BitVec.ofNat 32 (0x10000020 + place d 18 + place a 12 + place b 6 + place f 0))
  | .cmp c f a b => some (BitVec.ofNat 32 (0x11000000 + place c 21 + place f 18 + place a 12 + place b 6))
  | .cmpi c f a i => some (BitVec.ofNat 32 (0x12000000 + place c 21 + place f 18 + place a 12 + place i 0))
  | .addi d a i => some (BitVec.ofNat 32 (0x13000000 + place d 18 + place a 12 + place i 0))
  | .andi d a i => some (BitVec.ofNat 32 (0x14000000 + place d 18 + place a 12 + place i 0))
  | .ori d a i => some (BitVec.ofNat 32 (0x15000000 + place d 18 + place a 12 + place i 0))
  | .xori d a i => some (BitVec.ofNat 32 (0x16000000 + place d 18 + place a 12 + place i 0))
  | .shli d a i => some (BitVec.ofNat 32 (0x17000000 + place d 18 + place a 12 + place i 0))
  | .shri d a i => some (BitVec.ofNat 32 (0x18000000 + place d 18 + place a 12 + place i 0))
  | .sari d a i => some (BitVec.ofNat 32 (0x19000000 + place d 18 + place a 12 + place i 0))
  | .muli d a i => some (BitVec.ofNat 32 (0x1A000000 + place d 18 + place a 12 + place i 0))
  | .lui d i => some (BitVec.ofNat 32 (0x1B000000 + place d 18 + place i 0))
  | .lds d a k o => some (BitVec.ofNat 32 (0x1C000000 + place d 18 + place a 12 + place k 9 + place o 0))
  | .sts d a k o => some (BitVec.ofNat 32 (0x1D000000 + place d 18 + place a 12 + place k 9 + place o 0))
  | .gld d a c k => some (BitVec.ofNat 32 (0x1E000000 + place d 18 + place a 12 + place c 6 + place k 0))
  | .gst d a c k => some (BitVec.ofNat 32 (0x1F000000 + place d 18 + place a 12 + place c 6 + place k 0))
  | .gatom d a c s o => some (BitVec.ofNat 32 (0x20000000 + place d 18 + place a 12 + place c 6 + place s 4 + place o 0))
  | .mfc d i => some (BitVec.ofNat 32 (0x21000000 + place d 18 + place i 0))
  | .mtc a i => some (BitVec.ofNat 32 (0x22000000 + place a 12 + place i 0))
  | .shpw d k r f => some (BitVec.ofNat 32 (0x23000000 + place d 18 + place k 16 + place r 12 + place f 0))
  | .shpr d k r c f => some (BitVec.ofNat 32 (0x24000000 + place d 18 + place k 16 + place r 12 + place c 5 + place f 0))
  | .kwaitS d i => some (BitVec.ofNat 32 (0x25000000 + place d 18 + place i 0))
  | .ksigS d i => some (BitVec.ofNat 32 (0x26000000 + place d 18 + place i 0))
  | .kcfg d a => some (BitVec.ofNat 32 (0x27000000 + place d 18 + place a 12))
  | .stamp d => some (BitVec.ofNat 32 (0x28000000 + place d 18))
  | .wall d => some (BitVec.ofNat 32 (0x28000001 + place d 18))
  | .vget f => some (BitVec.ofNat 32 (0x28000002 + place f 18))
  | .msend d a b => some (BitVec.ofNat 32 (0x29000000 + place d 18 + place a 12 + place b 6))
  | .mrecv d => some (BitVec.ofNat 32 (0x29000001 + place d 18))
  | .fenceRel m s n => some (BitVec.ofNat 32 (0x2A004000 + place m 18 + place s 12 + place n 0))
  | .fenceAcq m s n => some (BitVec.ofNat 32 (0x2A008000 + place m 18 + place s 12 + place n 0))
  | .fenceAr m s n => some (BitVec.ofNat 32 (0x2A00C000 + place m 18 + place s 12 + place n 0))
  | .fenceE e => some (BitVec.ofNat 32 (0x2B000000 + place e 0))
  | .trap i => some (BitVec.ofNat 32 (0x2C000000 + place i 0))
  | .trapWarn i => some (BitVec.ofNat 32 (0x2C040000 + place i 0))
  | .tlbinv d a b => some (BitVec.ofNat 32 (0x2D000000 + place d 18 + place a 12 + place b 6))
  | .pgqry d a => some (BitVec.ofNat 32 (0x2D000001 + place d 18 + place a 12))
  | .pghintTrans a b => some (BitVec.ofNat 32 (0x2D000002 + place a 12 + place b 6))
  | .pghintEnc a b => some (BitVec.ofNat 32 (0x2D040002 + place a 12 + place b 6))
  | .govrd d a f => some (BitVec.ofNat 32 (0x2E000000 + place d 18 + place a 12 + place f 6))
  | .govwr f a b => some (BitVec.ofNat 32 (0x2E000001 + place f 18 + place a 12 + place b 6))
  | .govstep d a => some (BitVec.ofNat 32 (0x2E000002 + place d 18 + place a 12))
  | .govpin a b => some (BitVec.ofNat 32 (0x2E000003 + place a 12 + place b 6))
  | .wqpush a b => some (BitVec.ofNat 32 (0x2F000000 + place a 12 + place b 6))
  | .wqpop d b => some (BitVec.ofNat 32 (0x2F000001 + place d 18 + place b 6))
  | .wqroom d b => some (BitVec.ofNat 32 (0x2F000002 + place d 18 + place b 6))
  | .cqpop d => some (BitVec.ofNat 32 (0x2F000003 + place d 18))
  | .grpid d b => some (BitVec.ofNat 32 (0x30000000 + place d 18 + place b 6))
  | .bandq d b => some (BitVec.ofNat 32 (0x30000001 + place d 18 + place b 6))
  | .phase d a b => some (BitVec.ofNat 32 (0x30000002 + place d 18 + place a 12 + place b 6))
  | .barr d b => some (BitVec.ofNat 32 (0x31000000 + place d 18 + place b 6))
  | .barw d a b => some (BitVec.ofNat 32 (0x31000001 + place d 18 + place a 12 + place b 6))
  | .bars d b => some (BitVec.ofNat 32 (0x31000002 + place d 18 + place b 6))
  | .waitc c a b => some (BitVec.ofNat 32 (0x31000003 + place c 18 + place a 12 + place b 6))
  | .rclf d a => some (BitVec.ofNat 32 (0x32000000 + place d 18 + place a 12))
  | .incqry d a b => some (BitVec.ofNat 32 (0x32000001 + place d 18 + place a 12 + place b 6))
  | .yield d => some (BitVec.ofNat 32 (0x32000002 + place d 18))
  | .brk a => some (BitVec.ofNat 32 (0x33000000 + place a 12))
  | .trcmark a => some (BitVec.ofNat 32 (0x33000001 + place a 12))
  | .vfma p d a b c => some (BitVec.ofNat 32 (0x40000000 + place p 24 + place d 18 + place a 12 + place b 6 + place c 0))
  | .vfms p d a b c => some (BitVec.ofNat 32 (0x44000000 + place p 24 + place d 18 + place a 12 + place b 6 + place c 0))
  | .vfnma p d a b c => some (BitVec.ofNat 32 (0x48000000 + place p 24 + place d 18 + place a 12 + place b 6 + place c 0))
  | .vimad p d a b c => some (BitVec.ofNat 32 (0x4C000000 + place p 24 + place d 18 + place a 12 + place b 6 + place c 0))
  | .vqnt p d a b c => some (BitVec.ofNat 32 (0x50000000 + place p 24 + place d 18 + place a 12 + place b 6 + place c 0))
  | .vadd d a b s w => some (BitVec.ofNat 32 (0x54000000 + place d 18 + place a 12 + place b 6 + place s 4 + place w 3))
  | .vsub d a b s w => some (BitVec.ofNat 32 (0x55000000 + place d 18 + place a 12 + place b 6 + place s 4 + place w 3))
  | .vmul d a b s w => some (BitVec.ofNat 32 (0x56000000 + place d 18 + place a 12 + place b 6 + place s 4 + place w 3))
  | .vmin d a b s w => some (BitVec.ofNat 32 (0x57000000 + place d 18 + place a 12 + place b 6 + place s 4 + place w 3))
  | .vmax d a b s w => some (BitVec.ofNat 32 (0x58000000 + place d 18 + place a 12 + place b 6 + place s 4 + place w 3))
  | .vabs d a s w => some (BitVec.ofNat 32 (0x59000000 + place d 18 + place a 12 + place s 4 + place w 3))
  | .vneg d a s w => some (BitVec.ofNat 32 (0x59000040 + place d 18 + place a 12 + place s 4 + place w 3))
  | .vrcp d a s w => some (BitVec.ofNat 32 (0x59000080 + place d 18 + place a 12 + place s 4 + place w 3))
  | .vrsq d a s w => some (BitVec.ofNat 32 (0x590000C0 + place d 18 + place a 12 + place s 4 + place w 3))
  | .vsqrt d a s w => some (BitVec.ofNat 32 (0x59000100 + place d 18 + place a 12 + place s 4 + place w 3))
  | .vexp2 d a s w => some (BitVec.ofNat 32 (0x59000140 + place d 18 + place a 12 + place s 4 + place w 3))
  | .vlog2 d a s w => some (BitVec.ofNat 32 (0x59000180 + place d 18 + place a 12 + place s 4 + place w 3))
  | .vtanh d a s w => some (BitVec.ofNat 32 (0x590001C0 + place d 18 + place a 12 + place s 4 + place w 3))
  | .vsigm d a s w => some (BitVec.ofNat 32 (0x59000200 + place d 18 + place a 12 + place s 4 + place w 3))
  | .viadd d a b s w t => some (BitVec.ofNat 32 (0x5A000000 + place d 18 + place a 12 + place b 6 + place s 4 + place w 3 + place t 0))
  | .visub d a b s w t => some (BitVec.ofNat 32 (0x5B000000 + place d 18 + place a 12 + place b 6 + place s 4 + place w 3 + place t 0))
  | .vimul d a b s w t => some (BitVec.ofNat 32 (0x5C000000 + place d 18 + place a 12 + place b 6 + place s 4 + place w 3 + place t 0))
  | .vand d a b s w => some (BitVec.ofNat 32 (0x5D000000 + place d 18 + place a 12 + place b 6 + place s 4 + place w 3))
  | .vor d a b s w => some (BitVec.ofNat 32 (0x5E000000 + place d 18 + place a 12 + place b 6 + place s 4 + place w 3))
  | .vxor d a b s w => some (BitVec.ofNat 32 (0x5F000000 + place d 18 + place a 12 + place b 6 + place s 4 + place w 3))
  | .vshl d a b s w i => some (BitVec.ofNat 32 (0x60000000 + place d 18 + place a 12 + place b 6 + place s 4 + place w 3 + place i 0))
  | .vshr d a b s w i => some (BitVec.ofNat 32 (0x61000000 + place d 18 + place a 12 + place b 6 + place s 4 + place w 3 + place i 0))
  | .vsar d a b s w i => some (BitVec.ofNat 32 (0x62000000 + place d 18 + place a 12 + place b 6 + place s 4 + place w 3 + place i 0))
  | .vcmp a b s w c => some (BitVec.ofNat 32 (0x63000000 + place a 12 + place b 6 + place s 4 + place w 3 + place c 0))
  | .vmpop => some (BitVec.ofNat 32 (0x64000000))
  | .vminv => some (BitVec.ofNat 32 (0x65000000))
  | .vmand a s w => some (BitVec.ofNat 32 (0x66000000 + place a 12 + place s 4 + place w 3))
  | .vsel d a b s w => some (BitVec.ofNat 32 (0x67000000 + place d 18 + place a 12 + place b 6 + place s 4 + place w 3))
  | .vany s w => some (BitVec.ofNat 32 (0x68000000 + place s 4 + place w 3))
  | .vall s w => some (BitVec.ofNat 32 (0x69000000 + place s 4 + place w 3))
  | .vcvtFlt d a r s w t => some (BitVec.ofNat 32 (0x6A000000 + place d 18 + place a 12 + place r 6 + place s 4 + place w 3 + place t 0))
  | .vcvtInt d a r s w t => some (BitVec.ofNat 32 (0x6B000000 + place d 18 + place a 12 + place r 6 + place s 4 + place w 3 + place t 0))
  | .vdq d a b s w => some (BitVec.ofNat 32 (0x6C000000 + place d 18 + place a 12 + place b 6 + place s 4 + place w 3))
  | .vamax d a s w c => some (BitVec.ofNat 32 (0x6D000000 + place d 18 + place a 12 + place s 4 + place w 3 + place c 0))
  | .vscl d a b s w n => some (BitVec.ofNat 32 (0x6E000000 + place d 18 + place a 12 + place b 6 + place s 4 + place w 3 + place n 0))
  | .vrsum d a s w r => some (BitVec.ofNat 32 (0x6F000000 + place d 18 + place a 12 + place s 4 + place w 3 + place r 0))
  | .vrmax d a s w r => some (BitVec.ofNat 32 (0x70000000 + place d 18 + place a 12 + place s 4 + place w 3 + place r 0))
  | .vrmin d a s w r => some (BitVec.ofNat 32 (0x71000000 + place d 18 + place a 12 + place s 4 + place w 3 + place r 0))
  | .vmov d a s w => some (BitVec.ofNat 32 (0x72000000 + place d 18 + place a 12 + place s 4 + place w 3))
  | .vbcast d a s w m => some (BitVec.ofNat 32 (0x73000000 + place d 18 + place a 12 + place s 4 + place w 3 + place m 0))
  | .viota d s w m => some (BitVec.ofNat 32 (0x74000000 + place d 18 + place s 4 + place w 3 + place m 0))
  | .vld d a b s w => some (BitVec.ofNat 32 (0x75000000 + place d 18 + place a 12 + place b 6 + place s 4 + place w 3))
  | .vst d a b s w => some (BitVec.ofNat 32 (0x76000000 + place d 18 + place a 12 + place b 6 + place s 4 + place w 3))
  | .vldx d a b s w => some (BitVec.ofNat 32 (0x77000000 + place d 18 + place a 12 + place b 6 + place s 4 + place w 3))
  | .vstx d a b s w => some (BitVec.ofNat 32 (0x78000000 + place d 18 + place a 12 + place b 6 + place s 4 + place w 3))
  | .vtrn d a s w => some (BitVec.ofNat 32 (0x79000000 + place d 18 + place a 12 + place s 4 + place w 3))
  | .vperm d a b s w => some (BitVec.ofNat 32 (0x7A000000 + place d 18 + place a 12 + place b 6 + place s 4 + place w 3))
  | .vrng d a b s w => some (BitVec.ofNat 32 (0x7B000000 + place d 18 + place a 12 + place b 6 + place s 4 + place w 3))
  | .vstatQe d a b s w => some (BitVec.ofNat 32 (0x7C000000 + place d 18 + place a 12 + place b 6 + place s 4 + place w 3))
  | .vstatGn d a s w => some (BitVec.ofNat 32 (0x7C000001 + place d 18 + place a 12 + place s 4 + place w 3))
  | .vstatGnsum d a s w => some (BitVec.ofNat 32 (0x7C000002 + place d 18 + place a 12 + place s 4 + place w 3))
  | .vstatOv d a s w => some (BitVec.ofNat 32 (0x7C000003 + place d 18 + place a 12 + place s 4 + place w 3))
  | .kwaitV d n => some (BitVec.ofNat 32 (0x7D000000 + place d 18 + place n 6))
  | .ksigV d n => some (BitVec.ofNat 32 (0x7E000000 + place d 18 + place n 6))
  | .mldb p w c t => some (BitVec.ofNat 32 (0x80000000 + place p 19 + place w 18 + place c 15 + place t 3))
  | .mma a p w t => some (BitVec.ofNat 32 (0x81000000 + place a 21 + place p 19 + place w 18 + place t 3))
  | .mmaT a p w t => some (BitVec.ofNat 32 (0x82000000 + place a 21 + place p 19 + place w 18 + place t 3))
  | .mzero a p w t => some (BitVec.ofNat 32 (0x83000000 + place a 21 + place p 19 + place w 18 + place t 3))
  | .minit a p w b t => some (BitVec.ofNat 32 (0x84000000 + place a 21 + place p 19 + place w 18 + place b 15 + place t 3))
  | .mdrain a p w l r t x m => some (BitVec.ofNat 32 (0x85000000 + place a 21 + place p 19 + place w 18 + place l 16 + place r 15 + place t 3 + place x 2 + place m 0))
  | .mdrainv a p w v t u => some (BitVec.ofNat 32 (0x86000000 + place a 21 + place p 19 + place w 18 + place v 15 + place t 3 + place u 0))
  | .mzp a p w t => some (BitVec.ofNat 32 (0x87000000 + place a 21 + place p 19 + place w 18 + place t 3))
  | .mpri p => some (BitVec.ofNat 32 (0x88000000 + place p 3))
  | .kwaitM k n j => some (BitVec.ofNat 32 (0x89000000 + place k 21 + place n 3 + place j 0))
  | .ksigM k n j => some (BitVec.ofNat 32 (0x8A000000 + place k 21 + place n 3 + place j 0))
  | .sload g s w c => some (BitVec.ofNat 32 (0xC0000000 + place g 18 + place s 10 + place w 9 + place c 6))
  | .sstore g s w => some (BitVec.ofNat 32 (0xC1000000 + place g 18 + place s 10 + place w 9))
  | .spair g h s w => some (BitVec.ofNat 32 (0xC2000000 + place g 18 + place h 12 + place s 10 + place w 9))
  | .sgath g h s w c k => some (BitVec.ofNat 32 (0xC3000000 + place g 18 + place h 12 + place s 10 + place w 9 + place c 6 + place k 0))
  | .sscat g h s w k => some (BitVec.ofNat 32 (0xC4000000 + place g 18 + place h 12 + place s 10 + place w 9 + place k 0))
  | .swin g h s w c y x => some (BitVec.ofNat 32 (0xC5000000 + place g 18 + place h 12 + place s 10 + place w 9 + place c 6 + place y 2 + place x 0))
  | .smcast g h s w b k => some (BitVec.ofNat 32 (0xC6000000 + place g 18 + place h 12 + place s 10 + place w 9 + place b 4 + place k 0))
  | .sput g h s w k => some (BitVec.ofNat 32 (0xC7000000 + place g 18 + place h 12 + place s 10 + place w 9 + place k 0))
  | .scurOpen g h c => some (BitVec.ofNat 32 (0xC8000000 + place g 18 + place h 12 + place c 6))
  | .scurClose c => some (BitVec.ofNat 32 (0xC8000001 + place c 6))
  | .scurReport g c => some (BitVec.ofNat 32 (0xC8000002 + place g 18 + place c 6))
  | .kwaitA k n m => some (BitVec.ofNat 32 (0xC9000000 + place k 18 + place n 12 + place m 0))
  | .ksigA k n m => some (BitVec.ofNat 32 (0xCA000000 + place k 18 + place n 12 + place m 0))
  | .cqpush g c => some (BitVec.ofNat 32 (0xCB000000 + place g 18 + place c 0))
  | .wcopy g s w x => some (BitVec.ofNat 32 (0xD0000000 + place g 18 + place s 10 + place w 9 + place x 0))
  | .wlayout g h s w x => some (BitVec.ofNat 32 (0xD1000000 + place g 18 + place h 12 + place s 10 + place w 9 + place x 0))
  | .woff g w => some (BitVec.ofNat 32 (0xD2000000 + place g 18 + place w 0))
  | .wret g w => some (BitVec.ofNat 32 (0xD3000000 + place g 18 + place w 0))
  | .wenc g w => some (BitVec.ofNat 32 (0xD4000000 + place g 18 + place w 0))
  | .wcsum g h w => some (BitVec.ofNat 32 (0xD5000000 + place g 18 + place h 12 + place w 0))
  | .wdec g h w => some (BitVec.ofNat 32 (0xD6000000 + place g 18 + place h 12 + place w 0))
  | .wnvme g h w => some (BitVec.ofNat 32 (0xD7000000 + place g 18 + place h 12 + place w 0))
  | .wfill g h w => some (BitVec.ofNat 32 (0xD8000000 + place g 18 + place h 12 + place w 0))
  | .loopBodyEnd _ => none
  | .laggingOutcomeTake _ => none
  | .bandHandover _ => none
  | .tokenWaitPerform _ => none
  | .tokenSignal _ => none
  | .streamBurstStart _ => none
  | .streamBurstComplete _ _ => none
  | .streamBurstFault _ => none
  | .walkDone _ _ => none
  | .globalLoadResponse _ => none
  | .globalStoreAck _ => none
  | .scratchpadZeroingDone _ => none
  | .bstoreZeroingDone _ => none
  | .emptyNodeTaken _ => none
  | .kernelNodeDispatch _ => none
  | .kernelValidation _ => none
  | .copyNodePush _ => none
  | .collectiveNodePush _ => none
  | .controlNodeEvaluate _ => none
  | .childGraphEnd _ => none
  | .tileDispatch _ _ => none
  | .tileSteal _ _ => none
  | .timedNodeDue _ => none
  | .queueDoorbell _ => none
  | .fresResume _ => none
  | .fresAbort _ => none
  | .trapRingControlWrite _ _ => none
  | .traceTrigger _ => none
  | .tetherWaitSatisfied _ => none
  | .peerCheckArrival _ _ _ => none
  | .tetherCommandComplete _ => none
  | .tetherFault _ => none
  | .packetData _ => none
  | .packetRelease _ => none
  | .fenceRequestPacket _ => none
  | .fenceConfirmPacket _ => none
  | .barrierDoneReport _ => none
  | .barrierBreakReport _ => none
  | .packetRetryExpiry _ => none
  | .hostRequest _ => none
  | .linkTrainingDone _ => none
  | .linkDisableWrite _ => none
  | .ptpSync _ => none
  | .wtimeWrite _ => none
  | .keelImageCheck _ => none
  | .cd0Trained _ => none
  | .allDiesTrained _ => none
  | .drvfeatWrite _ => none
  | .throttle _ => none
  | .temperatureSample _ => none
  | .readClear _ => none
  | .registerWrite _ _ => none
  | .notAnInstruction _ => none
  | .softErrorCorrection _ => none
  | .peerDelayExchange _ => none
  | .barrierWake => none
  | .waitcComplete => none
  | .vResultsWritten => none
  | .mWordStart => none
  | .mWordComplete => none
  | .regionSlackExpiry => none
  | .winchCommandStart => none
  | .winchCommandComplete => none
  | .winchFault => none
  | .nvmeCompletionObserved => none
  | .reencodeTake => none
  | .reencodeWritten => none
  | .outboundDone => none
  | .inboundDone => none
  | .mailboxAccept => none
  | .wqpopWake => none
  | .probeAccept => none
  | .queueRecordNop => none
  | .queueRecordLaunch => none
  | .queueRecordIcode => none
  | .graphCompletionWrite => none
  | .activationEnd => none
  | .bandExtraGrant => none
  | .bandWithdraw => none
  | .frameBoundary => none
  | .watchdog => none
  | .barrierTimeout => none
  | .contextLoadStart => none
  | .contextLoadDone => none
  | .contextSaveStart => none
  | .contextSaveDone => none
  | .queueBind => none
  | .queueResume => none
  | .queueUnbind => none
  | .barrierBind => none
  | .barrierReset => none
  | .barrierUnbind => none
  | .barrierBreakCmd => none
  | .contextCreate => none
  | .contextDestroy => none
  | .kill => none
  | .incarnationInstalled => none
  | .rclfCommand => none
  | .rclfComplete => none
  | .faultTableRecordWrite => none
  | .tracefreeze => none
  | .traceDump => none
  | .traceRearm => none
  | .tetherCommandStart => none
  | .triggerFire => none
  | .linkTrainingFailed => none
  | .linkCorrectableError => none
  | .linkUncorrectableError => none
  | .linkRetrain => none
  | .ptpSyncLoss => none
  | .packageResetRelease => none
  | .switchingDone => none
  | .dcmdFull => none
  | .dcmdRecover => none
  | .attestationRequest => none
  | .junctionOvertempReset => none
  | .lifetimeCounterSave => none
  | .coreRailDroop => none
  | .winchBurstComplete => none
  | .packageReset => none
  | .powerLoss => none
  | .orderlyShutdown => none

/-- The instruction the decoder reads from a word given as the number `w` of `nbits` bits, bits above them zero (R2, R53). -/
def decodeTableWord (nbits w : Nat) : Option Instr := decode (BitVec.ofNat 32 (w % 2 ^ nbits))

end Sys2Proof
end

