-- ==== Sys2Proof/Config.lean ====
section
/-!
DEFINITION. Sys2Proof/Config.lean: what the spec leaves open, as constants without a body, and the moves by which the parts of
the package take their turns. No proof can see the value of a constant of this file.
-/

namespace Sys2Proof

/-- What a core or a die may drop at any time without an effect the program can rely on (04 R94; 09 R245; 10 R273) (log 80). -/
inductive Drop where
  | codeLine (core va : Nat)
  | coreTlb (core va : Nat)
  | dieTlb (die va : Nat)
  | nearLine (die base : Nat)
  deriving DecidableEq, Repr, Inhabited

/-- Who acts next. The spec gives the parts of the package no common order but the one of the rules (00 R9, 01 R460), so a step
takes its mover from the agenda of the state, and beyond it from `Config.nextMove`. -/
inductive Move where
  /-- A program counter of a package slot leaves a position. -/
  | engine (slot : Nat) (e : Engine)
  /-- The cycle goes on: the next effect that is due in it, or the next cycle. -/
  | tick
  /-- A package step of the opcode table, at the unit of this number. -/
  | event (unit : Nat) (i : Instr)
  /-- A line or a translation is dropped. -/
  | drop (d : Drop)
  deriving DecidableEq, Repr, Inhabited

/-- The order in which the parts of the package act, where the spec gives none: the n-th move (log 1). -/
opaque Config.nextMove : Nat → Move

/-- The n-th value the spec leaves open, as a number (log 2). -/
opaque Config.freeNat : Nat → Nat

/-- The code of a special function where the precisions that the model tries do not decide its rounding (log 42). -/
opaque Config.hardCase : Nat

/-- The bus address that the host gave BAR2 (log 2). -/
opaque Config.bar2 : Nat

/-- The root public key of images, of 60 bytes, and the digest that the fuses hold for it (log 31). -/
opaque Config.rootKey : BitVec 480
opaque Config.fuseDigest : BitVec 256

/-- The leaf and signature bytes of the n-th attestation, and what a sensor reads (log 2). -/
opaque Config.freeByte : Nat → Byte

end Sys2Proof
end

