-- ==== Sys2Proof/Machine/Map.lean ====
section
/-!
DEFINITION. Sys2Proof/Machine/Map.lean: sparse tables by number, the plain data that register files, the slots of the
package and its memories are held in. A key that is not listed holds the table's default.
-/

namespace Sys2Proof.Machine

/-- A table from numbers to values, keys strictly rising. -/
abbrev Tab (α : Type) := List (Nat × α)

/-- The value a key holds; the default where it is not listed. -/
def Tab.get {α : Type} (d : α) : Tab α → Nat → α
  | [], _ => d
  | (k', v) :: t, k => if k = k' then v else Tab.get d t k

/-- The value a key holds, if it is listed. -/
def Tab.find {α : Type} : Tab α → Nat → Option α
  | [], _ => none
  | (k', v) :: t, k => if k = k' then some v else Tab.find t k

/-- Write a key. -/
def Tab.put {α : Type} : Tab α → Nat → α → Tab α
  | [], k, v => [(k, v)]
  | (k', v') :: t, k, v =>
    if k < k' then (k, v) :: (k', v') :: t
    else if k = k' then (k, v) :: t
    else (k', v') :: Tab.put t k v

/-- Remove a key. -/
def Tab.del {α : Type} (m : Tab α) (k : Nat) : Tab α := m.filter fun e => e.1 != k

/-- Write a key of a table in canonical form: a key that holds the default is not listed. -/
def Tab.set {α : Type} [DecidableEq α] (d : α) (m : Tab α) (k : Nat) (v : α) : Tab α :=
  if v = d then Tab.del m k else Tab.put m k v

/-- The keys rise strictly, from `lo` on. -/
def Tab.risingFrom {α : Type} : Nat → Tab α → Bool
  | _, [] => true
  | lo, (k, _) :: t => decide (lo ≤ k) && Tab.risingFrom (k + 1) t

/-- The canonical form of a memory: keys strictly rising, and no entry equal to the default. -/
def Tab.canonical {α : Type} [DecidableEq α] (d : α) (m : Tab α) : Bool :=
  Tab.risingFrom 0 m && m.all (fun e => decide (e.2 ≠ d))

/-- A byte memory: bytes at addresses, a byte that is not listed reading as zero. -/
abbrev Bytes := List Host.Cell

/-- The canonical form of a byte memory: addresses strictly rising, and no entry equal to what an unlisted address reads as. -/
def Memory.wf (m : Bytes) : Bool := Tab.canonical 0#8 m

/-- Read one byte of a byte memory. -/
def Bytes.read (m : Bytes) (a : Nat) : Byte := Tab.get 0#8 m a

/-- Write one byte of a byte memory, keeping its canonical form. -/
def Bytes.write (m : Bytes) (a : Nat) (b : Byte) : Bytes := Tab.set 0#8 m a b

/-- Read `n` bytes from address `a` on. -/
def Bytes.readN (m : Bytes) (a : Nat) : Nat → List Byte
  | 0 => []
  | n + 1 => m.read a :: Bytes.readN m (a + 1) n

/-- Write bytes from address `a` on. -/
def Bytes.writeN (m : Bytes) (a : Nat) : List Byte → Bytes
  | [] => m
  | b :: t => Bytes.writeN (m.write a b) (a + 1) t

end Sys2Proof.Machine
end

