-- ==== Sys2Proof/Machine/SlotState.lean ====
section
/-!
DEFINITION. Sys2Proof/Machine/SlotState.lean: the state of one activation slot (03 R60, R63; 04 R96-R109; 05 R113, R125, R128,
R133): its registers, its four program counters, its queues and what its engines have in flight.
-/

namespace Sys2Proof.Machine

/-- An active loop level of a program counter (R103-R106). `first` and `last` are the word indices of its body's ends;
`strides` are the registered pairs of R104. -/
structure LoopLevel where
  lvl : Nat
  trip : Nat
  stages : Nat
  iters : Nat
  i : Nat
  first : Nat
  last : Nat
  strides : List (Nat × Int)
  deriving DecidableEq, Repr, Inhabited

/-- What a common-control word or a body's end tells the lagging counters (R99). -/
inductive OutcomeKind where
  /-- BGO and BLINK: transfer after the delay words. -/
  | transfer (target : Nat)
  /-- BGO not taken. -/
  | proceed
  /-- LSET: the body of this level is entered. -/
  | enter (l : LoopLevel)
  /-- LSET with no iterations: continue at this word. -/
  | skip (target : Nat)
  /-- A body's end: repeat the highest active level. -/
  | again
  /-- A body's end: the highest active level exits. -/
  | exit
  /-- LONLY: the next words, up to word `last`, are issued or not. -/
  | guard (last : Nat) (issue : Bool)
  | rotset (size : Nat)
  | region (base slack : Nat) (strict : Bool)
  | regionEnd
  | endAct
  deriving DecidableEq, Repr, Inhabited

/-- An entry of the outcome queue, and which lagging counters have taken it (R99). -/
structure Outcome where
  kind : OutcomeKind
  takenV : Bool
  takenM : Bool
  takenA : Bool
  deriving DecidableEq, Repr, Inhabited

/-- The control registers of R63 whose value an engine sees at its own text position (R72, R108, R126). -/
structure CtlView where
  stepno : BitVec 32
  tensorid : BitVec 24
  key0 : BitVec 32
  key1 : BitVec 32
  key2 : BitVec 32
  key3 : BitVec 32
  rrb : BitVec 5
  rotcfg : BitVec 6
  tracemode : BitVec 2
  penddbg : Bool
  trapctl : Bool
  deriving DecidableEq, Repr, Inhabited

/-- An effect of a sequencer word on another engine, which that engine sees at the word's position (R72, R126). -/
inductive Deferred where
  /-- SHPW: the shadow field of this key takes a value. -/
  | shape (key : Nat) (v : BitVec 56)
  /-- MTC of the register of this number. -/
  | ctl (reg : Nat) (v : Reg)
  deriving DecidableEq, Repr, Inhabited

/-- The values of a lagging word's g operands, copied when PC_S left its position (R98). -/
structure Copied where
  pos : Nat
  x : Reg
  y : Reg
  deriving DecidableEq, Repr, Inhabited

/-- One program counter of an activation (R96). -/
structure Counter where
  /-- The word index it stands at (R54). -/
  word : Nat
  /-- Its position count (R96). -/
  pos : Nat
  /-- Delay words still to leave, and where a transfer then goes (R101). -/
  delay : Option (Nat × Option Nat)
  /-- The last word an LONLY guards, and whether the words up to it are issued (R105). -/
  guard : Option (Nat × Bool)
  /-- The active loop levels, the highest first (R103). -/
  loops : List LoopLevel
  /-- A body's last word left by falling through and not yet taken, with the highest level active then (R106). -/
  ending : Option (Nat × Nat)
  /-- The counter has reached the activation's END or HALT. -/
  ended : Bool
  /-- The stamp of the cycle that `left` and `issued` belong to (R96). -/
  cycle : Nat
  left : Nat
  issued : Bool
  /-- Cycles of the present run in which a word stood ready and did not issue (R418). -/
  stallRun : Nat
  view : CtlView
  deferred : List (Nat × Deferred)
  copied : List Copied
  /-- A KWAIT that stands at its position and has not performed: token, count and the cycle it came to wait in (R129). -/
  waiting : Option (Nat × Nat × Nat)
  deriving DecidableEq, Repr, Inhabited

/-- A register of the sequencer that a result may be pending for (R113). -/
inductive RegRef where
  | g (n : Nat)
  | c (n : Nat)
  deriving DecidableEq, Repr, Inhabited

/-- A pending exposed write: it takes effect at the stamp `due` (R113). -/
structure PendWrite where
  reg : RegRef
  val : Reg
  due : Nat
  deriving DecidableEq, Repr, Inhabited

/-- A token (R60, R128). -/
structure Token where
  ceiling : BitVec 16
  count : BitVec 16
  deriving DecidableEq, Repr, Inhabited

/-- A signal not yet made, with the position and the word that gave it (R129, R131). -/
structure PendSignal where
  eng : Engine
  pos : Nat
  word : Nat
  tok : Nat
  n : Nat
  /-- For KSIG.S: the registers whose results were pending when it issued and still are (R131). -/
  regs : List RegRef
  deriving DecidableEq, Repr, Inhabited

/-- A signal of a copy from slot `sender` to a token of the slot that has received it (08 R215). -/
structure RemoteSignal where
  tok : Nat
  sender : Nat
  deriving DecidableEq, Repr, Inhabited

/-- The registers of a slot (R60). -/
structure Regs where
  g : Tab Reg
  b : Tab Reg
  c : Tab Bool
  v : Tab Tile
  /-- Accumulator elements: a0-a7 by number, then row, then column. -/
  acc : Tab (BitVec 32)
  k : Tab Token
  /-- Live and shadow fields of the shape registers (R66). -/
  shapes : Tab (BitVec 56)
  masks : List Mask
  deriving DecidableEq, Repr, Inhabited

/-- What Dispatch loads for an activation (R62, R63), and which tile of which node it runs (log 34). -/
structure Activation where
  codebase : BitVec 56
  codelimit : BitVec 24
  spbase : BitVec 23
  splimit : BitVec 24
  bands : BitVec 12
  grpid : BitVec 32
  inctag : BitVec 18
  wdoglim : BitVec 32
  prio : BitVec 4
  graph : Nat
  node : Nat
  tile : Nat
  deriving DecidableEq, Repr, Inhabited

/-- A scratchpad write of a V word, bit by bit: `keep` has a one for each bit left as it was (R167, R253). -/
structure SpWrite where
  addr : Nat
  val : Byte
  keep : Byte
  deriving DecidableEq, Repr, Inhabited

/-- A tile write: the bits of `mask` take the value of `bits` (R142). -/
structure TileWrite where
  tile : Nat
  mask : Tile
  bits : Tile
  deriving DecidableEq, Repr, Inhabited

/-- What a V word does to the mask stack (R156). -/
inductive MaskOp where
  | keep
  | push (m : Mask)
  | pop
  | invert
  deriving DecidableEq, Repr, Inhabited

/-- The sums of a VSTAT word (R171). -/
inductive ProbeKind where
  | qe | gn | gnsum | ov
  deriving DecidableEq, Repr, Inhabited

/-- A probe on its way to Ballast (R171, R281). `s0` and `s1` are FP32 codes, or the count of `ov`. -/
structure Probe where
  kind : ProbeKind
  pslot : Nat
  s0 : Nat
  s1 : Nat
  tag : BitVec 18
  fmt : Nat
  from_ : Nat
  deriving DecidableEq, Repr, Inhabited

/-- A V word in flight: its results are written at the end of the cycle before the stamp `due` (R145, R146). -/
structure VFlight where
  pos : Nat
  word : Nat
  due : Nat
  tiles : List TileWrite
  maskOp : MaskOp
  vote : Option Bool
  sp : List SpWrite
  probe : Option Probe
  /-- The results have been written; the probe alone is outstanding (R149). -/
  written : Bool
  /-- The scratchpad ranges it presents to the range checker (R255). -/
  reads : List (Nat × Nat)
  writes : List (Nat × Nat)
  deriving DecidableEq, Repr, Inhabited

/-- The fields of a matrix shape register (R68). -/
structure MShape where
  afmt : Nat
  bfmt : Nat
  blk : Nat
  m : Nat
  n : Nat
  k : Nat
  aaddr : Nat
  astr : Nat
  baddr : Nat
  scaddr : Nat
  deriving DecidableEq, Repr, Inhabited

/-- The operation of an M word, with its accumulator and flags (R189). -/
inductive MOp where
  | mldb (col : Bool)
  | mma (acc : Nat)
  | mmaT (acc : Nat)
  | mzero (acc : Nat)
  | minit (acc : Nat) (bc : Bool)
  | mdrain (acc : Nat) (tr clr sat : Bool) (mode : Nat)
  | mdrainv (acc : Nat) (vt : Nat)
  | mzp (acc : Nat)
  | mpri (p : Nat)
  | kwait (tok n : Nat)
  | ksig (tok n : Nat)
  deriving DecidableEq, Repr, Inhabited

/-- An M word in the elastic buffer, as it was issued (R182). -/
structure MEntry where
  op : MOp
  word : Nat
  raw : Word
  pos : Nat
  shape : MShape
  /-- The target stamp and the region's slack and kind, for a word of a timed region (R187). -/
  timed : Option (Nat × Nat × Bool)
  rrb : Nat
  rotcfg : Nat
  /-- The trace mode at the word (18 R417). -/
  mode : Nat
  /-- The channel loads the word waits for, by the stream it presents (R208). -/
  reads : List (Nat × Nat)
  writes : List (Nat × Nat)
  deriving DecidableEq, Repr, Inhabited

/-- An M word that has started: the k-step cycles it has made and the cycle of the last (R183). -/
structure MRun where
  entry : MEntry
  steps : Nat
  done : Nat
  last : Nat
  /-- The matrix priority at its start (R186, R197). -/
  mp : Nat
  /-- The operand bytes that its k-steps have read, in the scratchpad and in the B-store (09 R252). -/
  seen : List (Nat × Byte)
  seenB : List (Nat × Byte)
  deriving DecidableEq, Repr, Inhabited

end Sys2Proof.Machine
end

