-- ==== Sys2Proof/Machine/MoverState.lean ====
section
/-!
DEFINITION. Sys2Proof/Machine/MoverState.lean: what moves bytes: global accesses of the sequencers (05 R125), stream commands
and their bursts (08 R203, R204), winch commands (08 R220-R225) and the near-stores and TLBs in front of memory (09 R245, 10 R273).
-/

namespace Sys2Proof.Machine

/-- The kind of a sequencer's global access (R123, R124). -/
inductive GKind where
  | load (size : Nat) (signed : Bool)
  | store (size : Nat)
  | atom (op : Nat) (size : Nat)
  deriving DecidableEq, Repr, Inhabited

/-- How far an access has come (R240, R264, R271). -/
inductive Stage where
  /-- Its address is being translated, or it waits for an earlier access or for its page. -/
  | walk
  /-- Its walk has faulted; it is held until the fault is resolved (R274, R459). -/
  | faulted
  /-- Its value is fixed, or its near-store has accepted it. -/
  | served
  deriving DecidableEq, Repr, Inhabited

/-- A GLD, GST or GATOM that has issued (R125). `num` numbers the accesses of the slot in issue order. -/
structure GReq where
  kind : GKind
  num : Nat
  pos : Nat
  word : Nat
  /-- The trace mode at the word. -/
  mode : Nat
  reg : Nat
  va : Nat
  cls : Nat
  tag : BitVec 18
  x : Nat
  y : Nat
  stage : Stage
  pa : Nat
  /-- The value a load or an atomic has fixed. -/
  val : Nat
  deriving DecidableEq, Repr, Inhabited

/-- The fields of a stream shape register (R69). -/
structure SShape where
  gaddr : Nat
  saddr : Nat
  run : Nat
  ext : List Nat
  gstr : List Int
  sstr : List Int
  pad : Nat
  fmt : Nat
  deriving DecidableEq, Repr, Inhabited

/-- The stream commands of R210. -/
inductive StreamKind where
  | sload | sstore | spair | sgath | sscat | swin | smcast | sput
  deriving DecidableEq, Repr, Inhabited

/-- A burst in flight (R204): its byte offset in the command, its length, and its bytes once they have been read. -/
structure Burst where
  off : Nat
  len : Nat
  /-- Its global address; for an SPUT, its offset in the target's range. -/
  va : Int
  stage : Stage
  pa : Nat
  data : List Byte
  /-- A burst with no global side: pad pattern, skipped copy or SPUT (R212, R213, R216). -/
  local_ : Bool
  deriving DecidableEq, Repr, Inhabited

/-- A stream command, from its push to its completion (R201-R205). -/
structure StreamCmd where
  kind : StreamKind
  major : Nat
  num : Nat
  pos : Nat
  word : Nat
  cls : Nat
  slack : Nat
  shape : SShape
  arg : Nat
  gb : Reg
  chan : Option Nat
  /-- SKIP, B: the flag bit of the word; kt; dx and dy of SWIN. -/
  flag : Bool
  tok : Nat
  dx : Nat
  dy : Nat
  /-- The byte offset of the next burst to start, and the bursts in flight. -/
  next : Nat
  flying : List Burst
  /-- The offset of a burst that has faulted: the command is stopped there (R205). -/
  stopped : Option Nat
  /-- SMCAST: cores that have failed, and cores whose token has been signalled (R215). -/
  failed : BitVec 40
  signalled : BitVec 40
  reads : List (Nat × Nat)
  writes : List (Nat × Nat)
  deriving DecidableEq, Repr, Inhabited

/-- An open channel (R207). `fresh`: no load of it has been pushed since it was opened (R217). -/
structure Channel where
  base : Nat
  limit : Nat
  fresh : Bool
  deriving DecidableEq, Repr, Inhabited

/-- An SCUR.REPORT that has issued and has not written (R217). -/
structure Report where
  chan : Nat
  addr : Nat
  pos : Nat
  num : Nat
  deriving DecidableEq, Repr, Inhabited

/-- The winch words of R221. -/
inductive WinchKind where
  | wcopy | wlayout | woff | wret | wenc | wcsum | wdec | wnvme | wfill
  deriving DecidableEq, Repr, Inhabited

/-- Who pushed a command: a word of a slot, for the node its activation runs, or a node of a graph itself (R221, R318). -/
inductive Pusher where
  | slot (slot word graph node : Nat)
  | node (graph node : Nat)
  deriving DecidableEq, Repr, Inhabited

/-- How far a winch command has come. -/
inductive WStage where
  | queued
  | running
  /-- WNVME: its entry has been submitted (R231 step 5). -/
  | polling
  /-- A fault holds it at its cursor (R224). -/
  | held
  /-- Its record has been resumed; it runs again from its cursor. -/
  | resumed
  /-- Its record was aborted while its context was not resident; it ends at the switch-in. `fault` then holds the fault's code. -/
  | aborting
  deriving DecidableEq, Repr, Inhabited

/-- A command on a winch (R220-R225). -/
structure WCmd where
  kind : WinchKind
  num : Nat
  tag : BitVec 18
  pusher : Pusher
  block : BitVec 512
  gb : Reg
  shape : SShape
  /-- KEY0-KEY3 and STEPNO of the pushing slot, for WENC (R228). -/
  key : BitVec 128
  step : BitVec 32
  cursor : Nat
  stage : WStage
  /-- WOFF and WRET: the entry of the page in transit, and its bytes that have landed. WNVME: `landed` is the length of the transfer. -/
  page : Option Nat
  landed : Nat
  /-- WDEC: the input read so far. WCSUM: the remainder as 4 bytes. WNVME: the status of its completion entry, and whether CQDB has been
  rung. -/
  acc : List Byte
  /-- WCOPY: the bytes of its own source that it has overwritten, by address, as they were before (R226). -/
  olds : List (Int × Byte)
  /-- The record that holds it (R224, R274). -/
  fault : Option Nat
  /-- WNVME: the command identifier and the submission slot. -/
  cid : Nat
  /-- The store the push releases (R249): the slot, its position and the class, with the access and command numbers before it. -/
  relReq : Nat
  relCmd : Nat
  deriving DecidableEq, Repr, Inhabited

/-- A page waiting for its lazy re-encode (R268, R269): the entry's place and the state it had, the level it goes to, the key words and
the step at the touch, and, once a winch has taken it, the page as read. -/
structure Reencode where
  tag : BitVec 18
  va : Nat
  at_ : Nat
  prior : Nat
  level : Nat
  key : BitVec 128
  step : BitVec 32
  taken : Bool
  page : List Byte
  deriving DecidableEq, Repr, Inhabited

/-- One winch (R220). -/
structure Winch where
  queue : List WCmd
  reenc : List Reencode
  pushes : Nat
  deriving DecidableEq, Repr, Inhabited

/-- A near-store line of 256 bytes with its fill class (R245) and the tag it was filled for (R259) (log 80). -/
structure NearLine where
  base : Nat
  cls : Nat
  tag : BitVec 18
  bytes : BitVec 2048
  deriving DecidableEq, Repr, Inhabited

/-- A store accepted by a near-store and not yet acknowledged by its home (R240). -/
structure NearStoreEntry where
  slot : Nat
  /-- The access number of a GST, or a burst of a store command. -/
  burst : Bool
  num : Nat
  off : Nat
  pa : Nat
  bytes : List Byte
  tag : BitVec 18
  cls : Nat
  deriving DecidableEq, Repr, Inhabited

/-- A TLB entry (R273): the page's first virtual address, its size, the leaf entry and where it stands (log 20). -/
structure TlbEntry where
  tag : BitVec 18
  va : Nat
  big : Bool
  entry : BitVec 128
  at_ : Nat
  deriving DecidableEq, Repr, Inhabited

end Sys2Proof.Machine
end

