-- ==== Sys2Proof/Machine/CoreState.lean ====
section
/-!
DEFINITION. Sys2Proof/Machine/CoreState.lean: an activation slot, a core and a compute die as wholes (01 R16, R17).
-/

namespace Sys2Proof.Machine

/-- A word of the sequencer that sleeps at a unit outside the core. -/
inductive Sleep where
  /-- WQPOP of work queue `q`, with its destination register (12 R303). -/
  | wqpop (q reg : Nat)
  /-- BARW or BARS of barrier `b` for generation `gen` (14 R344); `own` for BARS, whose result is the generation it arrived in. -/
  | barrier (b gen reg : Nat) (own : Bool)
  /-- WAITC: the address, the target and the class mask or class (14 R345). -/
  | waitc (va target cls : Nat)
  /-- A barrier that broke under the wait of a slot that was stopped: the status word (14 R335). -/
  | broken (status : Nat)
  /-- RCLF of a context, with its destination register and its V, waiting for the fence (15 R359). -/
  | rclf (ctx reg v : Nat)
  /-- RCLF whose fence has completed: its destination register and its result. -/
  | fenced (reg value : Nat)
  deriving DecidableEq, Repr, Inhabited

/-- A fatal stop of an activation (R100, R413). `id` names its record in the fault table. -/
structure Stop where
  id : Nat
  eng : Engine
  code : Nat
  final : Bool
  deriving DecidableEq, Repr, Inhabited

/-- A WALL word whose sample has not been taken (R132): its register, the cycle of the sample, its word index and the trace mode there. -/
structure WallWait where
  reg : Nat
  due : Nat
  word : Nat
  mode : Nat
  deriving DecidableEq, Repr, Inhabited

/-- The sequencer of a slot. -/
structure SeqState where
  pc : Counter
  slipw : BitVec 12
  outq : List Outcome
  pend : List PendWrite
  locks : List RegRef
  /-- WALL words whose sample has not been taken (R132). -/
  walls : List WallWait
  reqs : List GReq
  reqNum : Nat
  /-- Acquires that have not completed: the number of the next access and the class mask (09 R244). -/
  acqs : List (Nat × Nat)
  /-- The open timed region: base stamp, slack, strict (R109). -/
  region : Option (Nat × Nat × Bool)
  votes : List Bool
  votesTaken : Nat
  sleep : Option Sleep
  /-- The arrival that PC_S stands at has stalled (14 R338, R341). -/
  stalledArrival : Bool
  /-- The cycle in which a waiting word first stood ready (R418). -/
  waitFrom : Option Nat
  /-- The last wall value a WALL of the slot returned (R132). -/
  lastWall : Nat
  deriving DecidableEq, Repr, Inhabited

/-- The vector engine's words of a slot. -/
structure VecState where
  pc : Counter
  fly : List VFlight
  /-- VANY and VALL words issued (R133). -/
  votesFormed : Nat
  deriving DecidableEq, Repr, Inhabited

/-- The matrix engine's words of a slot. -/
structure MatState where
  pc : Counter
  buf : List MEntry
  run : List MRun
  mp : Nat
  region : Option (Nat × Nat × Bool)
  /-- PC_S is held by a late word of a timed region (R188). -/
  late : Bool
  /-- The cycle since which a KWAIT.M waits at the head of the buffer (R198; 18 R418). -/
  waitFrom : Option Nat
  deriving DecidableEq, Repr, Inhabited

/-- The asynchronous slot. -/
structure AsyState where
  pc : Counter
  loads : List StreamCmd
  stores : List StreamCmd
  cmdNum : Nat
  chans : Tab Channel
  reports : List Report
  /-- CQPUSH words issued and CQPOP words done, and the completion queue (R306, R307). -/
  cqPushed : Nat
  cqPopped : Nat
  cq : List (BitVec 128)
  cqOwed : Nat
  deriving DecidableEq, Repr, Inhabited

/-- A mailbox message with its sender's context tag (R134). -/
structure Message where
  lo : Reg
  hi : Reg
  tag : BitVec 18
  deriving DecidableEq, Repr, Inhabited

/-- An access of a killed activation that is still on its way (15 R353): its response will be an orphan, or it will be dropped as stale. -/
structure Stray where
  tag : BitVec 18
  orphan : Bool
  deriving DecidableEq, Repr, Inhabited

/-- One activation slot (R16, R60). -/
structure Slot where
  /-- The slot runs an activation. -/
  busy : Bool
  act : Activation
  stop : Option Stop
  regs : Regs
  seq : SeqState
  vec : VecState
  mat : MatState
  asy : AsyState
  signals : List PendSignal
  /-- Signals that SMCAST and SPUT commands of other slots, or of this one, have sent to it (08 R215, R216). -/
  remote : List RemoteSignal
  strays : List Stray
  /-- The context of the activation the slot last ran (R61). -/
  lastCtx : Option Nat
  /-- For each context the slot has run: its switch-ins when it last did (02 R52). -/
  seen : Tab Nat
  /-- The stamp at activation start (18 R418). -/
  started : Nat
  halt : Option (BitVec 16)
  mailbox : List Message
  phase : BitVec 16
  comm : Bool
  /-- Base priority, waiting count and urgency (R326). -/
  basePrio : Nat
  waits : Nat
  urgent : Bool
  /-- One more than the cycle of the last contest it lost. -/
  lostAt : Nat
  /-- Size of the dispatch grant, extra bands held, and, while a tile waits for bands of it, one more than the bands it is left with
  (R328, R329). -/
  grant : Nat
  extra : Nat
  withdraw : Nat
  demand : Nat
  deriving DecidableEq, Repr, Inhabited

/-- An entry of the draw filter (R50). -/
structure DrawEntry where
  slot : Nat
  tensor : BitVec 24
  step : BitVec 32
  base : Reg
  deriving DecidableEq, Repr, Inhabited

/-- A message in the send buffer, with its sender and its target (R134). -/
structure Outgoing where
  sender : Nat
  target : Nat
  msg : Message
  deriving DecidableEq, Repr, Inhabited

/-- A line of the instruction cache (R94) (log 80). -/
structure CodeLine where
  va : Nat
  tag : BitVec 18
  bytes : BitVec 512
  deriving DecidableEq, Repr, Inhabited

/-- What an engine of a slot has for the trace buffer in the present cycle (R417): the words of an entry, or none, and the kind of the
trigger condition that it meets, or 0 (R419). -/
structure TraceItem where
  side : Nat
  eng : Engine
  words : List (BitVec 64)
  hit : Nat
  deriving DecidableEq, Repr, Inhabited

/-- A trigger that has been met (R419): its slot, kind and context tag, and the further words to write before the freeze. -/
structure TraceRun where
  slot : Nat
  kind : Nat
  tag : BitVec 18
  left : Nat
  deriving DecidableEq, Repr, Inhabited

/-- The trace buffer of a core and its trigger (R417, R419). -/
structure Trace where
  words : Tab (BitVec 64)
  ptr : Nat
  frozen : Bool
  /-- The items of the present cycle, which its end writes in the order of R417. -/
  queue : List TraceItem
  /-- The side of the slot that has just met the trigger. -/
  hit : Option Nat
  post : Option TraceRun
  matchVal : BitVec 32
  postCfg : BitVec 16
  tsel : BitVec 2
  tkind : BitVec 3
  tbaddr : BitVec 42
  deriving DecidableEq, Repr, Inhabited

/-- A command of the communication queue (R304, R305), with the start of its activation. -/
structure CommCmd where
  bytes : BitVec 512
  slot : Nat
  tag : BitVec 18
  cls : Nat
  word : Nat
  /-- The node that its activation ran. -/
  graph : Nat
  node : Nat
  started : Nat
  relReq : Nat
  relCmd : Nat
  deriving DecidableEq, Repr, Inhabited

/-- A B-store byte written while both slots held its band: a bit for each slot that has written it, and the values it had (R176). -/
structure RacedByte where
  writers : Nat
  olds : List Byte
  deriving DecidableEq, Repr, Inhabited

/-- A bank or a band that is being zeroed for a slot of its core since an activation's start or a grant (03 R61; 07 R176). -/
structure Zeroing where
  side : Nat
  part : Nat
  since : Nat
  deriving DecidableEq, Repr, Inhabited

/-- What the two slots of a core share (R16). -/
structure CoreState where
  scratch : Bytes
  /-- Context numbers recorded by the banks; a bank not listed records mixed (R61). -/
  banks : Tab Nat
  bankZeroing : List Zeroing
  /-- B-store bytes: the slice of physical column n at n * 32768 (R176). -/
  bstore : Bytes
  /-- The B-store bytes that a slot has written while both held the band (R176). -/
  raced : Tab RacedByte
  bandCtx : Tab Nat
  bandZeroing : List Zeroing
  /-- The slot (0 or 1) that holds each shared band (R186). -/
  bandHolder : Tab Nat
  filter : List DrawEntry
  /-- The stamp up to which the vector engine is occupied (R144). -/
  vBusy : Nat
  /-- The cycle of the last burst start of the load and the store engine (R206). -/
  loadCycle : Nat
  storeCycle : Nat
  /-- Which slot won last at the vector engine, the load and store engines and the array (R326). -/
  won : Tab Nat
  sendBuf : List Outgoing
  commq : List CommCmd
  cqEn : Bool
  cqStream : BitVec 4
  icache : List CodeLine
  tlb : List TlbEntry
  trace : Trace
  deriving DecidableEq, Repr, Inhabited

/-- What a compute die holds besides its cores (R17). -/
structure DieState where
  lines : List NearLine
  accepted : List NearStoreEntry
  tlb : List TlbEntry
  lost : Bool
  deriving DecidableEq, Repr, Inhabited

end Sys2Proof.Machine
end

