-- ==== Sys2Proof/Machine/Num.lean ====
section
/-!
DEFINITION. Sys2Proof/Machine/Num.lean: number formats, exact values, the one rounding helper, block scales, cell sums and
fixed-tree reductions (02 R26-R46; 03 R74). A value is exact: a dyadic number, a signed infinity or NaN.
-/

namespace Sys2Proof.Machine

/-- How a floating-point format uses its highest exponent (R27). -/
inductive Specials where
  | ieee
  | e4m3
  | none
  deriving DecidableEq, Repr, Inhabited

/-- An element format (R27, R30, R31). -/
inductive Fmt where
  | float (expBits manBits bias : Nat) (sp : Specials)
  | int (width : Nat) (signed : Bool)
  | e8m0
  deriving DecidableEq, Repr, Inhabited

def fF32 : Fmt := .float 8 23 127 .ieee
def fF16 : Fmt := .float 5 10 15 .ieee
def fBF16 : Fmt := .float 8 7 127 .ieee
def fE5M2 : Fmt := .float 5 2 15 .ieee
def fE4M3 : Fmt := .float 4 3 7 .e4m3
def fE3M2 : Fmt := .float 3 2 3 .none
def fE2M3 : Fmt := .float 2 3 1 .none
def fE2M1 : Fmt := .float 2 1 1 .none

/-- The element format of a format code; `none` where the code is reserved (R74). -/
def fmtOf : Nat → Option Fmt
  | 0x00 => some fF32
  | 0x01 => some fF16
  | 0x02 => some fBF16
  | 0x03 => some fE5M2
  | 0x04 => some fE4M3
  | 0x05 => some fE3M2
  | 0x06 => some fE2M3
  | 0x07 => some fE2M1
  | 0x08 => some .e8m0
  | 0x10 => some (.int 2 true)
  | 0x11 => some (.int 4 true)
  | 0x12 => some (.int 8 true)
  | 0x13 => some (.int 16 true)
  | 0x14 => some (.int 32 true)
  | 0x15 => some (.int 64 true)
  | 0x19 => some (.int 4 false)
  | 0x1A => some (.int 8 false)
  | 0x1B => some (.int 16 false)
  | 0x1C => some (.int 32 false)
  | 0x1D => some (.int 64 false)
  | _ => none

/-- The width in bits of a code of the format (R27, R30). -/
def Fmt.width : Fmt → Nat
  | .float e m _ _ => 1 + e + m
  | .int w _ => w
  | .e8m0 => 8

/-- An exact value: NaN, an infinity, or (-1)^neg * m * 2^e. -/
inductive Val where
  | nan
  | inf (neg : Bool)
  | fin (neg : Bool) (m : Nat) (e : Int)
  deriving DecidableEq, Repr, Inhabited

def Val.zero : Val := .fin false 0 0
def Val.one : Val := .fin false 1 0

def Val.isNan : Val → Bool
  | .nan => true
  | _ => false

def Val.isZero : Val → Bool
  | .fin _ 0 _ => true
  | _ => false

def Val.isInf : Val → Bool
  | .inf _ => true
  | _ => false

/-- The sign of a value; NaN has none. -/
def Val.neg? : Val → Bool
  | .nan => false
  | .inf n => n
  | .fin n _ _ => n

/-- The value with the other sign. -/
def Val.negate : Val → Val
  | .nan => .nan
  | .inf n => .inf (!n)
  | .fin n m e => .fin (!n) m e

def Val.abs : Val → Val
  | .nan => .nan
  | .inf _ => .inf false
  | .fin _ m e => .fin false m e

/-- The value times 2^k, exactly. -/
def Val.scale (k : Int) : Val → Val
  | .fin n m e => .fin n m (e + k)
  | v => v

/-- An integer as a value. -/
def Val.ofInt (x : Int) : Val := .fin (decide (x < 0)) x.natAbs 0

/-- decode_code of R27, and the values of integer codes and of E8M0 codes (R30, R31). -/
def decodeCode (f : Fmt) (c : Nat) : Val :=
  match f with
  | .float eb mb bias sp =>
    let s := bitAt c (eb + mb)
    let E := c / 2 ^ mb % 2 ^ eb
    let M := c % 2 ^ mb
    match sp, decide (E = 2 ^ eb - 1) with
    | .ieee, true => if M = 0 then .inf s else .nan
    | .e4m3, true => if M = 2 ^ mb - 1 then .nan else .fin s (2 ^ mb + M) ((E : Int) - bias - mb)
    | _, _ =>
      if E = 0 then .fin s M (1 - (bias : Int) - mb)
      else .fin s (2 ^ mb + M) ((E : Int) - bias - mb)
  | .int w true => Val.ofInt (sext (c % 2 ^ w) w)
  | .int w false => .fin false (c % 2 ^ w) 0
  | .e8m0 => if c % 256 = 255 then .nan else .fin false 1 ((c % 256 : Nat) - 127)

/-- Compare two dyadic magnitudes: is m1 * 2^e1 < m2 * 2^e2? -/
def magLt (m1 : Nat) (e1 : Int) (m2 : Nat) (e2 : Int) : Bool :=
  if e1 ≤ e2 then decide (m1 < m2 * 2 ^ (e2 - e1).toNat) else decide (m1 * 2 ^ (e1 - e2).toNat < m2)

/-- Is the value of `a` less than the value of `b`, as numbers (minus zero equals plus zero)? False for NaN. -/
def Val.lt : Val → Val → Bool
  | .nan, _ => false
  | _, .nan => false
  | .inf n, .inf n' => n && !n'
  | .inf n, .fin _ _ _ => n
  | .fin _ _ _, .inf n' => !n'
  | .fin n m e, .fin n' m' e' =>
    if m = 0 then (if m' = 0 then false else !n')
    else if m' = 0 then n
    else match n, n' with
      | true, false => true
      | false, true => false
      | false, false => magLt m e m' e'
      | true, true => magLt m' e' m e

/-- The two values are equal as numbers (R28); false for NaN. -/
def Val.eqv (a b : Val) : Bool := !a.isNan && !b.isNan && !(a.lt b) && !(b.lt a)

/-- The order of R153, in which minus zero is below plus zero. -/
def Val.below (a b : Val) : Bool := a.lt b || (a.isZero && b.isZero && a.neg? && !b.neg?)

/-- floor(log2 |x|) of a non-zero finite value. -/
def log2v (m : Nat) (e : Int) : Int := (Nat.log2 m : Int) + e

/-- The exact sum of two values; `negZero` says whether an exact zero sum of terms that are not all minus zero is minus zero
(R45, R152). -/
def Val.addZ (negZero : Bool) : Val → Val → Val
  | .nan, _ => .nan
  | _, .nan => .nan
  | .inf n, .inf n' => if n = n' then .inf n else .nan
  | .inf n, .fin _ _ _ => .inf n
  | .fin _ _ _, .inf n => .inf n
  | .fin n m e, .fin n' m' e' =>
    let k := min e e'
    let x : Int := (m * 2 ^ (e - k).toNat : Nat)
    let y : Int := (m' * 2 ^ (e' - k).toNat : Nat)
    let t := (if n then -x else x) + (if n' then -y else y)
    if t = 0 then .fin (negZero || (n && n' && m = 0 && m' = 0)) 0 0
    else .fin (decide (t < 0)) t.natAbs k

/-- The exact sum, an exact zero being plus zero unless both terms are minus zero (R45). -/
def Val.add (a b : Val) : Val := Val.addZ false a b

/-- The exact product (R43, R152). -/
def Val.mul : Val → Val → Val
  | .nan, _ => .nan
  | _, .nan => .nan
  | .inf n, .inf n' => .inf (n != n')
  | .inf n, .fin n' m _ => if m = 0 then .nan else .inf (n != n')
  | .fin n m _, .inf n' => if m = 0 then .nan else .inf (n != n')
  | .fin n m e, .fin n' m' e' => .fin (n != n') (m * m') (e + e')

/-- The rounding modes of R37. -/
inductive RMode where
  | rne | rz | rdn | rup | sr
  deriving DecidableEq, Repr, Inhabited

/-- The rounding mode of an RND field; `none` for 5 to 7 (R67). -/
def rmodeOf : Nat → Option RMode
  | 0 => some .rne
  | 1 => some .rz
  | 2 => some .rdn
  | 3 => some .rup
  | 4 => some .sr
  | _ => none

/-- The result of a rounding: the code and the status bits of R40. -/
structure Rounded where
  code : Nat
  ov : Bool
  uf : Bool
  nv : Bool
  deriving DecidableEq, Repr, Inhabited

/-- The canonical NaN code of a format, where it has one (R29). -/
def nanCode : Fmt → Option Nat
  | .float 8 23 _ _ => some 0x7FC00000
  | .float 5 10 _ _ => some 0x7E00
  | .float 8 7 _ _ => some 0x7FC0
  | .float 5 2 _ .ieee => some 0x7E
  | .float 4 3 _ .e4m3 => some 0x7F
  | _ => none

/-- The magnitude code of the largest finite value of a floating-point format (R27). -/
def maxCode : Fmt → Nat
  | .float eb mb _ .ieee => (2 ^ eb - 1) * 2 ^ mb - 1
  | .float eb mb _ .e4m3 => 2 ^ (eb + mb) - 2
  | .float eb mb _ .none => 2 ^ (eb + mb) - 1
  | .int w true => 2 ^ (w - 1) - 1
  | .int w false => 2 ^ w - 1
  | .e8m0 => 254

/-- A magnitude code of a floating-point format with a sign. -/
def withSign (f : Fmt) (neg : Bool) (c : Nat) : Nat := if neg then c + 2 ^ (f.width - 1) else c

/-- The largest finite value of the format with this sign, as a code (R37). -/
def largest (f : Fmt) (neg : Bool) : Nat :=
  match f with
  | .int w true => if neg then 2 ^ (w - 1) else 2 ^ (w - 1) - 1
  | .int w false => if neg then 0 else 2 ^ w - 1
  | _ => withSign f neg (maxCode f)

/-- The infinity of the format with this sign, as a code. -/
def infCode (f : Fmt) (neg : Bool) : Nat :=
  match f with
  | .float eb mb _ _ => withSign f neg ((2 ^ eb - 1) * 2 ^ mb)
  | _ => largest f neg

/-- Does sat stand as given for the format? Only FP32, FP16 and E5M2 can be infinite (R37, R39). -/
def satFor (f : Fmt) (sat : Bool) : Bool :=
  if f = fF32 ∨ f = fF16 ∨ f = fE5M2 then sat else true

/-- The zero of the format with this sign. -/
def zeroCode (f : Fmt) (neg : Bool) : Nat :=
  match f with
  | .float _ _ _ _ => withSign f neg 0
  | _ => 0

/-- The multiple of the quantum that the mode chooses (R37): `n` and the fraction `r / 2^sh`, `sticky` for a non-zero rest below. -/
def pickN (mode : RMode) (neg : Bool) (rnd n r sh : Nat) (sticky : Bool) : Nat :=
  match mode with
  | .rz => n
  | .rne =>
    if sh = 0 then n
    else if 2 ^ (sh - 1) < r ∨ (r = 2 ^ (sh - 1) ∧ (sticky ∨ n % 2 = 1)) then n + 1 else n
  | .rup => if (r ≠ 0 ∨ sticky) ∧ neg = false then n + 1 else n
  | .rdn => if (r ≠ 0 ∨ sticky) ∧ neg = true then n + 1 else n
  | .sr => n + (r * 2 ^ 32 / 2 ^ sh + rnd) / 2 ^ 32

/-- The code of the magnitude n * 2^eq of a floating-point format, where it is finite; eq is at least emin - m. -/
def floatCode (eb mb bias : Nat) (n : Nat) (eq : Int) : Nat :=
  if n < 2 ^ mb then n
  else
    let (n, eq) := if n = 2 ^ (mb + 1) then (2 ^ mb, eq + 1) else (n, eq)
    ((eq + mb + bias).toNat % 2 ^ eb) * 2 ^ mb + (n - 2 ^ mb)

/-- round_to of R37 for a non-zero magnitude m * 2^e, to which `sticky` adds a rest of less than one unit of 2^e. -/
def roundMag (f : Fmt) (mode : RMode) (rnd : Nat) (sat : Bool) (neg : Bool) (m : Nat) (e : Int) (sticky : Bool) : Rounded :=
  let lg := log2v m e
  let eq : Int := match f with
    | .float _ mb bias _ => max lg (1 - (bias : Int)) - mb
    | _ => 0
  let sh := (eq - e).toNat
  let n0 := if e ≤ eq then m / 2 ^ sh else m * 2 ^ (e - eq).toNat
  let r := if e ≤ eq then m % 2 ^ sh else 0
  let n := pickN mode neg rnd n0 r sh sticky
  let ovfl : Bool := match f with
    | .float _ _ _ _ =>
      match decodeCode f (maxCode f) with
      | .fin _ mm em => magLt mm em n eq
      | _ => false
    | .int w true => if neg then decide (2 ^ (w - 1) < n) else decide (2 ^ (w - 1) - 1 < n)
    | .int w false => if neg then decide (0 < n) else decide (2 ^ w - 1 < n)
    | .e8m0 => false
  if ovfl then
    if satFor f sat || mode == .rz || (mode == .rup && neg) || (mode == .rdn && !neg) then ⟨largest f neg, true, false, false⟩
    else ⟨infCode f neg, true, false, false⟩
  else
    let code := match f with
      | .float eb mb bias _ => withSign f neg (floatCode eb mb bias n eq)
      | .int w true => if neg then (2 ^ w - n) % 2 ^ w else n
      | _ => if neg then 0 else n
    ⟨code, false, n == 0, false⟩

/-- round_to of R37. -/
def roundTo (f : Fmt) (mode : RMode) (rnd : Nat) (sat : Bool) (x : Val) : Rounded :=
  match x with
  | .nan => match nanCode f with
    | some c => ⟨c, false, false, false⟩
    | none => ⟨0, false, false, true⟩
  | .inf neg =>
    let hasInf := match f with
      | .float _ _ _ .ieee => true
      | _ => false
    if hasInf && !satFor f sat then ⟨infCode f neg, false, false, false⟩ else ⟨largest f neg, true, false, false⟩
  | .fin neg m e => if m = 0 then ⟨zeroCode f neg, false, false, false⟩ else roundMag f mode rnd sat neg m e false

/-- The FP32 value of an exact value, rounded by RNE with sat false (R45, R46). -/
def toF32 (x : Val) : Nat := (roundTo fF32 .rne 0 false x).code

/-- The value an FP32 code holds. -/
def ofF32 (c : Nat) : Val := decodeCode fF32 c

/-- emaxexp of R34, by format code. -/
def emaxexp : Fmt → Int
  | .float 5 2 _ _ => 15
  | .float 4 3 _ _ => 8
  | .float 3 2 _ _ => 4
  | .float 2 3 _ _ => 2
  | .float 2 1 _ _ => 2
  | .int 8 _ => 6
  | .int 4 _ => 2
  | _ => 0

/-- The larger of two finite magnitudes. -/
def magMax (a b : Nat × Int) : Nat × Int :=
  if a.1 = 0 then b else if b.1 = 0 then a else if magLt a.1 a.2 b.1 b.2 then b else a

/-- The magnitude of a finite value. -/
def Val.mag : Val → Nat × Int
  | .fin _ m e => (m, e)
  | _ => (0, 0)

/-- The result of block_scale: the scale code, the element codes and their roundings' status (R34). -/
structure BlockScaled where
  sc : Nat
  codes : List Rounded
  deriving DecidableEq, Repr, Inhabited

/-- block_scale of R34: the inputs come with their random words. -/
def blockScale (f : Fmt) (mode : RMode) (xs : List (Val × Nat)) : BlockScaled :=
  if xs.any (fun x => x.1.isNan || x.1.isInf) then ⟨0xFF, xs.map fun _ => ⟨0, false, false, true⟩⟩
  else
    let am := xs.foldl (fun a x => magMax a x.1.mag) (0, 0)
    if am.1 = 0 then ⟨0x7F, xs.map fun _ => ⟨0, false, false, false⟩⟩
    else
      let e0 := log2v am.1 am.2 - emaxexp f
      let e := if e0 < -127 then -127 else if 127 < e0 then 127 else e0
      ⟨(e + 127).toNat, xs.map fun x => roundTo f mode x.2 true (x.1.scale (-e))⟩

/-- block_decode of R33. -/
def blockDecode (f : Fmt) (c sc : Nat) : Val :=
  if sc = 0xFF then .nan else (decodeCode f c).scale ((sc : Int) - 127)

/-- One term of cell_sum, truncated toward zero to a multiple of 2^l (R44). -/
def truncAt (l : Int) : Val → Int
  | .fin n m e =>
    let t : Nat := if l ≤ e then m * 2 ^ (e - l).toNat else m / 2 ^ (l - e).toNat
    if n then -(t : Int) else t
  | _ => 0

/-- The top binade of the non-zero products (R44). -/
def topOf : List Val → Option Int
  | [] => none
  | v :: t =>
    let r := topOf t
    match v with
    | .fin _ m e => if m = 0 then r else match r with
      | none => some (log2v m e)
      | some x => some (max x (log2v m e))
    | _ => r

/-- cell_sum of R44. -/
def cellSum (p : List Val) : Val :=
  if p.any Val.isNan then .nan
  else if p.any (fun v => decide (v = .inf false)) && p.any (fun v => decide (v = .inf true)) then .nan
  else if p.any (fun v => decide (v = .inf false)) then .inf false
  else if p.any (fun v => decide (v = .inf true)) then .inf true
  else match topOf p with
    | none => .zero
    | some top =>
      let l := top - 42
      let t := p.foldl (fun a v => a + truncAt l v) (0 : Int)
      if t = 0 then .zero else .fin (decide (t < 0)) t.natAbs l

/-- acc_add of R45 on FP32 codes. -/
def accAdd (acc : Nat) (t : Val) : Nat := toF32 (Val.add (ofF32 acc) t)

/-- One level of the tree of R46. -/
def treePairs {α : Type} (op : α → α → α) : List α → List α
  | x :: y :: t => op x y :: treePairs op t
  | l => l

/-- The levels of the tree of R46. -/
def treeLevels {α : Type} (op : α → α → α) : Nat → List α → List α
  | 0, l => l
  | n + 1, l => match l with
    | [] => []
    | [x] => [x]
    | x :: y :: t => treeLevels op n (treePairs op (x :: y :: t))

/-- tree_reduce of R46, with the operation's identity. -/
def treeReduce {α : Type} (ident : α) (op : α → α → α) (xs : List α) : α :=
  match treeLevels op xs.length xs with
  | x :: _ => x
  | [] => ident

/-- One FP32 addition of R46, on codes. -/
def addF32 (a b : Nat) : Nat := toF32 (Val.add (ofF32 a) (ofF32 b))

/-- The larger FP32 value, NaN if either is NaN, minus zero below plus zero (R153, R165). -/
def maxV (a b : Val) : Val := if a.isNan || b.isNan then .nan else if a.below b then b else a

/-- The smaller value under the same order. -/
def minV (a b : Val) : Val := if a.isNan || b.isNan then .nan else if b.below a then b else a

/-- The code of a value that is exact in a floating-point format; NaN gives the canonical NaN. -/
def exactCode (f : Fmt) (x : Val) : Nat := (roundTo f .rne 0 false x).code

/-- f_round of R47. -/
def fRound (x rk : Nat) : Nat :=
  let y := (x + rk) % 2 ^ 64
  let rot := (y * 2 ^ 23 + y / 2 ^ 41) % 2 ^ 64
  rot ^^^ (x * 0x8F3C5A17B4D26E9B % 2 ^ 64 / 2 ^ 29)

/-- The eight rounds of R47. -/
def drawRounds (klo khi : Nat) : Nat → Nat → Nat × Nat → Nat × Nat
  | 0, _, lr => lr
  | n + 1, i, (left, right) => drawRounds klo khi n (i + 1) (right, left ^^^ fRound right ((klo + i * khi) % 2 ^ 64))

/-- ctr_draw of R47. -/
def ctrDraw (key step tensor domain coord : Nat) : Nat :=
  let left := step % 2 ^ 32 * 2 ^ 32 + tensor % 2 ^ 24 * 2 ^ 8 + domain % 256
  (drawRounds (key % 2 ^ 64) (key / 2 ^ 64) 8 0 (left, coord % 2 ^ 64)).1 % 2 ^ 32

/-- The digits on a gang side: the smallest power of two not less than ceil(w / 2) (R41, R42). -/
def gangSide : Fmt → Nat
  | .float 5 10 _ _ => 8
  | .float 8 7 _ _ => 4
  | .float 5 2 _ _ => 2
  | .float 3 2 _ _ => 2
  | .float 4 3 _ _ => 2
  | .float 2 3 _ _ => 2
  | .float 2 1 _ _ => 1
  | .int 8 _ => 4
  | .int 4 _ => 2
  | .int 2 _ => 1
  | _ => 0

end Sys2Proof.Machine
end

