-- ==== Sys2Proof/Machine/TrapState.lean ====
section
/-!
DEFINITION. Sys2Proof/Machine/TrapState.lean: trap and event records, their rings and the hub's fault table (18 R408-R411).
-/

namespace Sys2Proof.Machine

/-- Who raised a record, in the numbering of the ENGINE field (R408). -/
inductive Raiser where
  | slot (n : Nat) (eng : Engine)
  | winch (n : Nat)
  | tether (stream : Nat)
  | hub
  | spool
  deriving DecidableEq, Repr, Inhabited

/-- The fields of a record but for SEQ, which its writing gives (R408). -/
structure Record where
  code : Nat
  who : Raiser
  tag : Option (BitVec 18)
  warn : Bool
  pending : Bool
  status : Nat
  addr : Nat
  cursor : Nat
  stamp : Nat
  /-- The trace mode at the word concerned (R417). -/
  mode : Nat
  widxS : Nat
  widxV : Nat
  widxM : Nat
  widxA : Nat
  deriving DecidableEq, Repr, Inhabited

/-- What a walk fault is keyed by, and what its walk found (R274) (log 24). -/
structure WalkKey where
  tag : BitVec 18
  page : Nat
  deriving DecidableEq, Repr, Inhabited

/-- A fatal record in the hub's fault table (R411): not yet written, or written and pending under its SEQ (log 24). -/
structure FaultEntry where
  id : Nat
  body : Record
  /-- The SEQ it was written with. -/
  seq : Option Nat
  /-- The winch command it stops, by winch and command number (R224). -/
  winchCmd : Option (Nat × Nat)
  /-- The walk fault it belongs to (R274). -/
  walk : Option WalkKey
  /-- The agent was killed, or the record is resolved: nothing waits for it but its writing. -/
  resolved : Bool
  deriving DecidableEq, Repr, Inhabited

/-- A trap ring or event ring (R410). -/
structure Ring where
  base : BitVec 42
  vector : BitVec 11
  log2n : BitVec 5
  killf : Bool
  intr : Bool
  en : Bool
  tail : BitVec 32
  head : BitVec 32
  lost : BitVec 32
  deriving DecidableEq, Repr, Inhabited

end Sys2Proof.Machine
end

