-- ==== Sys2Proof/Machine/CtxState.lean ====
section
/-!
DEFINITION. Sys2Proof/Machine/CtxState.lean: precision slots (11 R279, R281) and contexts (15 R346, R347, R350) as the hub holds them.
-/

namespace Sys2Proof.Machine

/-- A precision slot (R279). The four sums are exact (R281); the widths of the other fields are the Bits column's. -/
structure PSlot where
  level : BitVec 3
  role : BitVec 3
  pin : Bool
  tch : Bool
  run : BitVec 8
  layer : BitVec 16
  loth : BitVec 32
  hith : BitVec 32
  hyst : BitVec 8
  nmb : BitVec 16
  ovlim : BitVec 32
  resc : BitVec 4
  qe : Val
  qs : Val
  gn : Val
  gns : Val
  ovc : BitVec 32
  ufc : BitVec 32
  amax : BitVec 32
  dscale : BitVec 8
  lcs : BitVec 32
  prvlvl : BitVec 3
  chgep : BitVec 32
  deriving DecidableEq, Repr, Inhabited

/-- The states of a context (R346, R350). -/
inductive CtxPhase where
  | free | idle | loading | resident | saving | held
  deriving DecidableEq, Repr, Inhabited

/-- What the hub reads from the context image at CREATE and at each switch-in (R347). -/
structure Image where
  slice : BitVec 32
  prio : BitVec 4
  ptroot : BitVec 42
  gcp : BitVec 56
  bcount : BitVec 13
  bfirst : BitVec 12
  key : BitVec 128
  tensorid : BitVec 24
  stepno : BitVec 32
  peertab : BitVec 56
  job : BitVec 32
  npeer : BitVec 7
  deriving DecidableEq, Repr, Inhabited

/-- A reclaim fence under way (R355): the incarnation it leaves out, OUTST at its start, the peers that have not confirmed, and whether
one never will. -/
structure Fence where
  inc : BitVec 6
  base : Nat
  waiting : List Nat
  lostPeer : Bool
  deriving DecidableEq, Repr, Inhabited

/-- A context (R346, R350). -/
structure Ctx where
  cimg : BitVec 42
  priv : Bool
  rclfres : BitVec 2
  rclf : Option Fence
  yieldreq : Bool
  phase : CtxPhase
  outst : BitVec 6
  inc : BitVec 6
  stale : BitVec 32
  orphan : BitVec 32
  refused : BitVec 32
  swcost : BitVec 32
  image : Image
  /-- FOFF (CW0), frames resident (CW1) and slice extensions (EXTCNT). -/
  foff : BitVec 64
  cw1 : BitVec 32
  extcnt : BitVec 32
  /-- CW2: the frame, the incarnation and the cause of the last kill. -/
  killFrame : BitVec 32
  kinc : BitVec 6
  kcause : BitVec 8
  qmask : BitVec 256
  epoch : BitVec 32
  deriving DecidableEq, Repr, Inhabited

/-- The switching and counting of a context that its registers do not show (R350, R353, R357, R416). -/
structure CtxWork where
  /-- Chosen for switch-out: Spool takes no further node of it. -/
  leaving : Bool
  /-- Kills whose new incarnation has not been acknowledged by every endpoint (R353). -/
  broadcasting : Nat
  /-- The stamp at which the present load or save began, and the cost of the last save. -/
  since : Nat
  saveCost : Nat
  /-- The stale and orphan counts not yet reported by an event (R416). -/
  newStale : Nat
  newOrphan : Nat
  /-- A node has completed since the switch-in; resident in a cycle of the present frame; past its slice only because of its cost or for
  want of a completed node (R357). -/
  nodeDone : Bool
  wasResident : Bool
  extended : Bool
  /-- A reclaim fence is to start once the one under way has completed (R356). -/
  fenceNext : Bool
  /-- One more than the cycle of the last kill: the kills of one cycle are one (R350). -/
  killAt : Nat
  /-- Switch-ins so far (02 R52). -/
  loads : Nat
  deriving DecidableEq, Repr, Inhabited

end Sys2Proof.Machine
end

