-- ==== Sys2Proof/Machine/QueueState.lean ====
section
/-!
DEFINITION. Sys2Proof/Machine/QueueState.lean: hardware work queues (12 R291-R294, R303) and barrier objects (14 R333-R340).
-/

namespace Sys2Proof.Machine

/-- The states of a work queue (R291). -/
inductive QPhase where
  | unbound | active | halted
  deriving DecidableEq, Repr, Inhabited

/-- A reservation of a node on a queue (R294). -/
structure Reservation where
  graph : Nat
  node : Nat
  res : Nat
  occ : Nat
  deriving DecidableEq, Repr, Inhabited

/-- A work queue (R291). The owners are those of the records present, the oldest first: the node, or none (R294). -/
structure WorkQueue where
  vector : BitVec 11
  ctx : BitVec 12
  cls : BitVec 4
  log2sz : BitVec 5
  intr : Bool
  feed : Bool
  phase : QPhase
  qbase : BitVec 56
  head : BitVec 32
  tail : BitVec 32
  commit : BitVec 17
  wdogCnt : BitVec 32
  wdogLim : BitVec 32
  refused : BitVec 32
  drops : BitVec 32
  owners : List (Option (Nat × Nat))
  resv : List Reservation
  /-- The graph of the record that Envelope has taken and that has not finished (R296). -/
  running : Option Nat
  /-- That record (R297). -/
  taken : BitVec 256
  /-- WDOGCNT has reached WDOGLIM at this frame boundary (R311). -/
  expired : Bool
  /-- Sleeping WQPOP words, by package slot, the one that slept first first (R303). -/
  sleepers : List Nat
  deriving DecidableEq, Repr, Inhabited

/-- The states of a barrier (14 R333). -/
inductive BPhase where
  | unbound | armed | broken
  deriving DecidableEq, Repr, Inhabited

/-- A barrier object (14 R333). `arrived` holds the arrival bits, by package slot; `members` the slots of R342. -/
structure Barrier where
  expect : BitVec 9
  ctx : BitVec 12
  ccls : BitVec 4
  team : BitVec 5
  die : BitVec 3
  level : BitVec 2
  phase : BPhase
  clsmask : BitVec 16
  caddr : BitVec 56
  peermask : BitVec 64
  arr : BitVec 9
  gen : BitVec 32
  tmo : BitVec 32
  refused : BitVec 32
  cause : BitVec 8
  arrived : List Nat
  members : List Nat
  /-- System level: the generation has completed locally; peers whose report for it has come; peers whose report for the next is
  held; frames since the local completion (R340). -/
  localDone : Bool
  reports : BitVec 64
  ahead : BitVec 64
  frames : Nat
  /-- Adds at CADDR still owed (R339), and the cycle in which GEN last changed (R341). -/
  adds : Nat
  genAt : Nat
  /-- The peers' reports are overdue at this frame boundary (R335). -/
  overdue : Bool
  deriving DecidableEq, Repr, Inhabited

end Sys2Proof.Machine
end

