-- ==== Sys2Proof/Machine/GroupState.lean ====
section
/-!
DEFINITION. Sys2Proof/Machine/GroupState.lean: the kernel table (04 R93) and the graphs that Spool runs (13 R312-R325).
-/

namespace Sys2Proof.Machine

/-- The fields of a kernel header that dispatch uses (04 R89). -/
structure Header where
  textOff : Nat
  textWords : Nat
  spBytes : Nat
  demand : List Nat
  /-- Trip count and level number of each valid LEVEL entry, the outermost first. -/
  levels : List (Nat × Nat)
  /-- The six TILE rows, each e0 to e3. -/
  tiles : List (List Nat)
  /-- Queue and entries of each valid QDECL entry. -/
  qdecl : List (Nat × Nat)
  deriving DecidableEq, Repr, Inhabited

/-- An entry of Spool's kernel table (R93); `count` 0 is Ready. `used` orders the last dispatches. -/
structure KEntry where
  id : Nat
  base : Nat
  tag : BitVec 18
  header : Header
  count : Nat
  stale : Bool
  used : Nat
  deriving DecidableEq, Repr, Inhabited

/-- The states of a node (13 R317). -/
inductive NodePhase where
  | waiting | due | ready
  /-- Its kernel header is being read and checked (04 R92). -/
  | validating
  | dispatching | draining | issued | evaluating
  | child (graph : Nat)
  | complete
  | failed (code : Nat)
  | halted (code : Nat)
  | dropped
  deriving DecidableEq, Repr, Inhabited

/-- A node of a running graph (13 R313, R317). -/
structure Node where
  raw : BitVec 512
  phase : NodePhase
  /-- Kernel node: its entry and its header; governing level and epoch (R286); tiles, its team, and each die's remaining and static
  ranges (R321, R322). -/
  kentry : Nat
  header : Header
  level : Nat
  epoch : Nat
  tiles : Nat
  team : Option Nat
  ranges : List (Nat × Nat × Nat)
  shares : List (Nat × Nat × Nat)
  /-- The dies that have invalidated the lines of the regions that its edges list (09 R251). -/
  cleared : List Nat
  /-- Running activations, and winch and Tether commands not ended (R318). -/
  active : Nat
  cmds : Nat
  halt : Option Nat
  /-- The cycle in which that HALT completed, and its slot (04 R111). -/
  haltAt : Nat × Nat
  fail : Option Nat
  /-- Loop iterations run (R320). -/
  iter : Nat
  /-- The cycle in which CF first equalled TICK (R325). -/
  dueAt : Option Nat
  deriving DecidableEq, Repr, Inhabited

/-- An edge of a graph (13 R315), and whether it has fired. -/
structure Edge where
  src : Nat
  dst : Nat
  base : Nat
  len : Nat
  fired : Bool
  deriving DecidableEq, Repr, Inhabited

/-- A node that failed or halted, with its code, and the cycle in which it did (R319). -/
structure BadNode where
  failed : Bool
  code : Nat
  cycle : Nat
  node : Nat
  deriving DecidableEq, Repr, Inhabited

/-- A running graph (13 R316, R319). -/
structure Graph where
  root : Nat
  tag : BitVec 18
  /-- The work queue and its record, for a root graph; the control node, for a child. -/
  queue : Option Nat
  parent : Option (Nat × Nat)
  depth : Nat
  nodes : List Node
  edges : List Edge
  launched : Nat
  /-- The first node to fail, or, while none has failed, the first to halt (R319). -/
  firstBad : Option BadNode
  /-- How it ended before any node ran: 0 completed, 1 halted, 2 failed, with the code (R297, R316). -/
  outcome : Option (Nat × Nat)
  /-- A progress event has occurred in the present frame (12 R310). -/
  progress : Bool
  /-- In the present frame: an activation of it did not sleep in WQPOP, or a command of it was incomplete. -/
  awake : Bool
  deriving DecidableEq, Repr, Inhabited

end Sys2Proof.Machine
end

