-- ==== Sys2Proof/Machine/LinkState.lean ====
section
/-!
DEFINITION. Sys2Proof/Machine/LinkState.lean: links, the host endpoint, packets and the wall counter (16), Tether and the
semaphores (17).
-/

namespace Sys2Proof.Machine

/-- The states of a link (16 R363). -/
inductive LinkPhase where
  | down | training | up | degraded | failed
  deriving DecidableEq, Repr, Inhabited

/-- A link (16 R363), and its consecutive failed training attempts (R364) (log 71). -/
structure Link where
  lanes : BitVec 8
  phase : LinkPhase
  corr : BitVec 32
  retrain : BitVec 32
  uncorr : BitVec 32
  nojob : BitVec 32
  disable : Bool
  pdelay : BitVec 32
  attempts : Nat
  deriving DecidableEq, Repr, Inhabited

/-- A window of BAR2 (16 R367). -/
structure Window where
  phys : BitVec 12
  peer : Bool
  en : Bool
  deriving DecidableEq, Repr, Inhabited

/-- The states of the wall counter (16 R380). -/
inductive WallPhase where
  | stopped | free | locked | holdover
  deriving DecidableEq, Repr, Inhabited

/-- The wall counter (16 R380, R381). `frac` is the part of a nanosecond already counted, in units of 1/(2100 * 10^9). -/
structure Wall where
  port : BitVec 4
  en : Bool
  phase : WallPhase
  time : BitVec 64
  adj : BitVec 32
  frac : Nat
  deriving DecidableEq, Repr, Inhabited

/-- A peer-table entry as the hub read it (16 R377). -/
structure Peer where
  faddr : BitVec 64
  portmask : BitVec 8
  keyidx : BitVec 8
  enc : Bool
  swkey : Bool
  rank : BitVec 32
  deriving DecidableEq, Repr, Inhabited

/-- The packet kinds of 16 R373. -/
inductive PacketKind where
  | data | release | fenceReq | fenceConfirm | barrierDone | barrierBreak
  deriving DecidableEq, Repr, Inhabited

/-- A packet this package has sent and whose acknowledgement is outstanding (16 R376): its peer entry, its header fields and its
payload, with the frames it has waited. -/
structure Packet where
  ctx : Nat
  peer : Nat
  /-- The job of the sender's image, and the sender's index in the receiver's peer table (log 9). -/
  job : BitVec 32
  src : Nat
  inc : BitVec 6
  cls : Nat
  stream : Nat
  kind : PacketKind
  arg : Nat
  /-- The command it belongs to: lane and number, for Tether. -/
  cmd : Nat
  payload : List Byte
  frames : Nat
  deriving DecidableEq, Repr, Inhabited

/-- A Tether command in its stream (17 R385). -/
structure TCmd where
  num : Nat
  bytes : BitVec 512
  tag : BitVec 18
  cls : Nat
  /-- The slot or the node that pushed it; none for a parked command. -/
  pusher : Option Pusher
  /-- The start of the pushing slot's activation. -/
  started : Nat
  relReq : Nat
  relCmd : Nat
  deriving DecidableEq, Repr, Inhabited

/-- A running command of a stream or of its trigger lane: the checks of peers that have come, and the codes received from each position
(17 R389-R400). -/
structure TRun where
  cmd : TCmd
  /-- KEY0-KEY3 of the image at its start (R396). -/
  key : BitVec 128
  /-- The wait of R390 is satisfied. -/
  waited : Bool
  /-- The n of R389: how many commands of its TAG have reached the head of the stream. -/
  nth : Nat
  checks : List (Nat × PeerCheck)
  /-- The codes of its local source, once it has read them and sent what its peers need. -/
  source : Option (List Nat)
  /-- The peers to whom it has sent data. -/
  sentTo : List Nat
  /-- Its results stand in its destination. -/
  written : Bool
  /-- A TRIG's wrapped command, once it has been read and checked (17 R405). -/
  wrapped : Option TCmd
  /-- Codes received: position and codes by element index. -/
  received : List (Nat × List (Nat × Nat))
  /-- The data packets taken: sender, stream and class (16 R375). -/
  took : List (Nat × Nat × Nat)
  deriving DecidableEq, Repr, Inhabited

/-- A parked command (17 R405). -/
structure Parked where
  cmd : TCmd
  time : BitVec 64
  deriving DecidableEq, Repr, Inhabited

/-- A Tether stream (17 R382, R383). -/
structure Stream where
  done : BitVec 32
  late : BitVec 16
  refoff : BitVec 16
  semref : BitVec 32
  rate : BitVec 16
  queue : List TCmd
  run : Option TRun
  parked : List Parked
  lane : Option TRun
  /-- Commands with each TAG that have reached the head (R389). -/
  counts : Tab Nat
  cmdNum : Nat
  deriving DecidableEq, Repr, Inhabited

/-- A context's Tether register (17 R384). -/
structure TCtx where
  ndok : Bool
  selfrank : BitVec 32
  deriving DecidableEq, Repr, Inhabited

/-- A package semaphore (17 R392). -/
structure Sem where
  value : BitVec 32
  en : Bool
  mcls : BitVec 4
  ctx : BitVec 12
  mirror : BitVec 56
  /-- A change of VALUE has not yet been written to the mirror (R394). -/
  owed : Bool
  deriving DecidableEq, Repr, Inhabited

/-- A write that has left through the outbound window (16 R368): bus address and bytes. -/
structure BusWrite where
  addr : Nat
  bytes : List Byte
  deriving DecidableEq, Repr, Inhabited

end Sys2Proof.Machine
end

