-- ==== Sys2Proof/Machine/HubState.lean ====
section
/-!
DEFINITION. Sys2Proof/Machine/HubState.lean: what the hub die holds (01 R18): device control, contexts, queues, barriers, Ballast,
Spool, Tether, semaphores, rings, links, and the counters that outlive a reset.
-/

namespace Sys2Proof.Machine

/-- Device control (19 R424, R426). `imageKeys` is what Keel loaded: digest and SEQ of firmware and of bitstream. -/
structure DeviceCtl where
  keelerr : BitVec 8
  diesok : BitVec 5
  service : BitVec 2
  stage : BitVec 4
  devfeat : BitVec 128
  drvfeat : BitVec 128
  agreed : BitVec 128
  /-- A write of DRVFEAT has been accepted (R429). -/
  negotiated : Bool
  current : BitVec 32
  power : BitVec 32
  throttle : BitVec 64
  /-- Matrix k-steps are withheld (R434). -/
  withhold : Bool
  /-- The last sample of a junction's temperature, in degrees. -/
  junction : Nat
  fwDigest : BitVec 256
  fwSeq : BitVec 16
  bsDigest : BitVec 256
  bsSeq : BitVec 16
  /-- COMMIT of the loaded images: MINSEQ is raised at full service. -/
  fwCommit : Bool
  bsCommit : Bool
  /-- The image area of BAR0 (R426), and whether Keel has restarted with the image that stands there. -/
  image : Bytes
  fromHost : Bool
  deriving DecidableEq, Repr, Inhabited

/-- What the non-volatile store and the fuses keep across a reset (18 R423; 19 R425, R431). -/
structure NonVolatile where
  counters : Tab (BitVec 64)
  minFw : BitVec 16
  minBs : BitVec 16
  leaf : BitVec 16
  deriving DecidableEq, Repr, Inhabited

/-- The attestation area of BAR0 (19 R432): the nonce, and the last answer but for its signature. -/
structure Attest where
  nonce : BitVec 256
  /-- The nonce of the request that is being answered. -/
  asked : Option (BitVec 256)
  answered : Bool
  refused : Bool
  ansNonce : BitVec 256
  ansStage : BitVec 4
  ansAgreed : BitVec 128
  ansLeaf : BitVec 16
  ansDigests : BitVec 512
  ansSeqs : BitVec 32
  /-- The leaf under which the answer is signed: the bytes of its signature are free values. -/
  sigNum : Nat
  deriving DecidableEq, Repr, Inhabited

/-- The endpoint (16 R367, R370): OBASE, the windows, the vectors raised, and what has left through the outbound window. -/
structure Endpoint where
  obase : BitVec 23
  windows : Tab Window
  raised : List Nat
  out : List BusWrite
  /-- The MSI-X table as the host wrote it (R370), and what the last read of the host was answered with: none for Unsupported Request. -/
  msix : Bytes
  /-- The pending-bit array: vectors raised while they were masked. -/
  pba : BitVec 2048
  answer : Option (List Byte)
  deriving DecidableEq, Repr, Inhabited

/-- Contexts and the units that follow them. -/
structure CtxUnit where
  regs : Tab Ctx
  work : Tab CtxWork
  /-- CW4-CW15 as read at the last switch-in (15 R347). -/
  soft : Tab (BitVec 768)
  peers : Tab (List Peer)
  tctx : Tab TCtx
  deriving DecidableEq, Repr, Inhabited

/-- Spool (13) and its kernel table (04 R93). `nextId` numbers graphs and entries. -/
structure Spool where
  graphs : Tab Graph
  kernels : Tab KEntry
  /-- Kernel nodes that wait for an entry, in the order in which they arrived (R93). -/
  waiting : List (Nat × Nat)
  nextId : Nat
  dispatches : Nat
  deriving DecidableEq, Repr, Inhabited

/-- The trap and event rings and the fault table (18 R410, R411); the package fault table of walk faults (10 R274) (log 25). -/
structure TrapUnit where
  trap : Ring
  event : Ring
  table : List FaultEntry
  walks : List WalkKey
  nextId : Nat
  deriving DecidableEq, Repr, Inhabited

/-- The hub. -/
structure Hub where
  dev : DeviceCtl
  nv : NonVolatile
  attest : Attest
  /-- The lifetime counters in use (18 R423). -/
  life : Tab (BitVec 64)
  ep : Endpoint
  links : Tab Link
  wall : Wall
  keys : Tab (BitVec 256)
  sent : List Packet
  ctx : CtxUnit
  ballast : Tab PSlot
  queues : Tab WorkQueue
  barriers : Tab Barrier
  spool : Spool
  streams : Tab Stream
  sems : Tab Sem
  traps : TrapUnit
  /-- Frames whose boundary has been taken (12 R310), and temperature samples taken since reset (18 R423). -/
  frame : Nat
  samples : Nat
  deriving DecidableEq, Repr, Inhabited

end Sys2Proof.Machine
end

