-- ==== Sys2Proof/Machine/State.lean ====
section
/-!
DEFINITION. Sys2Proof/Machine/State.lean: the state of the package, the reasons a step can stop, and the state after reset.
INVENTORY.md lists every piece with its rule and its reset value.
-/

namespace Sys2Proof.Machine

/-- Why the machine stops. -/
inductive Fault where
  /-- The operations over physical memory raise it when a register of the hub or an image names a physical address that the map
  of 10 R260 leaves out. Safe: the spec gives such an access no effect. -/
  | noSuchAddress (pa : Nat)
  deriving DecidableEq, Repr, Inhabited

/-- Why an instruction has no meaning here. -/
inductive Refusal where
  /-- Raised by an arm of exec whose instruction has no meaning yet. Safe: the machine stops. -/
  | notModelled (mnemonic : String)
  deriving DecidableEq, Repr, Inhabited

/-- The package (01 R15-R18). -/
structure State where
  /-- The moves to make next, before the free schedule (Move). -/
  agenda : List Move
  /-- How far the present cycle has come: the class of the last event taken in it (State.rank), or the part of the cycle that comes next. -/
  phase : Nat
  /-- Counts the free values taken (log 2). -/
  free : Nat
  /-- The package slot whose word is executed, or the number of the unit at which a package step is made. -/
  cur : Nat
  /-- The access that stops the machine, if one has been made. -/
  stuck : Option Fault
  /-- The stamp counter (01 R20). -/
  stamp : BitVec 64
  /-- How often the stamp counter has wrapped. -/
  wraps : Nat
  slots : Tab Slot
  cores : Tab CoreState
  dies : Tab DieState
  winches : Tab Winch
  /-- Physical memory by byte address (10 R260). -/
  mem : Bytes
  hub : Hub
  deriving DecidableEq, Repr, Inhabited

/-- The view of an engine before an activation: nothing set, no rotation (03 R63). -/
def CtlView.reset : CtlView :=
  { stepno := 0, tensorid := 0, key0 := 0, key1 := 0, key2 := 0, key3 := 0, rrb := 0, rotcfg := 0, tracemode := 0,
    penddbg := false, trapctl := false }

/-- A program counter at word 0, with no position left behind (04 R96). -/
def Counter.reset : Counter :=
  { word := 0, pos := 0, delay := none, guard := none, loops := [], ending := none, ended := false, cycle := 0, left := 0,
    issued := false, stallRun := 0, view := CtlView.reset, deferred := [], copied := [], waiting := none }

/-- A token at reset: ceiling and count 0 (03 R60). -/
def Token.reset : Token := { ceiling := 0, count := 0 }

/-- The registers of a slot at reset (03 R60): every register not listed in its table reads zero (log 5). -/
def Regs.reset : Regs := { g := [], b := [], c := [], v := [], acc := [], k := [], shapes := [], masks := [] }

/-- A slot that has run no activation; the values Dispatch loads are zero until then (log 5). -/
def Activation.reset : Activation :=
  { codebase := 0, codelimit := 0, spbase := 0, splimit := 0, bands := 0, grpid := 0, inctag := 0, wdoglim := 0, prio := 0,
    graph := 0, node := 0, tile := 0 }

def SeqState.reset : SeqState :=
  { pc := Counter.reset, slipw := 256, outq := [], pend := [], locks := [], walls := [], reqs := [], reqNum := 0, acqs := [],
    region := none, votes := [], votesTaken := 0, sleep := none, stalledArrival := false, waitFrom := none, lastWall := 0 }

def VecState.reset : VecState := { pc := Counter.reset, fly := [], votesFormed := 0 }

def MatState.reset : MatState := { pc := Counter.reset, buf := [], run := [], mp := 0, region := none, late := false, waitFrom := none }

def AsyState.reset : AsyState :=
  { pc := Counter.reset, loads := [], stores := [], cmdNum := 0, chans := [], reports := [], cqPushed := 0, cqPopped := 0,
    cq := [], cqOwed := 0 }

/-- An activation slot at package reset: free, with every register at its reset value (03 R60, R63). -/
def Slot.reset : Slot :=
  { busy := false, act := Activation.reset, stop := none, regs := Regs.reset, seq := SeqState.reset, vec := VecState.reset,
    mat := MatState.reset, asy := AsyState.reset, signals := [], remote := [], strays := [], lastCtx := none, seen := [], started := 0, halt := none, mailbox := [], phase := 0,
    comm := false, basePrio := 0, waits := 0, urgent := false, lostAt := 0, grant := 0, extra := 0, withdraw := 0, demand := 0 }

/-- The trace registers and buffer at reset (18 R419). -/
def Trace.reset : Trace :=
  { words := [], ptr := 0, frozen := false, queue := [], hit := none, post := none, matchVal := 0, postCfg := 0, tsel := 0, tkind := 0, tbaddr := 0 }

/-- A core at package reset: every bank records mixed (03 R61), the memories read zero (log 4). -/
def CoreState.reset : CoreState :=
  { scratch := [], banks := [], bankZeroing := [], bstore := [], raced := [], bandCtx := [], bandZeroing := [], bandHolder := [], filter := [],
    vBusy := 0, loadCycle := 0, storeCycle := 0, won := [], sendBuf := [], commq := [], cqEn := false, cqStream := 0,
    icache := [], tlb := [], trace := Trace.reset }

def DieState.reset : DieState := { lines := [], accepted := [], tlb := [], lost := false }

def Winch.reset : Winch := { queue := [], reenc := [], pushes := 0 }

/-- A precision slot of no tensor: the values that INIT of role 7 installs, and LAYER 0 (11 R279, R280). -/
def PSlot.reset : PSlot :=
  { level := 3, role := 7, pin := false, tch := false, run := 0, layer := 0, loth := 0x3D800000, hith := 0x3F800000, hyst := 4,
    nmb := 0, ovlim := 1024, resc := 2, qe := Val.zero, qs := Val.zero, gn := Val.zero, gns := Val.zero, ovc := 0, ufc := 0,
    amax := 0, dscale := 0x7F, lcs := 0, prvlvl := 3, chgep := 0 }

/-- The image fields of a context that has not been created. -/
def Image.reset : Image :=
  { slice := 0, prio := 0, ptroot := 0, gcp := 0, bcount := 0, bfirst := 0, key := 0, tensorid := 0, stepno := 0, peertab := 0,
    job := 0, npeer := 0 }

/-- A context at package reset: Free, at incarnation 0 (15 R346). -/
def Ctx.reset : Ctx :=
  { cimg := 0, priv := false, rclfres := 0, rclf := none, yieldreq := false, phase := .free, outst := 0, inc := 0, stale := 0,
    orphan := 0, refused := 0, swcost := 0, image := Image.reset, foff := 0, cw1 := 0, extcnt := 0, killFrame := 0, kinc := 0,
    kcause := 0, qmask := 0, epoch := 0 }

def CtxWork.reset : CtxWork :=
  { leaving := false, broadcasting := 0, since := 0, saveCost := 0, newStale := 0, newOrphan := 0, nodeDone := false
    wasResident := false, extended := false, fenceNext := false, killAt := 0, loads := 0 }

def WorkQueue.reset : WorkQueue :=
  { vector := 0, ctx := 0, cls := 0, log2sz := 0, intr := false, feed := false, phase := .unbound, qbase := 0, head := 0,
    tail := 0, commit := 0, wdogCnt := 0, wdogLim := 0, refused := 0, drops := 0, owners := [], resv := [], running := none,
    taken := 0, expired := false, sleepers := [] }

def Barrier.reset : Barrier :=
  { expect := 0, ctx := 0, ccls := 0, team := 0, die := 0, level := 0, phase := .unbound, clsmask := 0, caddr := 0,
    peermask := 0, arr := 0, gen := 0, tmo := 0, refused := 0, cause := 0, arrived := [], members := [], localDone := false,
    reports := 0, ahead := 0, frames := 0, adds := 0, genAt := 0, overdue := false }

def Ring.reset : Ring :=
  { base := 0, vector := 0, log2n := 0, killf := false, intr := false, en := false, tail := 0, head := 0, lost := 0 }

def Link.reset : Link :=
  { lanes := 0, phase := .down, corr := 0, retrain := 0, uncorr := 0, nojob := 0, disable := false, pdelay := 0, attempts := 0 }

def Window.reset : Window := { phys := 0, peer := false, en := false }

def Wall.reset : Wall := { port := 0, en := false, phase := .stopped, time := 0, adj := 0, frac := 0 }

def Stream.reset : Stream :=
  { done := 0, late := 0, refoff := 0, semref := 0, rate := 0, queue := [], run := none, parked := [], lane := none, counts := [],
    cmdNum := 0 }

def TCtx.reset : TCtx := { ndok := false, selfrank := 0 }

def Sem.reset : Sem := { value := 0, en := false, mcls := 0, ctx := 0, mirror := 0, owed := false }

/-- Device control at package reset: stage 0 (19 R424, R426). -/
def DeviceCtl.reset : DeviceCtl :=
  { keelerr := 0, diesok := 0, service := 0, stage := 0, devfeat := 0, drvfeat := 0, agreed := 0, negotiated := false,
    current := 0, power := 0, throttle := 0, withhold := false, junction := 0, fwDigest := 0, fwSeq := 0, bsDigest := 0, bsSeq := 0,
    fwCommit := false, bsCommit := false, image := [], fromHost := false }

/-- The non-volatile store of a package that has never run (log 6). -/
def NonVolatile.reset : NonVolatile := { counters := [], minFw := 0, minBs := 0, leaf := 0 }

def Attest.reset : Attest :=
  { nonce := 0, asked := none, answered := false, refused := false, ansNonce := 0, ansStage := 0, ansAgreed := 0, ansLeaf := 0, ansDigests := 0,
    ansSeqs := 0, sigNum := 0 }

/-- The hub at package reset: every register at the Reset column of its table. -/
def Hub.reset : Hub :=
  { dev := DeviceCtl.reset, nv := NonVolatile.reset, attest := Attest.reset, life := [],
    ep := { obase := 0, windows := [], raised := [], out := [], msix := [], pba := 0, answer := none }, links := [], wall := Wall.reset, keys := [], sent := [],
    ctx := { regs := [], work := [], soft := [], peers := [], tctx := [] }, ballast := [], queues := [], barriers := [],
    spool := { graphs := [], kernels := [], waiting := [], nextId := 0, dispatches := 0 }, streams := [], sems := [],
    traps := { trap := Ring.reset, event := Ring.reset, table := [], walks := [], nextId := 0 }, frame := 0, samples := 0 }

/-- The package right after reset: every unit at its reset value, every memory reading zero (log 4), the stamp counter at zero
(01 R20). No program is loaded: the log says how one comes to run (log 3). -/
def State.reset : State :=
  { agenda := [], phase := 0, free := 0, cur := 0, stuck := none, stamp := 0, wraps := 0, slots := [], cores := [], dies := [], winches := [], mem := [],
    hub := Hub.reset }

/-- The slot of a package slot number; a slot that is not listed is as at reset. -/
def State.slot (s : State) (n : Nat) : Slot := Tab.get Slot.reset s.slots n

/-- The core of a package core number. -/
def State.core (s : State) (n : Nat) : CoreState := Tab.get CoreState.reset s.cores n

def State.die (s : State) (n : Nat) : DieState := Tab.get DieState.reset s.dies n

def State.winch (s : State) (n : Nat) : Winch := Tab.get Winch.reset s.winches n

def State.ctx (s : State) (n : Nat) : Ctx := Tab.get Ctx.reset s.hub.ctx.regs n

def State.ctxWork (s : State) (n : Nat) : CtxWork := Tab.get CtxWork.reset s.hub.ctx.work n

def State.pslot (s : State) (n : Nat) : PSlot := Tab.get PSlot.reset s.hub.ballast n

def State.queue (s : State) (n : Nat) : WorkQueue := Tab.get WorkQueue.reset s.hub.queues n

def State.barrier (s : State) (n : Nat) : Barrier := Tab.get Barrier.reset s.hub.barriers n

def State.link (s : State) (n : Nat) : Link := Tab.get Link.reset s.hub.links n

def State.stream (s : State) (n : Nat) : Stream := Tab.get Stream.reset s.hub.streams n

def State.sem (s : State) (n : Nat) : Sem := Tab.get Sem.reset s.hub.sems n

/-- Change a slot. -/
def State.modSlot (n : Nat) (f : Slot → Slot) (s : State) : State := { s with slots := s.slots.put n (f (s.slot n)) }

def State.modCore (n : Nat) (f : CoreState → CoreState) (s : State) : State := { s with cores := s.cores.put n (f (s.core n)) }

def State.modDie (n : Nat) (f : DieState → DieState) (s : State) : State := { s with dies := s.dies.put n (f (s.die n)) }

def State.modWinch (n : Nat) (f : Winch → Winch) (s : State) : State :=
  { s with winches := s.winches.put n (f (s.winch n)) }

def State.modHub (f : Hub → Hub) (s : State) : State := { s with hub := f s.hub }

def State.modCtx (n : Nat) (f : Ctx → Ctx) (s : State) : State :=
  s.modHub fun h => { h with ctx := { h.ctx with regs := h.ctx.regs.put n (f (s.ctx n)) } }

def State.modCtxWork (n : Nat) (f : CtxWork → CtxWork) (s : State) : State :=
  s.modHub fun h => { h with ctx := { h.ctx with work := h.ctx.work.put n (f (s.ctxWork n)) } }

def State.modPslot (n : Nat) (f : PSlot → PSlot) (s : State) : State :=
  s.modHub fun h => { h with ballast := h.ballast.put n (f (s.pslot n)) }

def State.modQueue (n : Nat) (f : WorkQueue → WorkQueue) (s : State) : State :=
  s.modHub fun h => { h with queues := h.queues.put n (f (s.queue n)) }

def State.modBarrier (n : Nat) (f : Barrier → Barrier) (s : State) : State :=
  s.modHub fun h => { h with barriers := h.barriers.put n (f (s.barrier n)) }

def State.modLink (n : Nat) (f : Link → Link) (s : State) : State :=
  s.modHub fun h => { h with links := h.links.put n (f (s.link n)) }

def State.modStream (n : Nat) (f : Stream → Stream) (s : State) : State :=
  s.modHub fun h => { h with streams := h.streams.put n (f (s.stream n)) }

def State.modSem (n : Nat) (f : Sem → Sem) (s : State) : State :=
  s.modHub fun h => { h with sems := h.sems.put n (f (s.sem n)) }

def State.modTraps (f : TrapUnit → TrapUnit) (s : State) : State := s.modHub fun h => { h with traps := f h.traps }

def State.modSpool (f : Spool → Spool) (s : State) : State := s.modHub fun h => { h with spool := f h.spool }

end Sys2Proof.Machine
end

