-- ==== Sys2Proof/Machine/Ops.lean ====
section
/-!
DEFINITION. Sys2Proof/Machine/Ops.lean: the shared operations: physical memory, register files, records and traps (taking an
exception and what follows it), the trace buffer, and leaving a position.
-/

namespace Sys2Proof.Machine

/-! ### Numbers of parts (01 R23) -/

def coreOf (slot : Nat) : Nat := slot / 2
def sideOf (slot : Nat) : Nat := slot % 2
def dieOf (slot : Nat) : Nat := slot / 80
def dieOfCore (core : Nat) : Nat := core / 40
def otherSlot (slot : Nat) : Nat := if slot % 2 = 0 then slot + 1 else slot - 1

/-- The context number and the incarnation of a context tag (R63). -/
def ctxOf (tag : BitVec 18) : Nat := tag.toNat / 64
def incOf (tag : BitVec 18) : Nat := tag.toNat % 64
def mkTag (ctx inc : Nat) : BitVec 18 := BitVec.ofNat 18 (ctx * 64 + inc % 64)

/-- The tag under which a context now runs (15 R350). -/
def State.tagOf (s : State) (c : Nat) : BitVec 18 := mkTag c (s.ctx c).inc.toNat

/-- A tag is current when its context holds its incarnation, and is neither Free nor Held (15 R350, R353). -/
def State.live (s : State) (tag : BitVec 18) : Bool :=
  (s.ctx (ctxOf tag)).phase != .free && (s.ctx (ctxOf tag)).phase != .held && (s.ctx (ctxOf tag)).inc.toNat == incOf tag

/-- The context takes up new work: it is resident, and no kill of it is being installed (15 R350, R353). -/
def State.runs (s : State) (c : Nat) : Bool := (s.ctx c).phase == .resident && (s.ctxWork c).broadcasting == 0

/-- The dies whose parts exist for software: CD0 alone in reduced service (01 R25). -/
def State.diePresent (s : State) (d : Nat) : Bool :=
  decide (d < if s.hub.dev.service = 2 then 4 else 1) && !(s.die d).lost

/-- The present cycle, counted on where the stamp counter wraps (01 R20). -/
def State.now (s : State) : Nat := s.wraps * 2 ^ 64 + s.stamp.toNat

/-- The next value the spec leaves open (log 2). -/
def State.takeFree (s : State) : Nat × State := (Config.freeNat s.free, { s with free := s.free + 1 })

/-! ### Physical memory (10 R260) -/

/-- What a physical address reaches. -/
inductive PaKind where
  | hbm | tier | window | hole
  deriving DecidableEq, Repr

/-- The end of the HBM that exists for software: two stacks for each die in service (01 R25). -/
def State.hbmEnd (s : State) : Nat := if s.hub.dev.service = 2 then 0x6000000000 else 0x1800000000

/-- The map of R260 (log 11). -/
def State.paKind (s : State) (pa : Nat) : PaKind :=
  if pa < s.hbmEnd then .hbm
  else if 0x10000000000 ≤ pa ∧ pa < 0x20000000000 then .tier
  else if 0x20000000000 ≤ pa ∧ pa < 0x40000000000 then .window
  else .hole

/-- A link carries traffic (16 R363). -/
def State.linkUp (s : State) (l : Nat) : Bool := (s.link l).phase == .up || (s.link l).phase == .degraded

/-- Link 8 carries traffic (16 R371). -/
def State.hostUp (s : State) : Bool := s.linkUp 8

/-- The parts that one more link of those that a test names joins to a list of parts: dies 0 to 3, and 4 for the hub (16 R362). -/
def routeMore (up : Nat → Bool) (ps : List Nat) : List Nat :=
  (rangeFrom 0 5).filter fun p =>
    ps.contains p
    || (if p = 4 then (rangeFrom 0 4).any fun d => up d && ps.contains d
        else (up p && ps.contains 4) || (up (4 + p) && ps.contains ((p + 1) % 4)) || (up (4 + (p + 3) % 4) && ps.contains ((p + 3) % 4)))

/-- The parts that a route over the links of a test joins to a part (16 R365). -/
def routeFrom (up : Nat → Bool) (p : Nat) : List Nat := routeMore up (routeMore up (routeMore up (routeMore up [p])))

/-- The part that serves a physical address: the die of an HBM stack, or the hub. -/
def homePart (pa : Nat) : Nat := if pa < 0x6000000000 then pa / 0x1800000000 else 4

/-- A request of a part can go to the home of a physical address and back now (16 R364, R365): one that cannot is held (log 71). -/
def State.reaches (s : State) (p pa : Nat) : Bool := homePart pa == p || (routeFrom s.linkUp p).contains (homePart pa)

/-- Stop the machine at an access to an address that does not exist (log 11). -/
def State.stickAt (s : State) (pa : Nat) : State := { s with stuck := some (s.stuck.getD (.noSuchAddress pa)) }

/-- Bytes that come from outside the package: free values (log 2). -/
def State.freeBytes (s : State) : Nat → List Byte × State
  | 0 => ([], s)
  | n + 1 =>
    let (v, s) := s.takeFree
    let (t, s) := State.freeBytes s n
    (BitVec.ofNat 8 v :: t, s)

/-- Read `n` bytes at a physical address. A window read returns what the far side holds (16 R368) (log 23). -/
def State.physRead (s : State) (pa n : Nat) : List Byte × State :=
  match s.paKind pa with
  | .window => s.freeBytes n
  | .hole => (Bytes.readN [] 0 n, s.stickAt pa)
  | _ => (s.mem.readN pa n, s)

/-- Write bytes at a physical address. A window write leaves through the endpoint (16 R368), or is dropped while the link is down
(R371) (log 23). -/
def State.physWrite (s : State) (pa : Nat) (bs : List Byte) : State :=
  match s.paKind pa with
  | .window =>
    if s.hostUp then
      s.modHub fun h =>
        { h with ep := { h.ep with out := h.ep.out ++ [⟨h.ep.obase.toNat * 2 ^ 41 + (pa - 0x20000000000), bs⟩] } }
    else s
  | .hole => s.stickAt pa
  | _ => { s with mem := s.mem.writeN pa bs }

/-- A number of `n` bytes at an HBM or second-tier address. -/
def State.memNat (s : State) (pa n : Nat) : Nat := ofBytes (s.mem.readN pa n)

/-! ### Interrupts and lifetime counters -/

/-- A byte of the MSI-X table as PCI Express lays it out: sixteen bytes for a vector, with its mask bit in byte 12, which is set at reset; the
endpoint holds what the host has changed (log 75). -/
def msixReset (a : Nat) : Byte := if a % 16 = 12 then 1 else 0
def Endpoint.msixByte (e : Endpoint) (a : Nat) : Byte := e.msix.read a ^^^ msixReset a
def Endpoint.masked (e : Endpoint) (v : Nat) : Bool := (e.msixByte (16 * v + 12)).getLsbD 0

/-- Raise an MSI-X vector (16 R370): it is sent, or pends while it is masked (log 75). -/
def State.raiseVector (s : State) (v : Nat) : State :=
  s.modHub fun h =>
    { h with ep :=
        if h.ep.masked v then { h.ep with pba := h.ep.pba ||| BitVec.ofNat 2048 (2 ^ v) } else { h.ep with raised := h.ep.raised ++ [v] } }

/-- Add to a lifetime counter, saturating (18 R423). -/
def State.bumpLife (s : State) (i n : Nat) : State :=
  s.modHub fun h => { h with life := h.life.put i (BitVec.ofNat 64 (min (2 ^ 64 - 1) ((Tab.get 0 h.life i).toNat + n))) }

/-- Add to a saturating 32-bit counter. -/
def satAdd32 (x : BitVec 32) (n : Nat) : BitVec 32 := BitVec.ofNat 32 (min (2 ^ 32 - 1) (x.toNat + n))

/-! ### Counts of a context (15 R346; 18 R416) -/

/-- Requests found stale (15 R353): STALE grows, and its event at the frame boundary. An item of a Free context is counted nowhere. -/
def State.countStale (s : State) (c n : Nat) : State :=
  if (s.ctx c).phase = .free then s
  else (s.modCtx c fun x => { x with stale := satAdd32 x.stale n }).modCtxWork c fun w => { w with newStale := w.newStale + n }

/-- Orphans: responses, messages and writes of a dead incarnation or of a failed target. -/
def State.countOrphan (s : State) (c n : Nat) : State :=
  if (s.ctx c).phase = .free then s
  else (s.modCtx c fun x => { x with orphan := satAdd32 x.orphan n }).modCtxWork c fun w => { w with newOrphan := w.newOrphan + n }

/-! ### The trace buffer (18 R417-R419) -/

/-- Write one word at TBPTR, counting down the words after a trigger. The result says whether the buffer wrapped. -/
def Trace.push (t : Trace) (w : BitVec 64) : Trace :=
  if t.frozen then t
  else
    let t' : Trace := { t with words := t.words.put t.ptr w, ptr := (t.ptr + 1) % 8192 }
    match t.post with
    | some r => if r.left = 0 then t else { t' with post := some { r with left := r.left - 1 } }
    | none => t'

/-- The first word of an entry (R417). -/
def traceHead (ty side : Nat) (e : Engine) (widx data : Nat) : BitVec 64 :=
  BitVec.ofNat 64 (ty * 2 ^ 59 + side * 2 ^ 58 + e.tag * 2 ^ 56 + (widx % 2 ^ 24) * 2 ^ 32 + data % 2 ^ 32)

/-- Does the trigger watch this slot? -/
def Trace.watches (t : Trace) (side : Nat) : Bool := t.tsel.toNat == side || t.tsel.toNat == 2

/-- An item for the trace buffer of a core; the end of the cycle writes it (R417) (log 17). -/
def State.traceItem (s : State) (core : Nat) (i : TraceItem) : State :=
  s.modCore core fun c => { c with trace := { c.trace with queue := c.trace.queue ++ [i] } }

/-- An engine of a slot meets a trigger condition of its core's buffer with no entry of its own (R419). -/
def State.traceHit (s : State) (slot : Nat) (e : Engine) (kind : Nat) : State := s.traceItem (coreOf slot) ⟨sideOf slot, e, [], kind⟩

/-- The words of an entry: its head, and the second word of START and INPUT, or the stamp in full mode (R417). -/
def traceWords (head : BitVec 64) (mode : Nat) (second : Option (BitVec 64)) (stamp : BitVec 64) : List (BitVec 64) :=
  match second with
  | some w => [head, w]
  | none => if mode = 1 then [head, stamp] else [head]

/-- A trace entry of a slot, where its trace mode admits it (R417, R418). `modes` is 1 full only, 2 deterministic only, 3 both;
`second` is the second word of START and INPUT; a TRAP entry is a trigger condition (R419). -/
def State.traceEntry (s : State) (slot : Nat) (e : Engine) (mode : Nat) (modes ty widx data : Nat) (second : Option (BitVec 64)) :
    State :=
  if mode = 0 ∨ mode = 3 ∨ (modes ≠ 3 ∧ modes ≠ mode) then s
  else
    s.traceItem (coreOf slot)
      ⟨sideOf slot, e, traceWords (traceHead ty (sideOf slot) e widx data) mode second s.stamp, if ty = 11 then 3 else 0⟩

/-! ### Program counters of a slot -/

def Slot.counter (sl : Slot) : Engine → Counter
  | .S => sl.seq.pc
  | .V => sl.vec.pc
  | .M => sl.mat.pc
  | .A => sl.asy.pc

def Slot.setCounter (sl : Slot) (e : Engine) (c : Counter) : Slot :=
  match e with
  | .S => { sl with seq := { sl.seq with pc := c } }
  | .V => { sl with vec := { sl.vec with pc := c } }
  | .M => { sl with mat := { sl.mat with pc := c } }
  | .A => { sl with asy := { sl.asy with pc := c } }

/-- The trace mode an engine of a slot sees at its position (R126, R417). -/
def Slot.traceMode (sl : Slot) (e : Engine) : Nat := (sl.counter e).view.tracemode.toNat

/-- A trace entry at the word an engine stands at (log 17). -/
def State.traceAt (s : State) (slot : Nat) (e : Engine) (modes ty data : Nat) (second : Option (BitVec 64)) : State :=
  let sl := s.slot slot
  s.traceEntry slot e (sl.traceMode e) modes ty (sl.counter e).word data second

/-- An INPUT entry for a g result that is not a function of the slot's state (R418) (log 18). -/
def State.traceInput (s : State) (slot reg : Nat) (v : Reg) : State := s.traceAt slot .S 2 9 reg (some v)

/-! ### Records, traps and events (18 R408-R415) -/

/-- All ones in a field that does not apply (R408). -/
def naWord : Nat := 2 ^ 24 - 1
def naCursor : Nat := 2 ^ 64 - 1

/-- The ENGINE field of R408. -/
def Raiser.engine : Raiser → Nat
  | .slot _ e => e.tag
  | .winch _ => 4
  | .tether _ => 5
  | .hub => 6
  | .spool => 7

/-- The SLOT field of R408. -/
def Raiser.slotField : Raiser → Nat
  | .slot n _ => n
  | .winch n => n
  | .tether n => n
  | _ => 1023

/-- The word index that a record holds for an engine. -/
def Record.widx (r : Record) : Engine → Nat
  | .S => r.widxS
  | .V => r.widxV
  | .M => r.widxM
  | .A => r.widxA

/-- The 512 bits of a record (R408). -/
def Record.bits (r : Record) (seq : Nat) (pending : Bool) : Nat :=
  (match r.tag with | some t => t.toNat | none => 0)
  + r.who.slotField % 1024 * 2 ^ 18 + r.who.engine * 2 ^ 28 + r.code % 256 * 2 ^ 32 + bitN r.warn * 2 ^ 40
  + bitN r.tag.isNone * 2 ^ 41 + bitN pending * 2 ^ 42 + seq % 2 ^ 16 * 2 ^ 48
  + r.widxS % 2 ^ 24 * 2 ^ 64 + r.widxV % 2 ^ 24 * 2 ^ 88 + r.widxM % 2 ^ 24 * 2 ^ 112 + r.widxA % 2 ^ 24 * 2 ^ 136
  + r.stamp % 2 ^ 64 * 2 ^ 192 + r.cursor % 2 ^ 64 * 2 ^ 256 + r.addr % 2 ^ 64 * 2 ^ 320 + r.status % 2 ^ 64 * 2 ^ 384

/-- A ring takes a record: enabled, with room (R411). -/
def Ring.admits (r : Ring) : Bool := r.en && decide ((r.tail - r.head).toNat < 2 ^ r.log2n.toNat)

/-- Write a record to a ring (R411), with its interrupt. -/
def State.ringWrite (s : State) (trap : Bool) (body : Record) (pending : Bool) : State :=
  let r := if trap then s.hub.traps.trap else s.hub.traps.event
  let at_ := r.base.toNat + 64 * (r.tail.toNat % 2 ^ r.log2n.toNat)
  let s := s.physWrite at_ (toBytes 64 (body.bits (r.tail.toNat % 2 ^ 16) pending))
  let r' := { r with tail := r.tail + 1 }
  let s := s.modTraps fun t => if trap then { t with trap := r' } else { t with event := r' }
  let s := if r.intr then s.raiseVector r.vector.toNat else s
  match body.who with
  | .slot n e =>
    if trap then s.traceEntry n e body.mode 3 11 (body.widx e) (r.tail.toNat % 2 ^ 16 + body.code * 2 ^ 16) none else s
  | _ => s

/-- Is the record of an entry one that waits for its resolution when it is written (R413)? -/
def resumableCode (code : Nat) (walk : Bool) : Bool :=
  code == 0x05 || code == 0x11 || code == 0x12 || ((code == 0x08 || code == 0x09) && walk)

/-- The PENDING bit of a fatal record of an agent (R413). -/
def Record.pends (r : Record) (walk : Bool) : Bool :=
  match r.who with
  | .slot _ _ => true
  | .winch _ => resumableCode r.code walk
  | _ => false

/-- An event is written, or counted as lost (R411, R415) (log 40). -/
def State.writeEvent (s : State) (body : Record) : State :=
  if s.hub.traps.event.admits then s.ringWrite false body false
  else s.modTraps fun t => { t with event := { t.event with lost := satAdd32 t.event.lost 1 } }

/-- A record that is not an activation's. -/
def State.unitRecord (s : State) (code : Nat) (who : Raiser) (tag : Option (BitVec 18)) (status addr cursor : Nat) : Record :=
  { code := code, who := who, tag := tag, warn := false, pending := false, status := status, addr := addr, cursor := cursor,
    stamp := s.now, mode := 0, widxS := naWord, widxV := naWord, widxM := naWord, widxA := naWord }

/-! ### Nodes of a graph (13 R313, R317-R319) -/

def Node.kind (n : Node) : Nat := field n.raw.toNat 7 0
def Node.timed (n : Node) : Bool := bitAt n.raw.toNat 8
def Node.tick (n : Node) : Nat := field n.raw.toNat 369 320

/-- The node runs: Spool has taken it, and it has not ended. -/
def NodePhase.running : NodePhase → Bool
  | .validating => true
  | .dispatching => true
  | .draining => true
  | .issued => true
  | .evaluating => true
  | .child _ => true
  | _ => false

def State.graph (s : State) (g : Nat) : Option Graph := Tab.find s.hub.spool.graphs g

def State.modGraph (s : State) (g : Nat) (f : Graph → Graph) : State :=
  match s.graph g with
  | some x => s.modSpool fun p => { p with graphs := p.graphs.put g (f x) }
  | none => s

def State.modNode (s : State) (g n : Nat) (f : Node → Node) : State :=
  s.modGraph g fun x => { x with nodes := match x.nodes[n]? with | some y => setAt x.nodes n (f y) | none => x.nodes }

def State.nodeAt (s : State) (g n : Nat) : Option Node := (s.graph g).bind fun x => x.nodes[n]?

/-- A graph has an incomplete command in the present frame (12 R310). -/
def State.graphBusy (s : State) (graph : Nat) : State := s.modGraph graph fun g => { g with awake := true }

/-- A command is pushed for a node, by an activation of it or by the node itself (13 R318). -/
def State.nodeCommand (s : State) (g n : Nat) : State := (s.modNode g n fun y => { y with cmds := y.cmds + 1 }).graphBusy g

/-- A progress event of a graph (12 R310). -/
def State.progress (s : State) (graph : Nat) : State := s.modGraph graph fun g => { g with progress := true }

/-- The context frame CF (13 R324). -/
def State.contextFrame (s : State) (c : Nat) : Int := (s.now / 2 ^ 14 : Nat) - (s.ctx c).foff.toNat

/-- The last incoming edge of a Waiting node has fired (R317): it is Ready, or Due at its tick; one that is Ready late records its slip
(R325) (log 55). -/
def State.releaseNode (s : State) (g n : Nat) : State :=
  match s.graph g, s.nodeAt g n with
  | some x, some y =>
    if y.phase ≠ .waiting ∨ x.edges.any (fun e => e.dst == n && !e.fired) = true then s
    else if y.timed ∧ s.contextFrame (ctxOf x.tag) < y.tick then s.modNode g n fun y => { y with phase := .due }
    else
      let s := s.modNode g n fun y => { y with phase := .ready }
      let due := max x.launched (y.dueAt.getD x.launched)
      if y.timed ∧ due < s.now then
        s.writeEvent { s.unitRecord 0x81 .spool (some x.tag) n x.root (s.now - due) with warn := false }
      else s
  | _, _ => s

/-- A queue without the reservation of a node that has ended (12 R294) (log 55). -/
def WorkQueue.release (q : WorkQueue) (g n : Nat) : WorkQueue :=
  let mine (r : Reservation) : Bool := r.graph == g && r.node == n
  { q with
    commit := BitVec.ofNat 17 (q.commit.toNat - ((q.resv.filter mine).map fun r => r.res - r.occ).foldl (· + ·) 0)
    resv := q.resv.filter fun r => !mine r
    owners := q.owners.map fun o => if o = some (g, n) then none else o }

/-- A node ends (R317, R319): its reservations end, a failure or a halt makes its graph ending, and a completion fires its edges (log 55). -/
def State.nodeEnds (s : State) (g n : Nat) (ph : NodePhase) : State :=
  let s := s.modNode g n fun y => { y with phase := ph }
  let s := s.modHub fun h => { h with queues := h.queues.map fun (k, q) => (k, q.release g n) }
  let bad (f : Bool) (c : Nat) (s : State) : State :=
    s.modGraph g fun x =>
      let b : BadNode := ⟨f, c, s.now, n⟩
      { x with firstBad := match x.firstBad with
          | none => some b
          | some o => if (f && !o.failed) || (f == o.failed && o.cycle == s.now && decide (n < o.node)) then some b else some o }
  match ph with
  | .failed c => bad true c s
  | .halted c => bad false c s
  | .complete =>
    let s := match s.graph g with
      | some x => s.modCtxWork (ctxOf x.tag) fun w => { w with nodeDone := true }
      | none => s
    let s := (s.progress g).modGraph g fun x => { x with edges := x.edges.map fun e => if e.src = n then { e with fired := true } else e }
    match s.graph g with
    | some x => (x.edges.filter fun e => e.src == n).foldl (fun s e => s.releaseNode g e.dst) s
    | none => s
  | _ => s

/-- A draining node whose activations and commands have all ended ends (R317, R318) (log 55). -/
def State.settleNode (s : State) (g n : Nat) : State :=
  match s.nodeAt g n with
  | some y =>
    if y.phase = .draining ∧ y.active = 0 ∧ y.cmds = 0 then
      s.nodeEnds g n (match y.fail, y.halt with
        | some c, _ => .failed c
        | none, some c => .halted c
        | none, none => .complete)
    else s
  | none => s

/-- A command that a node pushed, itself or by an activation, ends: with the fault that ended it, the node fails. -/
def State.nodeCmdEnd (s : State) (g n : Nat) (fault : Option Nat) : State :=
  match s.nodeAt g n with
  | some y =>
    if y.phase = .issued then s.nodeEnds g n (match fault with | some c => .failed c | none => .complete)
    else
      ((s.progress g).modNode g n fun y =>
        { y with
          cmds := y.cmds - 1, fail := match y.fail with | some c => some c | none => fault
          phase := if y.phase = .dispatching ∧ fault.isSome = true then .draining else y.phase }).settleNode g n
  | none => s

/-- How a graph ended, if it has (R297, R319): 0 completed, 1 halted, 2 failed, with the code. -/
def Graph.result (x : Graph) : Option (Nat × Nat) :=
  match x.outcome, x.firstBad with
  | some r, _ => some r
  | none, some b => if x.nodes.any (fun n => n.phase.running) then none else some (if b.failed then 2 else 1, b.code)
  | none, none => if x.nodes.all (fun n => n.phase == .complete) then some (0, 0) else none

/-! ### Commands of winches as their records see them (08 R224; R413) -/

/-- The node that a command was pushed for. -/
def Pusher.home : Pusher → Nat × Nat
  | .slot _ _ g n => (g, n)
  | .node g n => (g, n)

/-- A winch command leaves its winch, complete or ended by a fault. -/
def State.endWinchCmd (s : State) (w num : Nat) (fault : Option Nat) : State :=
  match (s.winch w).queue.find? (fun c => c.num == num) with
  | none => s
  | some c =>
    let s := s.modWinch w fun x => { x with queue := x.queue.filter fun d => d.num != num }
    s.nodeCmdEnd c.pusher.home.1 c.pusher.home.2 fault

/-! ### The fault table (R411) -/

/-- The record is of a final class and something is still to be resolved with it once it is written: its winch command, or the accesses
that joined its walk (10 R274; R413). -/
def FaultEntry.endsAtWriting (f : FaultEntry) : Bool := !f.body.pending && !f.resolved && (f.winchCmd.isSome || f.walk.isSome)

/-- The first fatal record that waits in the fault table, if its ring admits it, is written (R411). The table holds 256 records; those
past them wait outside it (log 25). -/
def State.writeFirst (s : State) : State :=
  match (s.hub.traps.table.take 256).find? (fun f => f.seq.isNone) with
  | none => s
  | some f =>
    if s.hub.traps.trap.admits then
      let seq := s.hub.traps.trap.tail.toNat % 2 ^ 16
      let pend := f.body.pending && !f.resolved
      let s := s.ringWrite true f.body pend
      s.modTraps fun t =>
        if pend || f.endsAtWriting then
          { t with table := mapFirst (fun g => g.id == f.id) (fun g => { g with seq := some seq }) t.table }
        else { t with table := dropFirst (fun g => g.id == f.id) t.table }
    else s

/-- Write the waiting fatal records that came before a warning (R411, R412) (log 25). -/
def State.writeWaiting : Nat → State → State
  | 0, s => s
  | n + 1, s => State.writeWaiting n s.writeFirst

/-- A warning is written, or counted as lost (R411, R414). -/
def State.writeWarning (s : State) (body : Record) : State :=
  let s := State.writeWaiting s.hub.traps.table.length s
  let s := s.bumpLife (64 + body.code) 1
  if s.hub.traps.trap.admits then s.ringWrite true body false
  else s.modTraps fun t => { t with trap := { t.trap with lost := satAdd32 t.trap.lost 1 } }

/-- A fatal record enters the hub's fault table (R411) (logs 24 and 25). -/
def State.enterFault (s : State) (body : Record) (winchCmd : Option (Nat × Nat)) (walk : Option WalkKey) : Nat × State :=
  let id := s.hub.traps.nextId
  let s := s.bumpLife (64 + body.code) 1
  (id, s.modTraps fun t =>
    { t with nextId := id + 1, table := t.table ++ [⟨id, { body with pending := body.pends walk.isSome }, none, winchCmd, walk, false⟩] })

/-- The record of an activation: the four word indices are those of its counters, but for the word the cause names (R100, R408) (log 14). -/
def State.slotRecord (s : State) (slot : Nat) (e : Engine) (code status addr cursor : Nat) (named : Option Nat) (warn : Bool) : Record :=
  let sl := s.slot slot
  let w (x : Engine) : Nat := if x = e then named.getD (sl.counter x).word else (sl.counter x).word
  { code := code, who := .slot slot e, tag := some sl.act.inctag, warn := warn, pending := false, status := status, addr := addr,
    cursor := cursor, stamp := s.now, mode := sl.traceMode e, widxS := w .S, widxV := w .V, widxM := w .M, widxA := w .A }

/-- A fatal trap of an activation (R100, R412): its counters freeze where they stand, and its record enters the fault table. A slot
that is stopped already raises nothing more (log 14). -/
def State.raiseTrap (s : State) (slot : Nat) (e : Engine) (code status addr cursor : Nat) (named : Option Nat)
    (walk : Option WalkKey) : State :=
  if (s.slot slot).stop.isSome then s
  else
    let (id, s) := s.enterFault (s.slotRecord slot e code status addr cursor named false) none walk
    s.modSlot slot fun sl => { sl with stop := some ⟨id, e, code, false⟩ }

/-- A fatal trap with no address, cursor or other word named. -/
def State.trapAt (s : State) (slot : Nat) (e : Engine) (code status addr : Nat) : State :=
  s.raiseTrap slot e code status addr naCursor none none

/-- A fault of a unit of the hub or of Spool for a context (R413); one of a walk enters the fault table under its key (10 R274). -/
def State.hubWalkFault (s : State) (who : Raiser) (code : Nat) (tag : BitVec 18) (status addr : Nat) (walk : Option WalkKey) : State :=
  let s := s.modTraps fun t => { t with walks := t.walks ++ walk.toList }
  (s.enterFault (s.unitRecord code who (some tag) status addr naCursor) none walk).2

def State.hubFault (s : State) (who : Raiser) (code : Nat) (tag : BitVec 18) (status addr : Nat) : State :=
  s.hubWalkFault who code tag status addr none

/-! ### Fault codes (18 R409) -/

def fILLEGAL : Nat := 0x01
def fCODEBOUND : Nat := 0x02
def fSPBOUND : Nat := 0x03
def fALIGN : Nat := 0x04
def fEARLYREAD : Nat := 0x05
def fTOKENCEIL : Nat := 0x06
def fSCHEDMISS : Nat := 0x07
def fTRANSLATION : Nat := 0x08
def fPERMISSION : Nat := 0x09
def fENCODING : Nat := 0x0A
def fMCASTPART : Nat := 0x0B
def fQUEUEFULL : Nat := 0x0C
def fBARRIERBROKEN : Nat := 0x0D
def fWATCHDOG : Nat := 0x0E
def fLINK : Nat := 0x0F
def fSWTRAP : Nat := 0x10
def fBREAKPOINT : Nat := 0x11
def fKEYREUSE : Nat := 0x12

/-! ### Leaving a position (04 R96, R101, R105, R106) -/

/-- The marks of a counter for the present cycle. -/
def Counter.atCycle (c : Counter) (now : Nat) : Counter :=
  if c.cycle = now then c else { c with cycle := now, left := 0, issued := false }

/-- The levels that a transfer to a word leaves active: a level whose body does not hold it ends, and so does every higher one
(R106). The levels are given lowest first. -/
def keepLevels (target : Nat) : List LoopLevel → List LoopLevel
  | [] => []
  | l :: t => if l.first ≤ target ∧ target ≤ l.last then l :: keepLevels target t else []

/-- The counter moves to another word by a transfer. -/
def Counter.transferTo (c : Counter) (target : Nat) : Counter :=
  let g := match c.guard with
    | some (last, y) => if target ≤ last ∧ c.word < target then some (last, y) else none
    | none => none
  { c with word := target, loops := (keepLevels target c.loops.reverse).reverse, delay := none, guard := g }

/-- The counter falls through its word: the next one, or the end of the bodies of the active levels that end on it (R106). -/
def Counter.fallThrough (c : Counter) : Counter :=
  let g := match c.guard with
    | some (last, y) => if c.word < last then some (last, y) else none
    | none => none
  let c' := { c with word := c.word + 1, guard := g }
  match c.loops with
  | l :: _ => if c.loops.any fun l => l.last == c.word then { c' with ending := some (c.word, l.lvl) } else c'
  | [] => c'

/-- The counter leaves its position: a transfer after the last delay word, or falling through (R96, R101). The body of a level that ends
on a first delay word repeats before the second is taken (log 84). -/
def Counter.leave (c : Counter) : Counter :=
  let c := { c with pos := c.pos + 1, left := c.left + 1 }
  match c.delay with
  | none => c.fallThrough
  | some (n + 2, t) => Counter.fallThrough { c with delay := some (n + 1, t) }
  | some (_, some t) => c.transferTo t
  | some (_, none) => Counter.fallThrough { c with delay := none }

/-- The counter leaves its position for a word that its own word names (a skipped body). -/
def Counter.leaveFor (c : Counter) (target : Nat) : Counter :=
  { c with pos := c.pos + 1, left := c.left + 1, word := target }

/-! ### Registers of a slot (03 R60) -/

/-- A g register: g0 reads zero. -/
def Regs.getG (r : Regs) (n : Nat) : Reg := if n = 0 then 0 else Tab.get 0 r.g n

/-- A write of a g register: a write of g0 is discarded. -/
def Regs.setG (r : Regs) (n : Nat) (v : Reg) : Regs := if n = 0 then r else { r with g := r.g.put n v }

def Regs.getB (r : Regs) (n : Nat) : Reg := Tab.get 0 r.b n
def Regs.setB (r : Regs) (n : Nat) (v : Reg) : Regs := { r with b := r.b.put n v }
def Regs.getC (r : Regs) (n : Nat) : Bool := Tab.get false r.c n
def Regs.setC (r : Regs) (n : Nat) (v : Bool) : Regs := { r with c := r.c.put n v }
def Regs.getK (r : Regs) (n : Nat) : Token := Tab.get Token.reset r.k n
def Regs.setK (r : Regs) (n : Nat) (v : Token) : Regs := { r with k := r.k.put n v }
def Regs.getV (r : Regs) (n : Nat) : Tile := Tab.get 0 r.v n
def Regs.setV (r : Regs) (n : Nat) (v : Tile) : Regs := { r with v := r.v.put n v }
def Regs.getAcc (r : Regs) (a i j : Nat) : BitVec 32 := Tab.get 0 r.acc (a * 8192 + i * 128 + j)
def Regs.setAcc (r : Regs) (a i j : Nat) (v : BitVec 32) : Regs := { r with acc := r.acc.put (a * 8192 + i * 128 + j) v }

/-- Change the registers of a slot. -/
def State.modRegs (n : Nat) (f : Regs → Regs) (s : State) : State := s.modSlot n fun sl => { sl with regs := f sl.regs }

def State.modSeq (n : Nat) (f : SeqState → SeqState) (s : State) : State := s.modSlot n fun sl => { sl with seq := f sl.seq }
def State.modVec (n : Nat) (f : VecState → VecState) (s : State) : State := s.modSlot n fun sl => { sl with vec := f sl.vec }
def State.modMat (n : Nat) (f : MatState → MatState) (s : State) : State := s.modSlot n fun sl => { sl with mat := f sl.mat }
def State.modAsy (n : Nat) (f : AsyState → AsyState) (s : State) : State := s.modSlot n fun sl => { sl with asy := f sl.asy }

def State.modCounter (n : Nat) (e : Engine) (f : Counter → Counter) (s : State) : State :=
  s.modSlot n fun sl => sl.setCounter e (f (sl.counter e))

/-! ### Effects that engines see at their own position (03 R72, 05 R126) -/

/-- An MTC's effect on a view of the control registers (R63). -/
def CtlView.write (v : CtlView) (reg : Nat) (x : Reg) : CtlView :=
  match reg with
  | 0x005 => { v with stepno := x.setWidth 32 }
  | 0x006 => { v with tensorid := x.setWidth 24 }
  | 0x007 => { v with rrb := x.setWidth 5 }
  | 0x008 => { v with key0 := x.setWidth 32 }
  | 0x009 => { v with key1 := x.setWidth 32 }
  | 0x00A => { v with key2 := x.setWidth 32 }
  | 0x00B => { v with key3 := x.setWidth 32 }
  | 0x00C => { v with tracemode := x.setWidth 2 }
  | 0x00D => { v with penddbg := x.getLsbD 0 }
  | 0x00E => { v with trapctl := x.getLsbD 0 }
  | _ => v

/-- The effects that an engine takes when it has left the position `p` (logs 29 and 59). -/
def Slot.takeDeferred (sl : Slot) (e : Engine) (p : Nat) : Slot :=
  let c := sl.counter e
  let now := c.deferred.filter (fun d => d.1 == p)
  let c' := { c with deferred := c.deferred.filter (fun d => d.1 != p),
                     copied := c.copied.filter (fun x => decide (p < x.pos)),
                     view := now.foldl (fun v d => match d.2 with | .ctl r x => v.write r x | .shape _ _ => v) c.view }
  let regs := now.foldl (fun r d => match d.2 with | .shape k x => { r with shapes := r.shapes.put k x } | .ctl _ _ => r) sl.regs
  { sl.setCounter e c' with regs := regs }

/-- The engine of a slot has left the position `p`: it takes the effects that wait there. A key that changes clears the slot's entries of
the draw filter (02 R52, 03 R65). -/
def State.passed (s : State) (slot : Nat) (e : Engine) (p : Nat) : State :=
  let rekey := ((s.slot slot).counter e).deferred.any fun d =>
    d.1 == p && match d.2 with | .ctl r _ => decide (8 ≤ r ∧ r ≤ 11) | .shape _ _ => false
  let s := s.modSlot slot fun sl => sl.takeDeferred e p
  if e = .V ∧ rekey = true then s.modCore (coreOf slot) fun c => { c with filter := c.filter.filter (fun d => d.slot != slot) } else s

/-- Engine `e` of a slot leaves its position. -/
def State.leave (s : State) (slot : Nat) (e : Engine) : State :=
  let p := ((s.slot slot).counter e).pos
  (s.modCounter slot e Counter.leave).passed slot e p

/-- A result of the sequencer has been written: no signal waits for it any more (05 R131). -/
def Slot.resultWritten (sl : Slot) (r : RegRef) : Slot :=
  { sl with signals := sl.signals.map fun g => if g.eng = .S then { g with regs := g.regs.filter (· != r) } else g }

/-- Mark that an engine has issued a word in this cycle; a run of stalls before it ends with a STALL entry (18 R418). -/
def State.markIssued (s : State) (slot : Nat) (e : Engine) : State :=
  let c := (s.slot slot).counter e
  let s := if c.stallRun = 0 then s else s.traceAt slot e 2 7 (min (2 ^ 32 - 1) c.stallRun) none
  let s := if e = .S ∧ (s.core (coreOf slot)).trace.matchVal.toNat % 2 ^ 24 = c.word then s.traceHit slot .S 1 else s
  s.modCounter slot e fun c => { c with issued := true, stallRun := 0 }

/-! ### What a word answers -/

/-- The result of trying a word: it has its effect and its counter leaves, by the plain rule or by a rule of its own, or stays at it
(END); it waits, and what it has noted stands; it stalls; or it raises a fatal trap with a status word and an address. -/
inductive Act where
  | done (s : State)
  | stay (s : State)
  | hold (s : State)
  | leaveBy (s : State) (f : Counter → Counter)
  | stall
  | trap (code status addr : Nat)

/-- What every meaning answers. -/
abbrev Out := Host.Outcome State Fault Refusal

/-- Carry out the answer of a word at an engine of the current slot (log 12). -/
def Act.run (a : Act) (e : Engine) (s : State) : State :=
  match a with
  | .done s' => (s'.markIssued s.cur e).leave s.cur e
  | .stay s' => s'.markIssued s.cur e
  | .hold s' => s'
  | .leaveBy s' f =>
    let p := ((s.slot s.cur).counter e).pos
    ((s'.markIssued s.cur e).modCounter s.cur e f).passed s.cur e p
  | .stall => s
  | .trap code status addr => s.trapAt s.cur e code status addr

end Sys2Proof.Machine
end

