-- ==== Sys2Proof/Machine/Page.lean ====
section
/-!
DEFINITION. Sys2Proof/Machine/Page.lean: page tables and walks (10 R260-R265), the states of a page and the touches that meet them
(10 R266-R271), and the translation buffers (10 R273).
-/

namespace Sys2Proof.Machine

/-- The kinds of access of a walk, as STATUS [9:8] numbers them (R264). -/
inductive AKind where
  | read | write | atomic | fetch
  deriving DecidableEq, Repr

def AKind.code : AKind → Nat
  | .read => 0
  | .write => 1
  | .atomic => 2
  | .fetch => 3

/-! ### Fields of an entry (R262, R263) -/

def lKind (e : Nat) : Nat := field e 1 0
def lNext (e : Nat) : Nat := field e 41 9 * 512
def lPidx (e : Nat) : Nat := field e 127 112
def lTid (e : Nat) : Nat := field e 111 88
def lTfn (e : Nat) : Nat := field e 87 64
def lSlot (e : Nat) : Nat := field e 63 52
def lEnc (e : Nat) : Nat := field e 51 49
def lHfn (e : Nat) : Nat := field e 47 24
def lHalf (e : Nat) : Bool := bitAt e 10
def lBig (e : Nat) : Bool := bitAt e 9
def lTensor (e : Nat) : Bool := bitAt e 8
def lState (e : Nat) : Nat := field e 4 2

/-- An access of this kind is permitted by a leaf (check 3 of R264). -/
def permitted (k : AKind) (e : Nat) : Bool :=
  match k with
  | .read => bitAt e 5
  | .write => bitAt e 6
  | .atomic => bitAt e 5 && bitAt e 6
  | .fetch => bitAt e 7

/-- Check 2 of R264 for a pointer at a level; a frame of a stack that is absent lies past the last one (01 R25). -/
def State.pointerOk (s : State) (e level : Nat) : Bool :=
  field e 127 42 == 0 && field e 8 2 == 0 && decide (level < 4) && decide (lNext e < s.hbmEnd)
  && (decide (2 ≤ level) || lNext e % 16384 == 0)

/-- Check 2 of R264 for a leaf at a level. -/
def State.leafOk (s : State) (e level : Nat) : Bool :=
  !bitAt e 48 && field e 23 13 == 0 && decide (lEnc e ≤ 5) && decide (lState e ≤ 5)
  && ((level == 3 && lBig e) || (level == 4 && !lBig e))
  && decide (lHfn e ≤ if lState e = 5 then 0xFFFFFF else s.hbmEnd / 65536 - 1) && decide (lTfn e ≤ 0xFFFFFF)
  && (!lBig e || (lHfn e % 32 == 0 && lTfn e % 32 == 0))
  && (!lTensor e || (!lBig e && lState e != 5))
  && (!lHalf e || lTensor e)
  && (!(lTensor e && lEnc e == 5) || lHalf e)

/-- The index of a virtual address at a level (R261). -/
def ptIndex (level va : Nat) : Nat :=
  match level with
  | 0 => field va 55 46
  | 1 => field va 45 36
  | 2 => field va 35 26
  | 3 => field va 25 21
  | _ => field va 20 16

/-- What a walk finds: a leaf, with the address of its entry, or the first check that fails and its level (R264). -/
inductive Walk where
  | leaf (entry at_ : Nat)
  | fault (code level : Nat)
  deriving DecidableEq, Repr

/-- Walk from the table at `base`, a table of level `level`; `left` levels remain. Entries are read at their home (R265). A walk of no
kind makes no permission check (R276) (log 41). -/
def State.walkFrom (s : State) (kind : Option AKind) (va : Nat) : Nat → Nat → Nat → Walk
  | 0, _, level => .fault fILLEGAL level
  | left + 1, base, level =>
    let at_ := base + 16 * ptIndex level va
    let e := s.memNat at_ 16
    match lKind e with
    | 0 => .fault fTRANSLATION level
    | 1 => if s.pointerOk e level then State.walkFrom s kind va left (lNext e) (level + 1) else .fault fILLEGAL level
    | 2 =>
      if s.leafOk e level then
        if kind.all (fun k => permitted k e) then .leaf e at_ else .fault fPERMISSION level
      else .fault fILLEGAL level
    | _ => .fault fILLEGAL level

/-- Walk the page tables of a context (R261). -/
def State.walk (s : State) (ctx : Nat) (kind : Option AKind) (va : Nat) : Walk :=
  s.walkFrom kind va 5 (s.ctx ctx).image.ptroot.toNat 0

/-! ### Translation buffers (R273) -/

/-- Where an access of an agent is translated. -/
inductive Port where
  /-- Through the buffers of a core and of its die. -/
  | core (n : Nat)
  /-- A winch: through its die's. -/
  | die (n : Nat)
  /-- An agent of the hub: through none. -/
  | hub
  deriving DecidableEq, Repr

def TlbEntry.holds (t : TlbEntry) (tag : BitVec 18) (va : Nat) : Bool :=
  t.tag == tag && decide (t.va ≤ va) && decide (va < t.va + if t.big then 0x200000 else 0x10000)

/-- Put an entry into a buffer of `n` entries; the oldest makes room. -/
def tlbFill (n : Nat) (l : List TlbEntry) (t : TlbEntry) : List TlbEntry := (t :: l.filter (· != t)).take n

def State.fillCore (s : State) (core : Nat) (t : TlbEntry) : State := s.modCore core fun c => { c with tlb := tlbFill 1024 c.tlb t }
def State.fillDie (s : State) (die : Nat) (t : TlbEntry) : State := s.modDie die fun d => { d with tlb := tlbFill 32768 d.tlb t }

def tlbOf (tag : BitVec 18) (va entry at_ : Nat) : TlbEntry :=
  { tag := tag, va := if lBig entry then va / 0x200000 * 0x200000 else va / 0x10000 * 0x10000, big := lBig entry,
    entry := BitVec.ofNat 128 entry, at_ := at_ }

/-- The level of a leaf. -/
def leafLevel (e : Nat) : Nat := if lBig e then 3 else 4

/-- Translate: a buffered leaf, else a walk whose leaf is buffered (R273) (log 20). -/
def State.translate (s : State) (port : Port) (tag : BitVec 18) (va : Nat) (kind : AKind) : Walk × State :=
  let check (t : TlbEntry) : Walk :=
    if permitted kind t.entry.toNat then .leaf t.entry.toNat t.at_ else .fault fPERMISSION (leafLevel t.entry.toNat)
  let walked := s.walk (ctxOf tag) (some kind) va
  match port with
  | .core n =>
    match (s.core n).tlb.find? (·.holds tag va) with
    | some t => (check t, s)
    | none =>
      match (s.die (dieOfCore n)).tlb.find? (·.holds tag va) with
      | some t => (check t, s.fillCore n t)
      | none =>
        match walked with
        | .leaf e a => (walked, (s.fillDie (dieOfCore n) (tlbOf tag va e a)).fillCore n (tlbOf tag va e a))
        | .fault _ _ => (walked, s)
  | .die d =>
    match (s.die d).tlb.find? (·.holds tag va) with
    | some t => (check t, s)
    | none =>
      match walked with
      | .leaf e a => (walked, s.fillDie d (tlbOf tag va e a))
      | .fault _ _ => (walked, s)
  | .hub => (walked, s)

/-- Drop every buffered translation that a test names (log 22). -/
def State.dropTlb (s : State) (core die : Nat → Bool) (p : TlbEntry → Bool) : State :=
  { s with
    cores := s.cores.map fun (n, c) => if core n then (n, { c with tlb := c.tlb.filter (fun t => !p t) }) else (n, c)
    dies := s.dies.map fun (n, d) => if die n then (n, { d with tlb := d.tlb.filter (fun t => !p t) }) else (n, d) }

/-! ### The leaf as it stands (R265) -/

/-- An entry but for the fields that hardware updates: STATE, ENC, ACC and DIRTY. -/
def leafFrame (e : Nat) : Nat :=
  e - field e 4 2 * 2 ^ 2 - field e 12 11 * 2 ^ 11 - field e 51 49 * 2 ^ 49

/-- The entry that an access meets: as memory holds it, while software has not changed it since it was buffered (R271, R272) (log 20). -/
def State.entryNow (s : State) (buffered at_ : Nat) : Nat :=
  let e := s.memNat at_ 16
  if leafFrame e = leafFrame buffered then e else buffered

/-- Replace a bit field of an entry in memory, by an 8-byte write of the word that holds it (R265). -/
def State.setEntryField (s : State) (at_ hi lo v : Nat) : State :=
  let e := s.memNat at_ 8
  { s with mem := s.mem.writeN at_ (toBytes 8 (e - field e hi lo * 2 ^ lo + v * 2 ^ lo)) }

def State.setLeafState (s : State) (at_ st : Nat) : State := s.setEntryField at_ 4 2 st
def State.setLeafEnc (s : State) (at_ lvl : Nat) : State := s.setEntryField at_ 51 49 lvl

/-- Set ACC, and DIRTY for a write (R263), in the entry an access was translated through (log 21). -/
def State.markEntry (s : State) (buffered at_ : Nat) (kind : AKind) : State :=
  if leafFrame (s.memNat at_ 16) = leafFrame buffered then
    let s := if bitAt (s.memNat at_ 16) 11 then s else s.setEntryField at_ 11 11 1
    if (kind = .write ∨ kind = .atomic) ∧ bitAt (s.memNat at_ 16) 12 = false then s.setEntryField at_ 12 12 1 else s
  else s

/-- The physical address at which an entry serves a virtual address: TFN in state Tier, else HFN, or the window (R260, R271). -/
def leafPa (e va : Nat) : Nat :=
  let off := va % if lBig e then 0x200000 else 0x10000
  match lState e with
  | 2 => 0x10000000000 + lTfn e * 0x10000 + off
  | 5 => 0x20000000000 + lHfn e * 0x10000 + off
  | _ => lHfn e * 0x10000 + off

/-! ### Levels (R267, R287) -/

/-- Levels 0, 1, 2 and 4 are in use (11 R278). -/
def State.fullLadder (s : State) : Bool := s.hub.dev.service == 2 && s.hub.dev.agreed.getLsbD 1

/-- The cap of R267 (log 21). -/
def State.capLevel (s : State) (e lvl : Nat) : Nat :=
  if lHalf e then lvl else if s.fullLadder then min lvl 4 else min lvl 3

/-- The current level of an entry's precision slot, capped. -/
def State.currentLevel (s : State) (e : Nat) : Nat := s.capLevel e (s.pslot (lSlot e)).level.toNat

/-- The node that an activation belongs to. -/
def State.nodeOf (s : State) (slot : Nat) : Option Node :=
  let a := (s.slot slot).act
  (Tab.find s.hub.spool.graphs a.graph).bind fun g => g.nodes[a.node]?

/-- The governing level of a touch: of an activation by its node's epoch (R287), of any other agent the current one (log 21). -/
def State.governing (s : State) (act : Option Nat) (e : Nat) : Nat :=
  match act with
  | some slot =>
    let p := s.pslot (lSlot e)
    let ep := ((s.nodeOf slot).map (·.epoch)).getD 0
    s.capLevel e (if p.chgep.toNat ≤ ep then p.level.toNat else p.prvlvl.toNat)
  | none => s.currentLevel e

/-! ### Touches (R268, R271) -/

/-- The first of the numbers with the least measure. -/
def leastOf (f : Nat → Nat) : List Nat → Nat → Nat
  | [], best => best
  | h :: t, best => leastOf f t (if f h < f best then h else best)

/-- The winch that takes a re-encode request (R268). -/
def State.reencodeWinch (s : State) (port : Port) : Nat :=
  let load (w : Nat) : Nat := (s.winch w).queue.length
  match port with
  | .core n => leastOf load (rangeFrom (6 * dieOfCore n) 6) (6 * dieOfCore n)
  | .die d => leastOf load (rangeFrom (6 * d) 6) (6 * d)
  | .hub => leastOf load ((rangeFrom 0 24).filter (fun w => s.diePresent (w / 6))) 0

/-- Set a stale page Converting and request its re-encode (R268). -/
def State.requestReencode (s : State) (port : Port) (tag : BitVec 18) (va entry at_ level : Nat) : State :=
  let img := (s.ctx (ctxOf tag)).image
  let r : Reencode :=
    { tag := tag, va := va / 0x10000 * 0x10000, at_ := at_, prior := lState entry, level := level, key := img.key,
      step := img.stepno, taken := false, page := [] }
  let w := s.reencodeWinch port
  (s.setLeafState at_ 4).modWinch w fun x => { x with reenc := x.reenc ++ [r] }

/-- What a touch does (R271). -/
inductive Touch where
  | served (pa : Nat)
  | waits
  | stale
  | fault (code status : Nat)
  deriving DecidableEq, Repr

/-- The page watermark of an inbound page: the bytes that its winch has landed. -/
def State.watermark (s : State) (at_ : Nat) : Nat :=
  match (rangeFrom 0 24).findSome? (fun w => (s.winch w).queue.findSome? (fun c => if c.page = some at_ then some c.landed else none)) with
  | some n => n
  | none => 0

/-- A touch of `len` bytes that lie in one page, through a translated entry (R268, R271) (logs 20 and 21). -/
def State.touchEntry (s : State) (port : Port) (act : Option Nat) (tag : BitVec 18) (va len : Nat) (kind : AKind) (buffered at_ : Nat) :
    Touch × State :=
  let e := s.entryNow buffered at_
  let gov := s.governing act e
  let stale := lTensor e && lEnc e != gov
  let serve := (Touch.served (leafPa e va), s.markEntry buffered at_ kind)
  match lState e with
  | 0 | 2 =>
    if stale then
      if gov = s.currentLevel e then (.waits, s.requestReencode port tag va e at_ gov) else (.stale, s)
    else serve
  | 1 => if stale || kind = .write || kind = .atomic then (.waits, s) else serve
  | 3 => if stale then (.waits, s)
         else if va % (if lBig e then 0x200000 else 0x10000) + len ≤ s.watermark at_ then serve else (.waits, s)
  | 4 => (.waits, s)
  | _ => serve

/-- Translate and touch (R123 check 4): `act` is the activation that touches, if one does. -/
def State.touch (s : State) (port : Port) (act : Option Nat) (tag : BitVec 18) (va len : Nat) (kind : AKind) : Touch × State :=
  match s.translate port tag va kind with
  | (.fault code level, s) => (.fault code (level + kind.code * 2 ^ 8), s)
  | (.leaf e at_, s) => s.touchEntry port act tag va len kind e at_

/-- The part of a range that lies in the first of its pages, 64 KiB each. -/
def pagePart (va len : Nat) : Nat := min len (0x10000 - va % 0x10000)

/-! ### Walk faults (R274) -/

def walkKey (tag : BitVec 18) (va : Nat) : WalkKey := ⟨tag, va / 0x10000⟩

/-- The record of the fault that an access joins, if its walk has faulted already. -/
def State.faultOf (s : State) (k : WalkKey) : Option FaultEntry :=
  if s.hub.traps.walks.contains k then s.hub.traps.table.find? (fun f => f.walk == some k && !f.resolved) else none

/-- A buffer on the way of an access holds its translation. -/
def State.buffered (s : State) (port : Port) (tag : BitVec 18) (va : Nat) : Bool :=
  match port with
  | .core n => (s.core n).tlb.any (·.holds tag va) || (s.die (dieOfCore n)).tlb.any (·.holds tag va)
  | .die d => (s.die d).tlb.any (·.holds tag va)
  | .hub => false

/-- The record of the fault that an access joins: its walk has faulted already, and no buffer holds a translation (log 24). -/
def State.joins (s : State) (port : Port) (tag : BitVec 18) (va : Nat) : Option FaultEntry :=
  if s.buffered port tag va then none else s.faultOf (walkKey tag va)

def State.addWalk (s : State) (k : WalkKey) : State := s.modTraps fun t => { t with walks := t.walks ++ [k] }

/-- An activation's access joins a fault: it stops, and writes no record. -/
def State.joinFault (s : State) (slot : Nat) (e : Engine) (f : FaultEntry) : State :=
  if (s.slot slot).stop.isSome then s else s.modSlot slot fun sl => { sl with stop := some ⟨f.id, e, f.body.code, false⟩ }

end Sys2Proof.Machine
end

