-- ==== Sys2Proof/WellFormed.lean ====
section
/-!
DEFINITION. Sys2Proof/WellFormed.lean: the limits on the values of the fields of an instruction (03 R58, R80): each row of the
match follows the chapter of its instruction. A word whose fields break one is not an instruction (R81). A package step has no fields of
an encoding.
-/

namespace Sys2Proof

/-- The field numbers of the three kinds of shape register (03 R67-R69); kind 3 is reserved (05 R127). -/
def shapeFieldOk (kind f : Nat) : Bool :=
  match kind with
  | 0 => decide (f ≤ 4)
  | 1 => decide (f ≤ 9)
  | 2 => decide (f ≤ 22)
  | _ => false

/-- The fields of a precision slot that GOVWR may name: the RW and the WO ones (11 R279). -/
def govWritable (f : Nat) : Bool := decide ((5 ≤ f ∧ f ≤ 12) ∨ f = 20 ∨ f = 21 ∨ (24 ≤ f ∧ f ≤ 27))

/-- The fields of the instruction lie within the limits its chapter states (logs 15 and 81). -/
def Instr.wellFormed : Instr → Bool
  | .nop => true
  | .bprep _ _ => true
  | .bprepg d _ _ => decide (d.toNat < 8)
  | .blink _ _ => true
  | .bgo _ _ _ => true
  | .lset _ l _ i => decide (l.toNat < 6 ∧ 1 ≤ i.toNat ∧ i.toNat < 2048)
  | .lstep d a _ => decide (d.toNat ≠ 0 ∧ a.toNat < 6)
  | .lonlyFirst l n => decide (l.toNat < 6 ∧ 1 ≤ n.toNat ∧ n.toNat < 2048)
  | .lonlyLast l n => decide (l.toNat < 6 ∧ 1 ≤ n.toNat ∧ n.toNat < 2048)
  | .lonlyStage l s n => decide (l.toNat < 6 ∧ s.toNat < 8 ∧ 1 ≤ n.toNat ∧ n.toNat < 2048)
  | .rotset i => decide (i.toNat ≤ 32)
  | .rgn _ _ i => decide (i.toNat < 2048)
  | .rgnend => true
  | .endActivation => true
  | .halt _ => true
  | .icinv d _ i => decide (d.toNat < 3 ∧ i.toNat < 2048)
  | .add _ _ _ => true
  | .sub _ _ _ => true
  | .and _ _ _ => true
  | .or _ _ _ => true
  | .xor _ _ _ => true
  | .shl _ _ _ => true
  | .shr _ _ _ => true
  | .sar _ _ _ => true
  | .mul _ _ _ => true
  | .mulh _ _ _ => true
  | .mulhn _ _ _ => true
  | .div _ _ _ => true
  | .divn _ _ _ => true
  | .rem _ _ _ => true
  | .remn _ _ _ => true
  | .min _ _ _ => true
  | .max _ _ _ => true
  | .minn _ _ _ => true
  | .maxn _ _ _ => true
  | .clz _ _ => true
  | .ctz _ _ => true
  | .popc _ _ => true
  | .selFunc16 _ _ _ => true
  | .addx _ _ _ _ => true
  | .sel _ _ _ _ => true
  | .cmp _ _ _ _ => true
  | .cmpi _ _ _ _ => true
  | .addi _ _ _ => true
  | .andi _ _ _ => true
  | .ori _ _ _ => true
  | .xori _ _ _ => true
  | .shli _ _ i => decide (i.toNat < 64)
  | .shri _ _ i => decide (i.toNat < 64)
  | .sari _ _ i => decide (i.toNat < 64)
  | .muli _ _ _ => true
  | .lui _ _ => true
  | .lds _ _ k _ => decide (k.toNat ≠ 7)
  | .sts _ _ k _ => decide (k.toNat % 2 = 0)
  | .gld _ _ _ k => decide (k.toNat ≠ 7)
  | .gst _ _ _ k => decide (k.toNat % 2 = 0)
  | .gatom d _ _ _ o => decide (o.toNat < 10 ∧ (o.toNat = 9 → d.toNat % 2 = 0))
  | .mfc _ i => decide (i.toNat ≤ 0x015)
  | .mtc _ i => (i.toNat == 0 || decide (5 ≤ i.toNat ∧ i.toNat ≤ 0x00E))
  | .shpw _ k _ f => shapeFieldOk k.toNat f.toNat
  | .shpr _ k _ _ f => shapeFieldOk k.toNat f.toNat
  | .kwaitS d i => decide (d.toNat < 16 ∧ 1 ≤ i.toNat ∧ i.toNat < 2048)
  | .ksigS d i => decide (d.toNat < 16 ∧ 1 ≤ i.toNat ∧ i.toNat < 2048)
  | .kcfg d _ => decide (d.toNat < 16)
  | .stamp _ => true
  | .wall _ => true
  | .vget _ => true
  | .msend _ _ _ => true
  | .mrecv d => decide (d.toNat % 2 = 0 ∧ 2 ≤ d.toNat)
  | .fenceRel m _ n => decide (m.toNat ≠ 0 ∨ n.toNat ≠ 0)
  | .fenceAcq m _ n => decide (m.toNat ≠ 0 ∨ n.toNat ≠ 0)
  | .fenceAr m _ n => decide (m.toNat ≠ 0 ∨ n.toNat ≠ 0)
  | .fenceE e => decide (e.toNat ≠ 0)
  | .trap i => decide (i.toNat < 131072)
  | .trapWarn i => decide (i.toNat < 131072)
  | .tlbinv d _ _ => decide (d.toNat < 3)
  | .pgqry _ _ => true
  | .pghintTrans _ _ => true
  | .pghintEnc _ _ => true
  | .govrd _ _ f => decide (f.toNat ≤ 27)
  | .govwr f _ _ => govWritable f.toNat
  | .govstep _ _ => true
  | .govpin _ _ => true
  | .wqpush a _ => decide (a.toNat % 4 = 0)
  | .wqpop d _ => decide (d.toNat % 4 = 0 ∧ 4 ≤ d.toNat)
  | .wqroom _ _ => true
  | .cqpop d => decide (d.toNat % 2 = 0 ∧ 2 ≤ d.toNat)
  | .grpid _ b => decide (b.toNat ≤ 2)
  | .bandq _ b => decide (b.toNat ≤ 1)
  | .phase _ _ b => decide (b.toNat ≤ 1)
  | .barr _ _ => true
  | .barw _ _ _ => true
  | .bars _ _ => true
  | .waitc _ _ _ => true
  | .rclf _ _ => true
  | .incqry _ a b => decide (b.toNat ≤ 2 ∨ (16 ≤ b.toNat ∧ b.toNat ≤ 31 ∧ a.toNat = 0))
  | .yield _ => true
  | .brk _ => true
  | .trcmark _ => true
  | .vfma _ _ _ _ _ => true
  | .vfms _ _ _ _ _ => true
  | .vfnma _ _ _ _ _ => true
  | .vimad _ _ _ _ _ => true
  | .vqnt _ _ _ _ _ => true
  | .vadd _ _ _ _ _ => true
  | .vsub _ _ _ _ _ => true
  | .vmul _ _ _ _ _ => true
  | .vmin _ _ _ _ _ => true
  | .vmax _ _ _ _ _ => true
  | .vabs _ _ _ _ => true
  | .vneg _ _ _ _ => true
  | .vrcp _ _ _ _ => true
  | .vrsq _ _ _ _ => true
  | .vsqrt _ _ _ _ => true
  | .vexp2 _ _ _ _ => true
  | .vlog2 _ _ _ _ => true
  | .vtanh _ _ _ _ => true
  | .vsigm _ _ _ _ => true
  | .viadd _ _ _ _ _ _ => true
  | .visub _ _ _ _ _ _ => true
  | .vimul _ _ _ _ _ _ => true
  | .vand _ _ _ _ _ => true
  | .vor _ _ _ _ _ => true
  | .vxor _ _ _ _ _ => true
  | .vshl _ _ _ _ _ _ => true
  | .vshr _ _ _ _ _ _ => true
  | .vsar _ _ _ _ _ _ => true
  | .vcmp _ _ _ _ _ => true
  | .vmpop => true
  | .vminv => true
  | .vmand _ _ _ => true
  | .vsel _ _ _ _ _ => true
  | .vany _ _ => true
  | .vall _ _ => true
  | .vcvtFlt _ _ _ _ _ _ => true
  | .vcvtInt _ _ _ _ _ _ => true
  | .vdq _ _ _ _ _ => true
  | .vamax _ _ _ _ _ => true
  | .vscl _ _ _ _ _ _ => true
  | .vrsum _ _ _ _ _ => true
  | .vrmax _ _ _ _ _ => true
  | .vrmin _ _ _ _ _ => true
  | .vmov _ _ _ _ => true
  | .vbcast _ _ _ _ m => decide (m.toNat ≤ 2)
  | .viota _ _ _ m => decide (m.toNat ≤ 2)
  | .vld _ _ _ _ _ => true
  | .vst _ _ _ _ _ => true
  | .vldx _ _ _ _ _ => true
  | .vstx _ _ _ _ _ => true
  | .vtrn _ _ _ _ => true
  | .vperm _ _ _ _ _ => true
  | .vrng _ _ _ _ _ => true
  | .vstatQe _ _ _ _ _ => true
  | .vstatGn _ _ _ _ => true
  | .vstatGnsum _ _ _ _ => true
  | .vstatOv _ _ _ _ => true
  | .kwaitV d n => decide (d.toNat < 16 ∧ n.toNat ≠ 0)
  | .ksigV d n => decide (d.toNat < 16 ∧ n.toNat ≠ 0)
  | .mldb _ _ _ _ => true
  | .mma _ _ _ _ => true
  | .mmaT _ _ _ _ => true
  | .mzero _ _ _ _ => true
  | .minit _ _ _ _ _ => true
  | .mdrain _ _ _ _ _ _ _ _ => true
  | .mdrainv _ _ _ _ _ _ => true
  | .mzp _ _ _ _ => true
  | .mpri p => decide (p.toNat ≤ 15)
  | .kwaitM _ n _ => decide (n.toNat ≠ 0)
  | .ksigM _ n _ => decide (n.toNat ≠ 0)
  | .sload _ _ _ _ => true
  | .sstore _ _ _ => true
  | .spair _ _ _ _ => true
  | .sgath _ _ _ _ _ _ => true
  | .sscat _ _ _ _ _ => true
  | .swin _ _ _ _ _ _ _ => true
  | .smcast _ _ _ _ _ _ => true
  | .sput _ _ _ _ _ => true
  | .scurOpen _ _ _ => true
  | .scurClose _ => true
  | .scurReport _ _ => true
  | .kwaitA k n m => decide (k.toNat < 16 ∧ (n.toNat ≠ 0 ∨ m.toNat ≠ 0))
  | .ksigA k n m => decide (k.toNat < 16 ∧ (n.toNat ≠ 0 ∨ m.toNat ≠ 0))
  | .cqpush _ _ => true
  | .wcopy _ _ _ x => decide (x.toNat ≠ 6)
  | .wlayout _ _ _ _ x => decide (x.toNat ≠ 6)
  | .woff _ w => decide (w.toNat ≠ 6)
  | .wret _ w => decide (w.toNat ≠ 6)
  | .wenc _ w => decide (w.toNat ≠ 6)
  | .wcsum _ _ w => decide (w.toNat ≠ 6)
  | .wdec _ _ w => decide (w.toNat ≠ 6)
  | .wnvme _ _ w => decide (w.toNat ≠ 6)
  | .wfill _ _ w => decide (w.toNat ≠ 6)
  | .loopBodyEnd _ => true
  | .laggingOutcomeTake _ => true
  | .bandHandover _ => true
  | .tokenWaitPerform _ => true
  | .tokenSignal _ => true
  | .streamBurstStart _ => true
  | .streamBurstComplete _ _ => true
  | .streamBurstFault _ => true
  | .walkDone _ _ => true
  | .globalLoadResponse _ => true
  | .globalStoreAck _ => true
  | .scratchpadZeroingDone _ => true
  | .bstoreZeroingDone _ => true
  | .emptyNodeTaken _ => true
  | .kernelNodeDispatch _ => true
  | .kernelValidation _ => true
  | .copyNodePush _ => true
  | .collectiveNodePush _ => true
  | .controlNodeEvaluate _ => true
  | .childGraphEnd _ => true
  | .tileDispatch _ _ => true
  | .tileSteal _ _ => true
  | .timedNodeDue _ => true
  | .queueDoorbell _ => true
  | .fresResume _ => true
  | .fresAbort _ => true
  | .trapRingControlWrite _ _ => true
  | .traceTrigger _ => true
  | .tetherWaitSatisfied _ => true
  | .peerCheckArrival _ _ _ => true
  | .tetherCommandComplete _ => true
  | .tetherFault _ => true
  | .packetData _ => true
  | .packetRelease _ => true
  | .fenceRequestPacket _ => true
  | .fenceConfirmPacket _ => true
  | .barrierDoneReport _ => true
  | .barrierBreakReport _ => true
  | .packetRetryExpiry _ => true
  | .hostRequest _ => true
  | .linkTrainingDone _ => true
  | .linkDisableWrite _ => true
  | .ptpSync _ => true
  | .wtimeWrite _ => true
  | .keelImageCheck _ => true
  | .cd0Trained _ => true
  | .allDiesTrained _ => true
  | .drvfeatWrite _ => true
  | .throttle _ => true
  | .temperatureSample _ => true
  | .readClear _ => true
  | .registerWrite _ _ => true
  | .notAnInstruction _ => true
  | .softErrorCorrection _ => true
  | .peerDelayExchange _ => true
  | .barrierWake => true
  | .waitcComplete => true
  | .vResultsWritten => true
  | .mWordStart => true
  | .mWordComplete => true
  | .regionSlackExpiry => true
  | .winchCommandStart => true
  | .winchCommandComplete => true
  | .winchFault => true
  | .nvmeCompletionObserved => true
  | .reencodeTake => true
  | .reencodeWritten => true
  | .outboundDone => true
  | .inboundDone => true
  | .mailboxAccept => true
  | .wqpopWake => true
  | .probeAccept => true
  | .queueRecordNop => true
  | .queueRecordLaunch => true
  | .queueRecordIcode => true
  | .graphCompletionWrite => true
  | .activationEnd => true
  | .bandExtraGrant => true
  | .bandWithdraw => true
  | .frameBoundary => true
  | .watchdog => true
  | .barrierTimeout => true
  | .contextLoadStart => true
  | .contextLoadDone => true
  | .contextSaveStart => true
  | .contextSaveDone => true
  | .queueBind => true
  | .queueResume => true
  | .queueUnbind => true
  | .barrierBind => true
  | .barrierReset => true
  | .barrierUnbind => true
  | .barrierBreakCmd => true
  | .contextCreate => true
  | .contextDestroy => true
  | .kill => true
  | .incarnationInstalled => true
  | .rclfCommand => true
  | .rclfComplete => true
  | .faultTableRecordWrite => true
  | .tracefreeze => true
  | .traceDump => true
  | .traceRearm => true
  | .tetherCommandStart => true
  | .triggerFire => true
  | .linkTrainingFailed => true
  | .linkCorrectableError => true
  | .linkUncorrectableError => true
  | .linkRetrain => true
  | .ptpSyncLoss => true
  | .packageResetRelease => true
  | .switchingDone => true
  | .dcmdFull => true
  | .dcmdRecover => true
  | .attestationRequest => true
  | .junctionOvertempReset => true
  | .lifetimeCounterSave => true
  | .coreRailDroop => true
  | .winchBurstComplete => true
  | .packageReset => true
  | .powerLoss => true
  | .orderlyShutdown => true

end Sys2Proof
end

