-- ==== Sys2Proof/Machine/Operands.lean ====
section
/-!
DEFINITION. Sys2Proof/Machine/Operands.lean: how a sequencer word reads its operands and leaves its results (05 R112-R115), the
operands of lagging words (04 R98), and the fetch of a text word (04 R94).
-/

namespace Sys2Proof.Machine

/-! ### Pending results (R113) -/

/-- A result is pending for a register: exposed, or interlocked. -/
def SeqState.exposed (q : SeqState) (r : RegRef) : Bool := q.pend.any (fun p => p.reg == r)
def SeqState.locked (q : SeqState) (r : RegRef) : Bool := q.locks.contains r || q.walls.any (fun w => RegRef.g w.reg == r)

/-- The immediate of an S.RI12 word, modulo 2^64 (03 R59). -/
def imm12 (i : BitVec 12) : Reg := i.signExtend 64

/-- Write an exposed g result of latency `lat`: a latency of 1 is never visible (R115), a longer one leaves the write pending (logs 33 and 34). -/
def State.writeG (s : State) (d : Nat) (v : Reg) (lat : Nat) : State :=
  if d = 0 then s
  else if lat ≤ 1 then s.modRegs s.cur fun r => r.setG d v
  else s.modSeq s.cur fun q => { q with pend := q.pend ++ [⟨.g d, v, s.now + lat⟩] }

/-- Write a c flag (latency 1) (log 34). -/
def State.writeC (s : State) (f : Nat) (v : Bool) : State := s.modRegs s.cur fun r => r.setC f v

/-- Write an interlocked g result of a slot and release its register (log 33). -/
def State.writeLocked (s : State) (slot d : Nat) (v : Reg) : State :=
  ((s.modRegs slot fun r => r.setG d v).modSeq slot fun q => { q with locks := dropFirst (· == .g d) q.locks }).modSlot slot
    fun sl => sl.resultWritten (.g d)

/-- Hold a g register until its interlocked result comes: g0 leaves nothing pending (log 33). -/
def State.lockG (s : State) (d : Nat) : State :=
  if d = 0 then s else s.modSeq s.cur fun q => { q with locks := q.locks ++ [.g d] }

/-- A sequencer word: its encoding is checked (R81), it stalls on interlocked operands, on pending destinations and where its body does,
and in the cycle in which it would issue it may trap an early read (R112, R115) or has the effect of its body. -/
def sWord (i : Instr) (srcs dsts : List RegRef) (body : State → Act) (s : State) : State :=
  let q := (s.slot s.cur).seq
  if i.wellFormed = false then s.trapAt s.cur .S fILLEGAL 0 0
  else if srcs.any q.locked then Act.run .stall .S s
  else if dsts.any (fun r => q.exposed r || q.locked r) then Act.run .stall .S s
  else
    match body s with
    | .stall => Act.run .stall .S s
    | a => if q.pc.view.penddbg && srcs.any q.exposed then s.trapAt s.cur .S fEARLYREAD 0 0 else Act.run a .S s

/-- A g operand of the current slot. -/
def State.g (s : State) (n : Nat) : Reg := (s.slot s.cur).regs.getG n

/-! ### Waiting words (18 R418) -/

/-- A sequencer word waits: it stands at its position until what it waits for has come. -/
def State.seqWait (s : State) : State :=
  s.modSeq s.cur fun q => { q with waitFrom := some (q.waitFrom.getD s.now) }

/-- The wait of a sequencer word ends: a WAIT entry holds the cycles it spent. -/
def State.seqWaited (s : State) (slot : Nat) : State :=
  let spent := s.now - ((s.slot slot).seq.waitFrom.getD s.now)
  let s := if spent = 0 then s else s.traceAt slot .S 2 8 (min (2 ^ 32 - 1) spent) none
  s.modSeq slot fun q => { q with waitFrom := none }

/-! ### Operands of lagging words (04 R98) -/

/-- The two g operands of a lagging word: as they were copied when PC_S left its position (log 34). -/
def State.copiedOf (s : State) (e : Engine) (a b : Nat) : Reg × Reg :=
  let sl := s.slot s.cur
  let c := sl.counter e
  match c.copied.find? (fun x => x.pos == c.pos) with
  | some x => (x.x, x.y)
  | none => (sl.regs.getG a, sl.regs.getG b)

/-- The physical tile of a name under a rotation (04 R108). -/
def rotated (rotcfg rrb name : Nat) : Nat :=
  if rotcfg ≠ 0 ∧ 32 ≤ name ∧ name < 32 + rotcfg then 32 + (name - 32 + rrb) % rotcfg else name

/-! ### Text (04 R94) -/

/-- The virtual address of a text word of an activation. Text that runs past the end of the 56-bit space wraps (log 90). -/
def Activation.wordVa (a : Activation) (idx : Nat) : Nat := (a.codebase.toNat + 4 * idx) % 2 ^ 56

/-- The word of an instruction-cache line at an address. -/
def CodeLine.word (l : CodeLine) (va : Nat) : Word := BitVec.ofNat 32 (l.bytes.toNat / 2 ^ (8 * (va % 64)))

def CoreState.codeLine (c : CoreState) (tag : BitVec 18) (va : Nat) : Option CodeLine :=
  c.icache.find? (fun l => l.tag == tag && l.va == va / 64 * 64)

/-- The answer of a fetch. -/
inductive Fetch where
  | word (w : Word)
  | waits
  | trap (code status addr : Nat)
  deriving DecidableEq, Repr

/-- STATUS of a LINK that a unit raises for the endpoint (16 R371). -/
def linkDown : Nat := 8 + 2 * 2 ^ 8

/-- Fetch a text word of a slot: from a line of the core's cache under the activation's tag, else through the core's buffers into a
new line (R94). -/
def State.fetch (s : State) (slot idx : Nat) : Fetch × State :=
  let a := (s.slot slot).act
  let va := a.wordVa idx
  let core := coreOf slot
  match (s.core core).codeLine a.inctag va with
  | some l => (.word (l.word va), s)
  | none =>
    match s.touch (.core core) (some slot) a.inctag (va / 64 * 64) 64 .fetch with
    | (.served pa, s) =>
      if s.paKind pa = .window ∧ s.hostUp = false then (.trap fLINK linkDown 0, s)
      else
        let (bs, s) := s.physRead pa 64
        let l : CodeLine := ⟨va / 64 * 64, a.inctag, BitVec.ofNat 512 (ofBytes bs)⟩
        (.word (l.word va), s.modCore core fun c => { c with icache := (l :: c.icache).take 2048 })
    | (.waits, s) => (.waits, s)
    | (.stale, s) => (.trap fENCODING 0 va, s)
    | (.fault code status, s) => (.trap code status va, s)

/-- A text word as a peek finds it, without an effect: `none` past the text, or where no translation leads to it (log 16). -/
def State.peek (s : State) (slot idx : Nat) : Option Word :=
  let a := (s.slot slot).act
  if a.codelimit.toNat ≤ idx then none
  else
    match s.fetch slot idx with
    | (.word w, _) => some w
    | _ => none

/-- A word of the common control (03 R55). -/
def isControl (w : Word) : Bool := decide (field w.toNat 31 30 = 0 ∧ field w.toNat 29 24 < 16)

end Sys2Proof.Machine
end

