-- ==== Sys2Proof/Machine/Alu.lean ====
section
/-!
DEFINITION. Sys2Proof/Machine/Alu.lean: integer arithmetic and comparison of the sequencer (05 R116-R119).
-/

namespace Sys2Proof.Machine

/-! ### Operations (R116) -/

/-- Signed division rounded toward zero, its remainder, and the unsigned forms, with their results for a zero divisor. -/
def aluDiv (a b : Reg) : Reg := if b = 0 then BitVec.allOnes 64 else BitVec.ofInt 64 (a.toInt.tdiv b.toInt)
def aluRem (a b : Reg) : Reg := if b = 0 then a else BitVec.ofInt 64 (a.toInt - b.toInt * a.toInt.tdiv b.toInt)
def aluDivn (a b : Reg) : Reg := if b = 0 then BitVec.allOnes 64 else BitVec.ofNat 64 (a.toNat / b.toNat)
def aluRemn (a b : Reg) : Reg := if b = 0 then a else BitVec.ofNat 64 (a.toNat % b.toNat)

/-- floor(as × bs ÷ 2^64) and its unsigned form. -/
def aluMulh (a b : Reg) : Reg := BitVec.ofInt 64 ((a.toInt * b.toInt) / 2 ^ 64)
def aluMulhn (a b : Reg) : Reg := BitVec.ofNat 64 (a.toNat * b.toNat / 2 ^ 64)

def aluShl (a b : Reg) : Reg := a <<< (b.toNat % 64)
def aluShr (a b : Reg) : Reg := a >>> (b.toNat % 64)
/-- floor(as ÷ 2^(b mod 64)). -/
def aluSar (a b : Reg) : Reg := BitVec.ofInt 64 (a.toInt / 2 ^ (b.toNat % 64))

def aluMin (a b : Reg) : Reg := if a.toInt < b.toInt then a else b
def aluMax (a b : Reg) : Reg := if b.toInt < a.toInt then a else b
def aluMinn (a b : Reg) : Reg := if a.toNat < b.toNat then a else b
def aluMaxn (a b : Reg) : Reg := if b.toNat < a.toNat then a else b

def aluClz (a : Reg) : Reg := BitVec.ofNat 64 (leadZeros 64 a.toNat)
def aluCtz (a : Reg) : Reg := BitVec.ofNat 64 (trailZeros 64 a.toNat)
def aluPopc (a : Reg) : Reg := BitVec.ofNat 64 (popCount 64 a.toNat)

/-! ### Shapes of words -/

/-- An S.RRR word of two g operands and an exposed g result. -/
def alu2 (i : Instr) (lat : Nat) (f : Reg → Reg → Reg) (d a b : BitVec 6) : State → State :=
  sWord i [.g a.toNat, .g b.toNat] [.g d.toNat] fun s => .done (s.writeG d.toNat (f (s.g a.toNat) (s.g b.toNat)) lat)

/-- An S.RRR word of one g operand. -/
def alu1 (i : Instr) (f : Reg → Reg) (d a : BitVec 6) : State → State :=
  sWord i [.g a.toNat] [.g d.toNat] fun s => .done (s.writeG d.toNat (f (s.g a.toNat)) 1)

/-- An S.RI12 word of one g operand and an immediate (R117). -/
def aluI (ins : Instr) (lat : Nat) (f : Reg → Reg → Reg) (d a : BitVec 6) (i : BitVec 12) : State → State :=
  sWord ins [.g a.toNat] [.g d.toNat] fun s => .done (s.writeG d.toNat (f (s.g a.toNat) (imm12 i)) lat)

/-- SEL takes g[A] where its flag is 1, else g[B]. -/
def aluSel (i : Instr) (d a b : BitVec 6) (f : Nat) : State → State :=
  sWord i [.g a.toNat, .g b.toNat, .c f] [.g d.toNat] fun s =>
    .done (s.writeG d.toNat (if (s.slot s.cur).regs.getC f then s.g a.toNat else s.g b.toNat) 1)

/-! ### Meanings (R116-R119) -/

def execAdd (d a b : BitVec 6) (s : State) : Out := .next (alu2 (.add d a b) 1 (· + ·) d a b s)
def execSub (d a b : BitVec 6) (s : State) : Out := .next (alu2 (.sub d a b) 1 (· - ·) d a b s)
def execAnd (d a b : BitVec 6) (s : State) : Out := .next (alu2 (.and d a b) 1 (· &&& ·) d a b s)
def execOr (d a b : BitVec 6) (s : State) : Out := .next (alu2 (.or d a b) 1 (· ||| ·) d a b s)
def execXor (d a b : BitVec 6) (s : State) : Out := .next (alu2 (.xor d a b) 1 (· ^^^ ·) d a b s)
def execShl (d a b : BitVec 6) (s : State) : Out := .next (alu2 (.shl d a b) 1 aluShl d a b s)
def execShr (d a b : BitVec 6) (s : State) : Out := .next (alu2 (.shr d a b) 1 aluShr d a b s)
def execSar (d a b : BitVec 6) (s : State) : Out := .next (alu2 (.sar d a b) 1 aluSar d a b s)
def execMul (d a b : BitVec 6) (s : State) : Out := .next (alu2 (.mul d a b) 3 (· * ·) d a b s)
def execMulh (d a b : BitVec 6) (s : State) : Out := .next (alu2 (.mulh d a b) 3 aluMulh d a b s)
def execMulhn (d a b : BitVec 6) (s : State) : Out := .next (alu2 (.mulhn d a b) 3 aluMulhn d a b s)
def execDiv (d a b : BitVec 6) (s : State) : Out := .next (alu2 (.div d a b) 18 aluDiv d a b s)
def execDivn (d a b : BitVec 6) (s : State) : Out := .next (alu2 (.divn d a b) 18 aluDivn d a b s)
def execRem (d a b : BitVec 6) (s : State) : Out := .next (alu2 (.rem d a b) 18 aluRem d a b s)
def execRemn (d a b : BitVec 6) (s : State) : Out := .next (alu2 (.remn d a b) 18 aluRemn d a b s)
def execMin (d a b : BitVec 6) (s : State) : Out := .next (alu2 (.min d a b) 1 aluMin d a b s)
def execMax (d a b : BitVec 6) (s : State) : Out := .next (alu2 (.max d a b) 1 aluMax d a b s)
def execMinn (d a b : BitVec 6) (s : State) : Out := .next (alu2 (.minn d a b) 1 aluMinn d a b s)
def execMaxn (d a b : BitVec 6) (s : State) : Out := .next (alu2 (.maxn d a b) 1 aluMaxn d a b s)
def execClz (d a : BitVec 6) (s : State) : Out := .next (alu1 (.clz d a) aluClz d a s)
def execCtz (d a : BitVec 6) (s : State) : Out := .next (alu1 (.ctz d a) aluCtz d a s)
def execPopc (d a : BitVec 6) (s : State) : Out := .next (alu1 (.popc d a) aluPopc d a s)
def execSelFunc16 (d a b : BitVec 6) (s : State) : Out := .next (aluSel (.selFunc16 d a b) d a b 0 s)
def execSel (d a b : BitVec 6) (f : BitVec 3) (s : State) : Out := .next (aluSel (.sel d a b f) d a b f.toNat s)
def execAddx (d a b : BitVec 6) (sc : BitVec 2) (s : State) : Out :=
  .next (alu2 (.addx d a b sc) 1 (fun x y => x + (y <<< sc.toNat)) d a b s)

def execAddi (d a : BitVec 6) (i : BitVec 12) (s : State) : Out := .next (aluI (.addi d a i) 1 (· + ·) d a i s)
def execAndi (d a : BitVec 6) (i : BitVec 12) (s : State) : Out := .next (aluI (.andi d a i) 1 (· &&& ·) d a i s)
def execOri (d a : BitVec 6) (i : BitVec 12) (s : State) : Out := .next (aluI (.ori d a i) 1 (· ||| ·) d a i s)
def execXori (d a : BitVec 6) (i : BitVec 12) (s : State) : Out := .next (aluI (.xori d a i) 1 (· ^^^ ·) d a i s)
def execShli (d a : BitVec 6) (i : BitVec 12) (s : State) : Out := .next (aluI (.shli d a i) 1 aluShl d a i s)
def execShri (d a : BitVec 6) (i : BitVec 12) (s : State) : Out := .next (aluI (.shri d a i) 1 aluShr d a i s)
def execSari (d a : BitVec 6) (i : BitVec 12) (s : State) : Out := .next (aluI (.sari d a i) 1 aluSar d a i s)
def execMuli (d a : BitVec 6) (i : BitVec 12) (s : State) : Out := .next (aluI (.muli d a i) 3 (· * ·) d a i s)

/-- LUI (R118). -/
def execLui (d : BitVec 6) (i : BitVec 18) (s : State) : Out :=
  .next (sWord (.lui d i) [] [.g d.toNat] (fun s => .done (s.writeG d.toNat (BitVec.ofInt 64 (i.toInt * 4096)) 1)) s)

def execCmp (c f : BitVec 3) (a b : BitVec 6) (s : State) : Out :=
  .next (sWord (.cmp c f a b) [.g a.toNat, .g b.toNat] [.c f.toNat]
    (fun s => .done (s.writeC f.toNat (cmpHolds c.toNat (s.g a.toNat) (s.g b.toNat)))) s)

def execCmpi (c f : BitVec 3) (a : BitVec 6) (i : BitVec 12) (s : State) : Out :=
  .next (sWord (.cmpi c f a i) [.g a.toNat] [.c f.toNat]
    (fun s => .done (s.writeC f.toNat (cmpHolds c.toNat (s.g a.toNat) (imm12 i)))) s)

end Sys2Proof.Machine
end

