-- ==== Sys2Proof/Machine/Scratch.lean ====
section
/-!
DEFINITION. Sys2Proof/Machine/Scratch.lean: the scratchpad of a core and its banks (03 R61, 09 R252), the near-stores of the dies
(09 R245, R246), and what they accept and acknowledge (09 R240).
-/

namespace Sys2Proof.Machine

/-! ### The scratchpad -/

def bankBytes : Nat := 0x18000

/-- A slot's range holds [lo, hi). -/
def Activation.inRange (a : Activation) (lo hi : Int) : Bool := decide ((a.spbase.toNat : Int) ≤ lo) && decide (hi ≤ a.splimit.toNat)

/-- A bank of the range is still being zeroed for the activation of the slot (R61). -/
def State.zeroingAt (s : State) (slot lo n : Nat) : Bool :=
  (s.core (coreOf slot)).bankZeroing.any fun z => z.side == sideOf slot && overlaps (z.part * bankBytes) bankBytes lo n

/-- The bank records the writing activation's context, or mixed (R61). -/
def CoreState.noteBank (c : CoreState) (a : Activation) (b : Nat) : CoreState :=
  if a.inRange (b * bankBytes : Nat) ((b + 1) * bankBytes : Nat) then { c with banks := c.banks.put b (ctxOf a.inctag) }
  else { c with banks := c.banks.del b }

/-- Note a write of [lo, lo + n). -/
def CoreState.noteWrite (c : CoreState) (a : Activation) (lo n : Nat) : CoreState :=
  if n = 0 then c
  else (rangeFrom (lo / bankBytes) ((lo + n - 1) / bankBytes + 1 - lo / bankBytes)).foldl (fun c b => c.noteBank a b) c

/-- Write scratchpad bytes for the activation of a slot. -/
def State.spWrite (s : State) (slot addr : Nat) (bs : List Byte) : State :=
  let a := (s.slot slot).act
  s.modCore (coreOf slot) fun c => ({ c with scratch := c.scratch.writeN addr bs }).noteWrite a addr bs.length

def State.spRead (s : State) (slot addr n : Nat) : List Byte := (s.core (coreOf slot)).scratch.readN addr n

/-- Write one scratchpad byte bit by bit: ones of `keep` leave the bit as it is (R167, R253). -/
def State.spMerge (s : State) (slot : Nat) (w : SpWrite) : State :=
  let old := (s.core (coreOf slot)).scratch.read w.addr
  s.spWrite slot w.addr [(old &&& w.keep) ||| (w.val &&& ~~~w.keep)]

/-! ### Near-stores (R245) -/

def NearStoreEntry.covers (e : NearStoreEntry) (pa n : Nat) : Bool := overlaps e.pa e.bytes.length pa n

/-- Lay bytes that stand at `at_` over a list of bytes that begins at `base` (log 43). -/
def overlay (base : Nat) (under : List Byte) (at_ : Nat) (bs : List Byte) : List Byte :=
  (under.zip (rangeFrom base under.length)).map fun (b, a) => if at_ ≤ a ∧ a < at_ + bs.length then (bs[a - at_]?).getD b else b

/-- The stores that a die has accepted lie over the bytes that their homes hold (R240). -/
def DieState.forward (d : DieState) (pa : Nat) (bs : List Byte) : List Byte :=
  d.accepted.foldl (fun bs e => if e.covers pa bs.length then overlay pa bs e.pa e.bytes else bs) bs

def lineBytes (l : NearLine) (off n : Nat) : List Byte := toBytes n (l.bytes.toNat / 2 ^ (8 * off))

/-- The lines of a near-store of 64 MiB (01 R17). -/
def nearLines : Nat := 262144

/-- A read of a core through its die's near-store: from a line of its fill class, else from the home, and the line is filled with the
class of the read. A window address is read from its far side, through no line (log 23). -/
def State.nearRead (s : State) (die pa n cls : Nat) (tag : BitVec 18) : List Byte × State :=
  let base := pa / 256 * 256
  let d := s.die die
  match s.paKind pa with
  | .window => let (bs, s) := s.physRead pa n; (d.forward pa bs, s)
  | .hole => s.physRead pa n
  | _ =>
    match d.lines.find? (fun l => l.base == base && l.cls == cls) with
    | some l => (lineBytes l (pa - base) n, s)
    | none =>
      let home := d.forward base (s.mem.readN base 256)
      let l : NearLine := ⟨base, cls, tag, BitVec.ofNat 2048 (ofBytes home)⟩
      (lineBytes l (pa - base) n, s.modDie die fun d => { d with lines := (l :: d.lines.filter (fun x => x.base != base)).take nearLines })

/-- A read of a core can be served now: by a line of its die, or from a home that the die reaches (R245; 16 R365). -/
def State.nearServes (s : State) (die pa cls : Nat) : Bool :=
  s.reaches die pa || (s.die die).lines.any fun l => l.base == pa / 256 * 256 && l.cls == cls

/-- A store of the die updates its lines (R245). -/
def NearLine.store (l : NearLine) (pa : Nat) (bs : List Byte) : NearLine :=
  if overlaps l.base 256 pa bs.length then
    { l with bytes := BitVec.ofNat 2048 (ofBytes (overlay l.base (toBytes 256 l.bytes.toNat) pa bs)) }
  else l

/-- The near-store of a die accepts a store. -/
def State.nearAccept (s : State) (die : Nat) (e : NearStoreEntry) : State :=
  s.modDie die fun d => { d with accepted := d.accepted ++ [e], lines := d.lines.map (fun l => l.store e.pa e.bytes) }

/-- Invalidate the lines that a test names (log 57). -/
def State.dropLines (s : State) (die : Nat) (p : NearLine → Bool) : State :=
  s.modDie die fun d => { d with lines := d.lines.filter (fun l => !p l) }

/-- The near-store acquire of R246: lines of the die whose fill class is in the mask. -/
def State.nearAcquire (s : State) (die mask : Nat) : State := s.dropLines die fun l => bitAt mask l.cls

/-- A physical address lies in the host window: what goes there leaves in the order in which its agent issued it (16 R369). -/
def inWindow (pa : Nat) : Bool := decide (0x20000000000 ≤ pa ∧ pa < 0x40000000000)

/-- The `k`-th accepted store of a die may be acknowledged: no earlier one of the die overlaps it, no earlier one of its agent is in its class
(R238, R241), and to the window none of its agent is earlier at all (16 R369). -/
def DieState.mayAck (d : DieState) (k : Nat) : Bool :=
  match d.accepted[k]? with
  | none => false
  | some e =>
    (d.accepted.take k).all fun x =>
      !x.covers e.pa e.bytes.length
      && !(x.slot == e.slot && x.burst == e.burst
        && ((inWindow x.pa && inWindow e.pa) || (x.cls == e.cls && (!e.burst || x.num != e.num))))

/-- A store performs at its home: the write, and the fate of one that meets a link that is down (16 R371) (log 23). -/
def State.homeWrite (s : State) (pa : Nat) (bs : List Byte) : Bool × State :=
  (s.paKind pa == .window && !s.hostUp, s.physWrite pa bs)

end Sys2Proof.Machine
end

