-- ==== Sys2Proof/Machine/SeqMem.lean ====
section
/-!
DEFINITION. Sys2Proof/Machine/SeqMem.lean: the sequencer's accesses to its scratchpad range (05 R120-R122) and to global memory
(05 R123-R125; 18 R459).
-/

namespace Sys2Proof.Machine

/-- The size in bytes of a kind of R120, and whether it is signed. -/
def kindSize (k : Nat) : Nat := 2 ^ (k / 2)
def kindSigned (k : Nat) : Bool := k % 2 == 0

/-- `x` of `n` bytes, extended to a register. -/
def extendTo (signed : Bool) (n x : Nat) : Reg :=
  if signed then BitVec.ofInt 64 (sext (x % 2 ^ (8 * n)) (8 * n)) else BitVec.ofNat 64 (x % 2 ^ (8 * n))

/-- The effective address of LDS and STS, formed exactly (R120). -/
def ldsAddr (base : Reg) (o : BitVec 9) (sz : Nat) : Int := (base.toNat : Int) + o.toInt * sz

/-- Checks 2 and 3 of R120, and what follows when they pass. -/
def scratchAt (s : State) (ea : Int) (sz : Nat) (k : Nat → Act) : Act :=
  let addr := wrapN 64 ea
  if (s.slot s.cur).act.inRange ea (ea + sz) = false then .trap fSPBOUND 0 addr
  else if ea % sz ≠ 0 then .trap fALIGN 0 addr
  else if s.zeroingAt s.cur ea.toNat sz then .stall
  else k ea.toNat

def execLds (d a : BitVec 6) (k : BitVec 3) (o : BitVec 9) (s : State) : Out :=
  .next (sWord (.lds d a k o) [.g a.toNat] [.g d.toNat] (fun s =>
    let sz := kindSize k.toNat
    scratchAt s (ldsAddr (s.g a.toNat) o sz) sz fun ea =>
      let v := extendTo (kindSigned k.toNat) sz (ofBytes (s.spRead s.cur ea sz))
      .done ((s.writeG d.toNat v 4).traceInput s.cur d.toNat v)) s)

def execSts (d a : BitVec 6) (k : BitVec 3) (o : BitVec 9) (s : State) : Out :=
  .next (sWord (.sts d a k o) [.g d.toNat, .g a.toNat] [] (fun s =>
    let sz := kindSize k.toNat
    scratchAt s (ldsAddr (s.g a.toNat) o sz) sz fun ea => .done (s.spWrite s.cur ea (toBytes sz (s.g d.toNat).toNat))) s)

/-! ### Global accesses -/

/-- Checks 2 and 3 of R123, the issue of the access, and the entry of the trace (18 R418). -/
def globalAt (s : State) (kind : GKind) (sz cls reg : Nat) (ea : Reg) (x y : Nat) : Act :=
  if 2 ^ 56 ≤ ea.toNat then .trap fTRANSLATION 0 ea.toNat
  else if ea.toNat % sz ≠ 0 then .trap fALIGN 0 ea.toNat
  else
    let sl := s.slot s.cur
    let r : GReq :=
      { kind := kind, num := sl.seq.reqNum, pos := sl.seq.pc.pos, word := sl.seq.pc.word, mode := sl.traceMode .S, reg := reg, va := ea.toNat, cls := cls,
        tag := sl.act.inctag, x := x, y := y, stage := .walk, pa := 0, val := 0 }
    let s := s.modSeq s.cur fun q => { q with reqs := q.reqs ++ [r], reqNum := q.reqNum + 1 }
    .done (s.traceAt s.cur .S 1 4 (ea.toNat % 2 ^ 32) none)

def execGld (d a : BitVec 6) (c : BitVec 4) (k : BitVec 3) (s : State) : Out :=
  .next (sWord (.gld d a c k) [.g a.toNat] [.g d.toNat] (fun s =>
    let sz := kindSize k.toNat
    match globalAt s (.load sz (kindSigned k.toNat)) sz c.toNat d.toNat (s.g a.toNat) 0 0 with
    | .done t => .done (t.lockG d.toNat)
    | r => r) s)

def execGst (d a : BitVec 6) (c : BitVec 4) (k : BitVec 3) (s : State) : Out :=
  .next (sWord (.gst d a c k) [.g d.toNat, .g a.toNat] [] (fun s =>
    let sz := kindSize k.toNat
    globalAt s (.store sz) sz c.toNat 0 (s.g a.toNat) (s.g d.toNat).toNat 0) s)

def execGatom (d a : BitVec 6) (c : BitVec 4) (z : BitVec 1) (o : BitVec 4) (s : State) : Out :=
  let cas := o.toNat == 9
  .next (sWord (.gatom d a c z o) ([.g a.toNat, .g d.toNat] ++ if cas then [.g (d.toNat + 1)] else []) [.g d.toNat] (fun s =>
    let sz := 4 * (z.toNat + 1)
    match globalAt s (.atom o.toNat sz) sz c.toNat d.toNat (s.g a.toNat) (s.g d.toNat).toNat
        (if cas then (s.g (d.toNat + 1)).toNat else 0) with
    | .done t => .done (t.lockG d.toNat)
    | r => r) s)

/-- The new value of a GATOM of `w` bits (R124): `none` writes nothing. -/
def atomNew (op w old x y : Nat) : Option Nat :=
  match op with
  | 0 => some ((old + x) % 2 ^ w)
  | 1 => some (if sext old w ≤ sext x w then old else x)
  | 2 => some (if sext old w ≤ sext x w then x else old)
  | 3 => some (min old x)
  | 4 => some (max old x)
  | 5 => some (old &&& x)
  | 6 => some (old ||| x)
  | 7 => some (old ^^^ x)
  | 8 => some x
  | _ => if old = x then some y else none

/-! ### How an access is served (09 R240-R249) -/

def GReq.size (r : GReq) : Nat :=
  match r.kind with
  | .load n _ => n
  | .store n => n
  | .atom _ n => n

def GReq.akind (r : GReq) : AKind :=
  match r.kind with
  | .load _ _ => .read
  | .store _ => .write
  | .atom _ _ => .atomic

def GReq.isStore (r : GReq) : Bool :=
  match r.kind with
  | .store _ => true
  | _ => false

/-- The access has performed at die scope: its value is fixed, or the near-store has accepted it. -/
def GReq.atDie (r : GReq) : Bool := r.stage == .served

/-- The access has performed at package scope: a store that has is no longer held. -/
def GReq.atPackage (r : GReq) : Bool := r.stage == .served && !r.isStore

/-- The earlier accesses of the slot in the class have performed where this one's order needs it (R241), and the earlier acquires of the
class have completed (R244). -/
def SeqState.mayServe (q : SeqState) (r : GReq) : Bool :=
  (q.reqs.all fun x => !(decide (x.num < r.num) && x.cls == r.cls) || (if r.isStore then x.atDie else x.atPackage))
  && q.acqs.all fun a => !(decide (a.1 ≤ r.num) && bitAt a.2 r.cls)

/-- An acquire may complete: the accesses before it in the classes of its mask have performed (R244) (log 85). -/
def SeqState.acquires (q : SeqState) (a : Nat × Nat) : Bool :=
  q.reqs.all fun x => !(decide (x.num < a.1) && bitAt a.2 x.cls) || x.atDie

/-- The acquire of a slot at package or system scope, over a class mask: the lines of the die are invalidated as it completes (R246). -/
def State.acquireAt (s : State) (slot mask : Nat) : State :=
  let q := (s.slot slot).seq
  let a := (q.reqNum, mask)
  if q.acquires a then s.nearAcquire (dieOf slot) mask else s.modSeq slot fun q => { q with acqs := q.acqs ++ [a] }

/-- The pending acquires of a slot that can complete do. -/
def State.settleAcquires (slot : Nat) (s : State) : State :=
  let q := (s.slot slot).seq
  let s := (q.acqs.filter q.acquires).foldl (fun s a => s.nearAcquire (dieOf slot) a.2) s
  if q.acqs.isEmpty then s else s.modSeq slot fun q => { q with acqs := q.acqs.filter fun a => !q.acquires a }

/-- A store or an atomic of a slot may leave for the window: its earlier ones have been accepted (16 R369). -/
def SeqState.leavesNext (q : SeqState) (r : GReq) : Bool :=
  q.reqs.all fun x => !decide (x.num < r.num) || x.akind == .read || x.stage == .served

/-- An access of a slot that has come to its physical address can be served there now: its home is reached, and it is its turn (16 R365,
R369). -/
def State.reqReady (s : State) (slot : Nat) (r : GReq) (pa : Nat) : Bool :=
  let die := dieOf slot
  match r.kind with
  | .load _ _ => s.nearServes die pa r.cls
  | .store _ => !inWindow pa || (s.slot slot).seq.leavesNext r
  | .atom _ _ =>
    s.reaches die pa
    && (!inWindow pa || ((s.slot slot).seq.leavesNext r && !(s.die die).accepted.any fun e => e.slot == slot && !e.burst && inWindow e.pa))

/-- Change the `k`-th access of a slot. -/
def State.setReq (s : State) (slot k : Nat) (r : GReq) : State := s.modSeq slot fun q => { q with reqs := setAt q.reqs k r }

def State.dropReq (s : State) (slot k : Nat) : State := s.modSeq slot fun q => { q with reqs := q.reqs.eraseIdx k }

/-- Serve an access at its physical address. -/
def State.serveReq (s : State) (slot k : Nat) (r : GReq) (pa : Nat) : State :=
  let die := dieOf slot
  match r.kind with
  | .load n _ =>
    let (bs, s) := s.nearRead die pa n r.cls r.tag
    s.setReq slot k { r with stage := .served, pa := pa, val := ofBytes bs }
  | .store n =>
    let s := s.nearAccept die
      { slot := slot, burst := false, num := r.num, off := 0, pa := pa, bytes := toBytes n r.x, tag := r.tag, cls := r.cls }
    s.setReq slot k { r with stage := .served, pa := pa }
  | .atom op n =>
    if (s.die die).accepted.any (fun e => e.covers pa n) then s
    else
      let (bs, s) := s.physRead pa n
      let old := ofBytes bs
      let s := match atomNew op (8 * n) old (r.x % 2 ^ (8 * n)) (r.y % 2 ^ (8 * n)) with
        | some v => s.physWrite pa (toBytes n v)
        | none => s
      let s := s.dropLines die fun l => l.base == pa / 256 * 256
      s.setReq slot k { r with stage := .served, pa := pa, val := old }

/-- An access is discarded (18 R413): nothing waits for its result any more. -/
def State.discardReq (s : State) (slot k : Nat) (r : GReq) : State :=
  ((s.dropReq slot k).modSeq slot fun q => { q with locks := if r.isStore then q.locks else dropFirst (· == .g r.reg) q.locks }).modSlot slot
    fun sl => if r.isStore then sl else sl.resultWritten (.g r.reg)

/-- The access of a slot whose activation has stopped for good is discarded (18 R413); any other raises its fault (18 R459). -/
def State.reqFault (s : State) (slot k : Nat) (r : GReq) (code status : Nat) (key : Option WalkKey) : State :=
  match (s.slot slot).stop with
  | some st => if st.final then s.discardReq slot k r else s
  | none =>
    let s := match key with
      | some w => s.addWalk w
      | none => s
    (s.raiseTrap slot .S code status r.va (s.slot slot).seq.pc.word (some r.word) key).setReq slot k { r with stage := .faulted }

/-- An access makes its walk and its touch, and is served (R123 check 4; 10 R274). -/
def State.walkReq (s : State) (slot k : Nat) : State :=
  match (s.slot slot).seq.reqs[k]? with
  | none => s
  | some r =>
    if r.stage ≠ .walk ∨ (s.slot slot).seq.mayServe r = false ∨ s.live r.tag = false then s
    else
      let key := walkKey r.tag r.va
      match s.joins (.core (coreOf slot)) r.tag r.va with
      | some f =>
        match (s.slot slot).stop with
        | some st => if st.final then s.discardReq slot k r else s
        | none => (s.joinFault slot .S f).setReq slot k { r with stage := .faulted }
      | none =>
        match s.touch (.core (coreOf slot)) (some slot) r.tag r.va r.size r.akind with
        | (.served pa, t) =>
          if t.paKind pa = .window ∧ t.hostUp = false then t.reqFault slot k r fLINK linkDown none
          else if t.reqReady slot r pa then t.serveReq slot k r pa
          else s
        | (.waits, s) => s
        | (.stale, s) => s.reqFault slot k r fENCODING 0 none
        | (.fault code status, s) => s.reqFault slot k r code status (some key)

/-- An access of a killed activation is dropped, once its tag is no longer current: an orphan or stale (15 R353). -/
def State.dropStray (s : State) (slot k : Nat) : State :=
  match (s.slot slot).strays[k]? with
  | none => s
  | some x =>
    if s.live x.tag then s
    else
      let s := s.modSlot slot fun sl => { sl with strays := sl.strays.eraseIdx k }
      if x.orphan then s.countOrphan (ctxOf x.tag) 1 else s.countStale (ctxOf x.tag) 1

/-- GLOBAL_LOAD_RESPONSE (R124, R125): the value of an access of the slot reaches its register. Past the slot's own accesses, those of
killed activations follow. -/
def execGlobalLoadResponse (k : Nat) (s : State) : Out :=
  .next (
    let slot := s.cur
    match (s.slot slot).seq.reqs[k]? with
    | none => s.dropStray slot (k - (s.slot slot).seq.reqs.length)
    | some r =>
      if r.stage ≠ .served ∨ r.isStore then s
      else
        let v := match r.kind with
          | .load n sg => extendTo sg n r.val
          | _ => BitVec.ofNat 64 r.val
        ((s.dropReq slot k).writeLocked slot r.reg v).traceEntry slot .S r.mode 2 9 r.word r.reg (some v))

/-- An accepted burst whose command has been discarded (18 R413). -/
def State.abandoned (s : State) (e : NearStoreEntry) : Bool :=
  e.burst && !(s.slot e.slot).asy.stores.any fun c => c.num == e.num && c.flying.any fun b => b.off == e.off

/-- The slot of an accepted store still runs the activation that issued it. -/
def State.issuerRuns (s : State) (e : NearStoreEntry) : Bool := (s.slot e.slot).busy && (s.slot e.slot).act.inctag == e.tag

/-- GLOBAL_STORE_ACK (R125): the home acknowledges the k-th accepted store of the die, a GST, or a burst whose command is gone. Where the
activation that issued it has gone, the acknowledgement is an orphan (15 R353). -/
def execGlobalStoreAck (k : Nat) (s : State) : Out :=
  .next (
    let die := s.cur
    match (s.die die).accepted[k]? with
    | none => s
    | some e =>
      if s.live e.tag = false then
        (s.modDie die fun d => { d with accepted := d.accepted.eraseIdx k }).countStale (ctxOf e.tag) 1
      else if (e.burst = true ∧ s.abandoned e = false) ∨ (s.die die).mayAck k = false ∨ s.reaches die e.pa = false then s
      else
        let (down, s) := s.homeWrite e.pa e.bytes
        let s := s.modDie die fun d => { d with accepted := d.accepted.eraseIdx k }
        if s.issuerRuns e = false then s.countOrphan (ctxOf e.tag) 1
        else if e.burst then s
        else
        let s := s.modSeq e.slot fun q => { q with reqs := dropFirst (fun r => r.num == e.num && r.tag == e.tag) q.reqs }
        if down then s.trapAt e.slot .S fLINK linkDown 0 else s)

end Sys2Proof.Machine
end

