-- ==== Sys2Proof/Machine/Token.lean ====
section
/-!
DEFINITION. Sys2Proof/Machine/Token.lean: tokens (05 R128-R131): waits and signals of the four engines, and their order in a cycle.
-/

namespace Sys2Proof.Machine

/-- The token with this count. -/
def Token.after (t : Token) (count : Nat) : Token := { t with count := BitVec.ofNat 16 count }

/-- A wait of `n` performs, if it can (R129). The parts of a cycle take the waits of S, V, M and A, and then the signals (R130). -/
def State.takeWait (s : State) (slot : Nat) (tok n : Nat) : Option State :=
  let t := (s.slot slot).regs.getK tok
  if n ≤ t.count.toNat then some (s.modRegs slot fun r => r.setK tok (t.after (t.count.toNat - n))) else none

/-- A KWAIT word at its position (R129): illegal on a ceiling below `n`; else it performs, or its engine comes to wait. -/
def waitAct (e : Engine) (tok n : Nat) (s : State) : Act :=
  if ((s.slot s.cur).regs.getK tok).ceiling.toNat < n then .trap fILLEGAL 0 0
  else
    match s.takeWait s.cur tok n with
    | some t => .done t
    | none =>
      .hold (s.modCounter s.cur e fun c => { c with waiting := some (tok, n, (c.waiting.map (·.2.2)).getD s.now) })

/-- STATUS of TOKENCEIL (R129). -/
def ceilStatus (tok count n : Nat) : Nat := tok + count * 2 ^ 16 + n * 2 ^ 32

/-- A signal of `n` at a slot, for an engine (R129): `named` is the signalling word, `extra` further STATUS bits. `none`: it exceeds the
ceiling at a slot that is stopped already, and is made again once the slot goes on. -/
def State.signalToken (s : State) (slot : Nat) (e : Engine) (tok n : Nat) (named : Option Nat) (extra : Nat) : Option State :=
  let t := (s.slot slot).regs.getK tok
  if t.count.toNat + n ≤ t.ceiling.toNat then some (s.modRegs slot fun r => r.setK tok (t.after (t.count.toNat + n)))
  else if (s.slot slot).stop.isSome then none
  else some (s.raiseTrap slot e fTOKENCEIL (ceilStatus tok t.count.toNat n + extra) 0 naCursor named none)

/-- Every word of an engine at an earlier position has completed (R131, R138): the vector words in flight, the matrix words, and the
stream commands and reports. -/
def Slot.engineDone (sl : Slot) (e : Engine) (pos : Nat) : Bool :=
  match e with
  | .S => true
  | .V => sl.vec.fly.all fun f => decide (pos ≤ f.pos)
  | .M => (sl.mat.buf.all fun m => decide (pos ≤ m.pos)) && sl.mat.run.all fun m => decide (pos ≤ m.entry.pos)
  | .A => (sl.asy.loads.all fun c => decide (pos ≤ c.pos)) && (sl.asy.stores.all fun c => decide (pos ≤ c.pos))
          && sl.asy.reports.all fun c => decide (pos ≤ c.pos)

/-- The signal of a slot may be made: every earlier word of its engine has completed. -/
def Slot.signalReady (sl : Slot) (g : PendSignal) : Bool := if g.eng = .S then g.regs.isEmpty else sl.engineDone g.eng g.pos

/-- The next signal of an engine. -/
def Slot.nextSignal (sl : Slot) (e : Engine) : Option PendSignal := sl.signals.find? (fun g => g.eng == e)

def Slot.dropSignal (sl : Slot) (e : Engine) : Slot := { sl with signals := dropFirst (fun g => g.eng == e) sl.signals }

/-- The signal of a KSIG word at its position joins those to be made. -/
def signalAct (e : Engine) (tok n : Nat) (regs : List RegRef) (s : State) : Act :=
  let c := (s.slot s.cur).counter e
  .done (s.modSlot s.cur fun sl => { sl with signals := sl.signals ++ [⟨e, c.pos, c.word, tok, n, regs⟩] })

/-- The signal of a KSIG.M has stopped its slot: the words behind it wait in the buffer (18 R412). A fault at issue leaves only earlier
words in the buffer, and they go on (18 R100). -/
def Slot.bufferHeld (sl : Slot) : Bool := sl.stop.any fun (t : Stop) => !t.final && t.eng == .M && t.code == fTOKENCEIL

/-- A KWAIT of the matrix engine at the head of the elastic buffer performs, or begins to wait there (07 R198; 18 R418) (log 83). -/
def State.bufferWait (s : State) (slot : Nat) : State :=
  let m := (s.slot slot).mat
  match m.buf with
  | e :: rest =>
    match e.op with
    | .kwait tok n =>
      let since := m.waitFrom.getD s.now
      match s.takeWait slot tok n with
      | some s =>
        let s := if s.now = since then s else s.traceEntry slot .M e.mode 2 8 e.word (min (2 ^ 32 - 1) (s.now - since)) none
        s.modMat slot fun x => { x with buf := rest, waitFrom := none }
      | none => s.modMat slot fun x => { x with waitFrom := some since }
    | _ => s
  | [] => s

/-- TOKEN_WAIT_PERFORM (R129, R130): the wait that an engine of the slot stands at performs, and the engine goes on. A stop holds the
waits at the frozen counters, and none in the elastic buffer (04 R100; 07 R182; 18 R412). A waiting KWAIT.V performs only in a cycle in
which its core's engine is free, as its issue takes the engine (06 R144, R172) (log 77). -/
def execTokenWaitPerform (e : Engine) (s : State) : Out :=
  .next (
    let slot := s.cur
    let sl := s.slot slot
    if e = .M then if sl.bufferHeld then s else s.bufferWait slot
    else if sl.stop.isSome ∨ (e = .S ∧ sl.mat.late = true) ∨ (e = .V ∧ s.now < (s.core (coreOf slot)).vBusy) then s
    else
      match (sl.counter e).waiting with
      | none => s
      | some (tok, n, since) =>
        match s.takeWait slot tok n with
        | none => s
        | some s =>
          let s := if s.now = since then s else s.traceAt slot e 2 8 (min (2 ^ 32 - 1) (s.now - since)) none
          let s := if e = .V then s.modCore (coreOf slot) fun c => { c with vBusy := s.now + 1 } else s
          let s := if e = .A then s.traceAt slot .A 1 5 9 none else s
          let s := s.modCounter slot e fun c => c.atCycle s.now
          ((s.markIssued slot e).modCounter slot e fun c => { c with waiting := none }).leave slot e)

/-- TOKEN_SIGNAL (R131): the next signal of an engine of the slot is made; that of a word that issued before a stop is made like any
other (04 R100). -/
def execTokenSignal (e : Engine) (s : State) : Out :=
  .next (
    let slot := s.cur
    match (s.slot slot).nextSignal e with
    | none => s
    | some g =>
      if (s.slot slot).signalReady g = false then s
      else
        match s.signalToken slot e g.tok g.n (some g.word) 0 with
        | some s => s.modSlot slot fun sl => sl.dropSignal e
        | none => s)

end Sys2Proof.Machine
end

