-- ==== Sys2Proof/Machine/SeqSys.lean ====
section
/-!
DEFINITION. Sys2Proof/Machine/SeqSys.lean: control and shape registers (03 R63-R73, 05 R126, R127), tokens of the sequencer (05 R128,
R129), the stamp, wall and vote words (05 R132, R133), mailboxes (05 R134, R135), fences (05 R137, R138), software traps (05 R139) and
the debug words (18 R421, R422).
-/

namespace Sys2Proof.Machine

/-! ### Control registers (R63, R64, R126) -/

/-- The value that MFC reads. -/
def State.ctlRead (s : State) (reg : Nat) : Reg :=
  let sl := s.slot s.cur
  let v := sl.seq.pc.view
  let a := sl.act
  match reg with
  | 0x000 => sl.seq.slipw.setWidth 64
  | 0x001 => a.codebase.setWidth 64
  | 0x002 => a.codelimit.setWidth 64
  | 0x003 => a.spbase.setWidth 64
  | 0x004 => a.splimit.setWidth 64
  | 0x005 => v.stepno.setWidth 64
  | 0x006 => v.tensorid.setWidth 64
  | 0x007 => v.rrb.setWidth 64
  | 0x008 => v.key0.setWidth 64
  | 0x009 => v.key1.setWidth 64
  | 0x00A => v.key2.setWidth 64
  | 0x00B => v.key3.setWidth 64
  | 0x00C => v.tracemode.setWidth 64
  | 0x00D => BitVec.ofNat 64 (bitN v.penddbg)
  | 0x00E => BitVec.ofNat 64 (bitN v.trapctl)
  | 0x00F => v.rotcfg.setWidth 64
  | 0x010 => a.bands.setWidth 64
  | 0x011 => a.grpid.setWidth 64
  | 0x012 => a.inctag.setWidth 64
  | 0x013 => a.wdoglim.setWidth 64
  | 0x014 => BitVec.ofNat 64 s.cur
  | _ => a.prio.setWidth 64

def execMfc (d : BitVec 6) (i : BitVec 12) (s : State) : Out :=
  .next (sWord (.mfc d i) [] [.g d.toNat] (fun s =>
    let v := s.ctlRead i.toNat
    let t := s.writeG d.toNat v 2
    .done (if i.toNat = 0x010 ∨ i.toNat = 0x015 then t.traceInput s.cur d.toNat v else t)) s)

/-- The width of a register that MTC may write (R63). -/
def ctlWidth (reg : Nat) : Nat :=
  match reg with
  | 0x000 => 12
  | 0x006 => 24
  | 0x007 => 5
  | 0x00C => 2
  | 0x00D => 1
  | 0x00E => 1
  | _ => 32

/-- The value lies in the range that the table of R63 states; TRACEMODE 2 needs the feature of 19 R430. -/
def State.ctlAccepts (s : State) (reg : Nat) (x : Nat) : Bool :=
  decide (x < 2 ^ ctlWidth reg)
  && match reg with
     | 0x000 => decide (1 ≤ x)
     | 0x007 => x == 0 || decide (x < (s.slot s.cur).seq.pc.view.rotcfg.toNat)
     | 0x00C => decide (x < 2) || (x == 2 && s.hub.dev.agreed.getLsbD 6)
     | _ => true

/-- An effect that each lagging engine takes at the position of the sequencer's word (log 29). -/
def State.deferTo (s : State) (e : Engine) (d : Deferred) : State :=
  let p := (s.slot s.cur).seq.pc.pos
  s.modCounter s.cur e fun c => { c with deferred := c.deferred ++ [(p, d)] }

/-- The trace of a slot begins (18 R418): a START entry holds the stamp of the activation's start (log 17). -/
def State.traceStart (s : State) (mode : Nat) : State :=
  let sl := s.slot s.cur
  s.traceEntry s.cur .S mode 3 0 sl.seq.pc.word (mode + sl.act.node % 2 ^ 16 * 2 ^ 16) (some (BitVec.ofNat 64 sl.started))

/-- Log 29. -/
def execMtc (a : BitVec 6) (i : BitVec 12) (s : State) : Out :=
  .next (sWord (.mtc a i) [.g a.toNat] [] (fun s =>
    let x := s.g a.toNat
    if s.ctlAccepts i.toNat x.toNat = false then .trap fILLEGAL 0 0
    else if i.toNat = 0 then .done (s.modSeq s.cur fun q => { q with slipw := x.setWidth 12 })
    else
      let d : Deferred := .ctl i.toNat x
      let s := if i.toNat = 0x00C ∧ (s.slot s.cur).seq.pc.view.tracemode = 0 then s.traceStart x.toNat else s
      .done ((((s.modCounter s.cur .S fun c => { c with view := c.view.write i.toNat x }).deferTo .V d).deferTo .M d).deferTo .A d)) s)

/-! ### Shape registers (R66-R73, R127) -/

/-- The place of a field in the table of a slot's shape registers: kind, copy, register, field. -/
def shapeKey (kind copy reg f : Nat) : Nat := kind * 256 + copy * 128 + reg * 32 + f

/-- The width of a field, and whether it is two's complement (R67-R69). -/
def shapeWidth (kind f : Nat) : Nat :=
  match kind, f with
  | 0, 0 => 5
  | 0, 1 => 6
  | 0, 2 => 8
  | 0, 3 => 3
  | 0, _ => 1
  | 1, 0 => 5
  | 1, 1 => 5
  | 1, 2 => 2
  | 1, 3 => 7
  | 1, 4 => 8
  | 1, 5 => 16
  | 1, 8 => 15
  | 1, _ => 23
  | _, 0 => 56
  | _, 1 => 23
  | _, 2 => 16
  | _, 21 => 32
  | _, 22 => 5
  | _, f => if f ≤ 8 then 32 else if f ≤ 14 then 48 else 24

def shapeSigned (kind f : Nat) : Bool := kind == 2 && decide (9 ≤ f ∧ f ≤ 20)

/-- Does a value fit a field (R70)? -/
def shapeFits (kind f : Nat) (x : Reg) : Bool :=
  let w := shapeWidth kind f
  if shapeSigned kind f then decide (-(2 ^ (w - 1)) ≤ x.toInt ∧ x.toInt < 2 ^ (w - 1)) else decide (x.toNat < 2 ^ w)

/-- The engine that reads a kind of shape register. -/
def kindEngine (kind : Nat) : Engine :=
  match kind with
  | 0 => .V
  | 1 => .M
  | _ => .A

def execShpw (d : BitVec 6) (k r : BitVec 2) (f : BitVec 5) (s : State) : Out :=
  .next (sWord (.shpw d k r f) [.g d.toNat] [] (fun s =>
    let x := s.g d.toNat
    if shapeFits k.toNat f.toNat x = false then .trap fILLEGAL 0 0
    else
      let v := BitVec.ofNat 56 (x.toNat % 2 ^ shapeWidth k.toNat f.toNat)
      .done (s.deferTo (kindEngine k.toNat) (.shape (shapeKey k.toNat 1 r.toNat f.toNat) v))) s)

def execShpr (d : BitVec 6) (k r : BitVec 2) (c : BitVec 1) (f : BitVec 5) (s : State) : Out :=
  .next (sWord (.shpr d k r c f) [] [.g d.toNat] (fun s =>
    let sl := s.slot s.cur
    if (sl.counter (kindEngine k.toNat)).pos < sl.seq.pc.pos then .stall
    else
      let v := (Tab.get 0 sl.regs.shapes (shapeKey k.toNat c.toNat r.toNat f.toNat)).toNat
      let w := shapeWidth k.toNat f.toNat
      .done (s.writeG d.toNat (if shapeSigned k.toNat f.toNat then BitVec.ofInt 64 (sext v w) else BitVec.ofNat 64 v) 1)) s)

/-! ### Tokens (R128-R131) -/

def execKwaitS (d : BitVec 6) (i : BitVec 12) (s : State) : Out :=
  .next (sWord (.kwaitS d i) [] [] (waitAct .S d.toNat i.toNat) s)

/-- The registers whose results are pending: a KSIG.S waits for them (R131). -/
def SeqState.pendingRegs (q : SeqState) : List RegRef := q.pend.map (·.reg) ++ q.locks ++ q.walls.map (fun w => RegRef.g w.reg)

def execKsigS (d : BitVec 6) (i : BitVec 12) (s : State) : Out :=
  .next (sWord (.ksigS d i) [] [] (fun s => signalAct .S d.toNat i.toNat (s.slot s.cur).seq.pendingRegs s) s)

/-- Every lagging counter has left every position before `p`, every wait there has performed and every signal there has been made
(R128). -/
def Slot.tokensSettled (sl : Slot) (p : Nat) : Bool :=
  decide (p ≤ sl.vec.pc.pos ∧ p ≤ sl.mat.pc.pos ∧ p ≤ sl.asy.pc.pos)
  && (sl.signals.all fun g => decide (p ≤ g.pos))
  && sl.mat.buf.all fun m =>
       match m.op with
       | .kwait _ _ => decide (p ≤ m.pos)
       | .ksig _ _ => decide (p ≤ m.pos)
       | _ => true

/-- Log 29. -/
def execKcfg (d a : BitVec 6) (s : State) : Out :=
  .next (sWord (.kcfg d a) [.g a.toNat] [] (fun s =>
    let sl := s.slot s.cur
    let x := (s.g a.toNat).toNat
    if sl.tokensSettled sl.seq.pc.pos = false then .stall
    else if 2 ^ 32 ≤ x ∨ x / 2 ^ 16 < x % 2 ^ 16 then .trap fILLEGAL 0 0
    else .done (s.modRegs s.cur fun r =>
      r.setK d.toNat { ceiling := BitVec.ofNat 16 (x / 2 ^ 16), count := BitVec.ofNat 16 x })) s)

/-! ### Stamp, wall and votes (R132, R133) -/

def execStamp (d : BitVec 6) (s : State) : Out :=
  .next (sWord (.stamp d) [] [.g d.toNat] (fun s => .done ((s.writeG d.toNat s.stamp 2).traceInput s.cur d.toNat s.stamp)) s)

/-- What the wall counter reads: zero while it is Stopped (16 R381). -/
def State.wallTime (s : State) : Reg := if s.hub.wall.phase = .stopped then 0 else s.hub.wall.time

/-- WALL samples within 64 cycles of its issue, when it is due (R132). -/
def execWall (d : BitVec 6) (s : State) : Out :=
  .next (sWord (.wall d) [] [.g d.toNat] (fun s =>
    let (n, s) := s.takeFree
    .done (if d = 0 then s else s.modSeq s.cur fun q => { q with walls := q.walls ++ [⟨d.toNat, s.now + n % 65, q.pc.word, q.pc.view.tracemode.toNat⟩] })) s)

def execVget (f : BitVec 3) (s : State) : Out :=
  .next (sWord (.vget f) [] [.c f.toNat] (fun s =>
    let sl := s.slot s.cur
    match sl.seq.votes with
    | v :: t =>
      let s := (s.writeC f.toNat v).modSeq s.cur fun q => { q with votes := t, votesTaken := q.votesTaken + 1 }
      .done ((s.seqWaited s.cur).traceAt s.cur .S 2 9 (f.toNat + 2 ^ 6) (some (BitVec.ofNat 64 (bitN v))))
    | [] =>
      if sl.seq.pc.pos ≤ sl.vec.pc.pos ∧ sl.vec.votesFormed < sl.seq.votesTaken + 1 then .trap fILLEGAL 0 0
      else .hold s.seqWait) s)

/-! ### Mailboxes (R134, R135) -/

/-- Log 30. -/
def execMsend (d a b : BitVec 6) (s : State) : Out :=
  .next (sWord (.msend d a b) [.g d.toNat, .g a.toNat, .g b.toNat] [] (fun s =>
    let t := (s.g d.toNat).toNat
    if 320 ≤ t ∨ s.diePresent (dieOf t) = false then .trap fILLEGAL 0 0
    else if 4 ≤ (s.core (coreOf s.cur)).sendBuf.length then .stall
    else
      let m : Message := ⟨s.g a.toNat, s.g b.toNat, (s.slot s.cur).act.inctag⟩
      .done (s.modCore (coreOf s.cur) fun c => { c with sendBuf := c.sendBuf ++ [⟨s.cur, t, m⟩] })) s)

/-- MAILBOX_ACCEPT (R134), at the sending slot: its oldest message to a target whose half has a free entry enters there (log 30). -/
def execMailboxAccept (s : State) : Out :=
  .next (
    let p (o : Outgoing) : Bool := o.sender == s.cur && decide ((s.slot o.target).mailbox.length < 32)
    match (s.core (coreOf s.cur)).sendBuf.find? p with
    | none => s
    | some o =>
      (s.modCore (coreOf s.cur) fun c => { c with sendBuf := dropFirst p c.sendBuf }).modSlot o.target
        fun sl => { sl with mailbox := sl.mailbox ++ [o.msg] })

/-- Log 30. -/
def execMrecv (d : BitVec 6) (s : State) : Out :=
  .next (sWord (.mrecv d) [] [.g d.toNat, .g (d.toNat + 1)] (fun s =>
    let sl := s.slot s.cur
    match sl.mailbox.find? (fun m => m.tag == sl.act.inctag) with
    | none => .hold s.seqWait
    | some m =>
      let s := s.modSlot s.cur fun sl => { sl with mailbox := dropFirst (fun x => x.tag == sl.act.inctag) sl.mailbox }
      let s := ((s.writeG d.toNat m.lo 1).writeG (d.toNat + 1) m.hi 1).seqWaited s.cur
      .done ((s.traceInput s.cur d.toNat m.lo).traceInput s.cur (d.toNat + 1) m.hi)) s)

/-! ### Fences (R137, R138) -/

/-- The class mask of a fence. -/
def fenceMask (m : BitVec 4) (n : BitVec 12) : Nat := m.toNat * 2 ^ 12 + n.toNat

/-- Each access of the slot in a class of the mask has performed at the scope (R137, R240). -/
def SeqState.released (q : SeqState) (mask scope : Nat) : Bool :=
  q.reqs.all fun r => !bitAt mask r.cls || (if scope ≤ 1 then r.atDie else r.atPackage)

/-- The acquire of a fence: at package and system scope the lines of the die are invalidated (R246). -/
def State.acquired (s : State) (mask scope : Nat) : State := if scope ≤ 1 then s else s.acquireAt s.cur mask

def execFenceRel (m : BitVec 4) (sc : BitVec 2) (n : BitVec 12) (s : State) : Out :=
  .next (sWord (.fenceRel m sc n) [] [] (fun s =>
    if (s.slot s.cur).seq.released (fenceMask m n) sc.toNat then .done s else .stall) s)

def execFenceAcq (m : BitVec 4) (sc : BitVec 2) (n : BitVec 12) (s : State) : Out :=
  .next (sWord (.fenceAcq m sc n) [] [] (fun s => .done (s.acquired (fenceMask m n) sc.toNat)) s)

def execFenceAr (m : BitVec 4) (sc : BitVec 2) (n : BitVec 12) (s : State) : Out :=
  .next (sWord (.fenceAr m sc n) [] [] (fun s =>
    if (s.slot s.cur).seq.released (fenceMask m n) sc.toNat then .done (s.acquired (fenceMask m n) sc.toNat) else .stall) s)

/-- A lagging engine has left every position before `p`, and every word it issued there has completed (R138). -/
def Slot.engineSettled (sl : Slot) (e : Engine) (p : Nat) : Bool :=
  decide (p ≤ (sl.counter e).pos) && sl.engineDone e p && sl.signals.all fun g => g.eng != e || decide (p ≤ g.pos)

def Slot.fenceE (sl : Slot) (mask p : Nat) : Bool :=
  (!bitAt mask 0 || sl.engineSettled .V p) && (!bitAt mask 1 || sl.engineSettled .M p) && (!bitAt mask 2 || sl.engineSettled .A p)

/-- FENCE.E waits for the lagging engines that it names (R138), and for the acknowledgement of the slot's own stores (R125). -/
def execFenceE (e : BitVec 3) (s : State) : Out :=
  .next (sWord (.fenceE e) [] [] (fun s =>
    let sl := s.slot s.cur
    if sl.fenceE e.toNat sl.seq.pc.pos && sl.seq.reqs.all (fun r => !r.isStore) then .done s else .stall) s)

/-! ### Software traps and debug words (R139; 18 R421, R422) -/

/-- Log 15. -/
def execTrap (i : BitVec 18) (s : State) : Out :=
  .next (sWord (.trap i) [] [] (fun _ => .trap fSWTRAP i.toNat 0) s)

/-- Log 15. -/
def execTrapWarn (i : BitVec 18) (s : State) : Out :=
  .next (sWord (.trapWarn i) [] [] (fun s =>
    .done (s.writeWarning (s.slotRecord s.cur .S fSWTRAP (i.toNat + 2 ^ 18) 0 naCursor none true))) s)

/-- Log 26. -/
def execBrk (a : BitVec 6) (s : State) : Out :=
  .next (sWord (.brk a) [.g a.toNat] [] (fun s => .trap fBREAKPOINT (s.g a.toNat).toNat 0) s)

/-- TRCMARK writes its entry while the trace records, and meets a trigger of kind 2. -/
def execTrcmark (a : BitVec 6) (s : State) : Out :=
  .next (sWord (.trcmark a) [.g a.toNat] [] (fun s =>
    let x := (s.g a.toNat).toNat % 2 ^ 32
    let core := coreOf s.cur
    let mode := (s.slot s.cur).traceMode .S
    if (mode = 1 ∨ mode = 2) ∧ (s.core core).trace.frozen = false then
      let t := s.traceAt s.cur .S 3 10 x none
      .done (if (s.core core).trace.matchVal.toNat = x then t.traceHit s.cur .S 2 else t)
    else .done s) s)

end Sys2Proof.Machine
end

