-- ==== Sys2Proof/Machine/Ballast.lean ====
section
/-!
DEFINITION. Sys2Proof/Machine/Ballast.lean: precision slots, probes and the rule at GOVSTEP (11 R278-R290).
-/

namespace Sys2Proof.Machine

/-- BLK of a level (R278). -/
def blkOf (level : Nat) : Nat := if level = 0 then 1 else if level ≤ 2 then 2 else 0

/-- emaxexp of a block-scaled level (R278). -/
def levelEmax (level : Nat) : Int :=
  match level with
  | 0 => 2
  | 1 => 4
  | _ => 8

/-- up(L) and down(L) (R278): on the full ladder, or on levels 3 and 5 alone. -/
def levelUp (full : Bool) (l : Nat) : Option Nat :=
  if full then (if l ≤ 4 then some (l + 1) else none) else if l = 3 then some 5 else none
def levelDown (full : Bool) (l : Nat) : Option Nat :=
  if full then (if 1 ≤ l then some (l - 1) else none) else if l = 5 then some 3 else none

/-- The slot lies in the context's range. -/
def State.ownsPslot (s : State) (ctx n : Nat) : Bool :=
  let i := (s.ctx ctx).image
  decide (i.bfirst.toNat ≤ n ∧ n < i.bfirst.toNat + i.bcount.toNat)

/-- A field as GOVRD reads it (R279); a WO field reads as zero. -/
def PSlot.read (p : PSlot) (f : Nat) : Nat :=
  match f with
  | 0 => p.level.toNat
  | 1 => blkOf p.level.toNat
  | 2 => p.role.toNat
  | 3 => bitN p.pin
  | 4 => bitN p.tch
  | 5 => p.run.toNat
  | 6 => p.layer.toNat
  | 7 => p.loth.toNat
  | 8 => p.hith.toNat
  | 9 => p.hyst.toNat
  | 10 => p.nmb.toNat
  | 11 => p.ovlim.toNat
  | 12 => p.resc.toNat
  | 13 => toF32 p.qe
  | 14 => toF32 p.qs
  | 15 => toF32 p.gn
  | 16 => toF32 p.gns
  | 17 => p.ovc.toNat
  | 18 => p.ufc.toNat
  | 19 => p.amax.toNat
  | 20 => p.dscale.toNat
  | 21 => p.lcs.toNat
  | 22 => p.prvlvl.toNat
  | 23 => p.chgep.toNat
  | _ => 0

/-- An INIT write of a role (R280): LAYER stays. -/
def PSlot.init (p : PSlot) (role : Nat) : PSlot :=
  let wide := decide (4 ≤ role ∧ role ≤ 6)
  { PSlot.reset with role := BitVec.ofNat 3 role, layer := p.layer, level := if wide then 5 else 3, prvlvl := if wide then 5 else 3, pin := wide }

/-- The width of a field that GOVWR may name (R279). -/
def govWidth (f : Nat) : Nat :=
  match f with
  | 5 => 8
  | 6 => 16
  | 9 => 8
  | 10 => 16
  | 12 => 4
  | 20 => 8
  | 24 => 3
  | _ => 32

/-- An FP32 code is finite and non-negative, minus zero being accepted (R288). -/
def f32NonNeg (x : Nat) : Bool := decide (x < 0x7F800000) || x == 0x80000000

/-- The value limits of GOVWR (R288). -/
def govValueOk (full : Bool) (f x : Nat) : Bool :=
  decide (x < 2 ^ govWidth f)
  && match f with
     | 7 => f32NonNeg x
     | 8 => f32NonNeg x
     | 9 => x != 0
     | 12 => x != 0
     | 20 => full && x != 0xFF
     | 25 => decide (x % 2 ^ 31 < 0x7F800000)
     | _ => true

/-- The effect of a GOVWR (R279, R282). -/
def PSlot.write (p : PSlot) (f x : Nat) : PSlot :=
  let f32 (x : Nat) : BitVec 32 := if x = 0x80000000 then 0 else BitVec.ofNat 32 x
  match f with
  | 5 => { p with run := BitVec.ofNat 8 x }
  | 6 => { p with layer := BitVec.ofNat 16 x }
  | 7 => { p with loth := f32 x }
  | 8 => { p with hith := f32 x }
  | 9 => { p with hyst := BitVec.ofNat 8 x }
  | 10 => { p with nmb := BitVec.ofNat 16 x }
  | 11 => { p with ovlim := BitVec.ofNat 32 x }
  | 12 => { p with resc := BitVec.ofNat 4 x }
  | 20 => { p with dscale := BitVec.ofNat 8 x }
  | 21 => { p with lcs := BitVec.ofNat 32 x }
  | 24 => p.init x
  | 25 => { p with amax := BitVec.ofNat 32 (max p.amax.toNat (x % 2 ^ 31)), tch := true }
  | 26 => { p with ovc := satAdd32 p.ovc x, tch := true }
  | 27 => { p with ufc := satAdd32 p.ufc x, tch := true }
  | _ => p

/-- Checks 2 to 4 of R288. -/
def State.govCheck (s : State) (n : Nat) (needRole : Bool) (k : Unit → Act) : Act :=
  if 4096 ≤ n then .trap fILLEGAL 0 0
  else if s.ownsPslot (ctxOf (s.slot s.cur).act.inctag) n = false then .trap fPERMISSION 0 0
  else if needRole && (s.pslot n).role == 7 then .trap fILLEGAL 0 0
  else k ()

def execGovrd (d a f : BitVec 6) (s : State) : Out :=
  .next (sWord (.govrd d a f) [.g a.toNat] [.g d.toNat] (fun s =>
    let n := (s.g a.toNat).toNat
    s.govCheck n false fun _ =>
      let v := BitVec.ofNat 64 ((s.pslot n).read f.toNat)
      .done ((s.writeG d.toNat v 1).traceInput s.cur d.toNat v)) s)

def execGovwr (f a b : BitVec 6) (s : State) : Out :=
  .next (sWord (.govwr f a b) [.g a.toNat, .g b.toNat] [] (fun s =>
    let n := (s.g a.toNat).toNat
    let x := (s.g b.toNat).toNat
    s.govCheck n (f.toNat != 24) fun _ =>
      if govValueOk (s.hub.dev.service == 2) f.toNat x = false then .trap fILLEGAL 0 0
      else .done (s.modPslot n fun p => p.write f.toNat x)) s)

/-- A governor-change event (18 R415). -/
def State.govChange (s : State) (ctx n old new cause step : Nat) : State :=
  s.writeEvent (s.unitRecord 0x84 .hub (some (s.tagOf ctx))
    (n + old * 2 ^ 12 + new * 2 ^ 16 + cause * 2 ^ 20 + step % 2 ^ 32 * 2 ^ 32) 0 0)

/-- GOVPIN of a level or of 7 (R285) (log 32). -/
def State.pinLevel (s : State) (ctx n x : Nat) : State :=
  let p := s.pslot n
  if x = 7 then s.modPslot n fun p => { p with pin := false }
  else
    let ds (p : PSlot) : PSlot := if 3 ≤ x then { p with dscale := 0x7F } else p
    if p.level.toNat = x then s.modPslot n fun p => ds { p with pin := true }
    else
      let ep := (s.ctx ctx).epoch + 1
      let s := s.modPslot n fun p => ds { p with pin := true, prvlvl := p.level, level := BitVec.ofNat 3 x, chgep := ep }
      (s.modCtx ctx fun c => { c with epoch := ep }).govChange ctx n p.level.toNat x 3 0

/-- Log 32. -/
def execGovpin (a b : BitVec 6) (s : State) : Out :=
  .next (sWord (.govpin a b) [.g a.toNat, .g b.toNat] [] (fun s =>
    let n := (s.g a.toNat).toNat
    let x := (s.g b.toNat).toNat
    s.govCheck n true fun _ =>
      if (if s.fullLadder then decide (x ≤ 5) else x == 3 || x == 5) || x == 7 then
        .done (s.pinLevel (ctxOf (s.slot s.cur).act.inctag) n x)
      else .trap fILLEGAL 0 0) s)

/-! ### The rule at GOVSTEP (R284) -/

/-- The exponent of a finite value. -/
def Val.exp : Val → Int
  | .fin _ _ e => e
  | _ => 0

def Val.finite (v : Val) : Bool := !v.isNan && !v.isInf

/-- The ratio r of R284 as a numerator and a positive denominator, where a noise is measured. -/
def PSlot.ratio (p : PSlot) : Option (Int × Int) :=
  let B : Int := p.nmb.toNat
  let k := min p.qe.exp p.qs.exp
  let j := min p.gn.exp p.gns.exp
  let a := truncAt k p.qe
  let b := truncAt k p.qs
  let c := truncAt j p.gn
  let d := truncAt j p.gns
  if p.qe.finite && p.qs.finite && p.gn.finite && p.gns.finite && decide (0 < b) && decide (2 ≤ B) && decide (0 < c * B - d) then
    some (a * c * (B - 1), b * (c * B - d))
  else none

/-- A ratio against an FP32 code that is finite and non-negative. -/
def ratioVs (r : Int × Int) (code : Nat) : Int × Int :=
  match ofF32 code with
  | .fin _ m e => (r.1 * 2 ^ (-e).toNat, m * 2 ^ e.toNat * r.2)
  | _ => (0, 0)

def ratioAbove (r : Int × Int) (code : Nat) : Bool := let p := ratioVs r code; decide (p.2 < p.1)
def ratioBelow (r : Int × Int) (code : Nat) : Bool := let p := ratioVs r code; decide (p.1 < p.2)

/-- The new LEVEL and RUN of a touched slot. -/
def PSlot.move (p : PSlot) (full : Bool) : Nat × Nat :=
  let l := p.level.toNat
  let wide := decide (p.ovlim.toNat < p.ovc.toNat) || p.ratio.any (ratioAbove · p.hith.toNat)
  if p.pin then (l, 0)
  else if wide then ((levelUp full l).getD l, 0)
  else if p.ratio.any (ratioBelow · p.loth.toNat) then
    let run := min (p.run.toNat + 1) 255
    match levelDown full l with
    | some d => if p.hyst.toNat ≤ run then (d, 0) else (l, run)
    | none => (l, run)
  else (l, 0)

/-- The code of the delayed scale that AMAX gives at a level up to 2. -/
def scaleCode (amax level : Nat) : Nat :=
  match ofF32 amax with
  | .fin _ m e =>
    let x := log2v m e - levelEmax level
    ((if x < -127 then -127 else if 127 < x then 127 else x) + 127).toNat
  | _ => 0x7F

/-- One slot of govstep: the count of level changes goes along. -/
def State.govSlot (s : State) (ctx ep step n : Nat) : Nat × State :=
  let p := s.pslot n
  if p.role = 7 ∨ p.tch = false then (0, s)
  else
    let old := p.level.toNat
    let (level, run) := p.move s.fullLadder
    let code := if level ≤ 2 ∧ 0 < p.amax.toNat then scaleCode p.amax.toNat level else if 3 ≤ level then 0x7F else p.dscale.toNat
    let rescue := decide (level ≤ 2 ∧ 0 < p.amax.toNat ∧ level = old ∧ p.resc.toNat < ((code : Int) - p.dscale.toNat).natAbs)
    let s := if rescue then
        s.writeEvent (s.unitRecord 0x85 .hub (some (s.tagOf ctx)) (n + p.dscale.toNat * 2 ^ 16 + code * 2 ^ 24 + step * 2 ^ 32) 0 0)
      else s
    let cause := if level < old then 0 else if p.ovlim.toNat < p.ovc.toNat then 2 else 1
    let s := if level = old then s else s.govChange ctx n old level cause step
    let s := s.modPslot n fun p =>
      { p with
        level := BitVec.ofNat 3 level, run := BitVec.ofNat 8 run, dscale := BitVec.ofNat 8 code
        prvlvl := if level = old then p.prvlvl else p.level
        chgep := if level = old then p.chgep else BitVec.ofNat 32 ep
        lcs := if level = old then p.lcs else BitVec.ofNat 32 step
        qe := Val.zero, qs := Val.zero, gn := Val.zero, gns := Val.zero, amax := 0, ovc := 0, ufc := 0, tch := false }
    (if level = old then 0 else 1, s)

/-- govstep of R284. -/
def State.govstep (s : State) (ctx step : Nat) : Nat × State :=
  let i := (s.ctx ctx).image
  let ep := ((s.ctx ctx).epoch.toNat + 1) % 2 ^ 32
  let (n, s) := (rangeFrom i.bfirst.toNat i.bcount.toNat).foldl
    (fun (a : Nat × State) k => let (c, s) := a.2.govSlot ctx ep step k; (a.1 + c, s)) (0, s)
  (n, if n = 0 then s else s.modCtx ctx fun c => { c with epoch := BitVec.ofNat 32 ep })

def execGovstep (d a : BitVec 6) (s : State) : Out :=
  .next (sWord (.govstep d a) [.g a.toNat] [.g d.toNat] (fun s =>
    let step := (s.g a.toNat).toNat
    let sl := s.slot s.cur
    if sl.engineSettled .V sl.seq.pc.pos = false then .stall
    else if 2 ^ 32 ≤ step then .trap fILLEGAL 0 0
    else
      let (n, s) := s.govstep (ctxOf sl.act.inctag) step
      let v := BitVec.ofNat 64 n
      .done ((s.writeG d.toNat v 1).traceInput s.cur d.toNat v)) s)

/-! ### Probes (R281, R282) -/

/-- A term joins an exact sum (R281). -/
def sumTerm (acc : Val) (code : Nat) : Val := Val.add acc (ofF32 code)

/-- An accepted probe (R282). -/
def PSlot.probe (p : PSlot) (k : ProbeKind) (s0 s1 : Nat) : PSlot :=
  match k with
  | .qe => { p with qe := sumTerm p.qe s0, qs := sumTerm p.qs s1, tch := true }
  | .gn => { p with gn := sumTerm p.gn s0, tch := true }
  | .gnsum => { p with gns := sumTerm p.gns s0, tch := true }
  | .ov => { p with ovc := satAdd32 p.ovc s0, tch := true }

/-- Ballast takes a probe of a context tag: one of a dead incarnation is dropped and counted as stale, one to an unassigned slot is
discarded. -/
def State.takeProbe (s : State) (tag : BitVec 18) (n : Nat) (k : ProbeKind) (s0 s1 : Nat) : State :=
  if s.live tag = false then s.countStale (ctxOf tag) 1
  else if (s.pslot n).role = 7 then s
  else s.modPslot n fun p => p.probe k s0 s1

/-- PROBE_ACCEPT (R282), at a slot: the probe of its earliest VSTAT whose sums are formed. -/
def execProbeAccept (s : State) : Out :=
  .next (
    let ready (f : VFlight) : Bool := f.probe.isSome && f.written
    match (s.slot s.cur).vec.fly.find? ready with
    | none => s
    | some f =>
      match f.probe with
      | none => s
      | some p => (s.takeProbe p.tag p.pslot p.kind p.s0 p.s1).modVec s.cur fun v => { v with fly := dropFirst ready v.fly })

end Sys2Proof.Machine
end

