-- ==== Sys2Proof/Machine/Reach.lean ====
section
/-!
DEFINITION. Sys2Proof/Machine/Reach.lean: accesses of agents that are no cores: winches and the units of the hub (09 R237, R245; 10
R267, R273, R274), and the package semaphores (17 R392-R394).
-/

namespace Sys2Proof.Machine

/-- What such an access answers. -/
inductive Hit (α : Type) where
  | ok (x : α)
  /-- Its page is on the way, or its walk has faulted for another access. -/
  | waits
  | bad (code status addr : Nat) (key : Option WalkKey)
  deriving DecidableEq, Repr

/-- The part of the package in which an agent stands: a die, or the hub. -/
def Port.part : Port → Nat
  | .core n => dieOfCore n
  | .die d => d
  | .hub => 4

/-- An access of bytes that lie in one page comes to its physical address; one whose home no route reaches now is held (16 R365). -/
def State.hit (s : State) (port : Port) (tag : BitVec 18) (va : Int) (len : Nat) (kind : AKind) : Hit Nat × State :=
  if va < 0 then (.bad fTRANSLATION 0 (wrapN 64 va) none, s)
  else if 2 ^ 56 < va + len then (.bad fTRANSLATION 0 (max va.toNat (2 ^ 56)) none, s)
  else if (s.joins port tag va.toNat).isSome then (.waits, s)
  else
    match s.touch port none tag va.toNat len kind with
    | (.served pa, t) =>
      if t.paKind pa = .window ∧ t.hostUp = false then (.bad fLINK linkDown 0 none, t)
      else if t.reaches port.part pa then (.ok pa, t)
      else (.waits, s)
    | (.waits, s) => (.waits, s)
    | (.stale, s) => (.bad fENCODING 0 va.toNat none, s)
    | (.fault code status, s) => (.bad code status va.toNat (some (walkKey tag va.toNat)), s)

/-- Cut a range at every 256-byte boundary of its addresses (08 R204). -/
def pieces : Nat → Int → Nat → List (Int × Nat)
  | 0, _, _ => []
  | n + 1, va, len =>
    if len = 0 then []
    else
      let k := min len (256 - va % 256).toNat
      (va, k) :: pieces n (va + k) (len - k)

/-- An access of bytes in several pages: the physical addresses and the lengths of its pieces, in address order. -/
def State.hits (s : State) (port : Port) (tag : BitVec 18) (kind : AKind) : List (Int × Nat) → Hit (List (Nat × Nat)) × State
  | [] => (.ok [], s)
  | (va, len) :: t =>
    match s.hit port tag va len kind with
    | (.ok pa, s) =>
      match s.hits port tag kind t with
      | (.ok l, s) => (.ok ((pa, len) :: l), s)
      | r => r
    | (.waits, s) => (.waits, s)
    | (.bad c st a k, s) => (.bad c st a k, s)

/-- An access of a range (log 19). -/
def State.hitRange (s : State) (port : Port) (tag : BitVec 18) (kind : AKind) (va : Int) (len : Nat) : Hit (List (Nat × Nat)) × State :=
  s.hits port tag kind (pieces (len / 256 + 2) va len)

/-- Read the pieces of an access at their homes; an agent of a die sees the stores that the die has accepted (09 R240) (log 43). -/
def State.homeRead (s : State) (die : Option Nat) : List (Nat × Nat) → List Byte × State
  | [] => ([], s)
  | (pa, len) :: t =>
    let (bs, s) := s.physRead pa len
    let bs := match die with
      | some d => (s.die d).forward pa bs
      | none => bs
    let (r, s) := s.homeRead die t
    (bs ++ r, s)

/-- Write bytes to the pieces of an access at their homes. -/
def State.homePut (s : State) : List (Nat × Nat) → List Byte → State
  | [], _ => s
  | (pa, len) :: t, bs => (s.physWrite pa (bs.take len)).homePut t (bs.drop len)

/-- A read of a range by a unit of the hub. -/
def State.hubRead (s : State) (tag : BitVec 18) (va len : Nat) : Hit (List Byte) × State :=
  match s.hitRange .hub tag .read va len with
  | (.ok l, s) => let (bs, s) := s.homeRead none l; (.ok bs, s)
  | (.waits, s) => (.waits, s)
  | (.bad c st a k, s) => (.bad c st a k, s)

/-- A write of a range by a unit of the hub (log 51). -/
def State.hubWrite (s : State) (tag : BitVec 18) (va : Nat) (bs : List Byte) : Hit Unit × State :=
  match s.hitRange .hub tag .write va bs.length with
  | (.ok l, s) => (.ok (), s.homePut l bs)
  | (.waits, s) => (.waits, s)
  | (.bad c st a k, s) => (.bad c st a k, s)

/-! ### Semaphores (17 R393, R394) -/

/-- A semaphore refuses an operation of a context tag: it belongs to another context, or is not enabled. -/
def State.semRefuses (s : State) (m : Nat) (tag : BitVec 18) : Bool :=
  !(s.sem m).en || (s.sem m).ctx.toNat != ctxOf tag

/-- The mirror of a semaphore whose value has changed is written; while its page is on the way it is owed. A fault of the write disables the
semaphore (R394) (log 51). -/
def State.mirrorStore (m : Nat) (s : State) : State :=
  let x := s.sem m
  if x.owed = false then s
  else
    let tag := s.tagOf x.ctx.toNat
    let paid (s : State) : State := s.modSem m fun x => { x with owed := false }
    match s.hubWrite tag x.mirror.toNat (toBytes 4 x.value.toNat) with
    | (.ok _, s) => paid s
    | (.waits, s) => s
    | (.bad code status addr key, s) =>
      ((paid s).modSem m fun x => { x with en := false }).hubWalkFault .hub code tag status addr key

/-- The value of a semaphore changes, and then its mirror (R394). -/
def State.semPut (s : State) (m : Nat) (v : BitVec 32) : State :=
  (s.modSem m fun x => { x with value := v, owed := x.mirror != 0 }).mirrorStore m

/-- An addition that the semaphore does not refuse; one of a dead incarnation is dropped (log 51). -/
def State.semAdd (s : State) (m : Nat) (tag : BitVec 18) (n : Nat) : State :=
  if s.live tag = false then s.countStale (ctxOf tag) 1
  else s.semPut m ((s.sem m).value + BitVec.ofNat 32 n)

end Sys2Proof.Machine
end

