-- ==== Sys2Proof/Machine/Net.lean ====
section
/-!
DEFINITION. Sys2Proof/Machine/Net.lean: packets between packages: the device header, how a received packet finds its context, and what is
sent (16 R373-R378).
-/

namespace Sys2Proof

/-! ### The device header (R373) -/

def Arrival.bits (p : Arrival) (hi lo : Nat) : Nat := Machine.field p.header.toNat hi lo
def Arrival.job (p : Arrival) : Nat := p.bits 127 96
def Arrival.inc (p : Arrival) : Nat := p.bits 95 90
def Arrival.cls (p : Arrival) : Nat := p.bits 83 80
def Arrival.stream (p : Arrival) : Nat := p.bits 79 76
def Arrival.kind (p : Arrival) : Nat := p.bits 75 72
def Arrival.peer (p : Arrival) : Nat := p.bits 71 64
def Arrival.arg (p : Arrival) : Nat := p.bits 63 0

/-- What stands at the front of a data packet's payload: the TAG of the command, its number among those of its TAG, whether it is a SEND's, and
whether a check follows (log 9). -/
def Arrival.tagId (p : Arrival) : Nat := Machine.ofBytes (p.payload.take 2)
def Arrival.nth (p : Arrival) : Nat := Machine.ofBytes ((p.payload.drop 2).take 4)
def Arrival.isSend (p : Arrival) : Bool := Machine.bitAt (Machine.ofBytes ((p.payload.drop 6).take 2)) 0
def Arrival.isCheck (p : Arrival) : Bool := Machine.bitAt (Machine.ofBytes ((p.payload.drop 6).take 2)) 1

/-- What follows it. -/
def Arrival.data (p : Arrival) : List Byte := p.payload.drop 8

end Sys2Proof

namespace Sys2Proof.Machine

/-- KIND of the header. -/
def PacketKind.code : PacketKind → Nat
  | .data => 0
  | .release => 1
  | .fenceReq => 2
  | .fenceConfirm => 3
  | .barrierDone => 4
  | .barrierBreak => 5

/-! ### Peers (R376, R377) -/

/-- The peer table of a context, as the hub read it. -/
def State.peersOf (s : State) (c : Nat) : List Peer := Tab.get [] s.hub.ctx.peers c

/-- The ports of a peer. -/
def Peer.ports (p : Peer) : List Nat := (rangeFrom 0 8).filter fun i => p.portmask.getLsbD i

/-- Every port of the peer is neither Up nor Degraded (log 70). -/
def State.unreachable (s : State) (c n : Nat) : Bool :=
  match (s.peersOf c)[n]? with
  | some p => p.ports.all fun i => !s.linkUp (9 + i)
  | none => true

/-! ### Receiving (R374, R378) -/

/-- The context whose image names a job: of several the lowest (R374) (log 66). -/
def State.jobContext (s : State) (job : Nat) : Option Nat :=
  (s.hub.ctx.regs.find? fun p => p.2.phase != .free && p.2.image.npeer != 0 && p.2.image.job.toNat == job).map (·.1)

/-- A packet of a kind is received: it is dropped and counted, or left to its sender's retry, or it is taken for its context. What a packet
does that matches no context is given apart (log 66). -/
def State.receive (s : State) (p : Arrival) (kind : PacketKind) (unmatched : State → State) (k : Nat → State → State) : State :=
  let port := 9 + p.port
  let noJob (s : State) : State := s.modLink port fun l => { l with nojob := satAdd32 l.nojob 1 }
  let refuse (s : State) : State := s.modLink port fun l => { l with uncorr := satAdd32 l.uncorr 1 }
  if 8 ≤ p.port ∨ s.linkUp port = false then s
  else if p.encrypted ∧ p.authentic = false then refuse s
  else if p.bits 89 84 ≠ 0 ∨ 6 ≤ p.kind then noJob s
  else if p.kind ≠ kind.code then s
  else
    match s.jobContext p.job with
    | none => unmatched (noJob s)
    | some c =>
      match (s.peersOf c)[p.peer]? with
      | none => noJob s
      | some e =>
        let d := (p.inc + 64 - (s.ctx c).inc.toNat) % 64
        if e.enc ∧ p.encrypted = false then refuse s
        else if 1 ≤ d ∧ d ≤ 31 then s
        else if d ≠ 0 ∨ ((s.ctx c).phase = .held ∧ kind ≠ .fenceReq ∧ kind ≠ .fenceConfirm) then s.countStale c 1
        else k c s

/-! ### Sending (R373, R376) -/

/-- The 16 bytes of the device header that a packet carries (R373). -/
def Packet.header (p : Packet) : BitVec 128 :=
  BitVec.ofNat 128 (p.job.toNat * 2 ^ 96 + p.inc.toNat * 2 ^ 90 + p.cls % 16 * 2 ^ 80 + p.stream % 16 * 2 ^ 76 + p.kind.code * 2 ^ 72
    + p.src % 256 * 2 ^ 64 + p.arg % 2 ^ 64)

/-- A packet leaves for a peer of a context. The spec does not say how a sender learns its index at a peer: SRCPEER is a free value (log 9). -/
def State.send (s : State) (c peer cls stream : Nat) (kind : PacketKind) (arg cmd : Nat) (payload : List Byte) : State :=
  let (src, s) := s.takeFree
  s.modHub fun h =>
    { h with
      sent := h.sent ++ [{ ctx := c, peer := peer, job := (s.ctx c).image.job, src := src % 256, inc := (s.ctx c).inc, cls := cls
                           stream := stream, kind := kind, arg := arg, cmd := cmd, payload := payload, frames := 0 }] }

/-- The peers that a mask names. -/
def maskPeers (m : BitVec 64) : List Nat := (rangeFrom 0 64).filter fun n => m.getLsbD n

/-- A packet for each peer of a mask. -/
def State.sendAll (s : State) (c : Nat) (m : BitVec 64) (cls stream : Nat) (kind : PacketKind) (arg cmd : Nat) : State :=
  (maskPeers m).foldl (fun s n => s.send c n cls stream kind arg cmd []) s

/-- STATUS of a LINK for an unreachable peer (R376): a port of the peer, whichever (log 70). -/
def State.peerStatus (s : State) (c n : Nat) : Nat × State :=
  let ports := match (s.peersOf c)[n]? with
    | some p => p.ports
    | none => []
  let (v, s) := s.takeFree
  (9 + ports.getD (v % max 1 ports.length) 0 + 3 * 2 ^ 8 + n * 2 ^ 16, s)

end Sys2Proof.Machine
end

