-- ==== Sys2Proof/Machine/Barrier.lean ====
section
/-!
DEFINITION. Sys2Proof/Machine/Barrier.lean: barrier objects (14 R333-R342), and the words that arrive, wait and watch a counter (14 R343-R345).
-/

namespace Sys2Proof.Machine

/-! ### Breaking (R335) -/

/-- The status word of BARRIERBROKEN (R344). -/
def Barrier.status (x : Barrier) (b : Nat) : Nat := b + x.cause.toNat * 2 ^ 8 + x.gen.toNat * 2 ^ 32

/-- The slot sleeps at a barrier. -/
def Slot.sleepsAt (sl : Slot) (b : Nat) : Bool :=
  match sl.seq.sleep with
  | some (.barrier b' _ _ _) => b == b'
  | _ => false

/-- The slots that sleep at a barrier. -/
def State.sleepers (s : State) (b : Nat) : List Nat := (rangeFrom 0 320).filter fun n => (s.slot n).sleepsAt b

/-- ARG of a barrier report: the generation, and the number of the barrier above it. -/
def reportArg (b gen : Nat) : Nat := gen % 2 ^ 32 + b * 2 ^ 32

/-- An Armed barrier breaks: at system level every peer is told. -/
def State.breakQuietly (s : State) (b cause : Nat) : State :=
  let x := s.barrier b
  if x.phase ≠ .armed then s
  else
    let s := s.modBarrier b fun x => { x with phase := .broken, cause := BitVec.ofNat 8 cause, localDone := false, frames := 0 }
    if x.level = 3 then s.sendAll x.ctx.toNat x.peermask x.ccls.toNat 0 .barrierBreak (reportArg b x.gen.toNat) 0 else s

/-- The generation has completed. -/
def Barrier.past (x : Barrier) (g : Nat) : Bool := decide ((x.gen.toNat + 2 ^ 32 - g % 2 ^ 32 + (2 ^ 32 - 1)) % 2 ^ 32 < 2 ^ 31)

/-- A wait of a barrier that has broken under it raises BARRIERBROKEN; at a slot that is stopped already, once it goes on. -/
def State.brokenWait (s : State) (slot status : Nat) : State :=
  if (s.slot slot).stop.isSome then s.modSeq slot fun q => { q with sleep := some (.broken status) }
  else (s.modSeq slot fun q => { q with sleep := none }).trapAt slot .S fBARRIERBROKEN status 0

/-- The sleep of a slot at a barrier is of a generation that has not completed. -/
def Slot.waitsOn (sl : Slot) (x : Barrier) : Bool :=
  match sl.seq.sleep with
  | some (.barrier _ g _ _) => !x.past g
  | _ => false

/-- An Armed barrier breaks, and its sleeping waits raise BARRIERBROKEN, but for those whose generation has completed (R335, R344). -/
def State.breakBarrier (s : State) (b cause : Nat) : State :=
  if (s.barrier b).phase ≠ .armed then s
  else
    let s := s.breakQuietly b cause
    ((s.sleepers b).filter fun n => (s.slot n).waitsOn (s.barrier b)).foldl (fun s n => s.brokenWait n ((s.barrier b).status b)) s

/-! ### Arrivals and completion (R338-R340) -/

/-- The scope of a barrier as a fence's scope: 1 die, 2 package, 3 system (R336). -/
def Barrier.scope (x : Barrier) : Nat :=
  let n := if x.level.toNat ≤ 1 then 1 else x.level.toNat
  if x.caddr = 0 then n else max 2 n

/-- The package's own arrivals, or every peer's report too, complete the generation (log 60). -/
def Barrier.complete (x : Barrier) : Bool := x.localDone && (x.level != 3 || x.peermask &&& ~~~x.reports == 0)

/-- The add of a generation that has ended is made at CADDR, a release made by the hub (R339); while its page is on the way it is owed. A
fault of it breaks the barrier (log 60). -/
def State.barrierAdd (s : State) (b : Nat) : State :=
  let x := s.barrier b
  if x.adds = 0 then s
  else
    let tag := s.tagOf x.ctx.toNat
    let paid (s : State) : State := s.modBarrier b fun x => { x with adds := x.adds - 1 }
    match s.hit .hub tag x.caddr.toNat 4 .atomic with
    | (.ok pa, s) =>
      let (bs, s) := s.physRead pa 4
      paid (s.physWrite pa (toBytes 4 ((ofBytes bs + 1) % 2 ^ 32)))
    | (.waits, s) => s
    | (.bad code st addr key, s) => ((paid s).hubWalkFault .hub code tag st addr key).breakBarrier b 5

/-- A complete generation ends (R339): GEN advances, the arrivals are cleared, and the completion counter is added to. -/
def State.finishGeneration (s : State) (b : Nat) : State :=
  if (s.barrier b).complete = false then s
  else
    (s.modBarrier b fun x =>
      { x with
        gen := x.gen + 1, arr := 0, arrived := [], localDone := false, frames := 0, reports := x.ahead, ahead := 0, genAt := s.now
        adds := if x.caddr = 0 then x.adds else x.adds + 1 }).barrierAdd b

/-- A slot's arrival is counted; the last one of the package completes the generation locally (R338, R340) (log 60). -/
def State.arriveAt (s : State) (b slot : Nat) : State :=
  let s := s.modBarrier b fun x => { x with arr := x.arr + 1, arrived := x.arrived ++ [slot] }
  let x := s.barrier b
  if x.arr ≠ x.expect then s
  else
    let s := s.modBarrier b fun x => { x with localDone := true }
    let s := if x.level = 3 then s.sendAll x.ctx.toNat x.peermask x.ccls.toNat 0 .barrierDone (reportArg b x.gen.toNat) 0 else s
    s.finishGeneration b

/-! ### Commands of the host (R333-R335) -/

def State.refuseBarrier (s : State) (b : Nat) : State := s.modBarrier b fun x => { x with refused := satAdd32 x.refused 1 }

/-- The conditions of a BIND (R334); the die that it names is present (01 R24, R25). -/
def State.mayBind (s : State) (x : Barrier) : Bool :=
  (s.ctx x.ctx.toNat).phase != .free && decide (1 ≤ x.expect.toNat ∧ x.expect.toNat ≤ 320)
  && (x.level != 0 || decide (x.expect.toNat ≤ 16)) && (x.level != 1 || decide (x.expect.toNat ≤ 80)) && x.caddr.toNat % 4 == 0
  && (x.level != 0 || (decide (x.team.toNat < 20) && x.team.toNat / 5 == x.die.toNat))
  && (x.level.toNat ≥ 2 || s.diePresent x.die.toNat) && (x.peermask != 0) == (x.level == 3)

def State.barrierBind (s : State) (b : Nat) : State :=
  let x := s.barrier b
  if x.phase ≠ .unbound then s
  else if s.mayBind x then
    s.modBarrier b fun x =>
      { x with
        phase := .armed, gen := 0, arr := 0, arrived := [], cause := 0, localDone := false, reports := 0, ahead := 0, adds := 0
        frames := 0 }
  else s.refuseBarrier b

def State.barrierReset (s : State) (b : Nat) : State :=
  if (s.barrier b).phase = .broken then
    s.modBarrier b fun x => { x with phase := .armed, arr := 0, arrived := [], localDone := false, reports := 0, ahead := 0, frames := 0 }
  else s

def State.barrierUnbind (s : State) (b : Nat) : State :=
  if (s.barrier b).phase = .unbound then s
  else if s.sleepers b = [] then s.modBarrier b fun x => { x with phase := .unbound }
  else s.refuseBarrier b

def State.barrierCommandBreak (s : State) (b : Nat) : State := s.breakBarrier b 5

/-- BARRIER_BIND, BARRIER_RESET, BARRIER_UNBIND, BARRIER_BREAK (R335), at a barrier. -/
def execBarrierBind (s : State) : Out := .next (s.barrierBind s.cur)
def execBarrierReset (s : State) : Out := .next (s.barrierReset s.cur)
def execBarrierUnbind (s : State) : Out := .next (s.barrierUnbind s.cur)
def execBarrierBreakCmd (s : State) : Out := .next (s.barrierCommandBreak s.cur)

/-! ### Reports of peers, and the timeout (R335, R340) -/

/-- A report is for a barrier of the context whose mask names the peer. -/
def Barrier.hears (x : Barrier) (c peer : Nat) : Bool :=
  x.phase == .armed && x.ctx.toNat == c && x.level == 3 && x.peermask.getLsbD peer

/-- BARRIER_DONE_REPORT (R340). -/
def execBarrierDoneReport (p : Arrival) (s : State) : Out :=
  .next (s.receive p .barrierDone id fun c t =>
    let b := field p.arg 39 32
    let g := field p.arg 31 0
    let x := t.barrier b
    let bit : BitVec 64 := BitVec.ofNat 64 (2 ^ p.peer)
    if x.hears c p.peer = false then t
    else if g = x.gen.toNat then (t.modBarrier b fun x => { x with reports := x.reports ||| bit }).finishGeneration b
    else if g = (x.gen + 1).toNat then t.modBarrier b fun x => { x with ahead := x.ahead ||| bit }
    else t)

/-- BARRIER_BREAK_REPORT (R335). -/
def execBarrierBreakReport (p : Arrival) (s : State) : Out :=
  .next (s.receive p .barrierBreak id fun c s =>
    let b := field p.arg 39 32
    if (s.barrier b).hears c p.peer then s.breakBarrier b 3 else s)

/-- The peers of a barrier have not reported within TMO frames of its local completion (R335, R340). -/
def Barrier.timedOut (x : Barrier) : Bool :=
  x.phase == .armed && x.level == 3 && x.localDone && x.tmo != 0 && decide (x.tmo.toNat ≤ x.frames)

/-- BARRIER_TIMEOUT (R335, R340), at a barrier that has timed out. -/
def execBarrierTimeout (s : State) : Out :=
  .next (
    let x := s.barrier s.cur
    let s := s.modBarrier s.cur fun x => { x with overdue := false }
    if x.timedOut then s.breakBarrier s.cur 4 else s)

/-! ### Barrier words (R343, R344) -/

/-- The slot lies within a barrier's level (R336). -/
def Barrier.holds (x : Barrier) (slot : Nat) : Bool :=
  match x.level.toNat with
  | 0 => slot / 16 == x.team.toNat
  | 1 => dieOf slot == x.die.toNat
  | _ => true

/-- The checks of a barrier word; then its activation is a member (R342). -/
def barrierWord (i : Instr) (bReg : BitVec 6) (srcs dsts : List RegRef) (ok : State → Bool) (k : Nat → State → Act) : State → State :=
  sWord i srcs dsts fun s =>
    let bv := (s.g bReg.toNat).toNat
    let x := s.barrier bv
    if 256 ≤ bv ∨ ok s = false then .trap fILLEGAL 0 0
    else if x.phase = .unbound ∨ x.ctx.toNat ≠ ctxOf (s.slot s.cur).act.inctag then .trap fPERMISSION 0 0
    else if x.holds s.cur = false then .trap fPERMISSION 0 0
    else if x.phase = .broken then .trap fBARRIERBROKEN (x.status bv) 0
    else k bv (s.modBarrier bv fun x => { x with members := if x.members.contains s.cur then x.members else x.members ++ [s.cur] })

/-- An arrival: it waits for its releases and for a generation in which it has not arrived. One that has stalled is retaken in the cycle
after GEN changes (R338, R341) (log 60). -/
def State.arriving (s : State) (b : Nat) (k : Nat → State → Act) : Act :=
  let x := s.barrier b
  let stalled := (s.slot s.cur).seq.stalledArrival
  if (s.slot s.cur).seq.released x.clsmask.toNat x.scope = false then .hold s
  else if x.arrived.contains s.cur = true ∨ x.localDone = true ∨ (stalled = true ∧ s.now ≤ x.genAt) then
    .hold (s.modSeq s.cur fun q => { q with stalledArrival := true })
  else k x.gen.toNat ((s.arriveAt b s.cur).modSeq s.cur fun q => { q with stalledArrival := false })

/-- A wait whose condition holds acquires and writes its result. -/
def State.barrierDone (s : State) (b g d : Nat) (own : Bool) : State :=
  let x := s.barrier b
  let v : Reg := BitVec.ofNat 64 (if own then g else x.gen.toNat)
  (((s.acquired x.clsmask.toNat x.scope).writeG d v 1).traceInput s.cur d v).seqWaited s.cur

/-- A wait: it is done, or it sleeps. -/
def State.barrierWait (s : State) (b g d : Nat) (own : Bool) : Act :=
  let x := s.barrier b
  if x.past g then .done (s.barrierDone b g d own)
  else if x.phase = .broken then .hold (s.trapAt s.cur .S fBARRIERBROKEN (x.status b) 0)
  else .hold ((s.modSeq s.cur fun q => { q with sleep := some (.barrier b g d own) }).seqWait)

def execBarr (d b : BitVec 6) (s : State) : Out :=
  .next (barrierWord (.barr d b) b [.g b.toNat] [.g d.toNat] (fun _ => true) (fun n s =>
    s.arriving n fun g s =>
      let v : Reg := BitVec.ofNat 64 g
      .done ((s.writeG d.toNat v 1).traceInput s.cur d.toNat v)) s)

def execBarw (d a b : BitVec 6) (s : State) : Out :=
  .next (barrierWord (.barw d a b) b [.g a.toNat, .g b.toNat] [.g d.toNat] (fun s => decide ((s.g a.toNat).toNat < 2 ^ 32)) (fun n s =>
    s.barrierWait n (s.g a.toNat).toNat d.toNat false) s)

def execBars (d b : BitVec 6) (s : State) : Out :=
  .next (barrierWord (.bars d b) b [.g b.toNat] [.g d.toNat] (fun _ => true) (fun n s =>
    s.arriving n fun g s => s.barrierWait n g d.toNat true) s)

/-- BARRIER_WAKE (R339, R344), at a slot that sleeps at a barrier: its generation has completed, with its add; or the barrier broke while
the slot was stopped. -/
def execBarrierWake (s : State) : Out :=
  .next (
    if (s.slot s.cur).stop.isSome ∨ (s.slot s.cur).mat.late = true then s
    else
      match (s.slot s.cur).seq.sleep with
      | some (.barrier b g d own) =>
        if (s.barrier b).adds = 0 ∧ (s.barrier b).past g = true then
          let s := (s.modSeq s.cur fun q => { q with sleep := none }).modCounter s.cur .S fun c => c.atCycle s.now
          Act.run (.done (s.barrierDone b g d own)) .S s
        else s
      | some (.broken status) => s.brokenWait s.cur status
      | _ => s)

/-! ### WAITC (R345) -/

/-- What the counter of a WAITC answers: done, not yet, or a fault. Its page is reached as any access of the slot reaches one (R343; 10
R267). -/
def State.counterAt (s : State) (slot va target : Nat) : Hit Bool × State :=
  let tag := (s.slot slot).act.inctag
  match s.touch (.core (coreOf slot)) (some slot) tag va 4 .read with
  | (.served pa, s) =>
    if s.paKind pa = .window ∧ s.hostUp = false then (.bad fLINK linkDown 0 none, s)
    else if s.reaches (dieOf slot) pa = false then (.waits, s)
    else
      let (bs, s) := s.physRead pa 4
      (.ok (decide ((ofBytes bs + 2 ^ 32 - target % 2 ^ 32) % 2 ^ 32 < 2 ^ 31)), s)
  | (.waits, s) => (.waits, s)
  | (.stale, s) => (.bad fENCODING 0 va none, s)
  | (.fault code status, s) => (.bad code status va (some (walkKey tag va)), s)

/-- A WAITC looks at its counter: it is done, it sleeps on, or it faults as a walk does (R345; 10 R274). -/
def State.watch (s : State) (va target cls : Nat) : Act :=
  let slot := s.cur
  let awake (s : State) : State := s.modSeq slot fun q => { q with sleep := none }
  let asleep (s : State) : State := (s.modSeq slot fun q => { q with sleep := some (.waitc va target cls) }).seqWait
  match s.joins (.core (coreOf slot)) (s.slot slot).act.inctag va with
  | some f => .hold ((awake s).joinFault slot .S f)
  | none =>
    match s.counterAt slot va target with
    | (.ok true, s) => .done (((awake s).acquired (2 ^ cls) 2).seqWaited slot)
    | (.ok false, s) => .hold (asleep s)
    | (.waits, s) => .hold (asleep s)
    | (.bad c st a key, s) =>
      let s := match key with
        | some k => s.addWalk k
        | none => s
      .hold ((awake s).raiseTrap slot .S c st a naCursor none key)

def execWaitc (c : BitVec 4) (a b : BitVec 6) (s : State) : Out :=
  .next (sWord (.waitc c a b) [.g a.toNat, .g b.toNat] [] (fun s =>
    let va := (s.g a.toNat).toNat
    let x := (s.g b.toNat).toNat
    if 2 ^ 32 ≤ x then .trap fILLEGAL 0 0
    else if 2 ^ 56 ≤ va then .trap fTRANSLATION 0 va
    else if va % 4 ≠ 0 then .trap fALIGN 0 va
    else s.watch va x c.toNat) s)

/-- WAITC_COMPLETE (R345), at a slot that sleeps at a counter. -/
def execWaitcComplete (s : State) : Out :=
  .next (
    match (s.slot s.cur).seq.sleep with
    | some (.waitc va target cls) =>
      if (s.slot s.cur).stop.isSome ∨ (s.slot s.cur).mat.late then s
      else
        let s := s.modCounter s.cur .S fun c => c.atCycle s.now
        Act.run (s.watch va target cls) .S s
    | _ => s)

end Sys2Proof.Machine
end

