-- ==== Sys2Proof/Machine/Arbiter.lean ====
section
/-!
DEFINITION. Sys2Proof/Machine/Arbiter.lean: the slot priority rule (13 R326).
-/

namespace Sys2Proof.Machine

/-- The units at which the slots of a core compete: the vector engine, the load and the store engine, the array. -/
def unitVector : Nat := 0
def unitLoad : Nat := 1
def unitStore : Nat := 2
/-- Log 58. -/
def unitArray : Nat := 3

/-- A slot loses a contest: its waiting count grows, once in a cycle, and ages its priority at 4096. -/
def Slot.lost (now : Nat) (sl : Slot) : Slot :=
  if sl.lostAt = now + 1 then sl
  else
  let sl := { sl with lostAt := now + 1 }
  if sl.waits + 1 < 4096 then { sl with waits := sl.waits + 1 }
  else if sl.act.prio.toNat < 15 then { sl with waits := 0, act := { sl.act with prio := sl.act.prio + 1 } }
  else { sl with waits := 0, urgent := true }

/-- A slot wins a contest: what ageing gave it ends. -/
def Slot.won (sl : Slot) : Slot :=
  if sl.basePrio < sl.act.prio.toNat ∨ sl.urgent then
    { sl with waits := 0, urgent := false, act := { sl.act with prio := BitVec.ofNat 4 sl.basePrio } }
  else sl

/-- The side that wins at a unit when both slots are ready: urgency, then PRIO, then the one that won less recently, then slot A (logs 13 and 78). -/
def State.winner (s : State) (core unit : Nat) : Nat :=
  let a := s.slot (2 * core)
  let b := s.slot (2 * core + 1)
  if a.urgent != b.urgent then bitN b.urgent
  else if a.act.prio != b.act.prio then bitN (decide (a.act.prio.toNat < b.act.prio.toNat))
  else
    match Tab.find (s.core core).won unit with
    | some w => 1 - w
    | none => 0

/-- A contest at a unit has been decided for a side (log 78). -/
def State.decide_ (s : State) (core unit side : Nat) : State :=
  ((s.modSlot (2 * core + side) Slot.won).modSlot (2 * core + (1 - side)) (Slot.lost s.now)).modCore core fun c =>
    { c with won := c.won.put unit side }

end Sys2Proof.Machine
end

