-- ==== Sys2Proof/Machine/Ranges.lean ====
section
/-!
DEFINITION. Sys2Proof/Machine/Ranges.lean: the nest of a stream command (08 R203), what its loads still have to write (08 R208, R209),
and the range checker of a core (09 R255-R257).
-/

namespace Sys2Proof.Machine

/-! ### Nests (R203) -/

/-- The number of copies of a nest. -/
def SShape.copies (h : SShape) : Nat := h.ext.foldl (· * ·) 1

/-- The index of copy `n` at a level. -/
def SShape.index (h : SShape) (n l : Nat) : Nat := n / (h.ext.take l).foldl (· * ·) 1 % h.ext.getD l 1

/-- The sum of strides of copy `n`, over the levels of a list of strides. -/
def SShape.sum (h : SShape) (n : Nat) (str : List Int) : Int :=
  ((rangeFrom 0 6).map fun l => (h.index n l : Int) * str.getD l 0).foldl (· + ·) 0

def SShape.sa (h : SShape) (n : Nat) : Int := h.saddr + h.sum n h.sstr
def SShape.ga (h : SShape) (n : Nat) : Int := h.gaddr + h.sum n h.gstr

/-- The least and the greatest offset that a list of strides gives. -/
def SShape.low (h : SShape) (str : List Int) : Int :=
  ((rangeFrom 0 6).map fun l => min 0 (((h.ext.getD l 1 - 1 : Nat) : Int) * str.getD l 0)).foldl (· + ·) 0
def SShape.high (h : SShape) (str : List Int) : Int :=
  ((rangeFrom 0 6).map fun l => max 0 (((h.ext.getD l 1 - 1 : Nat) : Int) * str.getD l 0)).foldl (· + ·) 0

/-- The hull of the scratchpad copies: its first byte and the byte after its last. -/
def SShape.hull (h : SShape) : Int × Int := (h.saddr + h.low h.sstr, h.saddr + h.high h.sstr + h.run)

/-- The scratchpad address of the byte at an offset of a command's copies. -/
def StreamCmd.saAt (c : StreamCmd) (off : Nat) : Int := c.shape.sa (off / c.shape.run) + (off % c.shape.run : Nat)

/-- The scratchpad ranges that a load command has yet to write. -/
def StreamCmd.remaining (c : StreamCmd) : List (Nat × Nat) :=
  let n := c.next / c.shape.run
  let o := c.next % c.shape.run
  (c.flying.map fun b => ((c.saAt b.off).toNat, b.len))
    ++ if c.shape.copies ≤ n then []
       else ((c.shape.sa n).toNat + o, c.shape.run - o)
              :: (rangeFrom (n + 1) (c.shape.copies - (n + 1))).map fun k => ((c.shape.sa k).toNat, c.shape.run)

/-- The entry of the index list that the burst at an offset of an SGATH or an SSCAT reads (R212). -/
def StreamCmd.listReads (c : StreamCmd) (off : Nat) : List (Nat × Nat) :=
  if c.kind = .sgath ∨ c.kind = .sscat then [(c.gb.toNat + 4 * c.shape.index (off / c.shape.run) 1, 4)] else []

/-! ### The range checker (R255-R257) -/

/-- What a word presents: its position, its ranges as addresses and lengths, and whether it is a load of an open channel. -/
structure Present where
  pos : Nat
  reads : List (Nat × Nat)
  writes : List (Nat × Nat)
  chan : Bool
  deriving DecidableEq, Repr

def anyOverlap (a b : List (Nat × Nat)) : Bool := a.any fun x => b.any fun y => overlaps x.1 x.2 y.1 y.2

/-- Two words conflict; reads of a channel's range and that channel's loads do not (R256, R257). -/
def Present.conflicts (p q : Present) : Bool :=
  anyOverlap p.writes q.writes || (!p.chan && anyOverlap p.writes q.reads) || (!q.chan && anyOverlap p.reads q.writes)

def Present.empty (p : Present) : Bool := p.reads.isEmpty && p.writes.isEmpty

/-- A stream command as it presents itself (logs 37 and 79). -/
def Slot.presentCmd (sl : Slot) (c : StreamCmd) : Present :=
  ⟨c.pos, c.reads, c.writes, c.chan.any fun n => (Tab.find sl.asy.chans n).isSome⟩

/-- The entries that a slot holds in the range checker (log 79). -/
def Slot.presented (sl : Slot) : List Present :=
  let v (f : VFlight) : Present := ⟨f.pos, f.reads, f.writes, false⟩
  let m (e : MEntry) : Present := ⟨e.pos, e.reads, e.writes, false⟩
  let r (x : Report) : Present := ⟨x.pos, [], [(x.addr, 16)], false⟩
  (sl.vec.fly.map v ++ sl.mat.buf.map m ++ sl.mat.run.map (fun x => m x.entry) ++ sl.asy.loads.map sl.presentCmd
    ++ sl.asy.stores.map sl.presentCmd ++ sl.asy.reports.map r).filter (fun p => !p.empty)

/-- A word finds an entry of its slot free (log 79). -/
def Slot.rangeRoom (sl : Slot) (p : Present) : Bool := p.empty || decide (sl.presented.length < 32)

/-- The lagging engines (log 79). -/
def laggers : List Engine := [.V, .M, .A]

/-- A word of an engine may start its scratchpad accesses (R256) (log 37). -/
def Slot.mayStart (sl : Slot) (e : Engine) (p : Present) : Bool :=
  p.empty
  || ((laggers.all fun x => x == e || decide (p.pos ≤ (sl.counter x).pos))
      && sl.presented.all fun q => !(decide (q.pos < p.pos) && p.conflicts q))

/-- The bytes of open channels that a reader reads are ready (R208) (log 37). -/
def Slot.channelsReady (sl : Slot) (pos : Nat) (reads : List (Nat × Nat)) : Bool :=
  reads.isEmpty
  || ((sl.asy.chans.all fun c => !anyOverlap reads [(c.2.base, c.2.limit - c.2.base)] || decide (pos ≤ sl.asy.pc.pos))
      && sl.asy.loads.all fun c =>
           !(decide (c.pos < pos) && c.chan.any fun n => (Tab.find sl.asy.chans n).isSome) || !anyOverlap reads c.remaining)

end Sys2Proof.Machine
end

