-- ==== Sys2Proof/Machine/VTile.lean ====
section
/-!
DEFINITION. Sys2Proof/Machine/VTile.lean: tiles under a shape (06 R140-R143), the issue of a vector word and the writing of its results
(06 R144-R150).
-/

namespace Sys2Proof.Machine

/-- A vector shape register whose fields lie within the limits of R67. -/
structure VShape where
  code : Nat
  fmt : Fmt
  rows : Nat
  cols : Nat
  rnd : Nat
  sat : Bool
  deriving DecidableEq, Repr

/-- A field of the live copy of a shape register. -/
def Regs.live (r : Regs) (kind reg f : Nat) : Nat := (Tab.get 0 r.shapes (shapeKey kind 0 reg f)).toNat

/-- The live copy of a vector shape register, within its limits (R66, R67). -/
def Regs.vshape (r : Regs) (reg : Nat) : Option VShape :=
  let rows := r.live 0 reg 1
  let cols := r.live 0 reg 2
  let rnd := r.live 0 reg 3
  match fmtOf (r.live 0 reg 0) with
  | none => none
  | some f =>
    if 1 ≤ rows ∧ rows ≤ 32 ∧ 1 ≤ cols ∧ cols ≤ 128 ∧ cols * f.width ≤ 1024 ∧ rnd ≤ 4 then
      some ⟨r.live 0 reg 0, f, rows, cols, rnd, r.live 0 reg 4 % 2 == 1⟩
    else none

/-- A swap exchanges the live and the shadow copy, all fields at once (03 R71). -/
def Regs.swapShape (r : Regs) (kind reg : Nat) : Regs :=
  { r with shapes := (rangeFrom 0 23).foldl (fun t f =>
      (t.put (shapeKey kind 0 reg f) (Tab.get 0 r.shapes (shapeKey kind 1 reg f))).put (shapeKey kind 1 reg f)
        (Tab.get 0 r.shapes (shapeKey kind 0 reg f))) r.shapes }

/-- What a V word sees: its slot after the swap it makes, its shape, its g operands, and its own word for the trap record. -/
structure VEnv where
  slot : Nat
  s : State
  sl : Slot
  sh : VShape
  x : Reg
  y : Reg

/-- The results of a V word: elements by physical tile, first bit, width and code; the mask stack, the vote, the scratchpad, the probe. -/
structure VOut where
  tiles : List (Nat × Nat × Nat × Nat) := []
  mask : MaskOp := .keep
  vote : Option Bool := none
  sp : List SpWrite := []
  probe : Option Probe := none

/-- What a V word does when its checks pass: the tiles it reads and writes, its scratchpad ranges, its draw (R170) and its results. -/
structure VDo where
  srcs : List Nat := []
  dsts : List Nat := []
  reads : List (Nat × Nat) := []
  writes : List (Nat × Nat) := []
  draw : Option Nat := none
  votes : Bool := false
  out : Unit → VOut

/-- The operand checks of R150 answer with a fault, or with what the word does. -/
inductive VPlan where
  | bad (code status addr : Nat)
  /-- The word stalls on its destination before its operands are checked (R146). -/
  | stall
  | ok (d : VDo)

/-! ### Elements (R140-R142) -/

/-- The physical tile of a name, rotated under 04 R108. -/
def VEnv.tile (e : VEnv) (name : Nat) : Nat := rotated e.sl.vec.pc.view.rotcfg.toNat e.sl.vec.pc.view.rrb.toNat name

/-- The place of position (i, j) of an operand of width w: its physical tile and its first bit (R140, R141). -/
def VEnv.place (e : VEnv) (name i j w : Nat) : Nat × Nat := (e.tile (name + w * j / 1024), 1024 * i + w * j % 1024)

/-- The code at position (i, j). -/
def VEnv.code (e : VEnv) (name i j w : Nat) : Nat :=
  let p := e.place name i j w
  (e.sl.regs.getV p.1).toNat / 2 ^ p.2 % 2 ^ w

/-- A result element at position (i, j). -/
def VEnv.put (e : VEnv) (name i j w c : Nat) : Nat × Nat × Nat × Nat :=
  let p := e.place name i j w
  (p.1, p.2, w, c % 2 ^ w)

/-- The last name that an operand of width w covers. -/
def VEnv.lastName (e : VEnv) (name w : Nat) : Nat := name + w * (e.sh.cols - 1) / 1024

/-- The physical tiles of an operand of width w. -/
def VEnv.tilesOf (e : VEnv) (name w : Nat) : List Nat := (rangeFrom name (e.lastName name w + 1 - name)).map e.tile

/-- The position is enabled (R142). -/
def VEnv.enabled (e : VEnv) (i j : Nat) : Bool :=
  match e.sl.regs.masks with
  | [] => true
  | m :: _ => m.getLsbD (i * 128 + j)

/-- The positions of a shape in row-major order. -/
def positions (rows cols : Nat) : List (Nat × Nat) := (rangeFrom 0 rows).flatMap fun i => (rangeFrom 0 cols).map fun j => (i, j)

def VEnv.each (e : VEnv) : List (Nat × Nat) := (positions e.sh.rows e.sh.cols).filter fun p => e.enabled p.1 p.2

/-- The width of the shape's format. -/
def VEnv.w (e : VEnv) : Nat := e.sh.fmt.width

/-- Write one code at each enabled position. -/
def VEnv.map (e : VEnv) (vd w : Nat) (f : Nat → Nat → Nat) : List (Nat × Nat × Nat × Nat) :=
  e.each.map fun p => e.put vd p.1 p.2 w (f p.1 p.2)

/-! ### Classes of formats (R143) -/

def clsFW (c : Nat) : Bool := decide (c ≤ 2)
def clsFA (c : Nat) : Bool := decide (c ≤ 7)
def clsIN (c : Nat) : Bool := decide ((0x12 ≤ c ∧ c ≤ 0x15) ∨ (0x1A ≤ c ∧ c ≤ 0x1D))
def clsBE (c : Nat) : Bool := decide ((3 ≤ c ∧ c ≤ 7) ∨ (0x10 ≤ c ∧ c ≤ 0x12))
def clsAny (_ : Nat) : Bool := true
def clsBY (c : Nat) : Bool := (fmtOf c).any fun f => f.width == 8 || f.width == 16 || f.width == 32 || f.width == 64

/-- The plan of a word whose checks that raise ILLEGAL are those given. -/
def planIf (ok : Bool) (d : VDo) : VPlan := if ok then .ok d else .bad fILLEGAL 0 0

/-! ### Pending results (R145-R148) -/

def VecState.pendingTile (v : VecState) (t : Nat) : Bool := v.fly.any fun f => !f.written && f.tiles.any fun w => w.tile == t
def VecState.pendingMask (v : VecState) : Bool := v.fly.any fun f => !f.written && f.maskOp != .keep
def VecState.pendingVotes (v : VecState) : Nat := (v.fly.filter fun f => !f.written && f.vote.isSome).length
def VecState.settled (v : VecState) : Bool := v.fly.all (·.written)

/-- The writes of the results that lie in one tile. -/
def tileWrite (out : List (Nat × Nat × Nat × Nat)) (t : Nat) : TileWrite :=
  let es := out.filter fun x => x.1 == t
  { tile := t
    mask := es.foldl (fun m x => m ||| BitVec.ofNat 32768 ((2 ^ x.2.2.1 - 1) * 2 ^ x.2.1)) 0
    bits := es.foldl (fun m x =>
      (m &&& ~~~(BitVec.ofNat 32768 ((2 ^ x.2.2.1 - 1) * 2 ^ x.2.1))) ||| BitVec.ofNat 32768 (x.2.2.2 * 2 ^ x.2.1)) 0 }

/-- Names without repeats. -/
def dedup : List Nat → List Nat
  | [] => []
  | h :: t => h :: (dedup t).filter (· != h)

/-- The depth of the mask stack after an operation. -/
def MaskOp.depth (m : MaskOp) (n : Nat) : Nat :=
  match m with
  | .push _ => n + 1
  | .pop => n - 1
  | _ => n

/-! ### The draw filter (02 R50, R51) -/

/-- A VRNG forms its triple: KEYREUSE where an entry of its slot holds it (logs 26 and 59). -/
def State.drawFilter (s : State) (slot : Nat) (base : Nat) (word : Nat) : State :=
  let v := (s.slot slot).vec.pc.view
  let d : DrawEntry := ⟨slot, v.tensorid, v.stepno, BitVec.ofNat 64 base⟩
  let hit := (s.core (coreOf slot)).filter.contains d
  let s := s.modCore (coreOf slot) fun c => { c with filter := (d :: c.filter.filter (· != d)).take 64 }
  if hit = false then s
  else if v.trapctl then s.trapAt slot .V fKEYREUSE word 0
  else s.writeWarning (s.slotRecord slot .V fKEYREUSE word 0 naCursor none true)

/-! ### Issue (R144-R150) -/

/-- A V word issues: the swap, its entry among the words in flight, the cycles it occupies, its draw. -/
def VEnv.issue (e : VEnv) (p word : Nat) (d : VDo) : State :=
  let o := d.out ()
  let s := e.s.modSlot e.slot fun _ => e.sl
  let c := e.sl.vec.pc
  let f : VFlight :=
    { pos := c.pos, word := c.word, due := s.now + p + 5, tiles := (dedup d.dsts).map (tileWrite o.tiles), maskOp := o.mask,
      vote := o.vote, sp := o.sp, probe := o.probe, written := false, reads := d.reads, writes := d.writes }
  let s := s.modVec e.slot fun v =>
    { v with fly := v.fly ++ [f], votesFormed := if d.votes then v.votesFormed + 1 else v.votesFormed }
  let s := s.modCore (coreOf e.slot) fun k => { k with vBusy := s.now + p }
  let s := if o.mask = .keep then s else s.traceAt e.slot .V 1 3 (o.mask.depth e.sl.regs.masks.length) none
  match d.draw with
  | some b => s.drawFilter e.slot b word
  | none => s

/-- The engine of the slot's core is free in this cycle (R144) (log 77). -/
def State.vFree (s : State) : Bool := decide ((s.core (coreOf s.cur)).vBusy ≤ s.now)

/-- A V word: `shp` is the shape register it uses and whether it swaps it, `ga` and `gb` its g operands, `mask` says that it reads or
changes the mask stack. The encoding is checked first (R81), then what the word waits for before its operands are known, then its operands
(R150), and then the stalls of R146, R159, R208 and 09 R255 and the early read of R148 (log 86). -/
def vWord (i : Instr) (shp : Option (Nat × Bool)) (ga gb : Nat) (mask : Bool) (plan : VEnv → VPlan) (s : State) : State :=
  let sl := s.slot s.cur
  let word := ((encode i).getD 0).toNat
  let swaps := shp.any (·.2)
  if i.wellFormed = false then s.trapAt s.cur .V fILLEGAL word 0
  else if s.vFree = false ∨ (swaps = true ∧ sl.vec.settled = false) ∨ (mask = true ∧ sl.vec.pendingMask = true) then Act.run .stall .V s
  else
    let sl' := match shp with
      | some (r, true) => { sl with regs := sl.regs.swapShape 0 r }
      | _ => sl
    let g := s.copiedOf .V ga gb
    match (match shp with | some (r, _) => sl'.regs.vshape r | none => some ⟨0, fF32, 1, 1, 0, false⟩) with
    | none => s.trapAt s.cur .V fILLEGAL word 0
    | some sh =>
      let e : VEnv := ⟨s.cur, s, sl', sh, g.1, g.2⟩
      match plan e with
      | .bad code status addr => s.trapAt s.cur .V code (word + status) addr
      | .stall => Act.run .stall .V s
      | .ok d =>
        let pr : Present := ⟨sl.vec.pc.pos, d.reads, d.writes, false⟩
        if d.dsts.any sl.vec.pendingTile ∨ (d.votes = true ∧ 8 ≤ sl.seq.votes.length + sl.vec.pendingVotes)
            ∨ sl.rangeRoom pr = false ∨ sl.mayStart .V pr = false ∨ sl.channelsReady pr.pos d.reads = false
            ∨ (d.reads ++ d.writes).any (fun r => s.zeroingAt s.cur r.1 r.2) = true then Act.run .stall .V s
        else if sl.vec.pc.view.penddbg && d.srcs.any sl.vec.pendingTile then s.trapAt s.cur .V fEARLYREAD word 0
        else Act.run (.done (e.issue (if shp.isSome then ceilDiv (sh.rows * sh.cols) 256 else 1) word d)) .V s

/-! ### Results (R145, R146, R156) -/

def MaskOp.apply (m : MaskOp) (l : List Mask) : List Mask :=
  match m, l with
  | .keep, _ => l
  | .push x, _ => x :: l
  | .pop, _ => l.tail
  | .invert, t :: b :: r => (b &&& ~~~t) :: b :: r
  | .invert, [t] => [~~~t]
  | .invert, [] => []

/-- The results of a word in flight. -/
def State.vWrite (s : State) (slot : Nat) (f : VFlight) : State :=
  let s := s.modRegs slot fun r =>
    let r := f.tiles.foldl (fun r w => r.setV w.tile ((r.getV w.tile &&& ~~~w.mask) ||| w.bits)) r
    { r with masks := f.maskOp.apply r.masks }
  let s := f.sp.foldl (fun s w => s.spMerge slot w) s
  match f.vote with
  | some v => s.modSeq slot fun q => { q with votes := q.votes ++ [v] }
  | none => s

/-- V_RESULTS_WRITTEN (R145), at a slot: the results of the earliest word that is due. -/
def execVResultsWritten (s : State) : Out :=
  .next (
    let due (f : VFlight) : Bool := !f.written && decide (f.due ≤ s.now)
    match (s.slot s.cur).vec.fly.find? due with
    | none => s
    | some f =>
      (s.vWrite s.cur f).modVec s.cur fun v =>
        { v with fly := if f.probe.isSome then mapFirst due (fun g => { g with written := true }) v.fly else dropFirst due v.fly })

end Sys2Proof.Machine
end

