-- ==== Sys2Proof/Machine/Array.lean ====
section
/-!
DEFINITION. Sys2Proof/Machine/Array.lean: the array of the matrix engine: bands and slices (07 R173-R177), operands (R178-R180), what an
M word checks, reads and writes (R182, R185, R199), and its arithmetic (R181, R190-R196).
-/

namespace Sys2Proof.Machine

/-! ### Bands (R174, R186) -/

/-- The granted bands: their number, and whether physical band `p` is among them (03 R63). -/
def Slot.granted (sl : Slot) : Nat := field sl.act.bands.toNat 11 8
def Slot.hasBand (sl : Slot) (p : Nat) : Bool := bitAt sl.act.bands.toNat p

/-- The physical band of a logical band of a side, and the physical column of a logical column. -/
def physBand (side l : Nat) : Nat := if side = 0 then l else 7 - l
def physCol (side j : Nat) : Nat := 16 * physBand side (j / 16) + j % 16

/-- The BANDS value of a side that holds `n` bands. -/
def bandsValue (side n : Nat) : BitVec 12 :=
  BitVec.ofNat 12 (n * 256 + ((rangeFrom 0 n).map fun l => 2 ^ physBand side l).foldl (· + ·) 0)

/-- Both slots of a core hold the band. -/
def State.sharedBand (s : State) (core p : Nat) : Bool := (s.slot (2 * core)).hasBand p && (s.slot (2 * core + 1)).hasBand p

/-! ### Shapes and formats (R68, R179, R180) -/

def Regs.mshape (r : Regs) (reg : Nat) : MShape :=
  let f := r.live 1 reg
  { afmt := f 0, bfmt := f 1, blk := f 2, m := f 3, n := f 4, k := f 5, aaddr := f 6, astr := f 7, baddr := f 8, scaddr := f 9 }

/-- The first set of R179. -/
def mixFormat (c : Nat) : Bool :=
  c == 2 || decide (3 ≤ c ∧ c ≤ 7) || c == 0x12 || c == 0x1A || c == 0x11 || c == 0x19 || c == 0x10

/-- The formats that may be block-scaled (R180). -/
def scaledFormat (c : Nat) : Bool := decide ((3 ≤ c ∧ c ≤ 7) ∨ (0x10 ≤ c ∧ c ≤ 0x12))

def fmtAt (c : Nat) : Fmt := (fmtOf c).getD fF32
def widthOf (c : Nat) : Nat := (fmtAt c).width

/-- The block size of an operand of this format; 0 where it is not block-scaled. -/
def MShape.block (h : MShape) (c : Nat) : Nat := if h.blk ≠ 0 ∧ scaledFormat c = true then 8 * 2 ^ h.blk else 0

/-- Products per cell and cycle, and cycles per group (R179). -/
def MShape.perCell (h : MShape) : Nat := max 1 (16 / (gangSide (fmtAt h.afmt) * gangSide (fmtAt h.bfmt)))
def MShape.perGroup (h : MShape) : Nat := if gangSide (fmtAt h.afmt) * gangSide (fmtAt h.bfmt) = 64 then 4 else 1

/-- The length of a slice vector that the word uses, and how many logical columns hold one. -/
def MOp.vecLen (op : MOp) (h : MShape) : Nat :=
  match op with
  | .mmaT _ => h.n
  | _ => h.k
def MOp.vecCols (op : MOp) (h : MShape) : Nat :=
  match op with
  | .mmaT _ => h.k
  | _ => h.n

/-- The bands a word touches: 0 up to this number (R175). -/
def MOp.bandCount (op : MOp) (h : MShape) : Nat :=
  match op with
  | .mpri _ => 0
  | .kwait _ _ => 0
  | .ksig _ _ => 0
  | _ => ceilDiv (op.vecCols h) 16

/-- The word uses an extent that is zero: it reads and writes nothing (R199) (log 27). -/
def MOp.zero (op : MOp) (h : MShape) : Bool :=
  match op with
  | .mldb _ => h.n == 0 || h.k == 0
  | .mma _ => h.m == 0 || h.n == 0 || h.k == 0
  | .mmaT _ => h.m == 0 || h.n == 0 || h.k == 0
  | .mzp _ => h.m == 0 || h.n == 0 || h.k == 0
  | _ => h.m == 0 || h.n == 0

/-- The k-step cycles of a word (R183) (log 27). -/
def MEntry.cycles (e : MEntry) : Nat :=
  let h := e.shape
  if e.op.zero h then 1
  else
    match e.op with
    | .mma _ => ceilDiv h.k h.perCell * h.perGroup
    | .mmaT _ => ceilDiv h.k h.perCell * h.perGroup
    | .mldb _ => max 1 (ceilDiv (h.k * h.n * widthOf h.bfmt) 2048)
    | _ => max 1 (ceilDiv h.m 8)

/-! ### Checks (R182) -/

/-- The payload bytes of a slice vector, and the offset at which it ends with its scales (R177). -/
def MShape.pay (h : MShape) (len : Nat) : Nat := 8 * ceilDiv (len * widthOf h.bfmt) 64
def MShape.sliceEnd (h : MShape) (len : Nat) : Nat :=
  h.baddr + h.pay len + if h.block h.bfmt = 0 then 0 else len / h.block h.bfmt

/-- Check 1: formats and divisibility. MDRAIN takes BLK = 0 with each of its five formats (log 82). -/
def MOp.formatsOk (op : MOp) (h : MShape) : Bool :=
  let divides (c len : Nat) : Bool := h.block c == 0 || len % h.block c == 0
  match op with
  | .mma _ => ((mixFormat h.afmt && mixFormat h.bfmt) || (h.afmt == 1 && h.bfmt == 1)) && divides h.afmt h.k && divides h.bfmt (op.vecLen h)
  | .mmaT _ => ((mixFormat h.afmt && mixFormat h.bfmt) || (h.afmt == 1 && h.bfmt == 1)) && divides h.afmt h.k && divides h.bfmt (op.vecLen h)
  | .mldb _ => (mixFormat h.bfmt || h.bfmt == 1) && divides h.bfmt h.k
  | .minit _ _ => decide (h.afmt ≤ 2)
  | .mdrain _ _ _ _ _ => decide (h.afmt ≤ 4) && h.blk == 0
  | _ => true

/-- Check 3: extents, slices and tile names. -/
def MOp.extentsOk (op : MOp) (h : MShape) : Bool :=
  decide (h.m ≤ 64 ∧ h.n ≤ 128)
  && match op with
     | .mldb _ => decide (h.sliceEnd (op.vecLen h) ≤ 32768)
     | .mma _ => decide (h.sliceEnd (op.vecLen h) ≤ 32768)
     | .mmaT _ => decide (h.sliceEnd (op.vecLen h) ≤ 32768) && decide (h.k ≤ 128)
     | .mdrainv _ vt => op.zero h || decide (vt + 4 * ((h.m - 1) / 32) + (h.n - 1) / 32 ≤ 63)
     | _ => true

/-- `n` rows of `len` bytes each, from AADDR on. -/
def MShape.rows (h : MShape) (n len : Nat) : List (Nat × Nat) :=
  if len = 0 then [] else (rangeFrom 0 n).map fun i => (h.aaddr + i * h.astr, len)

/-- Bytes of a row of `len` elements of a format (R178). -/
def rowBytes (c len : Nat) : Nat := ceilDiv (len * widthOf c) 8

/-- The byte runs of rows that a word reads in the scratchpad, in order, and its scales or column terms (R185). -/
def MOp.rowReads (op : MOp) (h : MShape) : List (Nat × Nat) :=
  if op.zero h then []
  else
    match op with
    | .mma _ => h.rows h.m (rowBytes h.afmt h.k)
    | .mmaT _ => h.rows h.m (rowBytes h.afmt h.k)
    | .mldb col => if col then h.rows h.n (rowBytes h.bfmt h.k) else h.rows h.k (rowBytes h.bfmt h.n)
    | .minit _ bc => h.rows (if bc then 1 else h.m) (rowBytes h.afmt h.n)
    | .mzp _ => [(h.aaddr, 8 * h.m)]
    | _ => []

def MOp.scaleReads (op : MOp) (h : MShape) : List (Nat × Nat) :=
  if op.zero h then []
  else
    let run (c n : Nat) : List (Nat × Nat) := if h.block c = 0 then [] else [(h.scaddr, n / h.block c)]
    match op with
    | .mma _ => run h.afmt (h.m * h.k)
    | .mmaT _ => run h.afmt (h.m * h.k)
    | .mldb _ => run h.bfmt (h.n * h.k)
    | .mzp _ => [(h.scaddr, 8 * h.n)]
    | _ => []

/-- The byte runs that a word writes in the scratchpad. -/
def MOp.writes (op : MOp) (h : MShape) : List (Nat × Nat) :=
  if op.zero h then []
  else
    match op with
    | .mdrain _ tr _ _ _ => if tr then h.rows h.n (rowBytes h.afmt h.m) else h.rows h.m (rowBytes h.afmt h.n)
    | _ => []

/-- The first byte of the runs outside the slot's range (log 14). -/
def Activation.firstOut (a : Activation) (rs : List (Nat × Nat)) : Option Nat :=
  rs.findSome? fun r =>
    if r.1 < a.spbase.toNat then some r.1
    else if a.splimit.toNat < r.1 + r.2 then some (max r.1 a.splimit.toNat) else none

/-- Check 5: the address that is not aligned (R177, R178, R194). -/
def MOp.misaligned (op : MOp) (h : MShape) : Option Nat :=
  let rows := if h.aaddr % 4 ≠ 0 then some h.aaddr else if h.astr % 4 ≠ 0 then some (h.aaddr + h.astr) else none
  let slice := if rows.isSome then rows else if h.baddr % 8 ≠ 0 then some h.baddr else none
  match op with
  | .mldb _ => slice
  | .mma _ => slice
  | .mmaT _ => slice
  | .minit _ _ => rows
  | .mdrain _ _ _ _ _ => rows
  | .mzp _ => if h.aaddr % 4 ≠ 0 then some h.aaddr else if h.scaddr % 4 ≠ 0 then some h.scaddr else none
  | _ => none

/-- The range from the first to the last byte of the runs (R185). -/
def hullOf (rs : List (Nat × Nat)) : List (Nat × Nat) :=
  match rs with
  | [] => []
  | r :: t =>
    let lo := t.foldl (fun m x => min m x.1) r.1
    let hi := t.foldl (fun m x => max m (x.1 + x.2)) (r.1 + r.2)
    [(lo, hi - lo)]

/-! ### Operand values (R177, R178) -/

/-- An element of a dense vector held in bytes from an address on. -/
def denseCode (read : Nat → Nat → Nat) (at_ w e : Nat) : Nat :=
  let lo := w * e
  read (at_ + lo / 8) (ceilDiv (lo % 8 + w) 8) / 2 ^ (lo % 8) % 2 ^ w

/-- Numbers of `n` bytes in the scratchpad and in the B-store. -/
def CoreState.spNat (c : CoreState) (a n : Nat) : Nat := ofBytes (c.scratch.readN a n)
def CoreState.bNat (c : CoreState) (a n : Nat) : Nat := ofBytes (c.bstore.readN a n)

/-- A(i, k), decoded with its scale. -/
def MShape.aVal (h : MShape) (c : CoreState) (i k : Nat) : Val :=
  let code := denseCode c.spNat (h.aaddr + i * h.astr) (widthOf h.afmt) k
  let bk := h.block h.afmt
  blockDecode (fmtAt h.afmt) code (if bk = 0 then 0x7F else c.spNat (h.scaddr + i * (h.k / bk) + k / bk) 1)

/-- Element `e` of the slice vector of a physical column, decoded with its scale. -/
def MShape.bVal (h : MShape) (c : CoreState) (len col e : Nat) : Val :=
  let base := col * 32768 + h.baddr
  let bk := h.block h.bfmt
  blockDecode (fmtAt h.bfmt) (denseCode c.bNat base (widthOf h.bfmt) e) (if bk = 0 then 0x7F else c.bNat (base + h.pay len + e / bk) 1)

/-- B(k, j) for the reduction index and the output column. -/
def MOp.bOf (op : MOp) (h : MShape) (c : CoreState) (side k j : Nat) : Val :=
  match op with
  | .mmaT _ => h.bVal c h.n (physCol side k) j
  | _ => h.bVal c h.k (physCol side j) k

/-- The groups of a reduction, in increasing order (R181). -/
def MShape.groups (h : MShape) : List (List Nat) :=
  (rangeFrom 0 (ceilDiv h.k h.perCell)).map fun q => rangeFrom (h.perCell * q) (min (h.perCell * q + h.perCell) h.k - h.perCell * q)

/-! ### Accumulators -/

def accFold (r : Regs) (acc m n : Nat) (f : Nat → Nat → Nat → Nat) : Regs :=
  (positions m n).foldl (fun r p => r.setAcc acc p.1 p.2 (BitVec.ofNat 32 (f p.1 p.2 (r.getAcc acc p.1 p.2).toNat))) r

/-- A multiply and accumulate (R191, R192). -/
def MOp.multiply (op : MOp) (h : MShape) (c : CoreState) (side acc : Nat) (r : Regs) : Regs :=
  accFold r acc h.m h.n fun i j old =>
    h.groups.foldl (fun a g => accAdd a (cellSum (g.map fun k => (h.aVal c i k).mul (op.bOf h c side k j)))) old

/-- The exact correction of MZP, an exact zero being plus zero (R194). -/
def MShape.zeroPoint (h : MShape) (c : CoreState) (i j : Nat) : Val :=
  let ra := ofF32 (c.spNat (h.aaddr + 4 * i) 4)
  let za := ofF32 (c.spNat (h.aaddr + 4 * (h.m + i)) 4)
  let cb := ofF32 (c.spNat (h.scaddr + 4 * j) 4)
  let zb := ofF32 (c.spNat (h.scaddr + 4 * (h.n + j)) 4)
  let t := ((zb.mul ra).negate.add (za.mul cb).negate).add ((Val.ofInt h.k).mul (za.mul zb))
  if t.isZero then .zero else t

/-! ### Slices -/

/-- Write `n` bits of a number over the bits of a byte memory from bit `lo` on. -/
def Bytes.writeBits (m : Bytes) (lo n v : Nat) : Bytes :=
  let a := lo / 8
  let len := ceilDiv (lo % 8 + n) 8
  let old := ofBytes (m.readN a len)
  let hole := old - (old / 2 ^ (lo % 8) % 2 ^ n) * 2 ^ (lo % 8)
  m.writeN a (toBytes len (hole + v % 2 ^ n * 2 ^ (lo % 8)))

/-- MLDB copies codes and scale bytes into the slices (R190). -/
def MShape.loadB (h : MShape) (c : CoreState) (side : Nat) (col : Bool) : CoreState :=
  let w := widthOf h.bfmt
  let bk := h.block h.bfmt
  let code (k j : Nat) : Nat :=
    if col then denseCode c.spNat (h.aaddr + j * h.astr) w k else denseCode c.spNat (h.aaddr + k * h.astr) w j
  (rangeFrom 0 h.n).foldl (fun c' j =>
    let base := physCol side j * 32768 + h.baddr
    let m := (rangeFrom 0 h.k).foldl (fun m k => m.writeBits (8 * base + w * k) w (code k j)) c'.bstore
    let m := if bk = 0 then m
      else (rangeFrom 0 (h.k / bk)).foldl (fun m b => m.write (base + h.pay h.k + b) (c.scratch.read (h.scaddr + b * h.n + j))) m
    { c' with bstore := m }) c

/-- The bytes of the slices that MLDB writes (R177, R190). -/
def MShape.loadedB (h : MShape) (side : Nat) : List Nat :=
  let bk := h.block h.bfmt
  (rangeFrom 0 h.n).flatMap fun j =>
    let base := physCol side j * 32768 + h.baddr
    rangeFrom base (ceilDiv (h.k * widthOf h.bfmt) 8) ++ if bk = 0 then [] else rangeFrom (base + h.pay h.k) (h.k / bk)

/-- The bytes of shared bands that the other slot has written while both held the band (R176) (log 48). -/
def State.racedFor (s : State) (slot : Nat) : List Nat :=
  ((s.core (coreOf slot)).raced.filter fun e =>
    bitAt e.2.writers (1 - sideOf slot) && s.sharedBand (coreOf slot) (e.1 / 524288)).map (·.1)

/-- One of the values of a raced byte, old or new, as a read of it returns (R176) (log 48). -/
def State.racedRead (s : State) (core a : Nat) : Byte × State :=
  let c := s.core core
  let values := c.bstore.read a :: (Tab.get default c.raced a).olds
  let (v, s) := s.takeFree
  (values.getD (v % values.length) 0, s)

/-- B-store bytes as a slot reads them. -/
def State.readB (s : State) (slot : Nat) : List Nat → List (Nat × Byte) × State
  | [] => ([], s)
  | a :: t =>
    let (x, s) := if (s.racedFor slot).contains a then s.racedRead (coreOf slot) a else ((s.core (coreOf slot)).bstore.read a, s)
    let (l, s) := State.readB s slot t
    ((a, x) :: l, s)

/-- Bytes put over a byte memory. -/
def Bytes.overlay (m : Bytes) (l : List (Nat × Byte)) : Bytes := l.foldl (fun m e => m.write e.1 e.2) m

/-- A slot writes B-store bytes in bands that both hold: the values they had are kept (R176). -/
def CoreState.noteB (c : CoreState) (side : Nat) (at_ : List Nat) : CoreState :=
  { c with raced := at_.foldl (fun t a =>
      let x := t.get default a
      t.put a ⟨if bitAt x.writers side then x.writers else x.writers + 2 ^ side, x.olds ++ [c.bstore.read a]⟩) c.raced }

/-- The core as the k-steps of a word have read it (09 R252). -/
def CoreState.asSeen (c : CoreState) (r : MRun) : CoreState :=
  { c with scratch := c.scratch.overlay r.seen, bstore := c.bstore.overlay r.seenB }

/-- MLDB (R190) (log 48). -/
def State.loadSlices (s : State) (slot : Nat) (r : MRun) (col : Bool) : State :=
  let h := r.entry.shape
  let both := (h.loadedB (sideOf slot)).filter fun a => s.sharedBand (coreOf slot) (a / 524288)
  s.modCore (coreOf slot) fun c =>
    { c.noteB (sideOf slot) both with bstore := (h.loadB { c with scratch := c.scratch.overlay r.seen } (sideOf slot) col).bstore }

/-! ### Effects -/

/-- The scratchpad bytes that MDRAIN writes: address and byte, the positions in row-major order (R195) (log 82). -/
def MShape.drained (h : MShape) (r : Regs) (acc : Nat) (tr sat : Bool) (mode : Nat) : List (Nat × Byte) :=
  let w := widthOf h.afmt
  (positions h.m h.n).flatMap fun p =>
    let x := roundTo (fmtAt h.afmt) ((rmodeOf mode).getD .rne) 0 sat (ofF32 (r.getAcc acc p.1 p.2).toNat)
    let row := if tr then p.2 else p.1
    let pos := if tr then p.1 else p.2
    let a := h.aaddr + row * h.astr + pos * w / 8
    (rangeFrom a (w / 8)).zip (toBytes (w / 8) x.code)

/-- The effect of a word that completes, on the operand bytes that its k-steps have read (log 28). -/
def State.mEffect (s : State) (slot : Nat) (r : MRun) : State :=
  let e := r.entry
  let h := e.shape
  let c := (s.core (coreOf slot)).asSeen r
  if e.op.zero h then s
  else
    match e.op with
    | .mldb col => s.loadSlices slot r col
    | .mma acc => s.modRegs slot (e.op.multiply h c (sideOf slot) acc)
    | .mmaT acc => s.modRegs slot (e.op.multiply h c (sideOf slot) acc)
    | .mzero acc => s.modRegs slot fun r => accFold r acc h.m h.n fun _ _ _ => 0
    | .minit acc bc => s.modRegs slot fun r => accFold r acc h.m h.n fun i j _ =>
        let code := denseCode c.spNat (h.aaddr + (if bc then 0 else i) * h.astr) (widthOf h.afmt) j
        exactCode fF32 (decodeCode (fmtAt h.afmt) code)
    | .mzp acc => s.modRegs slot fun r => accFold r acc h.m h.n fun i j old => accAdd old (h.zeroPoint c i j)
    | .mdrain acc tr clr sat mode =>
      let s := (h.drained (s.slot slot).regs acc tr sat mode).foldl (fun s b => s.spWrite slot b.1 [b.2]) s
      if clr then s.modRegs slot fun r => accFold r acc h.m h.n fun _ _ _ => 0 else s
    | .mdrainv acc vt => s.modRegs slot fun r =>
        (positions h.m h.n).foldl (fun r p =>
          let t := rotated e.rotcfg e.rrb (vt + 4 * (p.1 / 32) + p.2 / 32)
          let b := 1024 * (p.1 % 32) + 32 * (p.2 % 32)
          r.setV t ((r.getV t &&& ~~~(BitVec.ofNat 32768 ((2 ^ 32 - 1) * 2 ^ b)))
                      ||| BitVec.ofNat 32768 ((r.getAcc acc p.1 p.2).toNat * 2 ^ b))) r
    | _ => s

end Sys2Proof.Machine
end

