-- ==== Sys2Proof/Machine/Control.lean ====
section
/-!
DEFINITION. Sys2Proof/Machine/Control.lean: the common control words, through which the sequencer steers the four program counters
(04 R99-R111), the ends of loop bodies, and the instruction cache's invalidation (04 R95).
-/

namespace Sys2Proof.Machine

/-! ### The outcome queue (R99) -/

def State.enqueue (s : State) (k : OutcomeKind) : State :=
  s.modSeq s.cur fun q => { q with outq := q.outq ++ [⟨k, false, false, false⟩] }

def State.outRoom (s : State) : Bool := decide ((s.slot s.cur).seq.outq.length < 16)

def Outcome.taken (o : Outcome) : Engine → Bool
  | .V => o.takenV
  | .M => o.takenM
  | .A => o.takenA
  | .S => true

def Outcome.take (o : Outcome) : Engine → Outcome
  | .V => { o with takenV := true }
  | .M => { o with takenM := true }
  | .A => { o with takenA := true }
  | .S => o

/-- The outcome a lagging counter takes next. -/
def SeqState.nextOutcome (q : SeqState) (e : Engine) : Option OutcomeKind := (q.outq.find? (fun o => !o.taken e)).map (·.kind)

/-- A counter takes its next outcome; an entry that all three have taken leaves the queue. -/
def SeqState.takeOutcome (q : SeqState) (e : Engine) : SeqState :=
  { q with outq := (mapFirst (fun o => !o.taken e) (fun o => o.take e) q.outq).filter
                     (fun o => !(o.takenV && o.takenM && o.takenA)) }

/-- A word of the common control: as a delay word it is illegal (R101), and an enqueueing one stalls while the queue is full. -/
def ccWord (i : Instr) (srcs : List RegRef) (enq : Bool) (body : State → Act) (s : State) : State :=
  if i.wellFormed && (s.slot s.cur).seq.pc.delay.isSome then s.trapAt s.cur .S fILLEGAL 0 0
  else sWord i srcs [] (fun s => if enq && !s.outRoom then .stall else body s) s

/-- A BRANCH entry of the trace (18 R418) (log 17). -/
def State.traceBranch (s : State) (data : Nat) : State := s.traceAt s.cur .S 3 2 data none

/-! ### Branches (R101, R102) -/

/-- NOP: every counter passes it; no engine issues it (R96). -/
def execNop (s : State) : Out := .next (s.leave s.cur .S)

def execBprep (t : BitVec 3) (o : BitVec 18) (s : State) : Out :=
  .next (ccWord (.bprep t o) [] false (fun s =>
    let x : Int := (s.slot s.cur).seq.pc.word + o.toInt
    if x < 0 ∨ 2 ^ 24 ≤ x then .trap fILLEGAL 0 0
    else .done (s.modRegs s.cur fun r => r.setB t.toNat (BitVec.ofInt 64 x))) s)

def execBprepg (d a : BitVec 6) (i : BitVec 12) (s : State) : Out :=
  .next (ccWord (.bprepg d a i) [.g a.toNat] false (fun s =>
    let x : Int := (s.g a.toNat).toInt + i.toInt
    if x < 0 ∨ 2 ^ 24 ≤ x then .trap fILLEGAL 0 0
    else .done (s.modRegs s.cur fun r => r.setB d.toNat (BitVec.ofInt 64 x))) s)

/-- The counter leaves a branch: two delay words, and then the target or the next word. -/
def Counter.branch (target : Option Nat) (c : Counter) : Counter := { c.leave with delay := some (2, target) }

def execBgo (p : BitVec 1) (t f : BitVec 3) (s : State) : Out :=
  .next (ccWord (.bgo p t f) [.c f.toNat] true (fun s =>
    let r := (s.slot s.cur).regs
    let target := (r.getB t.toNat).toNat % 2 ^ 24
    if r.getC f.toNat = p.getLsbD 0 then
      .leaveBy ((s.traceBranch 1).enqueue (.transfer target)) (Counter.branch (some target))
    else .leaveBy ((s.traceBranch 0).enqueue .proceed) (Counter.branch none)) s)

def execBlink (t l : BitVec 3) (s : State) : Out :=
  .next (ccWord (.blink t l) [] true (fun s =>
    let target := ((s.slot s.cur).regs.getB t.toNat).toNat % 2 ^ 24
    let x := (s.slot s.cur).seq.pc.word
    let s := s.modRegs s.cur fun r => r.setB l.toNat (BitVec.ofNat 64 ((x + 3) % 2 ^ 24))
    .leaveBy ((s.traceBranch 1).enqueue (.transfer target)) (Counter.branch (some target))) s)

/-! ### Loops (R103-R106) -/

/-- A word is an LSTEP of level `l`; it is an LSET of it. -/
def wordIsLstep (w : Word) (l : Nat) : Bool :=
  match decode w with
  | some (.lstep d a i) => (Instr.lstep d a i).wellFormed && a.toNat == l
  | _ => false
def wordIsLset (w : Word) (l : Nat) : Bool :=
  match decode w with
  | some (.lset sg v a i) => (Instr.lset sg v a i).wellFormed && v.toNat == l
  | _ => false

/-- A text word as a control word looks at it: none past the text and where no translation leads to it; the state in which it is waited
for, where its page is on the way (log 16). -/
def State.look (s : State) (idx : Nat) : Except State (Option Word) :=
  if (s.slot s.cur).act.codelimit.toNat ≤ idx then .ok none
  else
    match s.fetch s.cur idx with
    | (.word w, _) => .ok (some w)
    | (.waits, t) => .error t
    | (.trap _ _ _, _) => .ok none

/-- How many LSTEP words of a level stand from `idx` on, up to `n` (R103). -/
def State.countLsteps (s : State) (l : Nat) : Nat → Nat → Except State Nat
  | _, 0 => .ok 0
  | idx, n + 1 =>
    match s.look idx with
    | .error t => .error t
    | .ok w => if w.any (wordIsLstep · l) then (State.countLsteps s l (idx + 1) n).map (1 + ·) else .ok 0

/-- The words before `idx` are LSTEP words of a level, and before them stands an LSET of it (R104). -/
def State.afterLset (s : State) (l : Nat) : Nat → Except State Bool
  | 0 => .ok false
  | idx + 1 =>
    match s.look idx with
    | .error t => .error t
    | .ok w =>
      if w.any (wordIsLset · l) then .ok true
      else if w.any (wordIsLstep · l) then State.afterLset s l idx
      else .ok false

/-- The text word is of the common control and is not NOP (log 16). -/
def State.controlAt (s : State) (idx : Nat) : Bool :=
  match s.peek s.cur idx with
  | some w => isControl w && w != 0
  | none => false

/-- Log 16. -/
def execLset (sg l : BitVec 3) (a : BitVec 6) (i : BitVec 12) (s : State) : Out :=
  .next (ccWord (.lset sg l a i) [.g a.toNat] true (fun s =>
    let c := (s.slot s.cur).seq.pc
    match s.countLsteps l.toNat (c.word + 1) 5 with
    | .error t => .hold t
    | .ok p =>
    let last := c.word + p + i.toNat
    let trip := (s.g a.toNat).toNat
    let iters := if trip = 0 then 0 else trip + sg.toNat
    let top := c.loops.head?
    if top.any (fun t => decide (l.toNat ≤ t.lvl) || decide (t.last < last)) ∨ 2 ^ 32 ≤ trip ∨ 5 ≤ p ∨ s.controlAt last = true then
      .trap fILLEGAL 0 0
    else if iters = 0 then
      .leaveBy ((s.traceBranch 0).enqueue (.skip (last + 1))) (fun c => c.leaveFor (last + 1))
    else
      let lv : LoopLevel :=
        { lvl := l.toNat, trip := trip, stages := sg.toNat + 1, iters := iters, i := 0, first := c.word + p + 1, last := last,
          strides := [] }
      .leaveBy ((s.traceBranch 2).enqueue (.enter lv)) (fun c => { c.leave with loops := lv :: c.loops })) s)

/-- LSTEP stands among the words directly after an LSET of its level; it registers its pair while the level's body lies ahead (R104) (log 16). -/
def execLstep (d a : BitVec 6) (i : BitVec 12) (s : State) : Out :=
  .next (ccWord (.lstep d a i) [] false (fun s =>
    let c := (s.slot s.cur).seq.pc
    match s.afterLset a.toNat c.word with
    | .error t => .hold t
    | .ok false => .trap fILLEGAL 0 0
    | .ok true =>
      match c.loops with
      | l :: t =>
        if l.lvl = a.toNat ∧ c.word < l.first then
          .done (s.modCounter s.cur .S fun c => { c with loops := { l with strides := l.strides ++ [(d.toNat, i.toInt)] } :: t })
        else .done s
      | [] => .done s) s)

/-- LONLY of level `l` over `n` words: `pick` is the predicate of its mode, `none` where the mode does not fit the level (R105) (log 16). -/
def lonly (i : Instr) (l n : Nat) (pick : LoopLevel → Option Bool) : State → State :=
  ccWord i [] true fun s =>
    let c := (s.slot s.cur).seq.pc
    match c.loops.find? (fun v => v.lvl == l) with
    | none => .trap fILLEGAL 0 0
    | some v =>
      if v.last < c.word + n ∨ (rangeFrom (c.word + 1) n).any s.controlAt = true then .trap fILLEGAL 0 0
      else
        match pick v with
        | none => .trap fILLEGAL 0 0
        | some y =>
          .leaveBy ((s.traceBranch (if y then 3 else 0)).enqueue (.guard (c.word + n) y))
            (fun c => { c.leave with guard := some (c.word + n, y) })

def execLonlyFirst (l : BitVec 3) (n : BitVec 12) (s : State) : Out :=
  .next (lonly (.lonlyFirst l n) l.toNat n.toNat (fun v => some (v.i == 0)) s)
def execLonlyLast (l : BitVec 3) (n : BitVec 12) (s : State) : Out :=
  .next (lonly (.lonlyLast l n) l.toNat n.toNat (fun v => some (v.i + 1 == v.iters)) s)
def execLonlyStage (l : BitVec 3) (st : BitVec 6) (n : BitVec 12) (s : State) : Out :=
  .next (lonly (.lonlyStage l st n) l.toNat n.toNat (fun v =>
    if v.stages ≤ st.toNat then none else some (decide (st.toNat ≤ v.i ∧ v.i - st.toNat < v.trip))) s)

/-- The rotation advances when the highest level of the body that was left repeats (R106). -/
def CtlView.advance (v : CtlView) : CtlView :=
  if v.rotcfg = 0 then v else { v with rrb := BitVec.ofNat 5 ((v.rrb.toNat + 1) % v.rotcfg.toNat) }

/-- The level whose body's end a counter takes: the highest of those that end on the word it has left (R106). -/
def Counter.endingLevel (c : Counter) : Option LoopLevel := c.ending.bind fun e => c.loops.find? fun l => l.last == e.1

/-- The counter repeats the body of that level. The guard of an LONLY in it is over: the LONLY is evaluated again. -/
def Counter.again (c : Counter) : Counter :=
  match c.ending, c.endingLevel with
  | some (w, hi), some l =>
    { c with loops := mapFirst (fun l => l.last == w) (fun l => { l with i := l.i + 1 }) c.loops, word := l.first, ending := none,
             guard := none, view := if l.lvl = hi then c.view.advance else c.view }
  | _, _ => c

/-- That level ends; the next lower one that ends on the same word is taken after it (R106). -/
def Counter.exit (c : Counter) : Counter :=
  match c.ending, c.endingLevel with
  | some (w, hi), some _ =>
    let t := dropFirst (fun l => l.last == w) c.loops
    { c with loops := t, ending := if t.any (fun l => l.last == w) then some (w, hi) else none }
  | _, _ => c

/-- The registered strides of a level that repeats (R106). -/
def addStrides (r : Regs) (st : List (Nat × Int)) : Regs := st.foldl (fun r p => r.setG p.1 (r.getG p.1 + BitVec.ofInt 64 p.2)) r

/-- The body's end as the sequencer takes it: it stalls on pending writes of the stepped registers and on a full queue. -/
def State.bodyEndS (s : State) : State :=
  let q := (s.slot s.cur).seq
  match q.pc.ending, q.pc.endingLevel with
  | some (w, _), some l =>
    if s.outRoom = false then s
    else if l.i + 1 < l.iters then
      if l.strides.any (fun p => q.exposed (.g p.1) || q.locked (.g p.1)) then s
      else
        let s := s.traceEntry s.cur .S q.pc.view.tracemode.toNat 3 2 w 2 none
        ((s.modRegs s.cur fun r => addStrides r l.strides).enqueue .again).modCounter s.cur .S Counter.again
    else
      let s := s.traceEntry s.cur .S q.pc.view.tracemode.toNat 3 2 w 3 none
      (s.enqueue .exit).modCounter s.cur .S Counter.exit
  | _, _ => s

/-- LOOP_BODY_END (R106): one level of the body's end; a lagging counter takes the outcome that the sequencer enqueued. -/
def execLoopBodyEnd (e : Engine) (s : State) : Out :=
  .next (
    if ((s.slot s.cur).counter e).ending.isNone then s
    else if e = .S then s.bodyEndS
    else
      match (s.slot s.cur).seq.nextOutcome e with
      | some .again => (s.modSeq s.cur (·.takeOutcome e)).modCounter s.cur e Counter.again
      | some .exit => (s.modSeq s.cur (·.takeOutcome e)).modCounter s.cur e Counter.exit
      | _ => s)

/-- What an outcome does to a lagging counter that stands at its word. -/
def OutcomeKind.apply (k : OutcomeKind) (c : Counter) : Counter :=
  match k with
  | .transfer t => Counter.branch (some t) c
  | .proceed => Counter.branch none c
  | .enter l => { c.leave with loops := l :: c.loops }
  | .skip t => c.leaveFor t
  | .guard last y => { c.leave with guard := some (last, y) }
  | .rotset n => let c := c.leave; { c with view := { c.view with rotcfg := BitVec.ofNat 6 n, rrb := 0 } }
  | .endAct => { c with ended := true }
  | _ => c.leave

/-- What an outcome does to the matrix engine's region (R109). -/
def OutcomeKind.applyRegion (k : OutcomeKind) (m : MatState) : MatState :=
  match k with
  | .region b sl st => { m with region := some (b, sl, st) }
  | .regionEnd => { m with region := none }
  | .endAct => { m with region := none }
  | _ => m

/-- LAGGING_OUTCOME_TAKE (R99): a lagging counter that stands at an enqueueing word takes its outcome; it waits for it. -/
def execLaggingOutcomeTake (e : Engine) (s : State) : Out :=
  .next (
    if e = .S then s
    else
      match (s.slot s.cur).seq.nextOutcome e with
      | none | some .again | some .exit => s
      | some k =>
        let p := ((s.slot s.cur).counter e).pos
        let s := (s.modSeq s.cur (·.takeOutcome e)).modCounter s.cur e k.apply
        let s := if e = .M then s.modMat s.cur k.applyRegion else s
        s.passed s.cur e p)

/-! ### Rotation, regions and the end (R108-R111) -/

def execRotset (i : BitVec 12) (s : State) : Out :=
  .next (ccWord (.rotset i) [] true (fun s =>
    .done ((s.modCounter s.cur .S fun c =>
      { c with view := { c.view with rotcfg := BitVec.ofNat 6 i.toNat, rrb := 0 } }).enqueue (.rotset i.toNat))) s)

def execRgn (st : BitVec 1) (a : BitVec 6) (i : BitVec 12) (s : State) : Out :=
  .next (ccWord (.rgn st a i) [.g a.toNat] true (fun s =>
    if (s.slot s.cur).seq.region.isSome then .trap fILLEGAL 0 0
    else
      let base := if a = 0 then s.now else (s.g a.toNat).toNat
      let slack := 8 * i.toNat
      let strict := st.getLsbD 0
      .done ((s.modSeq s.cur fun q => { q with region := some (base, slack, strict) }).enqueue (.region base slack strict))) s)

def execRgnend (s : State) : Out :=
  .next (ccWord .rgnend [] true (fun s =>
    if (s.slot s.cur).seq.region.isNone then .trap fILLEGAL 0 0
    else .done ((s.modSeq s.cur fun q => { q with region := none }).enqueue .regionEnd)) s)

/-- The sequencer reaches the activation's END: it stands there. -/
def State.reachEnd (s : State) : State :=
  ((s.modSeq s.cur fun q => { q with region := none }).enqueue .endAct).modCounter s.cur .S fun c => { c with ended := true }

def execEndActivation (s : State) : Out := .next (ccWord .endActivation [] true (fun s => .stay s.reachEnd) s)

def execHalt (a : BitVec 6) (s : State) : Out :=
  .next (ccWord (.halt a) [.g a.toNat] true (fun s =>
    let code := s.g a.toNat
    if 2 ^ 16 ≤ code.toNat then .trap fILLEGAL 0 0
    else .stay ((s.modSlot s.cur fun sl => { sl with halt := some (code.setWidth 16) }).reachEnd)) s)

/-! ### The instruction cache (R93, R95) -/

/-- Drop the lines of a context that overlap a range, in the caches that a test names. -/
def State.dropCode (s : State) (cores : Nat → Bool) (ctx lo hi : Nat) : State :=
  { s with cores := s.cores.map fun (n, c) =>
      if cores n then
        (n, { c with icache := c.icache.filter (fun l => !(ctxOf l.tag == ctx && decide (l.va < hi) && decide (lo < l.va + 64))) })
      else (n, c) }

/-- The package-scope ICINV event of R93: a Ready entry whose text overlaps the range is dropped, a Running one becomes stale. -/
def State.icinvKernels (s : State) (ctx lo hi : Nat) : State :=
  let hit (k : KEntry) : Bool :=
    ctxOf k.tag == ctx && decide (k.base + k.header.textOff < hi) && decide (lo < k.base + k.header.textOff + 4 * k.header.textWords)
  s.modSpool fun p =>
    { p with kernels := (p.kernels.filter (fun (_, k) => !(hit k && k.count == 0))).map
                          (fun (n, k) => if hit k then (n, { k with stale := true }) else (n, k)) }

/-- ICINV (R95) (logs 19 and 88). -/
def execIcinv (d a : BitVec 6) (i : BitVec 12) (s : State) : Out :=
  .next (ccWord (.icinv d a i) [.g a.toNat] false (fun s =>
    let lo := (s.g a.toNat).toNat
    let hi := lo + 64 * (i.toNat + 1)
    let ctx := ctxOf (s.slot s.cur).act.inctag
    let core := coreOf s.cur
    if lo % 64 ≠ 0 then .trap fALIGN 0 lo
    else if 2 ^ 56 < hi then .trap fILLEGAL 0 0
    else
      match d.toNat with
      | 0 => .done (s.dropCode (· == core) ctx lo hi)
      | 1 => .done (s.dropCode (fun n => dieOfCore n == dieOfCore core) ctx lo hi)
      | _ => .done ((s.dropCode (fun _ => true) ctx lo hi).icinvKernels ctx lo hi)) s)

/-- NOT_AN_INSTRUCTION (03 R81): the word raises ILLEGAL at the engine its tag names, and has no effect; the record of a V or M word
holds the word (06 R150, 07 R200) (log 81). -/
def execNotAnInstruction (w : Word) (s : State) : Out :=
  let e := Engine.ofTag (field w.toNat 31 30)
  .next (s.trapAt s.cur e fILLEGAL (if e = .V ∨ e = .M then w.toNat else 0) 0)

end Sys2Proof.Machine
end

