-- ==== Sys2Proof/Machine/Stream.lean ====
section
/-!
DEFINITION. Sys2Proof/Machine/Stream.lean: the asynchronous slot and the stream commands at their push (08 R201-R203, R207, R210-R219).
-/

namespace Sys2Proof.Machine

/-! ### Words of the asynchronous slot (R201) -/

/-- An A word: its encoding is checked, and its body sees the values of its g operands as PC_S copied them. -/
def aWord (i : Instr) (ga gb : BitVec 6) (body : Reg → Reg → State → Act) (s : State) : State :=
  if i.wellFormed = false then s.trapAt s.cur .A fILLEGAL 0 0
  else
    let g := s.copiedOf .A ga.toNat gb.toNat
    Act.run (body g.1 g.2 s) .A s

/-- A two's-complement field of a shape register. -/
def Regs.liveS (r : Regs) (kind reg f w : Nat) : Int := sext (r.live kind reg f) w

def Regs.sshape (r : Regs) (reg : Nat) : SShape :=
  { gaddr := r.live 2 reg 0, saddr := r.live 2 reg 1, run := r.live 2 reg 2, ext := (rangeFrom 3 6).map (r.live 2 reg)
    gstr := (rangeFrom 9 6).map fun f => r.liveS 2 reg f 48, sstr := (rangeFrom 15 6).map fun f => r.liveS 2 reg f 24
    pad := r.live 2 reg 21, fmt := r.live 2 reg 22 }

/-- The fields of a parameter word (R202). -/
def pArg (p : Reg) (hi lo : Nat) : Nat := field p.toNat hi lo
def pSlack (p : Reg) : Nat := field p.toNat 7 4
def pCls (p : Reg) : Nat := field p.toNat 3 0

/-- The kind of a stream command is executed by the load engine (R210). -/
def StreamKind.isLoad : StreamKind → Bool
  | .sload => true
  | .sgath => true
  | .swin => true
  | .smcast => true
  | _ => false

/-- The number of bytes that a command moves; an SPAIR moves each twice (R203, R214). -/
def StreamCmd.total (c : StreamCmd) : Nat := c.shape.copies * c.shape.run * if c.kind = .spair then 2 else 1

/-- The width of the pad pattern, where FMT has one that R213 admits. -/
def SShape.padWidth (h : SShape) : Option Nat :=
  match fmtOf h.fmt with
  | some f => if (f.width == 4 || f.width == 8 || f.width == 16 || f.width == 32) && h.run * 8 % f.width == 0 then some f.width else none
  | none => none

/-- Byte `p` of a padded copy: PAD repeated at every `w` bits (R213). -/
def SShape.padByte (h : SShape) (p : Nat) : Byte :=
  match h.padWidth with
  | some 4 => BitVec.ofNat 8 (h.pad % 16 * 17)
  | some w => BitVec.ofNat 8 (h.pad / 2 ^ (8 * (p % (w / 8))))
  | none => 0

/-- The copies of a load lie within the range of the channel it belongs to (R207). -/
def Channel.covers (c : Channel) (h : SShape) : Bool := decide ((c.base : Int) ≤ h.hull.1 ∧ h.hull.2 ≤ (c.limit : Int))

/-- What a kind of stream command asks of its operands and its shape beyond the nest: the answer says whether the reserved fields
and limits hold (log 37). -/
def streamLimits (kind : StreamKind) (h : SShape) (p gb : Reg) (skip : Bool) (s : State) : Bool :=
  let ext (l : Nat) : Nat := h.ext.getD l 0
  match kind with
  | .sload => pArg p 63 8 == 0
  | .sstore => pArg p 63 8 == 0
  | .sgath => pArg p 63 8 == 0 && (!skip || h.padWidth.isSome)
  | .sscat => pArg p 63 8 == 0
  | .spair =>
    pArg p 63 48 == 0 && decide (ext 0 = 1 ∧ ext 2 ≤ 1 ∧ ext 3 ≤ 1 ∧ ext 4 ≤ 1 ∧ ext 5 ≤ 1)
    && (match fmtOf h.fmt with
        | some f => (f.width == 8 || f.width == 16 || f.width == 32) && h.run % (f.width / 8) == 0
        | none => false)
  | .swin => pArg p 63 56 == 0 && field gb.toNat 63 48 == 0 && decide (ext 4 ≤ 1 ∧ ext 5 ≤ 1) && h.padWidth.isSome
  | .smcast => pArg p 63 8 == 0 && decide (gb.toNat < 2 ^ 40)
  | .sput =>
    pArg p 63 8 == 0 && pCls p == 0 && decide (gb.toNat < 320) && s.diePresent (dieOf gb.toNat) && decide (h.gaddr < 0x600000)

/-- The scratchpad bytes of the sending slot that a command touches: the hull of its copies, and its index list. -/
def streamTouches (kind : StreamKind) (h : SShape) (gb : Reg) : List (Int × Int) :=
  let list : Int × Int := (gb.toNat, gb.toNat + 4 * h.ext.getD 1 0)
  match kind with
  | .smcast => []
  | .sgath => [h.hull, list]
  | .sscat => [h.hull, list]
  | _ => [h.hull]

/-- The alignment that a kind states (R212, R214): the address that fails it. -/
def streamMisaligned (kind : StreamKind) (h : SShape) (p gb : Reg) : Option Nat :=
  let w := ((fmtOf h.fmt).getD fF32).width / 8
  match kind with
  | .sgath => if gb.toNat % 4 = 0 then none else some gb.toNat
  | .sscat => if gb.toNat % 4 = 0 then none else some gb.toNat
  | .spair =>
    if h.saddr % w ≠ 0 then some h.saddr
    else if h.sstr.getD 1 0 % w ≠ 0 then some (h.sa 1).toNat
    else if gb.toNat % w ≠ 0 then some gb.toNat
    else if pArg p 47 8 % w ≠ 0 then some ((gb.toNat + pArg p 47 8) % 2 ^ 64)
    else none
  | _ => none

/-- The ranges of R219: what a command reads and what it writes. -/
def streamRanges (kind : StreamKind) (h : SShape) (gb : Reg) : List (Nat × Nat) × List (Nat × Nat) :=
  let hull := [(h.hull.1.toNat, (h.hull.2 - h.hull.1).toNat)]
  let list := [(gb.toNat, 4 * h.ext.getD 1 0)]
  match kind with
  | .smcast => ([], [])
  | .sgath => (list, hull)
  | .sscat => (hull ++ list, [])
  | k => if k.isLoad then ([], hull) else (hull, [])

/-- The first bound of the slot's range that the bytes pass (R201 check 3) (logs 14 and 19). -/
def Activation.firstBeyond (a : Activation) (rs : List (Int × Int)) : Option Nat :=
  rs.findSome? fun r =>
    if r.1 < (a.spbase.toNat : Int) then some (wrapN 64 r.1)
    else if (a.splimit.toNat : Int) < r.2 then some (wrapN 64 (max r.1 a.splimit.toNat)) else none

/-- A CMD entry of the trace (18 R418). -/
def State.traceCmd (s : State) (major : Nat) : State := s.traceAt s.cur .A 1 5 major none

/-- Push a stream command: the checks of R201 in order, and its entry into its engine's queue. A command with an extent of zero
moves nothing and is complete at its push (R203); so is an SMCAST to no core (R215). -/
def streamWord (i : Instr) (kind : StreamKind) (major : Nat) (ga gb : BitVec 6) (reg : BitVec 2) (sw : BitVec 1) (chan : Nat)
    (flag : Bool) (tok dx dy : Nat) : State → State :=
  aWord i ga gb fun p b s =>
    let sl := s.slot s.cur
    let regs := if sw.getLsbD 0 then sl.regs.swapShape 2 reg.toNat else sl.regs
    let h := regs.sshape reg.toNat
    let none_ := h.copies == 0
    let open_ := if kind = .sload ∨ kind = .sgath ∨ kind = .swin then Tab.find sl.asy.chans chan else none
    let done (s : State) : State :=
      let s := match open_ with
        | some c => s.modAsy s.cur fun a => { a with chans := a.chans.put chan { c with fresh := false } }
        | none => s
      (s.modRegs s.cur fun _ => regs).traceCmd major
    if streamLimits kind h p b flag s = false then .trap fILLEGAL 0 0
    else if none_ = false ∧ (h.run = 0 ∨ open_.any (fun c => !c.covers h) = true) then .trap fILLEGAL 0 0
    else
      match (if none_ then none else sl.act.firstBeyond (streamTouches kind h b)) with
      | some a => .trap fSPBOUND 0 a
      | none =>
        match streamMisaligned kind h p b with
        | some a => .trap fALIGN 0 a
        | none =>
          if none_ ∨ (kind = .smcast ∧ b = 0) then .done (((done s).progress sl.act.graph).traceAt s.cur .A 1 6 major none) else
          let r := streamRanges kind h b
          let c : StreamCmd :=
            { kind := kind, major := major, num := sl.asy.cmdNum, pos := sl.asy.pc.pos, word := sl.asy.pc.word, cls := pCls p,
              slack := pSlack p, shape := h, arg := pArg p 63 8, gb := b, chan := open_.map fun _ => chan, flag := flag, tok := tok,
              dx := dx, dy := dy, next := 0, flying := [], stopped := none, failed := 0, signalled := 0, reads := r.1, writes := r.2 }
          let pr : Present := ⟨c.pos, r.1, r.2, false⟩
          if 16 ≤ (if kind.isLoad then sl.asy.loads else sl.asy.stores).length ∨ sl.rangeRoom pr = false then .stall
          else
            .done (done ((s.modAsy s.cur fun a =>
              if kind.isLoad then { a with loads := a.loads ++ [c], cmdNum := a.cmdNum + 1 }
              else { a with stores := a.stores ++ [c], cmdNum := a.cmdNum + 1 }).graphBusy sl.act.graph))

def execSload (g : BitVec 6) (r : BitVec 2) (w : BitVec 1) (c : BitVec 3) (s : State) : Out :=
  .next (streamWord (.sload g r w c) .sload 0 g 0 r w c.toNat false 0 0 0 s)
def execSstore (g : BitVec 6) (r : BitVec 2) (w : BitVec 1) (s : State) : Out :=
  .next (streamWord (.sstore g r w) .sstore 1 g 0 r w 0 false 0 0 0 s)
def execSpair (g h : BitVec 6) (r : BitVec 2) (w : BitVec 1) (s : State) : Out :=
  .next (streamWord (.spair g h r w) .spair 2 g h r w 0 false 0 0 0 s)
def execSgath (g h : BitVec 6) (r : BitVec 2) (w : BitVec 1) (c : BitVec 3) (k : BitVec 1) (s : State) : Out :=
  .next (streamWord (.sgath g h r w c k) .sgath 3 g h r w c.toNat (k.getLsbD 0) 0 0 0 s)
def execSscat (g h : BitVec 6) (r : BitVec 2) (w k : BitVec 1) (s : State) : Out :=
  .next (streamWord (.sscat g h r w k) .sscat 4 g h r w 0 (k.getLsbD 0) 0 0 0 s)
def execSwin (g h : BitVec 6) (r : BitVec 2) (w : BitVec 1) (c : BitVec 3) (y x : BitVec 2) (s : State) : Out :=
  .next (streamWord (.swin g h r w c y x) .swin 5 g h r w c.toNat false 0 (x.toNat + 1) (y.toNat + 1) s)
def execSmcast (g h : BitVec 6) (r : BitVec 2) (w b : BitVec 1) (k : BitVec 4) (s : State) : Out :=
  .next (streamWord (.smcast g h r w b k) .smcast 6 g h r w 0 (b.getLsbD 0) k.toNat 0 0 s)
def execSput (g h : BitVec 6) (r : BitVec 2) (w : BitVec 1) (k : BitVec 4) (s : State) : Out :=
  .next (streamWord (.sput g h r w k) .sput 7 g h r w 0 false k.toNat 0 0 s)

/-! ### Channels (R207, R209, R217) -/

def execScurOpen (g h : BitVec 6) (c : BitVec 3) (s : State) : Out :=
  .next (aWord (.scurOpen g h c) g h (fun x y s =>
    let sl := s.slot s.cur
    let lo := x.toNat
    let hi := y.toNat
    if (Tab.find sl.asy.chans c.toNat).isSome then .trap fILLEGAL 0 0
    else if lo < sl.act.spbase.toNat ∨ hi ≤ lo then .trap fSPBOUND 0 lo
    else if sl.act.splimit.toNat < hi then .trap fSPBOUND 0 hi
    else if lo % 64 ≠ 0 then .trap fALIGN 0 lo
    else if hi % 64 ≠ 0 then .trap fALIGN 0 hi
    else .done ((s.modAsy s.cur fun a => { a with chans := a.chans.put c.toNat ⟨lo, hi, true⟩ }).traceCmd 8)) s)

def execScurClose (c : BitVec 3) (s : State) : Out :=
  .next (aWord (.scurClose c) 0 0 (fun _ _ s =>
    .done ((s.modAsy s.cur fun a => { a with chans := a.chans.del c.toNat }).traceCmd 8)) s)

/-- SCUR.REPORT issues; its write performs when the range checker lets it (R217, 09 R256). -/
def execScurReport (g : BitVec 6) (c : BitVec 3) (s : State) : Out :=
  .next (aWord (.scurReport g c) g 0 (fun x _ s =>
    let sl := s.slot s.cur
    let a := x.toNat
    let r : Report := ⟨c.toNat, a, sl.asy.pc.pos, sl.asy.cmdNum⟩
    if sl.act.inRange a (a + 16 : Nat) = false then .trap fSPBOUND 0 a
    else if a % 16 ≠ 0 then .trap fALIGN 0 a
    else if sl.rangeRoom ⟨r.pos, [], [(a, 16)], false⟩ = false then .stall
    else .done ((s.modAsy s.cur fun y => { y with reports := y.reports ++ [r], cmdNum := y.cmdNum + 1 }).traceCmd 8)) s)

/-- The loads of a channel. -/
def AsyState.chanLoads (a : AsyState) (c : Nat) : List StreamCmd := a.loads.filter fun l => l.chan == some c

/-- wm(c) of R209. From its opening to the push of its first load a channel holds its base, as R217 sets it (log 87). -/
def AsyState.watermark (a : AsyState) (c : Nat) : Nat :=
  match Tab.find a.chans c with
  | none => 0
  | some ch =>
    if ch.fresh then ch.base
    else
      (((a.chanLoads c).flatMap (·.remaining)).filter fun r => overlaps r.1 r.2 ch.base (ch.limit - ch.base)).foldl
        (fun m r => min m (max ch.base r.1)) ch.limit

/-- The 16 bytes of a report. -/
def AsyState.reportBytes (a : AsyState) (c : Nat) : List Byte :=
  let ch := (Tab.find a.chans c).getD ⟨0, 0, false⟩
  toBytes 4 ch.base ++ toBytes 4 ch.limit ++ toBytes 4 (a.watermark c) ++ toBytes 2 (a.chanLoads c).length
    ++ toBytes 1 (bitN (Tab.find a.chans c).isSome) ++ [0]

/-- The first report of a slot that may perform writes its bytes. -/
def State.doReport (s : State) (slot : Nat) : State :=
  let sl := s.slot slot
  let ready (r : Report) : Bool :=
    sl.mayStart .A ⟨r.pos, [], [(r.addr, 16)], false⟩ && !s.zeroingAt slot r.addr 16
  match sl.asy.reports.find? ready with
  | none => s
  | some r =>
    (s.spWrite slot r.addr (sl.asy.reportBytes r.chan)).modAsy slot fun a => { a with reports := dropFirst (· == r) a.reports }

/-! ### Tokens (R218) -/

def execKwaitA (k n m : BitVec 6) (s : State) : Out :=
  .next (aWord (.kwaitA k n m) 0 0 (fun _ _ s =>
    match waitAct .A k.toNat (n.toNat * 64 + m.toNat) s with
    | .done t => .done (t.traceCmd 9)
    | a => a) s)
def execKsigA (k n m : BitVec 6) (s : State) : Out :=
  .next (aWord (.ksigA k n m) 0 0 (fun _ _ s => signalAct .A k.toNat (n.toNat * 64 + m.toNat) [] (s.traceCmd 10)) s)

end Sys2Proof.Machine
end

