-- ==== Sys2Proof/Machine/Queue.lean ====
section
/-!
DEFINITION. Sys2Proof/Machine/Queue.lean: work queues: their states (12 R291-R294), pushes and pops (12 R299-R303), graph records that need no
graph (12 R296, R298), and communication queues (12 R304-R307).
-/

namespace Sys2Proof.Machine

/-! ### The ring (R292) -/

def WorkQueue.size (q : WorkQueue) : Nat := 2 ^ q.log2sz.toNat
def WorkQueue.used (q : WorkQueue) : Nat := (q.tail - q.head).toNat

/-- The address of the entry of a record number. -/
def WorkQueue.entry (q : WorkQueue) (i : BitVec 32) : Nat := q.qbase.toNat + 32 * (i.toNat % q.size)

/-- A queue that a kill or a ring fault halts (R293). -/
def WorkQueue.halt (q : WorkQueue) : WorkQueue :=
  { q with
    phase := .halted, drops := satAdd32 q.drops q.used, head := q.tail, commit := 0, owners := [], resv := [], wdogCnt := 0
    running := none, expired := false }

/-- The graph of a halted queue's record writes no completion. -/
def State.orphanGraph (s : State) (q : Nat) : State :=
  match (s.queue q).running with
  | some g => s.modGraph g fun x => { x with queue := none }
  | none => s

/-- An Active queue is halted. -/
def State.haltQueue (s : State) (q : Nat) : State :=
  if (s.queue q).phase = .active then (s.orphanGraph q).modQueue q WorkQueue.halt else s

/-- A ring access of the hub has faulted (R292): the fault is raised for the owning context, under the key of its walk (10 R274), and the
queue is halted. -/
def State.ringFault (s : State) (q code status addr : Nat) (key : Option WalkKey) : State :=
  (s.hubWalkFault .hub code (s.tagOf (s.queue q).ctx.toNat) status addr key).haltQueue q

/-- The removal of the oldest record (R294). -/
def WorkQueue.remove (q : WorkQueue) : WorkQueue :=
  let q' := { q with head := q.head + 1, owners := q.owners.tail }
  match q.owners.headD none with
  | some (g, n) =>
    if q.resv.any (fun r => r.graph == g && r.node == n) then
      { q' with resv := mapFirst (fun r => r.graph == g && r.node == n) (fun r => { r with occ := r.occ - 1 }) q.resv }
    else { q' with commit := q.commit - 1 }
  | none => { q' with commit := q.commit - 1 }

/-! ### Requests of the host (R291, R293) -/

def State.refuseQueue (s : State) (q : Nat) : State := s.modQueue q fun x => { x with refused := satAdd32 x.refused 1 }

/-- A change of the queues bound to a context is kept in its QMASK (15 R347). -/
def State.setQmask (s : State) (c q : Nat) (on : Bool) : State :=
  let m : BitVec 256 := BitVec.ofNat 256 (2 ^ q)
  let old := (s.ctx c).qmask
  let new := if on then old ||| m else old &&& ~~~m
  (s.modCtx c fun x => { x with qmask := new }).physWrite ((s.ctx c).cimg.toNat + 0x20) (toBytes 32 new.toNat)

/-- Log 50. -/
def State.queueBind (s : State) (q : Nat) : State :=
  let x := s.queue q
  if x.phase ≠ .unbound then s
  else if 1 ≤ x.log2sz.toNat ∧ x.log2sz.toNat ≤ 16 ∧ x.qbase.toNat % 4096 = 0 ∧ x.qbase.toNat % (32 * x.size) = 0
      ∧ (s.ctx x.ctx.toNat).phase ≠ .free ∧ s.hub.dev.negotiated = true then
    (s.modQueue q fun x => { x with phase := .active, head := 0, tail := 0, commit := 0, wdogCnt := 0, owners := [], resv := [] }).setQmask
      x.ctx.toNat q true
  else s.refuseQueue q

def State.queueResume (s : State) (q : Nat) : State :=
  if (s.queue q).phase = .halted then s.modQueue q fun x => { x with phase := .active, wdogCnt := 0 } else s

def State.queueUnbind (s : State) (q : Nat) : State :=
  let x := s.queue q
  if x.phase ≠ .unbound ∧ x.running = none ∧ x.resv = [] ∧ x.sleepers = [] then
    (s.modQueue q fun x => { x with phase := .unbound, drops := satAdd32 x.drops x.used, head := x.tail, owners := [] }).setQmask
      x.ctx.toNat q false
  else s

def execQueueBind (s : State) : Out := .next (s.queueBind s.cur)
def execQueueResume (s : State) : Out := .next (s.queueResume s.cur)
def execQueueUnbind (s : State) : Out := .next (s.queueUnbind s.cur)

/-- A doorbell of n host records (R293). The cycle serves the poppers that sleep (R303). -/
def State.doorbell (s : State) (q n : Nat) : State :=
  let x := s.queue q
  if x.phase = .active ∧ 1 ≤ n ∧ x.commit.toNat + n ≤ x.size then
    s.modQueue q fun x =>
      { x with tail := x.tail + BitVec.ofNat 32 n, commit := x.commit + BitVec.ofNat 17 n, owners := x.owners ++ List.replicate n none }
  else s.refuseQueue q

/-- QUEUE_DOORBELL (R293), at a queue. -/
def execQueueDoorbell (n : Nat) (s : State) : Out := .next (s.doorbell s.cur n)

/-! ### Pushes and pops of the sequencer (R299-R303) -/

/-- Checks 2 and 3 of R299. -/
def State.queueCheck (s : State) (x : Reg) (feed : Bool) (k : Nat → Act) : Act :=
  let q := x.toNat
  if 256 ≤ q then .trap fILLEGAL 0 0
  else
    let w := s.queue q
    if w.phase = .unbound ∨ w.ctx.toNat ≠ ctxOf (s.slot s.cur).act.inctag ∨ (feed = true ∧ w.feed = false) then .trap fPERMISSION 0 0
    else k q

/-- What a push of the sequencer releases in a class has performed at package scope (09 R249). -/
def Slot.pushedOut (sl : Slot) (cls : Nat) : Bool :=
  (sl.seq.reqs.all fun r => r.cls != cls || (match r.kind with | .load _ _ => true | _ => r.atPackage))
  && sl.asy.stores.all fun c => c.cls != cls

/-- STATUS of QUEUEFULL (R294). -/
def fullStatus (q reason : Nat) : Nat := q + reason * 2 ^ 8

/-- The record of four registers from `n` on (R300). -/
def Regs.record (r : Regs) (n : Nat) : List Byte := (rangeFrom n 4).flatMap fun k => toBytes 8 (r.getG k).toNat

/-- Log 52. -/
def execWqpush (a b : BitVec 6) (s : State) : Out :=
  .next (sWord (.wqpush a b) (.g b.toNat :: (rangeFrom a.toNat 4).map RegRef.g) [] (fun s =>
    s.queueCheck (s.g b.toNat) false fun q =>
      let sl := s.slot s.cur
      let x := s.queue q
      let mine (r : Reservation) : Bool := r.graph == sl.act.graph && r.node == sl.act.node
      if x.phase ≠ .active then .trap fQUEUEFULL (fullStatus q 2) 0
      else if x.resv.any (fun r => mine r && decide (r.occ < r.res)) = false then .trap fQUEUEFULL (fullStatus q 1) 0
      else if sl.pushedOut x.cls.toNat = false then .stall
      else
        match s.hubWrite (s.tagOf x.ctx.toNat) (x.entry x.tail) (sl.regs.record a.toNat) with
        | (.waits, s) => .hold s
        | (.bad code st addr key, s) => .hold ((s.ringFault q code st addr key).trapAt s.cur .S fQUEUEFULL (fullStatus q 2) 0)
        | (.ok _, s) =>
          .done (s.modQueue q fun x =>
            { x with tail := x.tail + 1, owners := x.owners ++ [some (sl.act.graph, sl.act.node)]
                     resv := mapFirst mine (fun r => { r with occ := r.occ + 1 }) x.resv })) s)

/-- The record at QHEAD is taken for a slot: its registers are written, and its graph makes progress. The answer says whether the queue
had a record for it. -/
def State.popFor (s : State) (q slot reg : Nat) : Bool × State :=
  let x := s.queue q
  if x.phase ≠ .active ∨ x.used = 0 then (false, s)
  else
    match s.hubRead (s.tagOf x.ctx.toNat) (x.entry x.head) 32 with
    | (.waits, s) => (false, s)
    | (.bad code st addr key, s) => (false, s.ringFault q code st addr key)
    | (.ok bs, s) =>
      let word (k : Nat) : Reg := BitVec.ofNat 64 (ofBytes ((bs.drop (8 * k)).take 8))
      let s := s.modQueue q WorkQueue.remove
      let s := (rangeFrom 0 4).foldl (fun s k =>
        (s.modRegs slot fun r => r.setG (reg + k) (word k)).traceAt slot .S 2 9 (reg + k) (some (word k))) s
      (true, s.progress (s.slot slot).act.graph)

/-- A WQPOP comes to sleep at its queue. -/
def State.sleepAt (s : State) (q reg : Nat) : State :=
  ((s.modQueue q fun x => { x with sleepers := x.sleepers ++ [s.cur] }).modSeq s.cur fun y => { y with sleep := some (.wqpop q reg) }).seqWait

def execWqpop (d b : BitVec 6) (s : State) : Out :=
  .next (sWord (.wqpop d b) [.g b.toNat] ((rangeFrom d.toNat 4).map RegRef.g) (fun s =>
    s.queueCheck (s.g b.toNat) true fun q =>
      if (s.queue q).sleepers ≠ [] then .hold (s.sleepAt q d.toNat)
      else
        match s.popFor q s.cur d.toNat with
        | (true, s) => .done s
        | (false, s) => .hold (s.sleepAt q d.toNat)) s)

/-- WQPOP_WAKE (R303), at a queue: the word that slept first, of those whose activation is not stopped
and whose PC_S is not held by a late matrix word, takes the record. -/
def execWqpopWake (s : State) : Out :=
  .next (
    let q := s.cur
    match (s.queue q).sleepers.find? fun n => (s.slot n).stop.isNone && !(s.slot n).mat.late with
    | none => s
    | some slot =>
      let t := (s.queue q).sleepers.filter (· != slot)
      match (s.slot slot).seq.sleep with
      | some (.wqpop n reg) =>
        if n ≠ q then s.modQueue q fun x => { x with sleepers := t }
        else
        match s.popFor q slot reg with
        | (false, s) => s
        | (true, s) =>
          let s := (s.modQueue q fun x => { x with sleepers := t }).modSeq slot fun y => { y with sleep := none }
          let s := s.modCounter slot .S fun c => c.atCycle s.now
          ((s.seqWaited slot).markIssued slot .S).leave slot .S
      | _ => s.modQueue q fun x => { x with sleepers := t })

def execWqroom (d b : BitVec 6) (s : State) : Out :=
  .next (sWord (.wqroom d b) [.g b.toNat] [.g d.toNat] (fun s =>
    s.queueCheck (s.g b.toNat) false fun q =>
      let x := s.queue q
      let st := match x.phase with
        | .unbound => 0
        | .active => 1
        | .halted => 2
      let v := BitVec.ofNat 64 (x.used % 2 ^ 17 + (x.size - x.commit.toNat) * 2 ^ 32 + st * 2 ^ 61)
      .done ((s.writeG d.toNat v 1).traceInput s.cur d.toNat v)) s)

/-! ### Graph records (R295, R296, R298) -/

/-- A record is malformed (R295, R296) (logs 52 and 88). -/
def recordBad (r : Nat) : Bool :=
  let a0 := field r 127 64
  let a1 := field r 191 128
  let a2 := field r 255 192
  field r 63 9 != 0
  || match field r 7 0 with
     | 0 => a0 != 0 || a1 != 0 || a2 != 0
     | 1 => a0 % 64 != 0 || a1 % 16 != 0
     | 2 => a2 != 0 || a0 % 64 != 0 || a1 == 0 || decide (2 ^ 24 < a1) || decide (2 ^ 56 < a0 + 64 * a1)
     | _ => true

/-- The interrupt of a record that finishes (log 52). -/
def State.recordIntr (s : State) (q : Nat) (r : Nat) : State :=
  if bitAt r 8 && (s.queue q).intr then s.raiseVector (s.queue q).vector.toNat else s

/-- A record of a graph queue finishes: it is removed (log 52). -/
def State.finishRecord (s : State) (q : Nat) (r : Nat) : State :=
  (s.modQueue q fun x => { x.remove with running := none }).recordIntr q r

/-- Envelope takes the record at QHEAD of a graph queue (R296): a malformed one finishes with ILLEGAL, and one of the kind goes on. -/
def State.takeRecord (s : State) (q kind : Nat) (k : Nat → State → State) : State :=
  let x := s.queue q
  if x.phase ≠ .active ∨ x.feed = true ∨ x.running ≠ none ∨ x.used = 0 ∨ s.runs x.ctx.toNat = false then s
  else
    match s.hubRead (s.tagOf x.ctx.toNat) (x.entry x.head) 32 with
    | (.waits, s) => s
    | (.bad code st addr key, s) => s.ringFault q code st addr key
    | (.ok bs, s) =>
      let r := ofBytes bs
      if recordBad r then
        (s.hubFault .hub fILLEGAL (s.tagOf x.ctx.toNat) 0 (x.entry x.head)).finishRecord q r
      else if field r 7 0 = kind then k r s
      else s

/-- QUEUE_RECORD_NOP (R296), at a queue. -/
def execQueueRecordNop (s : State) : Out := .next (s.takeRecord s.cur 0 fun r s => s.finishRecord s.cur r)

/-- QUEUE_RECORD_ICODE (R298), at a queue. -/
def execQueueRecordIcode (s : State) : Out :=
  .next (s.takeRecord s.cur 2 fun r s =>
    let c := (s.queue s.cur).ctx.toNat
    let lo := field r 127 64
    let hi := lo + 64 * field r 191 128
    (((s.dropCode (fun _ => true) c lo hi).icinvKernels c lo hi)).finishRecord s.cur r)

/-! ### Communication queues (R304-R307) -/

def execCqpush (g : BitVec 6) (c : BitVec 4) (s : State) : Out :=
  .next (aWord (.cqpush g c) g 0 (fun x _ s =>
    let sl := s.slot s.cur
    let core := coreOf s.cur
    let at_ := x.toNat
    let pr : Present := ⟨sl.asy.pc.pos, [(at_, 64)], [], false⟩
    match sl.act.firstBeyond [((at_ : Int), (at_ + 64 : Nat))] with
    | some a => .trap fSPBOUND 0 a
    | none =>
      if at_ % 64 ≠ 0 then .trap fALIGN 0 at_
      else if (s.core core).cqEn = false then .trap fPERMISSION 0 0
      else if 32 ≤ (s.core core).commq.length ∨ 16 ≤ sl.asy.cqOwed ∨ sl.rangeRoom pr = false ∨ sl.mayStart .A pr = false
          ∨ sl.channelsReady pr.pos pr.reads = false ∨ s.zeroingAt s.cur at_ 64 = true then .stall
      else
        let cmd : CommCmd :=
          { bytes := BitVec.ofNat 512 (ofBytes (s.spRead s.cur at_ 64)), slot := s.cur, tag := sl.act.inctag, cls := c.toNat
            word := sl.asy.pc.word, graph := sl.act.graph, node := sl.act.node, started := sl.started
            relReq := (sl.seq.reqs.filter fun r => decide (r.pos < sl.asy.pc.pos)).foldl (fun m r => max m (r.num + 1)) 0
            relCmd := sl.asy.cmdNum }
        let s := s.modCore core fun k => { k with commq := k.commq ++ [cmd] }
        let s := s.modAsy s.cur fun a => { a with cqPushed := a.cqPushed + 1, cqOwed := a.cqOwed + 1 }
        .done ((s.nodeCommand sl.act.graph sl.act.node).traceCmd 0x0B)) s)

def execCqpop (d : BitVec 6) (s : State) : Out :=
  .next (sWord (.cqpop d) [] [.g d.toNat, .g (d.toNat + 1)] (fun s =>
    let sl := s.slot s.cur
    if sl.asy.cqPushed < sl.asy.cqPopped + 1 ∧ sl.seq.pc.pos ≤ sl.asy.pc.pos then .trap fILLEGAL 0 0
    else
      match sl.asy.cq with
      | [] => .hold s.seqWait
      | e :: t =>
        let lo : Reg := e.setWidth 64
        let hi : Reg := (e >>> 64).setWidth 64
        let s := s.modAsy s.cur fun a => { a with cq := t, cqPopped := a.cqPopped + 1, cqOwed := a.cqOwed - 1 }
        let s := ((s.writeG d.toNat lo 1).traceInput s.cur d.toNat lo).writeG (d.toNat + 1) hi 1
        .done (((s.traceInput s.cur (d.toNat + 1) hi).seqWaited s.cur).progress sl.act.graph)) s)

end Sys2Proof.Machine
end

