-- ==== Sys2Proof/Machine/Burst.lean ====
section
/-!
DEFINITION. Sys2Proof/Machine/Burst.lean: the bursts of stream commands: their addresses (08 R203, R204, R212-R216), their start (R206), the
walk and the touch of each (09 R237-R242; 10 R274), their completion and their faults (08 R205).
-/

namespace Sys2Proof.Machine

/-! ### Where a burst goes -/

/-- Entry `i` of the index list of a command (R212). -/
def State.listIndex (s : State) (slot : Nat) (c : StreamCmd) (i : Nat) : Nat := ofBytes (s.spRead slot (c.gb.toNat + 4 * i) 4)

/-- The global address of copy `n`; `none` where the copy has no global side: padded, skipped (R212, R213), or an SPUT's. -/
def State.copyGlobal (s : State) (slot : Nat) (c : StreamCmd) (n : Nat) : Option Int :=
  let h := c.shape
  let str (l : Nat) : Int := h.gstr.getD l 0
  let i (l : Nat) : Int := h.index n l
  match c.kind with
  | .sput => none
  | .sgath | .sscat =>
    let idx := s.listIndex slot c (h.index n 1)
    if c.flag ∧ idx = 2 ^ 32 - 1 then none else some (h.ga n - i 1 * str 1 + idx * str 1)
  | .swin =>
    let px : Int := sext (field c.gb.toNat 15 0) 16 + i 1 * c.dx
    let py : Int := sext (field c.gb.toNat 31 16) 16 + i 2 * c.dy
    let pn : Int := (field c.gb.toNat 47 32 : Nat) + i 3
    -- ARG [63:8] of the parameter word: WB, HB and NB
    let wb : Int := (field c.arg 15 0 : Nat)
    let hb : Int := (field c.arg 31 16 : Nat)
    let nb : Int := (field c.arg 47 32 : Nat)
    if px < 0 ∨ wb ≤ px ∨ py < 0 ∨ hb ≤ py ∨ nb ≤ pn then none
    else some (h.gaddr + i 0 * str 0 + px * str 1 + py * str 2 + pn * str 3)
  | _ => some (h.ga n)

/-- Bytes to the next 256-byte boundary of an address. -/
def toBoundary (a : Int) : Nat := (256 - a % 256).toNat

/-- The burst at an offset of a command (R204, R214): its address and length. -/
def State.burstAt (s : State) (slot : Nat) (c : StreamCmd) (off : Nat) : Burst :=
  let h := c.shape
  let plain := h.copies * h.run
  let mk (va : Int) (len : Nat) (local_ : Bool) : Burst := ⟨off, len, va, .walk, 0, [], local_⟩
  if c.kind = .spair ∧ plain ≤ off then
    let wb := ((fmtOf h.fmt).getD fF32).width / 8
    let row := h.ext.getD 1 0 * wb
    let t := off - plain
    let va : Int := c.gb.toNat + (t / row : Nat) * (field c.arg 39 0 : Nat) + (t % row : Nat)
    mk va (min (row - t % row) (toBoundary va)) false
  else
    let n := off / h.run
    let o := off % h.run
    match s.copyGlobal slot c n with
    | some ga => mk (ga + o) (min (h.run - o) (toBoundary (ga + o))) false
    | none =>
      let sa := h.sa n + o
      mk (if c.kind = .sput then h.ga n + o else 0) (min (h.run - o) (toBoundary sa)) true

/-- The scratchpad ranges that a store burst reads. -/
def StreamCmd.burstReads (c : StreamCmd) (b : Burst) : List (Nat × Nat) :=
  let h := c.shape
  let plain := h.copies * h.run
  if c.kind = .spair ∧ plain ≤ b.off then
    let wb := ((fmtOf h.fmt).getD fF32).width / 8
    let row := h.ext.getD 1 0 * wb
    let t := b.off - plain
    (rangeFrom (t % row) b.len).map fun x => ((h.sa (x / wb)).toNat + t / row * wb + x % wb, 1)
  else [((c.saAt b.off).toNat, b.len)]

/-- The bytes of a store burst, as the scratchpad holds them. -/
def State.burstBytes (s : State) (slot : Nat) (c : StreamCmd) (b : Burst) : List Byte :=
  (c.burstReads b).flatMap fun r => s.spRead slot r.1 r.2

/-- The bytes of a padded burst. -/
def StreamCmd.padBytes (c : StreamCmd) (b : Burst) : List Byte :=
  (rangeFrom (b.off % c.shape.run) b.len).map c.shape.padByte

/-! ### Commands of a slot -/

def AsyState.cmds (a : AsyState) (store : Bool) : List StreamCmd := if store then a.stores else a.loads

/-- Change the command of a number. -/
def State.modCmd (s : State) (slot : Nat) (store : Bool) (num : Nat) (f : StreamCmd → StreamCmd) : State :=
  s.modAsy slot fun a =>
    if store then { a with stores := a.stores.map fun c => if c.num = num then f c else c }
    else { a with loads := a.loads.map fun c => if c.num = num then f c else c }

def State.dropCmd (s : State) (slot : Nat) (store : Bool) (num : Nat) : State :=
  s.modAsy slot fun a =>
    if store then { a with stores := a.stores.filter fun c => c.num != num } else { a with loads := a.loads.filter fun c => c.num != num }

/-- The `k`-th burst in flight of an engine of a slot, with its command. -/
def AsyState.nthFlying (a : AsyState) (store : Bool) (k : Nat) : Option (StreamCmd × Burst) :=
  ((a.cmds store).flatMap fun c => c.flying.map fun b => (c, b))[k]?

/-- Change the burst at an offset of a command; `none` removes it. -/
def StreamCmd.setBurst (c : StreamCmd) (off : Nat) (b : Option Burst) : StreamCmd :=
  { c with flying := c.flying.filterMap fun x => if x.off = off then b else some x }

/-- Every burst of the command has started. -/
def StreamCmd.started (c : StreamCmd) : Bool := decide (c.total ≤ c.next)

/-- Every access of the command has performed at die scope (log 38). -/
def StreamCmd.performed (c : StreamCmd) : Bool := c.started && c.stopped.isNone && c.flying.all fun b => b.stage == .served

/-- The sequencer's stores and atomics that a push at a position releases have performed (09 R249) (log 38). -/
def SeqState.pushReleased (q : SeqState) (pos cls : Nat) : Bool :=
  q.reqs.all fun r =>
    !(decide (r.pos < pos) && r.cls == cls)
    || (match r.kind with
        | .load _ _ => true
        | .store _ => false
        | .atom _ _ => r.stage == .served)

/-- An earlier command of the slot in the class has bursts to start: no later one overtakes it (08 R206). -/
def AsyState.overtakes (a : AsyState) (c : StreamCmd) : Bool :=
  (a.loads ++ a.stores).any fun x => decide (x.num < c.num) && x.cls == c.cls && (!x.started || x.stopped.isSome)

/-- The accesses of earlier commands of the class have performed where an access of this command needs them (09 R242). -/
def AsyState.mayPerform (a : AsyState) (c : StreamCmd) : Bool :=
  (a.loads.all fun x => !(decide (x.num < c.num) && x.cls == c.cls) || x.performed)
  && a.stores.all fun x => !(decide (x.num < c.num) && x.cls == c.cls) || (!c.kind.isLoad && x.performed)

/-! ### Starting bursts (R206) -/

/-- The command may start its next burst (log 38). -/
def State.cmdReady (s : State) (slot : Nat) (c : StreamCmd) : Bool :=
  let sl := s.slot slot
  let pr := sl.presentCmd c
  let b := s.burstAt slot c c.next
  !c.started && c.stopped.isNone && !(c.flying.any fun x => x.stage == .faulted) && sl.seq.pushReleased c.pos c.cls && !sl.asy.overtakes c
  && ((c.kind.isLoad && c.kind != .sgath) || sl.mayStart .A pr)
  && (sl.channelsReady c.pos (c.listReads c.next) && !(c.listReads c.next).any fun r => s.zeroingAt slot r.1 r.2)
  && (c.kind.isLoad || (sl.channelsReady c.pos (c.burstReads b) && !(c.burstReads b).any fun r => s.zeroingAt slot r.1 r.2))

/-- The first command in the list with the least SLACK. -/
def leastSlack : List StreamCmd → Option StreamCmd
  | [] => none
  | c :: t =>
    match leastSlack t with
    | some d => if d.slack < c.slack then some d else some c
    | none => some c

/-- A burst of a command starts. -/
def State.startBurst (s : State) (slot : Nat) (c : StreamCmd) : State :=
  let store := !c.kind.isLoad
  let b := s.burstAt slot c c.next
  let stage : Stage := if b.local_ then .served else if b.va < 0 ∨ 2 ^ 56 ≤ b.va then .faulted else .walk
  let data := if store then s.burstBytes slot c b else if b.local_ then c.padBytes b else []
  let b' := { b with stage := stage, data := data }
  s.modCmd slot store c.num fun x => { x with next := x.next + b.len, flying := x.flying ++ [b'] }

/-- STREAM_BURST_START (R206), at a core: one burst per engine and cycle, of the command of either slot with the least SLACK; the slot
priority rule decides between equals. -/
def execStreamBurstStart (store : Bool) (s : State) : Out :=
  .next (
    let core := s.cur
    let c := s.core core
    if s.now < (if store then c.storeCycle else c.loadCycle) then s
    else
      let best (slot : Nat) : Option StreamCmd := leastSlack (((s.slot slot).asy.cmds store).filter (s.cmdReady slot))
      let go (s : State) (slot : Nat) (d : StreamCmd) : State :=
        (s.startBurst slot d).modCore core fun k =>
          if store then { k with storeCycle := s.now + 1 } else { k with loadCycle := s.now + 1 }
      match best (2 * core), best (2 * core + 1) with
      | none, none => s
      | some a, none => go s (2 * core) a
      | none, some b => go s (2 * core + 1) b
      | some a, some b =>
        if a.slack < b.slack then go s (2 * core) a
        else if b.slack < a.slack then go s (2 * core + 1) b
        else
          let unit := if store then unitStore else unitLoad
          let side := s.winner core unit
          go (s.decide_ core unit side) (2 * core + side) (if side = 0 then a else b))

/-! ### Walks of bursts (09 R242; 10 R274) -/

/-- A burst that goes before: an earlier one of its command, not yet performed, whose bytes may be the same ones (R203). -/
def StreamCmd.blocked (c : StreamCmd) (b : Burst) : Bool :=
  c.flying.any fun x =>
    decide (x.off < b.off) && x.stage != .served && !x.local_
    && overlaps (x.va % 0x10000).toNat x.len (b.va % 0x10000).toNat b.len

/-- A store burst may leave for the window: the earlier ones of its slot have been accepted (16 R369). -/
def AsyState.leavesNext (a : AsyState) (c : StreamCmd) (b : Burst) : Bool :=
  (c.flying.all fun x => !decide (x.off < b.off) || x.stage == .served)
  && a.stores.all fun x => !decide (x.num < c.num) || x.kind == .sput || (decide (x.total ≤ x.next) && x.flying.all fun y => y.stage == .served)

/-- A burst that has come to its physical address can be served there now (16 R365, R369). -/
def State.burstReady (s : State) (slot : Nat) (store : Bool) (c : StreamCmd) (b : Burst) (pa : Nat) : Bool :=
  if store then !inWindow pa || (s.slot slot).asy.leavesNext c b else s.nearServes (dieOf slot) pa c.cls

/-- A burst in flight is walked, touches its page and performs: a load reads, a store is accepted by the near-store (log 38). -/
def State.walkBurst (s : State) (slot : Nat) (store : Bool) (k : Nat) : State :=
  let sl := s.slot slot
  let tag := sl.act.inctag
  match sl.asy.nthFlying store k with
  | none => s
  | some (c, b) =>
    let set (s : State) (b : Burst) : State := s.modCmd slot store c.num fun x => x.setBurst b.off (some b)
    if b.stage ≠ .walk ∨ sl.asy.mayPerform c = false ∨ (store = true ∧ c.blocked b = true) ∨ s.live tag = false then s
    else if (s.joins (.core (coreOf slot)) tag b.va.toNat).isSome then set s { b with stage := .faulted }
    else
      match s.touch (.core (coreOf slot)) (some slot) tag b.va.toNat b.len (if store then .write else .read) with
      | (.served pa, t) =>
        if t.paKind pa = .window ∧ t.hostUp = false then set t { b with stage := .faulted }
        else if t.burstReady slot store c b pa = false then s
        else
        let s := t
        if store then
          set (s.nearAccept (dieOf slot)
            { slot := slot, burst := true, num := c.num, off := b.off, pa := pa, bytes := b.data, tag := tag, cls := c.cls })
            { b with stage := .served, pa := pa }
        else
          let (bs, s) := s.nearRead (dieOf slot) pa b.len c.cls tag
          set s { b with stage := .served, pa := pa, data := bs }
      | (.waits, s) => s
      | (.stale, s) => set s { b with stage := .faulted }
      | (.fault _ _, s) => set s { b with stage := .faulted }

/-! ### Targets of SMCAST and SPUT (R215, R216) -/

/-- The slots that an SMCAST names. -/
def StreamCmd.targets (c : StreamCmd) (slot : Nat) : List Nat :=
  ((rangeFrom 0 40).filter fun n => bitAt c.gb.toNat n).map fun n => 2 * (40 * dieOf slot + n) + bitN c.flag

/-- The core of a target, within its die. -/
def coreBit (slot : Nat) : Nat := coreOf slot % 40

/-- The target's address of the bytes at an offset from the range's base. -/
def State.targetAddr (s : State) (t : Nat) (rel : Int) : Int := (s.slot t).act.spbase.toNat + rel

/-- A target runs an activation under the tag. -/
def State.targetRuns (s : State) (t : Nat) (tag : BitVec 18) : Bool := (s.slot t).busy && (s.slot t).act.inctag == tag

/-- A target can take the bytes of a burst. -/
def State.targetTakes (s : State) (t : Nat) (tag : BitVec 18) (rel : Int) (len : Nat) : Bool :=
  s.targetRuns t tag && (s.slot t).act.inRange (s.targetAddr t rel) (s.targetAddr t rel + len)

/-- A burst of an SMCAST reaches one target: it is written, or the target has failed and it is an orphan (log 39). -/
def State.castTo (s : State) (slot : Nat) (c : StreamCmd) (b : Burst) (t : Nat) : State :=
  let tag := (s.slot slot).act.inctag
  let rel := c.saAt b.off - (s.slot slot).act.spbase.toNat
  let failed := ((s.slot slot).asy.loads.find? (fun x => x.num == c.num)).any fun x => x.failed.getLsbD (coreBit t)
  if failed = false ∧ s.targetTakes t tag rel b.len = true then s.spWrite t (s.targetAddr t rel).toNat b.data
  else
    (s.modCmd slot false c.num fun x => { x with failed := x.failed ||| BitVec.ofNat 40 (2 ^ coreBit t) }).countOrphan (ctxOf tag) 1

/-- STATUS bits of a TOKENCEIL that a copy of another slot raises (R215) (log 39). -/
def senderStatus (slot : Nat) : Nat := slot % 512 * 2 ^ 48 + 2 ^ 63

/-- A slot that runs an activation under the sender's tag, and has received every byte, is sent its signal. -/
def State.sendSignal (s : State) (slot t tok : Nat) : State :=
  if s.targetRuns t (s.slot slot).act.inctag then s.modSlot t fun sl => { sl with remote := sl.remote ++ [⟨tok, slot⟩] } else s

/-- A target of an SMCAST that has received every byte counts as received, and is signalled. -/
def State.castSignal (s : State) (slot : Nat) (c : StreamCmd) (t : Nat) : State :=
  match (s.slot slot).asy.loads.find? (fun x => x.num == c.num) with
  | none => s
  | some x =>
    if x.failed.getLsbD (coreBit t) || x.signalled.getLsbD (coreBit t) then s
    else
      (s.sendSignal slot t c.tok).modCmd slot false c.num fun x =>
        { x with signalled := x.signalled ||| BitVec.ofNat 40 (2 ^ coreBit t) }

/-- The first signal that other slots have sent to a slot is made, with the waits and signals of its cycle (R215; 05 R130). -/
def State.takeRemote (s : State) (t : Nat) : State :=
  match (s.slot t).remote with
  | [] => s
  | r :: rest =>
    match s.signalToken t .A r.tok 1 none (senderStatus r.sender) with
    | some s => s.modSlot t fun sl => { sl with remote := rest }
    | none => s

/-- A command that will never complete leaves its engine, and the signals that wait on it are withheld (R205, R215). -/
def State.loseCmd (s : State) (slot : Nat) (store : Bool) (c : StreamCmd) : State :=
  (s.dropCmd slot store c.num).modSlot slot fun sl =>
    { sl with signals := sl.signals.filter fun g => !(g.eng == .A && decide (c.pos < g.pos)) }

/-- The end of a command: it leaves its engine, with its trace entry and its progress event. -/
def State.endCmd (s : State) (slot : Nat) (store : Bool) (c : StreamCmd) : State :=
  let s := s.dropCmd slot store c.num
  let s := s.progress (s.slot slot).act.graph
  s.traceEntry slot .A ((s.slot slot).traceMode .A) 1 6 c.word c.major none

/-- A command of which every byte has been moved ends; an SMCAST first signals its targets, and raises MCASTPART if one failed; an SPUT signals
its target (log 39). -/
def State.finishCmd (s : State) (slot : Nat) (store : Bool) (num : Nat) : State :=
  match ((s.slot slot).asy.cmds store).find? (fun c => c.num == num) with
  | none => s
  | some c =>
    if c.started = false ∨ c.flying ≠ [] then s
    else if c.stopped.isSome then if (s.slot slot).stop.any (·.final) then s.loseCmd slot store c else s
    else
      match c.kind with
      | .smcast =>
        let s := (c.targets slot).foldl (fun s t => s.castSignal slot c t) s
        match (s.slot slot).asy.loads.find? (fun x => x.num == num) with
        | none => s
        | some x =>
          if x.failed = 0 then s.endCmd slot store c
          else if (s.slot slot).stop.any (·.final) then s.loseCmd slot store c
          else if (s.slot slot).stop.isSome then s
          else
            (s.raiseTrap slot .A fMCASTPART (x.failed.toNat + bitN c.flag * 2 ^ 40) 0 c.total (some c.word) none).modCmd slot store num
              fun x => { x with stopped := some c.total }
      | .sput => (s.sendSignal slot c.gb.toNat c.tok).endCmd slot store c
      | _ => s.endCmd slot store c

/-! ### Completion of bursts (R204) -/

/-- Where the bytes of a burst go in a scratchpad: for an SPUT, in the target's range. -/
def StreamCmd.landsAt (c : StreamCmd) (b : Burst) : Int := if c.kind = .sput then b.va else c.saAt b.off

/-- An earlier burst of the command that is still in flight writes bytes that this one writes too. -/
def StreamCmd.laterThan (c : StreamCmd) (b : Burst) : Bool :=
  c.flying.any fun x => decide (x.off < b.off) && decide (c.landsAt x < c.landsAt b + b.len) && decide (c.landsAt b < c.landsAt x + x.len)

/-- A target takes the bytes of a burst once the banks they go to have been zeroed for its activation (03 R61). -/
def State.targetZeroing (s : State) (t : Nat) (tag : BitVec 18) (rel : Int) (len : Nat) : Bool :=
  s.targetTakes t tag rel len && s.zeroingAt t (s.targetAddr t rel).toNat len

/-- A load burst is written to the scratchpad. -/
def State.landLoad (s : State) (slot : Nat) (c : StreamCmd) (b : Burst) : State :=
  let sl := s.slot slot
  let sa := (c.saAt b.off).toNat
  let gone (s : State) : State := s.modCmd slot false c.num fun x => x.setBurst b.off none
  if c.kind = .smcast then
    if c.laterThan b
        || (c.targets slot).any fun t => s.targetZeroing t sl.act.inctag (c.saAt b.off - sl.act.spbase.toNat) b.len then s
    else (gone ((c.targets slot).foldl (fun s t => s.castTo slot c b t) s)).finishCmd slot false c.num
  else if sl.mayStart .A (sl.presentCmd c) = false ∨ c.laterThan b = true ∨ s.zeroingAt slot sa b.len = true then s
  else (gone (s.spWrite slot sa b.data)).finishCmd slot false c.num

/-- The place of an accepted burst among its die's stores. -/
def DieState.acceptedBurst (d : DieState) (slot : Nat) (c : StreamCmd) (b : Burst) : Option Nat :=
  d.accepted.findIdx? fun e => e.burst && e.slot == slot && e.num == c.num && e.off == b.off

/-- A fault ends a command of an activation whose stop is final (18 R413); else it stops the command at the burst (R205). -/
def State.cmdFault (s : State) (slot : Nat) (store : Bool) (c : StreamCmd) (off code status addr : Nat) (key : Option WalkKey) : State :=
  match (s.slot slot).stop with
  | some st => if st.final then s.loseCmd slot store c else s
  | none =>
    let s := match key with
      | some k => s.addWalk k
      | none => s
    (s.raiseTrap slot .A code status addr off (some c.word) key).modCmd slot store c.num fun x =>
      { x with stopped := some off, next := off, flying := x.flying.filter fun b => decide (b.off < off) || (store && b.stage == .served) }

/-- A store burst is acknowledged by its home; an SPUT's is written to its target. -/
def State.landStore (s : State) (slot : Nat) (c : StreamCmd) (b : Burst) : State :=
  let gone (s : State) : State := s.modCmd slot true c.num fun x => x.setBurst b.off none
  if c.kind = .sput then
    let t := c.gb.toNat
    let tag := (s.slot slot).act.inctag
    if c.laterThan b || !(s.slot slot).asy.mayPerform c || s.targetZeroing t tag b.va b.len then s
    else if s.targetTakes t tag b.va b.len then
      (gone (s.spWrite t (s.targetAddr t b.va).toNat b.data)).finishCmd slot true c.num
    else s.modCmd slot true c.num fun x => x.setBurst b.off (some { b with stage := .faulted })
  else if b.local_ then (gone s).finishCmd slot true c.num
  else
    let die := dieOf slot
    match (s.die die).acceptedBurst slot c b with
    | none => (gone s).finishCmd slot true c.num
    | some i =>
      if (s.die die).mayAck i = false ∨ s.reaches die b.pa = false then s
      else
        let (down, s) := s.homeWrite b.pa b.data
        let s := gone (s.modDie die fun d => { d with accepted := d.accepted.eraseIdx i })
        if down then s.cmdFault slot true c b.off fLINK linkDown 0 none else s.finishCmd slot true c.num

/-- STREAM_BURST_COMPLETE (R204), at a slot: the k-th burst in flight of an engine lands. Past the last one, a command whose signal has
waited for its turn ends. -/
def execStreamBurstComplete (store : Bool) (k : Nat) (s : State) : Out :=
  .next (
    let slot := s.cur
    match (s.slot slot).asy.nthFlying store k with
    | some (c, b) =>
      if b.stage ≠ .served then s else if store then s.landStore slot c b else s.landLoad slot c b
    | none => ((s.slot slot).asy.cmds store).foldl (fun s c => s.finishCmd slot store c.num) s)

/-! ### Faults of bursts (R205) -/

/-- The fault that a burst meets, with its walk's key; or none, where it can be walked now. -/
def State.burstFault (s : State) (slot : Nat) (c : StreamCmd) (b : Burst) : Option (Nat × Nat × Nat × Option WalkKey) :=
  let tag := (s.slot slot).act.inctag
  let va := wrapN 64 b.va
  if c.kind = .sput then
    let t := c.gb.toNat
    let at_ := s.targetAddr t b.va
    let a := (s.slot t).act
    if s.targetRuns t tag = false then some (fPERMISSION, 0, wrapN 64 at_, none)
    else if s.targetTakes t tag b.va b.len = false then
      some (fSPBOUND, 0, wrapN 64 (if at_ < a.spbase.toNat then at_ else max at_ a.splimit.toNat), none)
    else none
  else if b.va < 0 ∨ 2 ^ 56 ≤ b.va then some (fTRANSLATION, 0, va, none)
  else
    match (s.touch (.core (coreOf slot)) (some slot) tag va b.len (if c.kind.isLoad then .read else .write)).1 with
    | .served pa => if s.paKind pa = .window ∧ s.hostUp = false then some (fLINK, linkDown, 0, none) else none
    | .waits => none
    | .stale => some (fENCODING, 0, va, none)
    | .fault code status => some (code, status, va, some (walkKey tag va))

/-- STREAM_BURST_FAULT (R205), at a slot: the first burst that has faulted stops its command; one whose walk has faulted for another access
joins that fault (10 R274). Later bursts that a near-store has accepted are acknowledged first. -/
def execStreamBurstFault (store : Bool) (s : State) : Out :=
  .next (
    let slot := s.cur
    let sl := s.slot slot
    match sl.asy.cmds store |>.findSome? (fun c => (c.flying.find? (fun b => b.stage == .faulted)).map fun b => (c, b)) with
    | none => s
    | some (c, b) =>
      let hold (s : State) : State := s.modCmd slot store c.num fun x =>
        { x with stopped := some b.off, next := b.off, flying := x.flying.filter fun y => decide (y.off < b.off) }
      if store && c.flying.any (fun x => decide (b.off < x.off) && x.stage == .served) then s
      else match (if c.kind = .sput ∨ b.va < 0 then none else s.joins (.core (coreOf slot)) sl.act.inctag b.va.toNat) with
      | some f => if sl.stop.isSome then s.cmdFault slot store c b.off 0 0 0 none else hold (s.joinFault slot .A f)
      | none =>
        match s.burstFault slot c b with
        | some (code, status, addr, k) => s.cmdFault slot store c b.off code status addr k
        | none => s.modCmd slot store c.num fun x => x.setBurst b.off (some { b with stage := if b.local_ then .served else .walk }))

end Sys2Proof.Machine
end

