-- ==== Sys2Proof/Machine/Winch.lean ====
section
/-!
DEFINITION. Sys2Proof/Machine/Winch.lean: winch commands at their push (08 R220-R222, R226-R231, R235), the mapping of WLAYOUT (08 R233,
R234), CRC32C (08 R229), the LZ4 block (08 R230) and the re-encode of a page (10 R266, R269).
-/

namespace Sys2Proof.Machine

/-! ### The block (R222) -/

def WCmd.bits (c : WCmd) (hi lo : Nat) : Nat := field c.block.toNat hi lo
def WCmd.cls (c : WCmd) : Nat := c.bits 467 464
def WCmd.semen (c : WCmd) : Bool := bitAt c.block.toNat 460
def WCmd.sem (c : WCmd) : Nat := c.bits 459 448
def WCmd.daddr (c : WCmd) : Nat := c.bits 55 0
def WCmd.opa (c : WCmd) : Nat := c.bits 127 64
def WCmd.opb (c : WCmd) : Nat := c.bits 191 128
def WCmd.opc (c : WCmd) : Nat := c.bits 255 192
/-- DSTEP of a level from 1 to 4. -/
def WCmd.dstep (c : WCmd) (l : Nat) : Int := sext (c.bits (255 + 48 * l) (208 + 48 * l)) 48

def WinchKind.major : WinchKind → Nat
  | .wcopy => 0x10
  | .wlayout => 0x11
  | .woff => 0x12
  | .wret => 0x13
  | .wenc => 0x14
  | .wcsum => 0x15
  | .wdec => 0x16
  | .wnvme => 0x17
  | .wfill => 0x18

def winchKindOf (major : Nat) : Option WinchKind :=
  [WinchKind.wcopy, .wlayout, .woff, .wret, .wenc, .wcsum, .wdec, .wnvme, .wfill].find? fun k => k.major == major

/-! ### The dimension-mapping word (R233-R235) -/

def dmwRank (g : Nat) : Nat := field g 2 0 + 1
def dmwSlots (g : Nat) : Nat := field g 5 3 + 1
def dmwOp (g j : Nat) : Nat := field g (6 * j + 11) (6 * j + 9)
def dmwAxis (g j : Nat) : Nat := field g (6 * j + 8) (6 * j + 6)

/-- The slots of the destination, as operations and axes. -/
def dmwList (g : Nat) : List (Nat × Nat) := (rangeFrom 0 (dmwSlots g)).map fun j => (dmwOp g j, dmwAxis g j)

/-- How often a pair of an operation and an axis stands in the slots. -/
def dmwCount (g op a : Nat) : Nat := ((dmwList g).filter fun p => p.1 == op && p.2 == a).length

/-- The axes that are split, in rising order. -/
def dmwSplits (g : Nat) : List Nat := (rangeFrom 0 8).filter fun a => decide (0 < dmwCount g 1 a + dmwCount g 2 a)

/-- f(a) of R234. -/
def dmwFactor (g a : Nat) : Nat := if (dmwSplits g).head? = some a then 2 ^ field g 57 54 else 2 ^ field g 61 58

/-- The width at which WLAYOUT moves its elements: 2-bit elements travel in pairs. -/
def SShape.moveWidth (h : SShape) : Nat := max 4 ((fmtOf h.fmt).getD fF32).width

/-- E(a) of R234 and R235. -/
def SShape.axis (h : SShape) (a : Nat) : Nat :=
  if a = 0 ∧ ((fmtOf h.fmt).getD fF32).width = 2 then h.ext.getD 0 0 / 2 else h.ext.getD a 0

/-- D(j) of R234. -/
def SShape.dim (h : SShape) (g : Nat) (p : Nat × Nat) : Nat :=
  match p.1 with
  | 1 => h.axis p.2 / dmwFactor g p.2
  | 2 => dmwFactor g p.2
  | 3 => h.axis p.2 * h.axis (p.2 + 1)
  | 5 => h.ext.getD p.2 0
  | _ => h.axis p.2

/-- The conditions of R235, with those of R233 and R234 on reserved values and GSTR(0) (log 44). -/
def layoutOk (h : SShape) (g : Nat) : Bool :=
  let sr := dmwRank g
  let l := dmwList g
  let n := (dmwSplits g).length
  let named (a : Nat) : Bool :=
    let whole := dmwCount g 0 a + dmwCount g 4 a + dmwCount g 3 a + if a = 0 then 0 else dmwCount g 3 (a - 1)
    (whole == 1 && dmwCount g 1 a == 0 && dmwCount g 2 a == 0) || (whole == 0 && dmwCount g 1 a == 1 && dmwCount g 2 a == 1)
  let slotOk (p : Nat × Nat) : Bool :=
    match p.1 with
    | 3 => decide (p.2 + 1 < sr)
    | 5 => decide (sr ≤ p.2 ∧ p.2 ≤ 5 ∧ 1 ≤ h.ext.getD p.2 0)
    | 6 => false
    | 7 => false
    | _ => decide (p.2 < sr)
  let gran := field g 63 62
  decide (sr ≤ 6) && field g 53 6 / 2 ^ (6 * dmwSlots g) == 0 && l.all slotOk && (rangeFrom 0 sr).all named
  && decide (n ≤ 2) && (dmwSplits g).all (fun a => h.axis a % dmwFactor g a == 0)
  && (decide (2 ≤ n) || field g 61 58 == 0) && (decide (1 ≤ n) || field g 57 54 == 0)
  && (match fmtOf h.fmt with
      | some f =>
        (f.width != 6 && f.width != 64)
        && (f.width == 4 * 2 ^ gran
            || (f.width == 2 && gran == 0 && dmwOp g 0 == 0 && dmwAxis g 0 == 0 && h.ext.getD 0 0 % 2 == 0))
      | none => false)
  && h.gstr.getD 0 0 == 0

/-- What a destination slot adds to the source index of an axis. -/
def layoutIndex (g : Nat) (h : SShape) (ds : List ((Nat × Nat) × Nat)) (a : Nat) : Nat :=
  (ds.map fun (p, d) =>
    match p.1 with
    | 0 => if p.2 = a then d else 0
    | 4 => if p.2 = a then h.axis a - 1 - d else 0
    | 2 => if p.2 = a then d else 0
    | 1 => if p.2 = a then d * dmwFactor g a else 0
    | 3 => if p.2 = a then d % h.axis a else if p.2 + 1 = a then d / h.axis p.2 else 0
    | _ => 0).foldl (· + ·) 0

/-- The destination index of an element offset, slot by slot. -/
def splitIndex : Nat → List Nat → List Nat
  | _, [] => []
  | n, d :: t => n % d :: splitIndex (n / d) t

/-- The bit address of the source element of the destination element `n`. -/
def SShape.sourceBit (h : SShape) (g n : Nat) : Int :=
  let l := dmwList g
  let ds := l.zip (splitIndex n (l.map (h.dim g)))
  let s (a : Nat) : Nat := layoutIndex g h ds a
  (h.gaddr : Int) * 8 + s 0 * h.moveWidth
    + 8 * ((rangeFrom 1 (dmwRank g - 1)).map fun a => (s a : Int) * h.gstr.getD a 0).foldl (· + ·) 0

/-- The elements of the destination. -/
def SShape.layoutCount (h : SShape) (g : Nat) : Nat := ((dmwList g).map (h.dim g)).foldl (· * ·) 1

/-! ### Checks at the push (R201, R222-R231) -/

/-- The limits of the shape register and of g[GB]. -/
def WinchKind.operandsOk (k : WinchKind) (h : SShape) (gb : Reg) : Bool :=
  match k with
  | .wcopy => decide (h.ext.getD 5 0 ≤ 1) && (h.copies == 0 || h.run != 0)
  | .wlayout => layoutOk h gb.toNat
  | .wcsum => decide (gb.toNat < 2 ^ 32)
  | .wnvme => decide (gb.toNat < 2 ^ 32)
  | _ => true

/-- The reserved fields and the limits of the block. -/
def WCmd.blockOk (c : WCmd) : Bool :=
  c.bits 511 468 == 0 && c.bits 463 461 == 0 && c.bits 63 56 == 0 && (c.kind == .wcopy || c.bits 447 256 == 0)
  && match c.kind with
     | .wcopy => c.opa == 0 && c.opb == 0 && c.opc == 0
     | .wlayout => c.opa == 0 && c.opb == 0 && c.opc == 0
     | .woff => c.opa != 0 && c.opb == 0 && c.opc == 0
     | .wret => c.opa != 0 && c.opb == 0 && c.opc == 0
     | .wenc => c.opa != 0 && c.opb == 0 && c.opc == 0
     | .wcsum => c.opc == 0
     | .wdec => true
     | .wnvme => c.bits 255 225 == 0 && c.bits 223 192 != 0
     | .wfill => c.opb == 0 && c.opc == 0

/-- The address that fails an alignment. -/
def WCmd.misaligned (c : WCmd) : Option Nat :=
  match c.kind with
  | .woff | .wret | .wenc => if c.daddr % 0x10000 ≠ 0 ∨ c.opa % 0x10000 ≠ 0 then some c.daddr else none
  | .wcsum => if c.daddr % 4 ≠ 0 then some c.daddr else none
  | .wdec => if c.gb.toNat % 8 ≠ 0 then some c.gb.toNat else none
  | .wnvme => if c.opa % 64 ≠ 0 then some c.opa else if c.daddr % 4 ≠ 0 then some c.daddr else none
  | _ => none

/-- The winch that a word or a node selects on a die (R221). -/
def State.winchFor (s : State) (die sel : Nat) : Nat :=
  if sel < 6 then 6 * die + sel else leastOf (fun w => (s.winch w).queue.length) (rangeFrom (6 * die) 6) (6 * die)

/-- The shape of a command that names no shape register. -/
def SShape.none : SShape := { gaddr := 0, saddr := 0, run := 0, ext := [], gstr := [], sstr := [], pad := 0, fmt := 0 }

/-- KEY0-KEY3 as an engine of a slot sees them. -/
def CtlView.key128 (v : CtlView) : BitVec 128 := v.key3 ++ v.key2 ++ v.key1 ++ v.key0

/-- A command enters the queue of a winch. -/
def State.pushWinch (s : State) (w : Nat) (c : WCmd) : State :=
  s.modWinch w fun x => { x with queue := x.queue ++ [{ c with num := x.pushes }], pushes := x.pushes + 1 }

/-- The fault of a command whose feature has not been agreed (19 R430). -/
def State.winchFeature (s : State) (k : WinchKind) : Option Nat :=
  match k with
  | .woff | .wret => if s.hub.dev.agreed.getLsbD 2 then none else some fILLEGAL
  | .wnvme => if s.hub.dev.agreed.getLsbD 5 then none else some fPERMISSION
  | _ => none

/-- A winch word (R221): `reg` is its shape register, with its swap (log 43). -/
def winchWord (i : Instr) (kind : WinchKind) (ga gb : BitVec 6) (reg : Option (BitVec 2 × BitVec 1)) (sel : BitVec 3) : State → State :=
  aWord i ga gb fun x y s =>
    let sl := s.slot s.cur
    let regs := match reg with
      | some (r, sw) => if sw.getLsbD 0 then sl.regs.swapShape 2 r.toNat else sl.regs
      | none => sl.regs
    let h := match reg with
      | some (r, _) => regs.sshape r.toNat
      | none => SShape.none
    let at_ := x.toNat
    let pr : Present := ⟨sl.asy.pc.pos, [(at_, 64)], [], false⟩
    if kind.operandsOk h y = false ∨ s.winchFeature kind = some fILLEGAL then .trap fILLEGAL 0 0
    else
      match sl.act.firstBeyond [((at_ : Int), (at_ + 64 : Nat))] with
      | some a => .trap fSPBOUND 0 a
      | none =>
        if at_ % 64 ≠ 0 then .trap fALIGN 0 at_
        else if sl.rangeRoom pr = false ∨ sl.mayStart .A pr = false ∨ sl.channelsReady pr.pos pr.reads = false
            ∨ s.zeroingAt s.cur at_ 64 = true then .stall
        else
          let v := sl.asy.pc.view
          let c : WCmd :=
            { kind := kind, num := 0, tag := sl.act.inctag, pusher := .slot s.cur sl.asy.pc.word sl.act.graph sl.act.node
              block := BitVec.ofNat 512 (ofBytes (s.spRead s.cur at_ 64)), gb := y, shape := h, key := v.key128, step := v.stepno
              cursor := 0, stage := .queued, page := none, landed := 0, acc := [], olds := [], fault := none, cid := 0
              relReq := (sl.seq.reqs.filter fun r => decide (r.pos < sl.asy.pc.pos)).foldl (fun m r => max m (r.num + 1)) 0
              relCmd := sl.asy.cmdNum }
          if c.blockOk = false then .trap fILLEGAL 0 0
          else
            match c.misaligned with
            | some a => .trap fALIGN 0 a
            | none =>
              let w := s.winchFor (dieOf s.cur) sel.toNat
              if (s.winchFeature kind).isSome then .trap fPERMISSION 0 0
              else if 64 ≤ (s.winch w).queue.length then .stall
              else
                let s := (s.modRegs s.cur fun _ => regs).pushWinch w c
                .done ((s.nodeCommand sl.act.graph sl.act.node).traceCmd kind.major)

def execWcopy (g : BitVec 6) (r : BitVec 2) (w : BitVec 1) (x : BitVec 3) (s : State) : Out :=
  .next (winchWord (.wcopy g r w x) .wcopy g 0 (some (r, w)) x s)
def execWlayout (g h : BitVec 6) (r : BitVec 2) (w : BitVec 1) (x : BitVec 3) (s : State) : Out :=
  .next (winchWord (.wlayout g h r w x) .wlayout g h (some (r, w)) x s)
def execWoff (g : BitVec 6) (w : BitVec 3) (s : State) : Out := .next (winchWord (.woff g w) .woff g 0 none w s)
def execWret (g : BitVec 6) (w : BitVec 3) (s : State) : Out := .next (winchWord (.wret g w) .wret g 0 none w s)
def execWenc (g : BitVec 6) (w : BitVec 3) (s : State) : Out := .next (winchWord (.wenc g w) .wenc g 0 none w s)
def execWcsum (g h : BitVec 6) (w : BitVec 3) (s : State) : Out := .next (winchWord (.wcsum g h w) .wcsum g h none w s)
def execWdec (g h : BitVec 6) (w : BitVec 3) (s : State) : Out := .next (winchWord (.wdec g h w) .wdec g h none w s)
/-- Log 49. -/
def execWnvme (g h : BitVec 6) (w : BitVec 3) (s : State) : Out := .next (winchWord (.wnvme g h w) .wnvme g h none w s)
def execWfill (g h : BitVec 6) (w : BitVec 3) (s : State) : Out := .next (winchWord (.wfill g h w) .wfill g h none w s)

/-! ### CRC32C (R229) -/

def crcBits : Nat → Nat → Nat
  | 0, c => c
  | n + 1, c => crcBits n (if c % 2 = 1 then (c / 2) ^^^ 0x82F63B78 else c / 2)

def crcByte (c : Nat) (b : Byte) : Nat := crcBits 8 (c ^^^ b.toNat)

/-! ### LZ4 blocks (R230) -/

/-- How far a block has been decoded: the input at hand is used up, the block has ended, or it is broken at an input offset. -/
inductive LzEnd where
  | more
  | done
  | bad (off : Nat)
  deriving DecidableEq, Repr

/-- A length extended by the bytes that follow. -/
def lzExtend : List Byte → Nat → Option (Nat × List Byte)
  | [], _ => none
  | b :: t, n => if b = 255 then lzExtend t (n + 255) else some (n + b.toNat, t)

def lzLen (nibble : Nat) (t : List Byte) : Option (Nat × List Byte) := if nibble = 15 then lzExtend t 15 else some (nibble, t)

/-- Copy bytes of the output, which is given last byte first, from `off` bytes back. -/
def lzCopy (off : Nat) : Nat → List Byte → List Byte
  | 0, out => out
  | n + 1, out => lzCopy off n ((out[off - 1]?).getD 0 :: out)

/-- Decode sequences: of `total` bytes of input `have_` are at hand, and the output holds at most `cap`. -/
def lzRun (total have_ cap : Nat) : Nat → List Byte → List Byte → List Byte × LzEnd
  | 0, _, out => (out, .more)
  | f + 1, inp, out =>
    let short : LzEnd := if have_ < total then .more else .bad total
    match inp with
    | [] => (out, short)
    | tok :: t =>
      match lzLen (tok.toNat / 16) t with
      | none => (out, short)
      | some (ll, t1) =>
        let lits := t1.take (min ll (cap - out.length))
        let out1 := lits.reverse ++ out
        if lits.length < ll then (out1, if out1.length = cap then .bad (have_ - t1.length + lits.length) else short)
        else
          match t1.drop ll with
          | [] => (out1, if have_ < total then .more else .done)
          | [_] => (out1, short)
          | lo :: hi :: t3 =>
            let off := lo.toNat + 256 * hi.toNat
            if off = 0 ∨ out1.length < off then (out1, .bad (have_ - (t3.length + 2)))
            else
              match lzLen (tok.toNat % 16) t3 with
              | none => (out1, short)
              | some (n, t4) =>
                let out2 := lzCopy off (min (n + 4) (cap - out1.length)) out1
                if out2.length < out1.length + (n + 4) then (out2, .bad (have_ - t4.length))
                else lzRun total have_ cap f t4 out2

/-- What the input read so far decodes to (log 46). -/
def lzDecode (total cap : Nat) (inp : List Byte) : List Byte × LzEnd :=
  let r := lzRun total inp.length cap (inp.length + 1) inp []
  (r.1.reverse, r.2)

/-! ### Re-encoding a page (10 R266, R269) -/

def pageElems (half : Bool) : Nat := if half then 16384 else 32768

/-- The format of a ladder level and its block size, 0 for none. -/
def levelFmt (l : Nat) : Fmt × Nat :=
  match l with
  | 0 => (fE2M1, 16)
  | 1 => (fE3M2, 32)
  | 2 => (fE4M3, 32)
  | 3 => (fBF16, 0)
  | 4 => (fF16, 0)
  | _ => (fF32, 0)

/-- Element `j` of a page, whose bytes are read as one number. -/
def pageElem (l : Nat) (half : Bool) (page j : Nat) : Val :=
  let (f, b) := levelFmt l
  let c := page / 2 ^ (f.width * j) % 2 ^ f.width
  if b = 0 then decodeCode f c else blockDecode f c (page / 2 ^ (f.width * pageElems half + 8 * (j / b)) % 256)

/-- Codes laid down one after the other. -/
def packCodes (w : Nat) : List Nat → Nat
  | [] => 0
  | c :: t => c % 2 ^ w + 2 ^ w * packCodes w t

/-- Lists of `n` elements each. -/
def chunks {α : Type} (n : Nat) : Nat → List α → List (List α)
  | 0, _ => []
  | f + 1, l => if l.isEmpty then [] else l.take n :: chunks n f (l.drop n)

/-- reencode of R269: the new page, and the elements whose rounding reports OV. -/
def reencode (entry : Nat) (new : Nat) (key step : Nat) (page : List Byte) : List Byte × Nat :=
  let half := lHalf entry
  let ne := pageElems half
  let p := ofBytes page
  let xs := (rangeFrom 0 ne).map fun j => (pageElem (lEnc entry) half p j, ctrDraw key step (lTid entry) 1 (lPidx entry * ne + j))
  let (f, b) := levelFmt new
  let (codes, scales) : List Rounded × List Nat :=
    if b = 0 then (xs.map fun x => roundTo f .sr x.2 true x.1, [])
    else
      let bs := (chunks b ne xs).map (blockScale f .sr)
      (bs.flatMap (·.codes), bs.map (·.sc))
  (toBytes 0x10000 (packCodes f.width (codes.map (·.code)) + 2 ^ (f.width * ne) * packCodes 8 scales), (codes.filter (·.ov)).length)

end Sys2Proof.Machine
end

