-- ==== Sys2Proof/Machine/WinchRun.lean ====
section
/-!
DEFINITION. Sys2Proof/Machine/WinchRun.lean: winch commands as they run: their start, bursts, faults and end (08 R220, R223-R230), pages in
transit (08 R227; 10 R271), storage commands (08 R231, R232), lazy re-encodes (10 R269) and the end of walks (10 R274).
-/

namespace Sys2Proof.Machine

/-! ### Which command runs (R220, R225) -/

/-- A context is resident. -/
def State.resident (s : State) (c : Nat) : Bool := (s.ctx c).phase == .resident

/-- The command occupies its winch. -/
def State.winchBusy (s : State) (c : WCmd) : Bool := (c.stage == .running || c.stage == .polling) && s.resident (ctxOf c.tag)

/-- The command that a winch executes. -/
def State.winchRunning (s : State) (w : Nat) : Option WCmd := (s.winch w).queue.find? s.winchBusy

/-- What a push of a class releases has performed at package scope, the scope at which a store leaves its slot: the accesses and the
store commands before the push (09 R249). -/
def Slot.releasedBefore (sl : Slot) (cls relReq relCmd : Nat) : Bool :=
  (sl.seq.reqs.all fun r =>
    !(decide (r.num < relReq) && r.cls == cls)
    || (match r.kind with
        | .load _ _ => true
        | .store _ => false
        | .atom _ _ => r.stage == .served))
  && sl.asy.stores.all fun x => !(decide (x.num < relCmd) && x.cls == cls)

/-- What the push of a command releases has performed. -/
def State.winchReleased (s : State) (c : WCmd) : Bool :=
  match c.pusher with
  | .node _ _ => true
  | .slot slot _ _ _ => (s.slot slot).releasedBefore c.cls c.relReq c.relCmd

/-- The oldest command of each context, in push order. -/
def oldestOf : List Nat → List WCmd → List WCmd
  | _, [] => []
  | seen, c :: t => if seen.contains (ctxOf c.tag) then oldestOf seen t else c :: oldestOf (ctxOf c.tag :: seen) t

/-- The command may be started or, after a stop, go on. -/
def State.winchRunnable (s : State) (c : WCmd) : Bool :=
  (c.stage == .queued || c.stage == .resumed) && s.resident (ctxOf c.tag) && s.live c.tag && s.winchReleased c

def State.modWCmd (s : State) (w num : Nat) (f : WCmd → WCmd) : State :=
  s.modWinch w fun x => { x with queue := x.queue.map fun c => if c.num = num then f c else c }

/-- WINCH_COMMAND_START (R220), at a winch. -/
def execWinchCommandStart (s : State) : Out :=
  .next (
    let w := s.cur
    if (s.winchRunning w).isSome then s
    else
      match (oldestOf [] (s.winch w).queue).find? s.winchRunnable with
      | some c => s.modWCmd w c.num fun c => { c with stage := .running }
      | none => s)

/-! ### Bursts (R224-R230) -/

/-- What a burst does: it moves its bytes, it waits, or it meets a fault. -/
inductive WBurst where
  | moved (s : State)
  | waits (s : State)
  | bad (code status addr : Nat) (key : Option WalkKey)

/-- The bytes of a page that is on its way to its home are not all there: a store that a die has accepted (10 R271) (log 45). -/
def State.frameBusy (s : State) (pa len : Nat) : Bool := s.dies.any fun d => d.2.accepted.any fun e => e.covers pa len

/-- Read a range through a winch, and go on with its bytes (log 43). -/
def State.winchRead (s : State) (w : Nat) (c : WCmd) (va : Int) (len : Nat) (k : List Byte → State → WBurst) : WBurst :=
  match s.hitRange (.die (w / 6)) c.tag .read va len with
  | (.ok l, s) => let (bs, s) := s.homeRead (some (w / 6)) l; k bs s
  | (.waits, s) => .waits s
  | (.bad code st a key, _) => .bad code st a key

/-- Write a range through a winch, and go on. -/
def State.winchWrite (s : State) (w : Nat) (c : WCmd) (va : Int) (bs : List Byte) (k : State → WBurst) : WBurst :=
  match s.hitRange (.die (w / 6)) c.tag .write va bs.length with
  | (.ok l, s) => k (s.homePut l bs)
  | (.waits, s) => .waits s
  | (.bad code st a key, _) => .bad code st a key

/-- The cursor of a command moves on. -/
def State.winchMoved (s : State) (w : Nat) (c : WCmd) (n : Nat) : State :=
  s.modWCmd w c.num fun c => { c with cursor := c.cursor + n }

/-- Bytes that WDEC reads at an address: those that it also writes are free values (log 47). -/
def State.looseSource (s : State) (va : Int) (bs : List Byte) (targets : List (Int × Nat)) : List Byte × State :=
  let hit (a : Int) : Bool := targets.any fun r => decide (r.1 ≤ a ∧ a < r.1 + r.2)
  ((rangeFrom 0 bs.length).zip bs).foldr (fun x a =>
    if hit (va + x.1) then let (v, s) := a.2.takeFree; (BitVec.ofNat 8 v :: a.1, s) else (x.2 :: a.1, a.2)) ([], s)

/-- The byte of a virtual address as it stands, where a winch can read it. -/
def State.winchPeek (s : State) (w : Nat) (c : WCmd) (va : Int) : Option Byte :=
  match s.hitRange (.die (w / 6)) c.tag .read va 1 with
  | (.ok l, s) => (s.homeRead (some (w / 6)) l).1.head?
  | _ => none

/-- Where WCOPY writes copy `n` (R226). -/
def WCmd.copyTo (c : WCmd) (n : Nat) : Int :=
  let h := c.shape
  c.daddr + (h.index n 0 * h.run : Nat) + ((rangeFrom 1 4).map fun l => (h.index n l : Int) * c.dstep l).foldl (· + ·) 0

/-- The last copy of WCOPY that writes a byte. -/
def WCmd.writerOf (c : WCmd) (a : Int) : Option Nat :=
  (rangeFrom 0 c.shape.copies).reverse.find? fun n => decide (c.copyTo n ≤ a ∧ a < c.copyTo n + c.shape.run)

/-- A byte that WCOPY reads may be one that it writes. -/
def WCmd.reads (c : WCmd) (a : Int) : Bool :=
  (rangeFrom 0 c.shape.copies).any fun n => decide (c.shape.ga n ≤ a ∧ a < c.shape.ga n + c.shape.run)

/-- The values of which WCOPY may read one at a byte of its source that stands in its destination: what stands there, what stood there before
the command wrote it, and what the last copy to write it brings (R226) (log 47). -/
def State.copyChoices (s : State) (w : Nat) (c : WCmd) (a : Int) (b : Byte) : List Byte :=
  match c.writerOf a with
  | none => [b]
  | some n =>
    match c.olds.find? fun x => x.1 == a with
    | some x => [b, x.2]
    | none => b :: (s.winchPeek w c (c.shape.ga n + (a - c.copyTo n))).toList

/-- The bytes that WCOPY reads at an address. -/
def State.copySource (s : State) (w : Nat) (c : WCmd) (va : Int) (bs : List Byte) : List Byte × State :=
  ((rangeFrom 0 bs.length).zip bs).foldr (fun x a =>
    match s.copyChoices w c (va + x.1) x.2 with
    | [b] => (b :: a.1, a.2)
    | l => let (v, s) := a.2.takeFree; ((l[v % l.length]?).getD x.2 :: a.1, s)) ([], s)

/-- The bytes of its own source that WCOPY is about to overwrite for the first time. -/
def State.copyOlds (s : State) (w : Nat) (c : WCmd) (dst : Int) (len : Nat) : List (Int × Byte) :=
  (rangeFrom 0 len).filterMap fun i =>
    let a := dst + i
    if !c.reads a || c.olds.any (fun x => x.1 == a) then none else (s.winchPeek w c a).map fun b => (a, b)

/-- WCOPY (R226): the burst at the cursor ends at the next boundary of either side (log 47). -/
def State.burstCopy (s : State) (w : Nat) (c : WCmd) : WBurst :=
  let h := c.shape
  let n := c.cursor / h.run
  let o := c.cursor % h.run
  let src := h.ga n + o
  let dst : Int := c.copyTo n + o
  let len := min (h.run - o) (min (toBoundary src) (toBoundary dst))
  s.winchRead w c src len fun bs s =>
    let (bs, s) := s.copySource w c src bs
    let olds := s.copyOlds w c dst len
    s.winchWrite w c dst bs fun s => .moved ((s.winchMoved w c len).modWCmd w c.num fun c => { c with olds := olds ++ c.olds })

/-- WFILL (R226). -/
def State.burstFill (s : State) (w : Nat) (c : WCmd) : WBurst :=
  let dst : Int := (c.daddr + c.cursor : Nat)
  let len := min (c.opa - c.cursor) (toBoundary dst)
  let pat := toBytes 8 c.gb.toNat
  s.winchWrite w c dst ((rangeFrom c.cursor len).map fun i => (pat[i % 8]?).getD 0) fun s => .moved (s.winchMoved w c len)

/-- WCSUM (R229): the range is read, and then the result is written (log 46). -/
def State.burstSum (s : State) (w : Nat) (c : WCmd) : WBurst :=
  let crc := if c.cursor = 0 then 2 ^ 32 - 1 - c.gb.toNat % 2 ^ 32 else ofBytes c.acc
  if c.cursor < c.opb then
    let src : Int := (c.opa + c.cursor : Nat)
    let len := min (c.opb - c.cursor) (toBoundary src)
    s.winchRead w c src len fun bs s =>
      .moved ((s.winchMoved w c len).modWCmd w c.num fun c => { c with acc := toBytes 4 (bs.foldl crcByte crc) })
  else s.winchWrite w c c.daddr (toBytes 4 (2 ^ 32 - 1 - crc)) fun s => .moved (s.winchMoved w c 4)

/-- WDEC (R230): what the input read so far decodes to is written, then more input is read; at the end the length is written (logs 46 and 47). -/
def State.burstDecode (s : State) (w : Nat) (c : WCmd) : WBurst :=
  let (out, e) := lzDecode c.opb c.opc c.acc
  if c.cursor < out.length then
    let dst : Int := (c.daddr + c.cursor : Nat)
    let len := min (out.length - c.cursor) (toBoundary dst)
    s.winchWrite w c dst ((out.drop c.cursor).take len) fun s => .moved (s.winchMoved w c len)
  else
    match e with
    | .more =>
      let src : Int := (c.opa + c.acc.length : Nat)
      s.winchRead w c src (min (c.opb - c.acc.length) (toBoundary src)) fun bs s =>
        let (bs, s) := s.looseSource src bs [((c.daddr : Int), c.opc)]
        .moved (s.modWCmd w c.num fun c => { c with acc := c.acc ++ bs })
    | .done => s.winchWrite w c c.gb.toNat (toBytes 8 out.length) fun s => .moved (s.winchMoved w c 8)
    | .bad off => .bad fENCODING (off % 2 ^ 40) 0 none

/-- The bytes of WLAYOUT's destination. -/
def WCmd.layoutBytes (c : WCmd) : Nat := ceilDiv (c.shape.layoutCount c.gb.toNat * c.shape.moveWidth) 8

/-- Read single bytes, in order. -/
def State.winchGather (s : State) (w : Nat) (c : WCmd) : List Int → (List Byte → State → WBurst) → WBurst
  | [], k => k [] s
  | a :: t, k => s.winchRead w c a 1 fun bs s => s.winchGather w c t fun r s => k (bs ++ r) s

/-- The source of one destination byte: the address of the byte, or the addresses and halves of its two 4-bit elements; of an odd last
element the byte has one half alone. -/
def WCmd.layoutSource (c : WCmd) (i : Nat) : List (Int × Nat) :=
  let h := c.shape
  let g := c.gb.toNat
  let mw := h.moveWidth
  if mw = 4 then
    ((rangeFrom (2 * i) 2).filter fun e => decide (e < h.layoutCount g)).map fun e =>
      let b := h.sourceBit g e
      (b / 8, (b % 8).toNat)
  else [(h.sourceBit g (8 * i / mw) / 8 + (i % (mw / 8) : Nat), 0)]

/-- WLAYOUT (R234): 256 bytes of the destination, gathered element by element. The free half of an odd last byte is a free value (log 44). -/
def State.burstLayout (s : State) (w : Nat) (c : WCmd) : WBurst :=
  let dst : Int := (c.daddr + c.cursor : Nat)
  let len := min (c.layoutBytes - c.cursor) (toBoundary dst)
  let srcs := (rangeFrom c.cursor len).map c.layoutSource
  let nib := c.shape.moveWidth == 4
  s.winchGather w c (srcs.flatMap fun l => l.map (·.1)) fun bs s =>
    let (x, s) := if nib && srcs.any (fun l => l.length == 1) then s.takeFree else (0, s)
    let rec join : List (List (Int × Nat)) → List Byte → List Byte
      | [(_, p)] :: t, b :: r => (if nib then BitVec.ofNat 8 (b.toNat / 2 ^ p % 16 + x % 16 * 16) else b) :: join t r
      | [(_, p), (_, q)] :: t, b1 :: b2 :: r =>
        BitVec.ofNat 8 (b1.toNat / 2 ^ p % 16 + b2.toNat / 2 ^ q % 16 * 16) :: join t r
      | _, _ => []
    s.winchWrite w c dst (join srcs bs) fun s => .moved (s.winchMoved w c len)

/-- The size of the page of a leaf. -/
def leafBytes (e : Nat) : Nat := if lBig e then 0x200000 else 0x10000

/-- WOFF and WRET (R227): a page is taken into transit, or 256 bytes of it move (log 41). -/
def State.burstPage (s : State) (w : Nat) (c : WCmd) (off : Bool) : WBurst :=
  let hbm (e : Nat) : Nat := lHfn e * 0x10000
  let tier (e : Nat) : Nat := 0x10000000000 + lTfn e * 0x10000
  match c.page with
  | some at_ =>
    let e := s.memNat at_ 16
    if leafBytes e ≤ c.landed then .waits s
    else
      let (bs, s) := s.physRead ((if off then hbm e else tier e) + c.landed) 256
      .moved ((s.physWrite ((if off then tier e else hbm e) + c.landed) bs).modWCmd w c.num fun c => { c with landed := c.landed + 256 })
  | none =>
    let va := c.daddr + c.cursor
    if 2 ^ 56 ≤ va then .bad fTRANSLATION 0 va none
    else if (s.joins (.die (w / 6)) c.tag va).isSome then .waits s
    else
      match s.walk (ctxOf c.tag) none va with
      | .fault code level => .bad code level va (some (walkKey c.tag va))
      | .leaf e at_ =>
        let n := leafBytes e
        let frame := if off then hbm e else tier e
        if va % n ≠ 0 ∨ c.opa < c.cursor + n then .bad fILLEGAL 0 va none
        else if lState e ≠ (if off then 0 else 2) then .moved (s.winchMoved w c n)
        else
          let s := s.dropTlb (fun _ => true) (fun _ => true) (fun t => t.at_ == at_)
          if s.frameBusy frame n then .waits s
          else
            .moved ((s.setLeafState at_ (if off then 1 else 3)).modWCmd w c.num fun c => { c with page := some at_, landed := 0 })

/-- The frame of a page at rest: its second-tier frame in state Tier, else its HBM frame. -/
def frameOf (entry state : Nat) : Nat := if state = 2 then 0x10000000000 + lTfn entry * 0x10000 else lHfn entry * 0x10000

/-- The elements that overflowed are counted as a VSTAT.OV probe is (10 R269). -/
def State.ovProbe (s : State) (tag : BitVec 18) (entry ov : Nat) : State := s.takeProbe tag (lSlot entry) .ov ov 0

/-- WENC (R228): the page at the cursor is rewritten as one locked transfer, if its encoding is stale (log 45). -/
def State.burstEnc (s : State) (w : Nat) (c : WCmd) : WBurst :=
  let va := c.daddr + c.cursor
  if 2 ^ 56 ≤ va then .bad fTRANSLATION 0 va none
  else if (s.joins (.die (w / 6)) c.tag va).isSome then .waits s
  else
    match s.translate (.die (w / 6)) c.tag va .read with
    | (.fault code level, _) => .bad code level va (some (walkKey c.tag va))
    | (.leaf b at_, s) =>
      let e := s.entryNow b at_
      let new := s.currentLevel e
      if !lTensor e || lEnc e == new then .moved (s.winchMoved w c 0x10000)
      else if lState e ≠ 0 ∧ lState e ≠ 2 then .waits s
      else if s.frameBusy (frameOf e (lState e)) 0x10000 then .waits s
      else
        let (old, s) := s.physRead (frameOf e (lState e)) 0x10000
        let (bs, ov) := reencode e new c.key.toNat c.step.toNat old
        let s := (s.physWrite (frameOf e (lState e)) bs).setLeafEnc at_ new
        .moved (((s.setEntryField at_ 11 11 1).ovProbe c.tag e ov).winchMoved w c 0x10000)

/-! ### Storage commands (R231) -/

def nOwner (d : Nat) : Nat := field d 495 488
def nShift (d : Nat) : Nat := field d 487 480
def nDepth (d : Nat) : Nat := field d 479 464
def nSqHead (d : Nat) : Nat := field d 463 448
def nCqHead (d : Nat) : Nat := field d 447 432
def nSqTail (d : Nat) : Nat := field d 431 416
def nPhase (d : Nat) : Nat := field d 400 400
def nCid (d : Nat) : Nat := field d 399 384
def nMax (d : Nat) : Nat := field d 351 320
def nPrp (d : Nat) : Nat := field d 319 256
def nCqDb (d : Nat) : Nat := field d 255 192
def nSqDb (d : Nat) : Nat := field d 191 128
def nCqBase (d : Nat) : Nat := field d 127 64
def nSqBase (d : Nat) : Nat := field d 63 0

/-- Replace a field of a descriptor. -/
def setField (d hi lo v : Nat) : Nat := d - field d hi lo * 2 ^ lo + v % 2 ^ (hi - lo + 1) * 2 ^ lo

/-- Step 1: the fault that the descriptor raises (log 49). -/
def WCmd.descriptorFault (c : WCmd) (w d : Nat) : Option Nat :=
  let count := c.bits 223 192
  if nOwner d ≠ w then some fPERMISSION
  else if field d 511 496 ≠ 0 ∨ field d 415 401 ≠ 0 ∨ field d 383 352 ≠ 0 ∨ nShift d < 9 ∨ 16 < nShift d ∨ nDepth d < 2 ∨ 4096 < nDepth d
      ∨ nMax d < 1 ∨ 65536 < nMax d ∨ nPrp d % 4096 ≠ 0 ∨ nMax d < count ∨ 0x200000 < count * 2 ^ nShift d then some fILLEGAL
  else none

/-- The bus address by which a drive reaches an HBM address: through an enabled window with PEER = 1 (16 R367, R368). -/
def State.peerBus (s : State) (pa : Nat) : Option Nat :=
  ((rangeFrom 0 64).find? fun n =>
    let x := Tab.get Window.reset s.hub.ep.windows n
    x.en && x.peer && decide (x.phys.toNat = pa / 2 ^ 30) && s.paKind pa == .hbm).map fun n => Config.bar2 + n * 2 ^ 30 + pa % 2 ^ 30

/-- The bus addresses of the 4 KiB pages of a range. -/
def State.busPages (s : State) (w : Nat) (c : WCmd) (kind : AKind) : Nat → Nat → Nat → Hit (List Nat) × State
  | 0, _, _ => (.ok [], s)
  | f + 1, va, len =>
    if len = 0 then (.ok [], s)
    else
      let n := min len (4096 - va % 4096)
      match s.hit (.die (w / 6)) c.tag va n kind with
      | (.ok pa, s) =>
        match s.peerBus pa with
        | none => (.bad fPERMISSION 0 va none, s)
        | some b =>
          match s.busPages w c kind f (va + n) (len - n) with
          | (.ok l, s) => (.ok (b :: l), s)
          | r => r
      | (.waits, s) => (.waits, s)
      | (.bad code st a k, s) => (.bad code st a k, s)

/-- A doorbell write leaves through the outbound window (16 R368). -/
def State.ringDoorbell (s : State) (db v : Nat) (k : State → WBurst) : WBurst :=
  if db / 2 ^ 41 ≠ s.hub.ep.obase.toNat then .bad fPERMISSION 0 db none
  else if s.hostUp = false then .bad fLINK linkDown 0 none
  else k (s.physWrite (0x20000000000 + db % 2 ^ 41) (toBytes 4 v))

/-- Steps 2 to 4 but for the doorbell (log 49). -/
def State.nvmeSubmit (s : State) (w : Nat) (c : WCmd) (d : Nat) : WBurst :=
  let len := c.bits 223 192 * 2 ^ nShift d
  let tail := nSqTail d
  let write := bitAt c.opc 32
  if (tail + 1) % nDepth d = nSqHead d then .waits s
  else
    match s.busPages w c (if write then .read else .write) 1024 c.daddr len with
    | (.waits, s) => .waits s
    | (.bad code st a k, _) => .bad code st a k
    | (.ok bus, s) =>
      let area := nPrp d + 4096 * tail
      let list := bus.drop 1
      let areaBus := if list.length ≤ 1 then (Hit.ok [0], s) else s.busPages w c .write 1 area 4096
      match areaBus with
      | (.waits, s) => .waits s
      | (.bad code st a k, _) => .bad code st a k
      | (.ok ab, s) =>
        let prp2 := match list with
          | [] => 0
          | [p] => p
          | _ => ab.headD 0
        let entry := (if write then 1 else 2) + nCid d * 2 ^ 16 + c.gb.toNat % 2 ^ 32 * 2 ^ 32 + bus.headD 0 % 2 ^ 64 * 2 ^ 192
          + prp2 % 2 ^ 64 * 2 ^ 256 + c.opb * 2 ^ 320 + (c.bits 223 192 - 1) % 2 ^ 16 * 2 ^ 384
        let d' := setField (setField d 431 416 ((tail + 1) % nDepth d)) 399 384 ((nCid d + 1) % 2 ^ 16)
        let finish (s : State) : WBurst :=
          s.winchWrite w c ((nSqBase d + 64 * tail : Nat) : Int) (toBytes 64 entry) fun s =>
            s.winchWrite w c c.opa (toBytes 64 d') fun s =>
              .moved (s.modWCmd w c.num fun c => { c with landed := len, cid := nCid d })
        if list.length ≤ 1 then finish s else s.winchWrite w c area (list.flatMap (toBytes 8)) finish

/-- A storage command: it is submitted; SQDB is rung; and, once its completion entry has been observed, CQDB is rung and the command
ends. -/
def State.burstNvme (s : State) (w : Nat) (c : WCmd) : WBurst :=
  s.winchRead w c c.opa 64 fun bs s =>
    let d := ofBytes bs
    match c.acc with
    | [] =>
      if c.landed = 0 then
        match c.descriptorFault w d with
        | some f => .bad f 0 c.opa none
        | none => s.nvmeSubmit w c d
      else s.ringDoorbell (nSqDb d) (nSqTail d) fun s => .moved (s.modWCmd w c.num fun c => { c with stage := .polling })
    | [_, _] => s.ringDoorbell (nCqDb d) (nCqHead d) fun s => .moved (s.modWCmd w c.num fun c => { c with acc := c.acc ++ [1] })
    | a =>
      let st := ofBytes (a.take 2)
      if st = 0 then .moved (s.modWCmd w c.num fun c => { c with cursor := c.landed })
      else .bad fLINK (st + c.cid * 2 ^ 16) 0 none

/-- Step 5: the completion entry of a polling command is found, and the descriptor follows it (log 49). -/
def State.nvmePoll (s : State) (w : Nat) (c : WCmd) : WBurst :=
  s.winchRead w c c.opa 64 fun bs s =>
    let d := ofBytes bs
    s.winchRead w c ((nCqBase d + 16 * nCqHead d : Nat) : Int) 16 fun cb s =>
      let x := ofBytes cb
      if field x 112 112 ≠ nPhase d ∨ field x 111 96 ≠ c.cid then .waits s
      else
        let wrap := decide (nDepth d ≤ nCqHead d + 1)
        let d1 := setField (setField d 463 448 (field x 79 64)) 447 432 (if wrap then 0 else nCqHead d + 1)
        let d2 := if wrap then setField d1 400 400 (1 - nPhase d) else d1
        s.winchWrite w c c.opa (toBytes 64 d2) fun s =>
          .moved (s.modWCmd w c.num fun c => { c with acc := toBytes 2 (field x 127 113), stage := .running })

/-! ### The whole of a command -/

/-- The length of a command, as its cursor counts it (log 46). -/
def WCmd.total (c : WCmd) : Nat :=
  match c.kind with
  | .wcopy => c.shape.copies * c.shape.run
  | .wlayout => c.layoutBytes
  | .wcsum => c.opb + 4
  | .wdec => (lzDecode c.opb c.opc c.acc).1.length + 8
  | .wnvme => c.landed
  | _ => c.opa

/-- Every byte of the command has been moved. -/
def WCmd.finished (c : WCmd) : Bool :=
  decide (c.total ≤ c.cursor) && c.page.isNone && (c.kind != .wnvme || decide (0 < c.landed))
  && (c.kind != .wdec || (lzDecode c.opb c.opc c.acc).2 == .done)

/-- The next burst of a running command. -/
def State.winchBurst (s : State) (w : Nat) (c : WCmd) : WBurst :=
  if c.finished then .waits s
  else
    match c.kind with
    | .wcopy => s.burstCopy w c
    | .wlayout => s.burstLayout w c
    | .woff => s.burstPage w c true
    | .wret => s.burstPage w c false
    | .wenc => s.burstEnc w c
    | .wcsum => s.burstSum w c
    | .wdec => s.burstDecode w c
    | .wnvme => s.burstNvme w c
    | .wfill => s.burstFill w c

/-- The running command of a winch that no re-encode holds up (10 R269). -/
def State.winchNow (s : State) (w : Nat) (st : WStage) : Option WCmd :=
  if (s.winch w).reenc.any (·.taken) then none else (s.winchRunning w).filter fun c => c.stage == st

/-- WINCH_BURST_COMPLETE (R227), at a winch: the next burst of its running command, if it can be made. -/
def execWinchBurstComplete (s : State) : Out :=
  .next (
    match s.winchNow s.cur .running with
    | none => s
    | some c =>
      match s.winchBurst s.cur c with
      | .moved s => s
      | .waits s => s
      | .bad _ _ _ _ => s)

/-- NVME_COMPLETION_OBSERVED (R231), at a winch. -/
def execNvmeCompletionObserved (s : State) : Out :=
  .next (
    match s.winchNow s.cur .polling with
    | none => s
    | some c =>
      match s.nvmePoll s.cur c with
      | .moved s => s
      | .waits s => s
      | .bad _ _ _ _ => s)

/-- The fault that the running command meets: of its next burst, of its polling, or of its semaphore (R223, R224). -/
def State.winchFaultNow (s : State) (w : Nat) (c : WCmd) : Option (Nat × Nat × Nat × Option WalkKey) :=
  if c.finished then if c.semen && s.live c.tag && s.semRefuses c.sem c.tag then some (fPERMISSION, 0, 0, none) else none
  else
    match (if c.stage = .polling then s.nvmePoll w c else s.winchBurst w c) with
    | .bad code st a key => some (code, st, a, key)
    | _ => none

/-- The word that pushed a command (R224). -/
def Pusher.word : Pusher → Nat
  | .slot _ w _ _ => w
  | .node _ _ => naWord

/-- A fault stops the running command: its record enters the fault table, and the command is held. -/
def State.winchStop (s : State) (w : Nat) (c : WCmd) (code st addr : Nat) (key : Option WalkKey) : State :=
  let s := match key with
    | some k => s.addWalk k
    | none => s
  let r := { s.unitRecord code (.winch w) (some c.tag) st addr c.cursor with widxA := c.pusher.word }
  let (id, s) := s.enterFault r (some (w, c.num)) key
  s.modWCmd w c.num fun c => { c with stage := .held, fault := some id }

/-- The access of a command that waits for another access's walk fault (10 R274): its first address that joins one. -/
def State.winchJoins (s : State) (w : Nat) (c : WCmd) : Option FaultEntry :=
  let port : Port := .die (w / 6)
  let h := c.shape
  let first : List Int :=
    match c.kind with
    | .wcopy => if h.run = 0 then [] else
        let n := c.cursor / h.run
        let o := c.cursor % h.run
        [h.ga n + o, c.daddr + (h.index n 0 * h.run : Nat) + ((rangeFrom 1 4).map fun l => (h.index n l : Int) * c.dstep l).foldl (· + ·) 0 + o]
    | .wlayout => ((rangeFrom c.cursor (min 256 (c.layoutBytes - c.cursor))).flatMap fun i => (c.layoutSource i).map (·.1))
        ++ [((c.daddr + c.cursor : Nat) : Int)]
    | .wcsum => [if c.cursor < c.opb then ((c.opa + c.cursor : Nat) : Int) else c.daddr]
    | .wdec => [((c.daddr + c.cursor : Nat) : Int), ((c.opa + c.acc.length : Nat) : Int), (c.gb.toNat : Int)]
    | .wnvme => [(c.opa : Int), (c.daddr : Int)]
    | _ => [((c.daddr + c.cursor : Nat) : Int)]
  first.findSome? fun a => if a < 0 ∨ 2 ^ 56 ≤ a then none else s.joins port c.tag a.toNat

/-- WINCH_FAULT (R224), at a winch: the fault of its running command stops it. One that has joined another access's fault is held by
that record, and writes none (10 R274). -/
def execWinchFault (s : State) : Out :=
  .next (
    let w := s.cur
    match (s.winchNow w .running).orElse (fun _ => s.winchNow w .polling) with
    | none => s
    | some c =>
      match s.winchFaultNow w c with
      | some (code, st, addr, key) => s.winchStop w c code st addr key
      | none =>
        match (if c.finished then none else s.winchJoins w c) with
        | some f => s.modWCmd w c.num fun c => { c with stage := .held, fault := some f.id }
        | none => s)

/-- WINCH_COMMAND_COMPLETE (R223), at a winch: the semaphore is added, and the command ends. -/
def execWinchCommandComplete (s : State) : Out :=
  .next (
    let w := s.cur
    match s.winchNow w .running with
    | none => s
    | some c =>
      if c.finished = false then s
      else if c.semen then
        if s.live c.tag && s.semRefuses c.sem c.tag then s
        else
          (s.semAdd c.sem c.tag 1).endWinchCmd w c.num none
      else s.endWinchCmd w c.num none)

/-- A page in transit has landed whole: it takes its new state. -/
def State.pageLanded (s : State) (off : Bool) : State :=
  let w := s.cur
  match s.winchNow w .running with
  | none => s
  | some c =>
    match c.page with
    | none => s
    | some at_ =>
      let n := leafBytes (s.memNat at_ 16)
      if c.kind ≠ (if off then .woff else .wret) ∨ c.landed < n then s
      else
        ((s.setLeafState at_ (if off then 2 else 0)).modWCmd w c.num fun c => { c with page := none, landed := 0 }).winchMoved w c n

/-- OUTBOUND_DONE (R271): the last byte of the page has been acknowledged at TFN. -/
def execOutboundDone (s : State) : Out := .next (s.pageLanded true)

/-- INBOUND_DONE (R271): the last byte of the page has landed at HFN. -/
def execInboundDone (s : State) : Out := .next (s.pageLanded false)

/-! ### Lazy re-encodes (10 R269) -/

/-- REENCODE_TAKE (R269), at a winch: its first request is taken, and the page is read (log 45). -/
def execReencodeTake (s : State) : Out :=
  .next (
    let w := s.cur
    if (s.winch w).reenc.any (·.taken) then s
    else
      match (s.winch w).reenc with
      | [] => s
      | r :: t =>
        let e := s.memNat r.at_ 16
        if s.frameBusy (frameOf e r.prior) 0x10000 then s
        else
          let (bs, s) := s.physRead (frameOf e r.prior) 0x10000
          s.modWinch w fun x => { x with reenc := { r with taken := true, page := bs } :: t })

/-- REENCODE_WRITTEN (R271), at a winch: the page is written, and its entry takes the new level and the state it had (log 45). -/
def execReencodeWritten (s : State) : Out :=
  .next (
    let w := s.cur
    match (s.winch w).reenc with
    | [] => s
    | r :: t =>
      if r.taken = false then s
      else
        let e := s.memNat r.at_ 16
        let (bs, ov) := reencode e r.level r.key.toNat r.step.toNat r.page
        let s := ((s.physWrite (frameOf e r.prior) bs).setLeafEnc r.at_ r.level).setLeafState r.at_ r.prior
        (s.ovProbe r.tag e ov).modWinch w fun x => { x with reenc := t })

/-! ### Walks (10 R274) -/

/-- A winch's walk ends: the translation of the next page that its running command meets is buffered. -/
def State.walkWinch (s : State) (w : Nat) : State :=
  match s.winchNow w .running with
  | none => s
  | some c =>
    let va := c.daddr + c.cursor
    if 2 ^ 56 ≤ va then s else (s.translate (.die (w / 6)) c.tag va .read).2

/-- WALK_DONE (R274): the walk of the k-th access of an agent ends, and the access makes its touch. -/
def execWalkDone (agent : Agent) (k : Nat) (s : State) : Out :=
  .next (
    match agent with
    | .seq slot => s.walkReq slot k
    | .stream slot store => s.walkBurst slot store k
    | .winch w => s.walkWinch w)

end Sys2Proof.Machine
end

