-- ==== Sys2Proof/Machine/Graph.lean ====
section
/-!
DEFINITION. Sys2Proof/Machine/Graph.lean: graphs in memory and their launch (13 R312-R316), the nodes that Spool takes (13 R317-R320), kernel
headers and the kernel table (04 R88-R93), groups (13 R321, R328), and the LAUNCH record (12 R297).
-/

namespace Sys2Proof.Machine

/-! ### The checks of a graph (R312-R316) -/

/-- The byte of the lowest bit of bits that must be zero. -/
def zeroBytes (v : Nat) : List Nat := if v = 0 then [] else [trailZeros 512 v / 8]

/-- The lowest byte of a field whose value fails. -/
def fieldByte (ok : Bool) (b : Nat) : List Nat := if ok then [] else [b]

/-- The lowest of some offsets. -/
def leastByte : List Nat → Option Nat
  | [] => none
  | b :: t => some (t.foldl min b)

/-- The bits of a number outside a mask. -/
def outside (v mask : Nat) : Nat := v - (v &&& mask)

/-- A mask of the field [hi:lo]. -/
def maskOf (hi lo : Nat) : Nat := (2 ^ (hi - lo + 1) - 1) * 2 ^ lo

/-- The first failing byte of a graph header (log 53). -/
def graphHeaderBad (h : Nat) : Option Nat :=
  leastByte (fieldByte (field h 31 0 == 0x48505247) 0 ++ fieldByte (field h 47 32 != 0) 4 ++ fieldByte (field h 127 64 % 64 == 0) 8
    ++ fieldByte (field h 63 48 == 0 || field h 191 128 % 32 == 0) 16 ++ zeroBytes (outside h (maskOf 191 0)))

/-- Argument `i` of a node record. -/
def nodeArg (r i : Nat) : Nat := field r (127 + 64 * i) (64 + 64 * i)

/-- The bits that each argument of a kind may hold. -/
def argMask (kind i : Nat) : Nat :=
  let all := maskOf 63 0
  match kind, i with
  | 0, _ => 0
  | 1, 0 => all
  | 1, 1 => maskOf 50 0
  | 2, 2 => maskOf 5 0 + maskOf 10 8 + maskOf 13 12
  | 2, _ => all
  | 3, 0 => all
  | 3, 1 => maskOf 7 0
  | 4, 0 => all
  | 4, 1 => all
  | 4, 2 => maskOf 3 0
  | 5, 0 => all
  | 5, 1 => all
  | 5, 2 => maskOf 3 0
  | 5, 3 => maskOf 31 0
  | 6, 0 => all
  | 6, 1 => all
  | 6, 2 => maskOf 3 0 + maskOf 21 8
  | _, _ => 0

/-- The first failing byte of a node record (log 53). -/
def nodeBad (r : Nat) : Option Nat :=
  let kind := field r 7 0
  if 6 < kind then some 0
  else
    let ok := maskOf 8 0 + maskOf 51 48 + (if kind = 1 then maskOf 41 40 else 0) + (if bitAt r 8 then maskOf 369 320 else 0)
      + ((rangeFrom 0 4).map fun i => argMask kind i * 2 ^ (64 + 64 * i)).foldl (· + ·) 0
    let al (i n : Nat) : List Nat := fieldByte (nodeArg r i % n == 0) (8 + 8 * i)
    leastByte (zeroBytes (outside r ok) ++ match kind with
      | 1 => al 0 256 ++ fieldByte (decide (field (nodeArg r 1) 50 48 ≤ 4)) 22
      | 2 =>
        let major := field (nodeArg r 2) 5 0
        al 0 64 ++ fieldByte (decide (0x10 ≤ major ∧ major ≤ 0x18)) 24
          ++ (if major = 0x10 ∨ major = 0x11 then al 3 64 else fieldByte (nodeArg r 3 == 0) 32)
      | 3 => al 0 64
      | 4 => al 0 8
      | 5 => al 0 8
      | 6 => al 0 8 ++ al 1 8 ++ fieldByte (decide (1 ≤ field (nodeArg r 2) 20 8 ∧ field (nodeArg r 2) 20 8 ≤ 4096)) 25
      | _ => [])

/-- The first failing byte of an edge of a graph of `n` nodes (log 53). -/
def edgeBad (n e : Nat) : Option Nat :=
  let fr := field e 15 0
  let dst := field e 31 16
  leastByte (fieldByte (decide (fr < n) && fr != dst) 0 ++ fieldByte (decide (dst < n)) 2
    ++ fieldByte (decide (field e 127 64 + field e 191 128 ≤ 2 ^ 56)) 16 ++ zeroBytes (outside e (maskOf 31 0 + maskOf 191 64)))

/-- The nodes that edges lead to, from those of a list, one edge further. -/
def reachMore (es : List Edge) (l : List Nat) : List Nat :=
  es.foldl (fun l e => if l.contains e.src && !l.contains e.dst then e.dst :: l else l) l

def reachAll (es : List Edge) : Nat → List Nat → List Nat
  | 0, l => l
  | n + 1, l => reachAll es n (reachMore es l)

/-- The first edge that closes a cycle with edges before it. -/
def firstCycle : List Edge → List Edge → Nat → Option Nat
  | _, [], _ => none
  | before, e :: t, i =>
    if (reachAll before before.length [e.dst]).contains e.src then some i else firstCycle (before ++ [e]) t (i + 1)

/-- The first record of a table that fails, and its byte (log 53). -/
def firstBadOf (f : Nat → Option Nat) (size : Nat) : List Nat → Nat → Option Nat
  | [], _ => none
  | r :: t, i => match f r with
    | some b => some (size * i + b)
    | none => firstBadOf f size t (i + 1)

/-- The records of a table in memory. -/
def recordsOf (size n : Nat) (bs : List Byte) : List Nat := (rangeFrom 0 n).map fun i => ofBytes ((bs.drop (size * i)).take size)

def Header.none : Header :=
  { textOff := 0, textWords := 0, spBytes := 0, demand := [], levels := [], tiles := [], qdecl := [] }

def Node.fresh (r : Nat) : Node :=
  { raw := BitVec.ofNat 512 r, phase := .waiting, kentry := 0, header := Header.none, level := 0, epoch := 0, tiles := 0, team := Option.none
    ranges := [], shares := [], cleared := [], active := 0, cmds := 0, halt := Option.none, haltAt := (0, 0), fail := Option.none, iter := 0
    dueAt := Option.none }

def Edge.ofRecord (e : Nat) : Edge := ⟨field e 15 0, field e 31 16, field e 127 64, field e 191 128, false⟩

/-- What the reads and checks of a graph find: its nodes and edges, or a fault; or they wait. -/
inductive Loaded where
  | ok (nodes : List Node) (edges : List Edge)
  | waits
  | bad (code status addr : Nat) (key : Option WalkKey)
  deriving DecidableEq, Repr

/-- Spool reads a graph and checks it (R316). -/
def State.loadGraph (s : State) (tag : BitVec 18) (root : Nat) : Loaded × State :=
  if root % 64 ≠ 0 then (.bad fILLEGAL 0 root none, s)
  else
    match s.hubRead tag root 64 with
    | (.waits, s) => (.waits, s)
    | (.bad c st a key, s) => (.bad c st a key, s)
    | (.ok hb, s) =>
      let h := ofBytes hb
      match graphHeaderBad h with
      | some b => (.bad fILLEGAL 0 (root + b) none, s)
      | none =>
        let nn := field h 47 32
        let ne := field h 63 48
        let nb := field h 127 64
        let eb := field h 191 128
        match s.hubRead tag nb (64 * nn) with
        | (.waits, s) => (.waits, s)
        | (.bad c st a key, s) => (.bad c st a key, s)
        | (.ok nbs, s) =>
          let rs := recordsOf 64 nn nbs
          match firstBadOf nodeBad 64 rs 0 with
          | some b => (.bad fILLEGAL 0 (nb + b) none, s)
          | none =>
            match (if ne = 0 then (Hit.ok [], s) else s.hubRead tag eb (32 * ne)) with
            | (.waits, s) => (.waits, s)
            | (.bad c st a key, s) => (.bad c st a key, s)
            | (.ok ebs, s) =>
              let es := recordsOf 32 ne ebs
              match firstBadOf (edgeBad nn) 32 es 0 with
              | some b => (.bad fILLEGAL 0 (eb + b) none, s)
              | none =>
                let edges := es.map Edge.ofRecord
                match firstCycle [] edges 0 with
                | some i => (.bad fILLEGAL 0 (eb + 32 * i) none, s)
                | none => (.ok (rs.map Node.fresh) edges, s)

/-- A node as its graph is launched in a frame: a timed one whose TICK CF has reached is due now (R325). -/
def Node.launchedAt (y : Node) (cf : Int) (now : Nat) : Node := if y.timed ∧ (y.tick : Int) ≤ cf then { y with dueAt := some now } else y

/-- Launch a graph (R316): the number it gets, or none while it waits. A graph that fails the checks has ended before any node runs. -/
def State.launch (s : State) (tag : BitVec 18) (root : Nat) (queue : Option Nat) (parent : Option (Nat × Nat)) (depth : Nat) :
    Option Nat × State :=
  if 1024 ≤ (s.hub.spool.graphs.filter fun p => p.2.result.isNone).length then (none, s)
  else
    let enter (s : State) (nodes : List Node) (edges : List Edge) (outcome : Option (Nat × Nat)) : Nat × State :=
      let id := s.hub.spool.nextId
      let g : Graph :=
        { root := root, tag := tag, queue := queue, parent := parent, depth := depth, nodes := nodes, edges := edges, launched := s.now
          firstBad := none, outcome := outcome, progress := false, awake := false }
      (id, s.modSpool fun p => { p with nextId := id + 1, graphs := p.graphs.put id g })
    match s.loadGraph tag root with
    | (.waits, s) => (none, s)
    | (.bad code status addr key, s) =>
      let (id, s) := enter (s.hubWalkFault .spool code tag status addr key) [] [] (some (2, code))
      (some id, s)
    | (.ok nodes edges, s) =>
      let (id, s) := enter s (nodes.map fun y => y.launchedAt (s.contextFrame (ctxOf tag)) s.now) edges none
      (some id, (rangeFrom 0 nodes.length).foldl (fun s n => s.releaseNode id n) s)

/-- QUEUE_RECORD_LAUNCH (12 R296, R297), at a queue. -/
def execQueueRecordLaunch (s : State) : Out :=
  .next (
    let q := s.cur
    s.takeRecord q 1 fun r s =>
      match s.launch (s.tagOf (s.queue q).ctx.toNat) (field r 127 64) (some q) none 0 with
      | (some g, s) => s.modQueue q fun x => { x with running := some g, taken := BitVec.ofNat 256 r }
      | (none, s) => s)

def State.dropGraph (s : State) (g : Nat) : State := s.modSpool fun p => { p with graphs := p.graphs.del g }

/-- GRAPH_COMPLETION_WRITE (12 R297), at a root graph that has ended: its completion is written and its record finishes. -/
def execGraphCompletionWrite (s : State) : Out :=
  .next (
    let g := s.cur
    match s.graph g with
    | none => s
    | some x =>
      match x.result, x.parent, x.queue with
      | none, _, _ => s
      | _, some _, _ => s
      | some _, none, none => s.dropGraph g
      | some (o, code), none, some q =>
        let r := (s.queue q).taken.toNat
        let finish (s : State) : State := (s.dropGraph g).finishRecord q r
        let bytes := toBytes 8 (field r 255 192) ++ toBytes 8 (o + (if o = 0 then 0 else code) * 2 ^ 16)
        if field r 191 128 = 0 then finish s
        else
          match s.hubWrite x.tag (field r 191 128) bytes with
          | (.ok _, s) => finish s
          | (.waits, s) => s
          | (.bad c st a key, s) => finish (s.hubWalkFault .hub c x.tag st a key))

/-! ### Taking a node (R317) -/

/-- Spool may take a Ready node of a kind. -/
def State.canTake (s : State) (g n kind : Nat) : Bool :=
  match s.graph g, s.nodeAt g n with
  | some x, some y =>
    y.phase == .ready && y.kind == kind && x.firstBad.isNone && x.outcome.isNone && s.live x.tag && s.runs (ctxOf x.tag)
    && !(s.ctxWork (ctxOf x.tag)).leaving
  | _, _ => false

def State.graphTag (s : State) (g : Nat) : BitVec 18 :=
  match s.graph g with
  | some x => x.tag
  | none => 0

/-- A node fails with a fault that Spool raises for it, of a walk under its key (10 R274). -/
def State.nodeWalkFault (s : State) (g n code status addr : Nat) (key : Option WalkKey) : State :=
  (s.hubWalkFault .spool code (s.graphTag g) status addr key).nodeEnds g n (.failed code)

def State.nodeFault (s : State) (g n code status addr : Nat) : State := s.nodeWalkFault g n code status addr none

/-- EMPTY_NODE_TAKEN (R317), at a graph. -/
def execEmptyNodeTaken (n : Nat) (s : State) : Out :=
  .next (if s.canTake s.cur n 0 then s.nodeEnds s.cur n .complete else s)

/-- TIMED_NODE_DUE (R317), at a graph. -/
def execTimedNodeDue (n : Nat) (s : State) : Out :=
  .next (
    match s.nodeAt s.cur n with
    | some y =>
      if y.phase = .due ∧ (y.tick : Int) ≤ s.contextFrame (ctxOf (s.graphTag s.cur)) then
        s.modNode s.cur n fun y => { y with phase := .ready }
      else s
    | none => s)

/-! ### Kernel headers (04 R89, R92) -/

/-- The byte that the first failing check of a list names: each check gives the bytes of its failing fields, and names the lowest (log 54). -/
def firstFailing : List (List Nat) → Option Nat
  | [] => none
  | l :: t => match leastByte l with
    | some b => some b
    | none => firstFailing t

/-- Log 54. -/
def levelEntry (h n : Nat) : Nat := field h (351 + 32 * n) (320 + 32 * n)
/-- Log 54. -/
def qdeclEntry (h n : Nat) : Nat := field h (927 + 32 * n) (896 + 32 * n)

/-- The header that a code object's bytes hold. -/
def Header.ofNat (h : Nat) : Header :=
  { textOff := field h 127 96, textWords := field h 71 48, spBytes := field h 215 192
    demand := (rangeFrom 0 5).map fun n => field h (219 + 4 * n) (216 + 4 * n)
    levels := (rangeFrom 0 (field h 239 236)).map fun n => (levelEntry h n / 8, levelEntry h n % 8)
    tiles := (rangeFrom 0 6).map fun n => (rangeFrom 0 4).map fun e => field h (527 + 64 * n + 16 * e) (512 + 64 * n + 16 * e)
    qdecl := (rangeFrom 0 (field h 243 240)).map fun n => (field (qdeclEntry h n) 7 0, field (qdeclEntry h n) 23 8) }

/-- The tiles of a kernel (R90). -/
def Header.tileCount (h : Header) : Nat := (h.levels.map (·.1)).foldl (· * ·) 1

/-- Check 5: an earlier entry declares the level of entry `n`. -/
def levelTwice (h n : Nat) : Bool := (rangeFrom 0 n).any fun m => levelEntry h m % 8 == levelEntry h n % 8

/-- The first failing byte of a kernel header; `bound` tells whether a queue is bound to the node's context (log 54). -/
def kernelHeaderBad (h : Nat) (bound : Nat → Bool) : Option Nat :=
  let nl := field h 239 236
  let nq := field h 243 240
  let level (n : Nat) (ok : Bool) : List Nat := fieldByte ok (40 + 4 * n)
  let qdecl (n : Nat) (ok : Bool) : List Nat := fieldByte ok (112 + 4 * n)
  firstFailing [
    fieldByte (field h 31 0 == 0x4C4E524B) 0 ++ fieldByte (field h 39 32 == 1) 4,
    fieldByte (field h 47 40 == 0) 5 ++ fieldByte (field h 95 72 == 0) 9 ++ fieldByte (field h 247 244 == 0) 30
      ++ fieldByte (field h 319 288 == 0) 36 ++ fieldByte (field h 2047 1152 == 0) 144
      ++ (rangeFrom 0 6).flatMap (fun n => level n (decide (n < nl) || levelEntry h n == 0))
      ++ (rangeFrom 0 8).flatMap (fun n =>
        if n < nq then fieldByte (qdeclEntry h n / 2 ^ 24 == 0) (115 + 4 * n) else qdecl n (qdeclEntry h n == 0)),
    fieldByte (field h 71 48 != 0) 6 ++ fieldByte (field h 127 96 % 64 == 0 && decide (256 ≤ field h 127 96)) 12
      ++ fieldByte (field h 159 128 % 64 == 0 && (field h 191 160 != 0 || field h 159 128 == 0)) 16
      ++ fieldByte (field h 215 192 % 64 == 0 && decide (field h 215 192 ≤ 0x600000)) 24 ++ fieldByte (decide (1 ≤ nl ∧ nl ≤ 6)) 29
      ++ fieldByte (decide (nq ≤ 8)) 30
      ++ (rangeFrom 0 5).flatMap (fun n => fieldByte (decide (field h (219 + 4 * n) (216 + 4 * n) ≤ 8)) (27 + n / 2))
      ++ (rangeFrom 0 nl).flatMap (fun n => level n (decide (levelEntry h n % 8 ≤ 5))),
    (rangeFrom 0 nl).flatMap (fun n => level n (!levelTwice h n))
      ++ (rangeFrom 0 nq).flatMap (fun n => qdecl n (bound (qdeclEntry h n % 256))),
    level 0 (decide ((Header.ofNat h).tileCount < 2 ^ 32))]

/-! ### Which slots can take a tile (R328) -/

/-- Bytes of scratchpad of the activation that a slot runs, or 0. -/
def Slot.spBytes (sl : Slot) : Nat := if sl.busy then sl.act.splimit.toNat - sl.act.spbase.toNat else 0

/-- The free bands of a core. -/
def State.freeBands (s : State) (core : Nat) : List Nat :=
  (rangeFrom 0 8).filter fun p => !((s.slot (2 * core)).hasBand p || (s.slot (2 * core + 1)).hasBand p)

/-- A free slot whose scratchpad has room for a tile of a node beside the other slot's. -/
def State.hasSpace (s : State) (x : Nat) (h : Header) : Bool :=
  !(s.slot x).busy && decide (h.spBytes + (s.slot (otherSlot x)).spBytes ≤ 0x600000)

/-- A free slot can take a tile of a node of a context. -/
def State.canHold (s : State) (x ctx : Nat) (h : Header) : Bool :=
  let o := s.slot (otherSlot x)
  s.hasSpace x h
  && (!(s.freeBands (coreOf x)).isEmpty || (o.busy && ctxOf o.act.inctag == ctx && o.extra == 0))

/-- The package slots of a team and of a die, lowest first (01 R23). -/
def teamSlots (t : Nat) : List Nat := rangeFrom (16 * t) 16
def dieSlots (d : Nat) : List Nat := rangeFrom (80 * d) 80

/-- The slots of a node's group on a die. -/
def Node.slotsOn (y : Node) (d : Nat) : List Nat :=
  match y.team with
  | some t => (teamSlots t).filter fun x => dieOf x == d
  | none => dieSlots d

/-- The lowest slot of a die that can take a tile of a node. -/
def State.slotFor (s : State) (ctx : Nat) (y : Node) (d : Nat) : Option Nat :=
  (y.slotsOn d).find? fun x => s.canHold x ctx y.header

/-! ### Groups and shares (R321, R322) -/

/-- The dies of the package that are present. -/
def State.dies_ (s : State) : List Nat := (rangeFrom 0 4).filter s.diePresent

/-- The first of some numbers at which a measure is greatest. -/
def greatestOf (f : Nat → Nat) (l : List Nat) (d : Nat) : Nat := l.foldl (fun m x => if f m < f x then x else m) (l.headD d)

/-- The free slots of some that can take a tile of a node. -/
def State.countFree (s : State) (ctx : Nat) (h : Header) (l : List Nat) : Nat := (l.filter fun x => s.canHold x ctx h).length

/-- MEMB of a node record (R313). -/
def Node.memb (y : Node) : Nat := field y.raw.toNat 41 40

/-- The group of a node is chosen, and its tiles shared among the dies (R321, R322). -/
def State.formGroup (s : State) (ctx : Nat) (y : Node) : Node :=
  let share (dies : List Nat) : List (Nat × Nat × Nat) :=
    let n := dies.length
    (dies.zip (rangeFrom 0 n)).map fun (d, k) => (d, k * y.tiles / n, (k + 1) * y.tiles / n)
  let teams := (rangeFrom 0 20).filter fun t => s.diePresent (t / 5)
  let team := if y.memb = 0 then some (greatestOf (fun t => s.countFree ctx y.header (teamSlots t)) teams 0) else none
  let dies := match team with
    | some t => [t / 5]
    | none => if y.memb = 1 then [greatestOf (fun d => s.countFree ctx y.header (dieSlots d)) s.dies_ 0] else s.dies_
  { y with team := team, shares := share dies, ranges := share dies }

/-! ### Dispatch of a kernel node (04 R92, R93; 11 R286; 12 R294) -/

/-- The kernel entry that may serve a node (R93). -/
def State.kernelFor (s : State) (tag : BitVec 18) (base : Nat) : Option (Nat × KEntry) :=
  s.hub.spool.kernels.find? fun p => p.2.tag == tag && p.2.base == base && !p.2.stale

/-- The governing level of a node record: the highest level of the slots it names, or 3 (R286). -/
def State.nodeLevel (s : State) (r : Nat) : Nat :=
  let a := nodeArg r 1
  let n := field a 50 48
  if n = 0 then 3 else ((rangeFrom 0 n).map fun i => (s.pslot (field a (12 * i + 11) (12 * i))).level.toNat).foldl max 0

/-- The reservations of a node, all or none (R294): the first queue that refuses. -/
def State.refusing (s : State) (decls : List (Nat × Nat)) : Option Nat :=
  (decls.find? fun d => (s.queue d.1).phase != .active || decide ((s.queue d.1).size < (s.queue d.1).commit.toNat + d.2)).map (·.1)

def State.reserve (s : State) (g n : Nat) (decls : List (Nat × Nat)) : State :=
  decls.foldl (fun s d =>
    s.modQueue d.1 fun x =>
      { x with
        commit := x.commit + BitVec.ofNat 17 d.2
        resv := x.resv.filter (fun r => !(r.graph == g && r.node == n)) ++ [⟨g, n, d.2, 0⟩] }) s

/-- A node whose kernel entry stands begins to dispatch: its level and epoch are read, its queues reserved, and its group chosen (log 54). A
node that has begun goes on under the new entry. -/
def State.beginKernel (s : State) (g n id : Nat) (e : KEntry) : State :=
  match s.nodeAt g n with
  | none => s
  | some y =>
    let s := s.modNode g n fun y => { y with kentry := id, header := e.header }
    if y.tiles ≠ 0 then
      (s.modNode g n fun y => { y with phase := if y.halt.isSome ∨ y.fail.isSome then .draining else .dispatching }).settleNode g n
    else if e.header.tileCount = 0 then s.nodeEnds g n .complete
    else
      match s.refusing e.header.qdecl with
      | some q => (s.refuseQueue q).nodeFault g n fQUEUEFULL (fullStatus q 0) 0
      | none =>
        (s.reserve g n e.header.qdecl).modNode g n fun y =>
          s.formGroup (ctxOf e.tag)
            { y with
              phase := .dispatching, tiles := e.header.tileCount, level := s.nodeLevel y.raw.toNat
              epoch := (s.ctx (ctxOf e.tag)).epoch.toNat }

/-- KERNEL_NODE_DISPATCH (R317), at a graph: Spool takes a kernel node. -/
def execKernelNodeDispatch (n : Nat) (s : State) : Out :=
  .next (
    let g := s.cur
    if s.canTake g n 1 = false then s
    else
      match s.nodeAt g n with
      | none => s
      | some y =>
        match s.kernelFor (s.graphTag g) (nodeArg y.raw.toNat 0) with
        | some (id, e) => s.beginKernel g n id e
        | none => s.modNode g n fun y => { y with phase := .validating })

/-- The Ready entry that was dispatched from least recently (R93). -/
def leastReady (l : List (Nat × KEntry)) : Option Nat :=
  ((l.filter fun p => p.2.count == 0).foldl
    (fun (m : Option (Nat × KEntry)) p => match m with
      | none => some p
      | some q => if p.2.used < q.2.used then some p else some q) none).map (·.1)

/-- The table has room for a new entry, by evicting one if it must. -/
def State.kernelRoom (s : State) : Bool :=
  decide (s.hub.spool.kernels.length < 1024) || (leastReady s.hub.spool.kernels).isSome

/-- A new entry of the kernel table. Its age counts from here until a tile is dispatched from it (log 89). -/
def State.addKernel (s : State) (e : KEntry) : Nat × State :=
  let p := s.hub.spool
  let ks := if p.kernels.length < 1024 then p.kernels else
    match leastReady p.kernels with
    | some k => p.kernels.del k
    | none => p.kernels
  (p.nextId, s.modSpool fun p =>
    { p with kernels := ks.put p.nextId { e with used := p.dispatches }, nextId := p.nextId + 1, dispatches := p.dispatches + 1 })

/-- A node no longer waits for an entry. -/
def State.stopsWaiting (s : State) (g n : Nat) : State := s.modSpool fun p => { p with waiting := p.waiting.filter (· != (g, n)) }

/-- KERNEL_VALIDATION (R92, R93), at a graph: the header of a node's code object is read and checked. While every entry is Running the
node waits, in the order of arrival. -/
def execKernelValidation (n : Nat) (s : State) : Out :=
  .next (
    let g := s.cur
    match s.nodeAt g n with
    | none => s
    | some y =>
      let tag := s.graphTag g
      let base := nodeArg y.raw.toNat 0
      if y.phase ≠ .validating then s
      else
        match s.kernelFor tag base with
        | some (id, e) => (s.stopsWaiting g n).beginKernel g n id e
        | none =>
          if s.kernelRoom = false ∨ s.hub.spool.waiting.headD (g, n) ≠ (g, n) then
            if s.hub.spool.waiting.contains (g, n) then s else s.modSpool fun p => { p with waiting := p.waiting ++ [(g, n)] }
          else
            match s.hubRead tag base 256 with
            | (.waits, s) => s
            | (.bad c st a key, s) => (s.stopsWaiting g n).nodeWalkFault g n c st a key
            | (.ok bs, s) =>
              let h := ofBytes bs
              let s := s.stopsWaiting g n
              let bound (q : Nat) : Bool := (s.queue q).phase != .unbound && (s.queue q).ctx.toNat == ctxOf tag
              match kernelHeaderBad h bound with
              | some b => s.nodeFault g n fILLEGAL 0 (base + b)
              | none =>
                let e : KEntry := { id := 0, base := base, tag := tag, header := Header.ofNat h, count := 0, stale := false, used := 0 }
                let (id, s) := s.addKernel e
                s.beginKernel g n id e)

/-! ### Copy nodes (R318) -/

/-- The shape registers as a shape image sets register 0, where every field fits (R314, R318). -/
def imageShape (bs : List Byte) : Option SShape :=
  let v (f : Nat) : Reg := BitVec.ofNat 64 (ofBytes ((bs.drop (8 * f)).take 8))
  if (rangeFrom 0 23).all (fun f => shapeFits 2 f (v f)) then
    some ({ Regs.reset with
      shapes := (rangeFrom 0 23).foldl
        (fun t f => t.put (shapeKey 2 0 0 f) (BitVec.ofNat 56 ((v f).toNat % 2 ^ shapeWidth 2 f))) [] }.sshape 0)
  else none

/-- COPY_NODE_PUSH (R318), at a graph: a copy node's block goes to its winch, as a winch word of its context would send it (log 56). -/
def execCopyNodePush (n : Nat) (s : State) : Out :=
  .next (
    let g := s.cur
    if s.canTake g n 2 = false then s
    else
      match s.nodeAt g n with
      | none => s
      | some y =>
        let r := y.raw.toNat
        let tag := s.graphTag g
        let sel := field (nodeArg r 2) 10 8
        let die := field (nodeArg r 2) 13 12
        let shaped := decide (field (nodeArg r 2) 5 0 ≤ 0x11)
        match s.hubRead tag (nodeArg r 0) 64 with
        | (.waits, s) => s
        | (.bad c st a key, s) => s.nodeWalkFault g n c st a key
        | (.ok block, s) =>
          match (if shaped then s.hubRead tag (nodeArg r 3) 184 else (Hit.ok [], s)) with
          | (.waits, s) => s
          | (.bad c st a key, s) => s.nodeWalkFault g n c st a key
          | (.ok image, s) =>
            let gb : Reg := BitVec.ofNat 64 (nodeArg r 1)
            let img := (s.ctx (ctxOf tag)).image
            match winchKindOf (field (nodeArg r 2) 5 0), (if shaped then imageShape image else some SShape.none) with
            | some kind, some h =>
              let c : WCmd :=
                { kind := kind, num := 0, tag := tag, pusher := .node g n, block := BitVec.ofNat 512 (ofBytes block), gb := gb, shape := h
                  key := img.key, step := img.stepno, cursor := 0, stage := .queued, page := none, landed := 0, acc := [], fault := none
                  olds := [], cid := 0, relReq := 0, relCmd := 0 }
              if sel = 6 ∨ s.diePresent die = false ∨ kind.operandsOk h gb = false ∨ s.winchFeature kind = some fILLEGAL ∨ c.blockOk = false then
                s.nodeFault g n fILLEGAL 0 0
              else
                match c.misaligned with
                | some a => s.nodeFault g n fALIGN 0 a
                | none =>
                  let w := s.winchFor die sel
                  if (s.winchFeature kind).isSome then s.nodeFault g n fPERMISSION 0 0
                  else if 64 ≤ (s.winch w).queue.length then s
                  else ((s.pushWinch w c).modNode g n fun y => { y with phase := .issued }).graphBusy g
            | _, _ => s.nodeFault g n fILLEGAL 0 0)

/-! ### Control nodes (R320) -/

/-- The root of the child that a control node runs, if it runs one. The read of a case table may wait or fault (log 56). -/
def State.chosenChild (s : State) (tag : BitVec 18) (y : Node) (v : Nat) : Hit (Option Nat) × State :=
  let r := y.raw.toNat
  let child := nodeArg r 1
  match y.kind with
  | 4 => (.ok (if v ≠ 0 then some child else none), s)
  | 5 =>
    let maxit := field (nodeArg r 3) 31 0
    (.ok (if v ≠ 0 ∧ (maxit = 0 ∨ y.iter < maxit) then some child else none), s)
  | _ =>
    let ncase := field (nodeArg r 2) 20 8
    if v < ncase ∨ bitAt (nodeArg r 2) 21 = true then
      match s.hubRead tag (child + 8 * min v ncase) 8 with
      | (.ok bs, s) => (.ok (some (ofBytes bs)), s)
      | (.waits, s) => (.waits, s)
      | (.bad c st a k, s) => (.bad c st a k, s)
    else (.ok none, s)

/-- A control node has been evaluated: it completes, or its child is launched. While the launch waits, so does the node (log 56). -/
def State.runChild (s : State) (g n : Nat) (child : Option Nat) : State :=
  match child, s.graph g with
  | none, _ => (s.progress g).nodeEnds g n .complete
  | some _, none => s
  | some root, some x =>
    if 4 ≤ x.depth then (s.progress g).nodeFault g n fILLEGAL 0 0
    else
      match s.launch x.tag root none (some (g, n)) (x.depth + 1) with
      | (some c, s) => (s.progress g).modNode g n fun y => { y with phase := .child c }
      | (none, s) => s

/-- CONTROL_NODE_EVALUATE (R320), at a graph: a control node that Spool takes, or a loop node after a run of its child (log 56). -/
def execControlNodeEvaluate (n : Nat) (s : State) : Out :=
  .next (
    let g := s.cur
    match s.nodeAt g n with
    | none => s
    | some y =>
      if y.phase = .evaluating ∨ (4 ≤ y.kind ∧ s.canTake g n y.kind = true) then
        let tag := s.graphTag g
        match s.hubRead tag (nodeArg y.raw.toNat 0) 8 with
        | (.waits, s) => s
        | (.bad c st a key, s) => s.nodeWalkFault g n c st a key
        | (.ok bs, s) =>
          match s.chosenChild tag y (ofBytes bs) with
          | (.waits, s) => s
          | (.bad c st a key, s) => s.nodeWalkFault g n c st a key
          | (.ok child, s) => s.runChild g n child
      else s)

/-- CHILD_GRAPH_END (R317), at the graph of a control node whose child graph has ended. What the child did in the frame counts for its
parent. -/
def execChildGraphEnd (n : Nat) (s : State) : Out :=
  .next (
    let g := s.cur
    match s.nodeAt g n with
    | none => s
    | some y =>
      match y.phase with
      | .child c =>
        match (s.graph c).bind fun x => x.result.map fun r => (x, r) with
        | none => s
        | some (x, o, code) =>
          let s := (s.dropGraph c).modGraph g fun p =>
            { p with progress := p.progress || x.progress, awake := p.awake || x.awake }
          if o = 2 then s.nodeEnds g n (.failed code)
          else if o = 1 then s.nodeEnds g n (.halted code)
          else if y.kind = 5 then s.modNode g n fun y => { y with iter := y.iter + 1, phase := .evaluating }
          else s.nodeEnds g n .complete
      | _ => s)

end Sys2Proof.Machine
end

