-- ==== Sys2Proof/Machine/Group.lean ====
section
/-!
DEFINITION. Sys2Proof/Machine/Group.lean: the dispatch of tiles (13 R322, R323; 03 R60-R65), bands and scratchpad between slots (13
R328, R329), the end of an activation (04 R110, R111), and the group words (13 R330-R332).
-/

namespace Sys2Proof.Machine

/-! ### The start of an activation (03 R60-R65) -/

/-- The loop indices of a tile, by level number, from the levels given innermost first (R90, R322). -/
def tileIndices : List (Nat × Nat) → Nat → List (Nat × Nat)
  | [], _ => []
  | (trip, l) :: t, n => (l, n % trip) :: tileIndices t (n / trip)

/-- g1 to g12 of a tile (R62). -/
def preload (h : Header) (level tile grant : Nat) : Tab Reg :=
  let reg (x : Nat) : Reg := BitVec.ofNat 64 x
  let idx := tileIndices h.levels.reverse tile
  let ext := (h.tiles[min level 5]?).getD []
  let g : Tab Reg := idx.foldl (fun t p => t.put (p.1 + 1) (reg p.2)) []
  let g := (rangeFrom 0 4).foldl (fun t i => t.put (8 + i) (reg (ext.getD i 0))) g
  (g.put 7 (reg tile)).put 12 (reg grant)

/-- The view that every engine has at the start: the image's values (R65). -/
def Image.view (i : Image) : CtlView :=
  { CtlView.reset with
    stepno := i.stepno, tensorid := i.tensorid, key0 := i.key.extractLsb' 0 32, key1 := i.key.extractLsb' 32 32
    key2 := i.key.extractLsb' 64 32, key3 := i.key.extractLsb' 96 32 }

/-- The root graph of a graph, its launching queue, and the iteration count of the innermost enclosing loop node. -/
def State.rootOf (s : State) : Nat → Nat → Nat
  | 0, g => g
  | f + 1, g =>
    match (s.graph g).bind (·.parent) with
    | some (p, _) => State.rootOf s f p
    | none => g

def State.loopCount (s : State) : Nat → Nat → Nat
  | 0, _ => 0
  | f + 1, g =>
    match (s.graph g).bind (·.parent) with
    | none => 0
    | some (p, n) =>
      match s.nodeAt p n with
      | some y => if y.kind = 5 then y.iter else State.loopCount s f p
      | none => 0

/-- The watchdog limit of the queue that launched a graph. -/
def State.limitOf (s : State) (g : Nat) : BitVec 32 :=
  match (s.graph (s.rootOf 8 g)).bind (·.queue) with
  | some q => (s.queue q).wdogLim
  | none => 0

/-- Logical bands from `a` on, `n` of them, pass to a slot: a band that another context held last is zeroed (07 R176) (log 58). -/
def State.grantBands (s : State) (slot a n : Nat) : State :=
  let ctx := ctxOf (s.slot slot).act.inctag
  let ps := (rangeFrom a n).map (physBand (sideOf slot))
  s.modCore (coreOf slot) fun c =>
    { c with
      bandZeroing := c.bandZeroing ++ (ps.filter fun p =>
        (match Tab.find c.bandCtx p with | some x => x != ctx | none => false) && !(c.bandZeroing.any fun z => z.part == p)).map
          fun p => ⟨sideOf slot, p, s.now⟩
      bandCtx := ps.foldl (fun t p => t.put p ctx) c.bandCtx
      raced := c.raced.filter fun e => !ps.contains (e.1 / 524288) }

/-- The scratchpad of a core at an activation's start (R61): the bytes of its range in banks that do not record its context are zeroed. -/
def CoreState.guard (c : CoreState) (side now : Nat) (a : Activation) : CoreState :=
  let lo := a.spbase.toNat
  let hi := a.splimit.toNat
  if hi ≤ lo then c
  else
    let banks := (rangeFrom (lo / bankBytes) ((hi - 1) / bankBytes + 1 - lo / bankBytes)).filter fun b =>
      Tab.find c.banks b != some (ctxOf a.inctag)
    banks.foldl (fun c b => c.noteBank a b)
      { c with
        scratch := c.scratch.filter fun e => !(decide (lo ≤ e.1 ∧ e.1 < hi) && banks.contains (e.1 / bankBytes))
        bankZeroing := (c.bankZeroing.filter fun z => !(z.side == side && banks.contains z.part)) ++ banks.map fun b => ⟨side, b, now⟩ }

/-- A slot as an activation finds it: what outlives the one before is kept. -/
def Slot.begin_ (sl : Slot) (a : Activation) (v : CtlView) (g : Tab Reg) (now grant extra demand : Nat) : Slot :=
  let same := sl.lastCtx == some (ctxOf a.inctag)
  let ctr : Counter := { Counter.reset with view := v }
  { Slot.reset with
    busy := true, act := a
    regs := { Regs.reset with g := g, v := if same then sl.regs.v else [], acc := if same then sl.regs.acc else [] }
    seq := { SeqState.reset with pc := ctr, reqNum := sl.seq.reqNum, lastWall := sl.seq.lastWall }
    vec := { VecState.reset with pc := ctr }
    mat := { MatState.reset with pc := ctr }
    asy := { AsyState.reset with pc := ctr, cmdNum := sl.asy.cmdNum }
    strays := sl.strays, lastCtx := some (ctxOf a.inctag), seen := sl.seen, started := now
    mailbox := if same then sl.mailbox else sl.mailbox.filter fun m => m.tag == a.inctag
    basePrio := a.prio.toNat, grant := grant, extra := extra, demand := demand }

/-- Messages that a slot discards when it begins an activation of another context are orphans of their contexts (05 R135) (log 30). -/
def State.orphanMail (s : State) (slot : Nat) (tag : BitVec 18) : State :=
  if (s.slot slot).lastCtx = some (ctxOf tag) then s
  else ((s.slot slot).mailbox.filter fun m => m.tag != tag).foldl (fun s m => s.countOrphan (ctxOf m.tag) 1) s

/-- The first activation of a context on a slot since its switch-in begins with no entries in the draw filter (02 R52) (log 59). -/
def State.freshFilter (s : State) (slot ctx : Nat) : State :=
  let n := (s.ctxWork ctx).loads
  if Tab.find (s.slot slot).seen ctx = some n then s
  else
    (s.modSlot slot fun sl => { sl with seen := sl.seen.put ctx n }).modCore (coreOf slot) fun c =>
      { c with filter := c.filter.filter fun d => d.slot != slot }

/-- An entry of the kernel table. -/
def State.kernelEntry (s : State) (id : Nat) : Option KEntry := Tab.find s.hub.spool.kernels id

/-- Tile `t` of a node starts in a free slot. Where it shares a band, the slot beside it holds the band first, unless both have taken it in one
cycle (07 R186). -/
def State.startTile (s : State) (slot g n : Nat) (y : Node) (t : Nat) : State :=
  let tag := s.graphTag g
  let ctx := ctxOf tag
  let h := y.header
  let side := sideOf slot
  let free := (s.freeBands (coreOf slot)).length
  let demand := if 5 ≤ y.level then 0 else h.demand.getD y.level 0
  let shared := decide (free = 0)
  let grant := if shared then 1 else min (max 1 demand) free
  let image := (s.ctx ctx).image
  let lo := if side = 0 then 0 else 0x600000 - h.spBytes
  let base := match s.kernelEntry y.kentry with
    | some e => e.base
    | none => 0
  let a : Activation :=
    { codebase := BitVec.ofNat 56 (base + h.textOff), codelimit := BitVec.ofNat 24 h.textWords, spbase := BitVec.ofNat 23 lo
      splimit := BitVec.ofNat 24 (lo + h.spBytes), bands := bandsValue side grant
      grpid := BitVec.ofNat 32 (n % 2 ^ 16 + s.loopCount 8 g % 2 ^ 14 * 2 ^ 16 + y.memb * 2 ^ 30)
      inctag := tag, wdoglim := s.limitOf g, prio := BitVec.ofNat 4 (min (field y.raw.toNat 51 48) image.prio.toNat)
      graph := g, node := n, tile := t }
  let s := (s.orphanMail slot tag).freshFilter slot ctx
  let s := s.modSlot slot fun sl => sl.begin_ a image.view (preload h y.level t grant) s.now grant 0 demand
  let s := s.modCore (coreOf slot) fun c => c.guard side s.now a
  let s := s.grantBands slot 0 grant
  let s := (s.modSlot (otherSlot slot) fun sl => { sl with withdraw := 0 })
  if shared = false then s
  else
    let together := (s.slot (otherSlot slot)).started == s.now
    s.modCore (coreOf slot) fun c =>
      { c with
        bandHolder := if together then c.bandHolder.del (physBand side 0) else c.bandHolder.put (physBand side 0) (1 - side) }

/-! ### Dispatch and stealing (R322, R323) -/

/-- The remaining range of a die. -/
def Node.range (y : Node) (d : Nat) : Option (Nat × Nat) := (y.ranges.find? fun r => r.1 == d).map (·.2)

def Node.setRange (y : Node) (d lo hi : Nat) : Node :=
  { y with ranges := y.ranges.map fun r => if r.1 = d then (d, lo, hi) else r }

/-- The node has tiles to hand out. -/
def Node.dispatches (y : Node) : Bool := y.phase == .dispatching && y.halt.isNone && y.fail.isNone

/-- When no slot of a die can take a waiting tile, extra bands of the slot beside the first that lacks only a band are to be withdrawn
(R328). -/
def State.recallBands (s : State) (y : Node) (d : Nat) : State :=
  let lacks (x : Nat) : Bool :=
    s.hasSpace x y.header && (s.freeBands (coreOf x)).isEmpty && decide (0 < (s.slot (otherSlot x)).extra)
  match (y.slotsOn d).find? lacks with
  | none => s
  | some x =>
    let demand := if 5 ≤ y.level then 0 else y.header.demand.getD y.level 0
    s.modSlot (otherSlot x) fun o =>
      if o.withdraw ≠ 0 then o else { o with withdraw := o.granted - min (max 1 demand) o.extra + 1 }

/-- A line of a near-store overlaps a region of a context: a byte of the region translates into it (09 R251). -/
def State.lineIn (s : State) (ctx base len : Nat) (l : NearLine) : Bool :=
  (rangeFrom (base / 0x10000) ((base + len + 0xFFFF) / 0x10000 - base / 0x10000)).any fun p =>
    let lo := max base (0x10000 * p)
    let hi := min (base + len) (0x10000 * (p + 1))
    match s.walk ctx none lo with
    | .leaf e _ => overlaps l.base 256 (leafPa e lo) (hi - lo)
    | .fault _ _ => false

/-- Before the first tile of a node issues on a die, the lines of the die that overlap a region listed by an edge into the node are invalidated
(09 R251) (log 57). -/
def State.freshRegions (s : State) (x : Graph) (n die : Nat) : State :=
  (x.edges.filter fun e => e.dst == n && decide (0 < e.len)).foldl (fun s e => s.dropLines die (s.lineIn (ctxOf x.tag) e.base e.len)) s

/-- TILE_DISPATCH (R322), at a graph: the next tile of a die goes to the lowest slot of the die that can take it (logs 13 and 57). -/
def execTileDispatch (n die : Nat) (s : State) : Out :=
  .next (
    let g := s.cur
    match s.graph g, s.nodeAt g n with
    | some x, some y =>
      let ctx := ctxOf x.tag
      if y.dispatches = false ∨ (s.ctx ctx).phase ≠ .resident ∨ s.live x.tag = false then s
      else
        match Tab.find s.hub.spool.kernels y.kentry with
        | none => s.modNode g n fun y => { y with phase := .validating }
        | some _ =>
          match y.range die with
          | none => s
          | some (lo, hi) =>
            if hi ≤ lo ∨ s.diePresent die = false then s
            else
              match s.slotFor ctx y die with
              | none => s.recallBands y die
              | some slot =>
                let y' := { y.setRange die (lo + 1) hi with cleared := if y.cleared.contains die then y.cleared else die :: y.cleared }
                let last := y'.ranges.all fun r => decide (r.2.2 ≤ r.2.1)
                let s := if y.cleared.contains die then s else s.freshRegions x n die
                let s := (s.startTile slot g n y lo).modNode g n fun _ =>
                  { y' with active := y.active + 1, phase := if last then .draining else .dispatching }
                let s := s.modSpool fun p =>
                  { p with
                    dispatches := p.dispatches + 1
                    kernels := p.kernels.map fun (k, e) =>
                      if k = y.kentry then (k, { e with count := e.count + 1, used := p.dispatches }) else (k, e) }
                s.progress g
    | _, _ => s)

/-- The distance of two compute dies on the ring. -/
def ringDistance (a b : Nat) : Nat := min ((a + 4 - b) % 4) ((b + 4 - a) % 4)

/-- The die that a thief takes from: the largest range of two or more, the nearest, the lowest. -/
def Node.victim (y : Node) (thief : Nat) : Option (Nat × Nat × Nat) :=
  let size (r : Nat × Nat × Nat) : Nat := r.2.2 - r.2.1
  (y.ranges.filter fun r => r.1 != thief && decide (2 ≤ size r)).foldl
    (fun (m : Option (Nat × Nat × Nat)) r => match m with
      | none => some r
      | some v =>
        let dv := ringDistance thief v.1
        let dr := ringDistance thief r.1
        if size v < size r ∨ (size v = size r ∧ (dr < dv ∨ (dr = dv ∧ r.1 < v.1))) then some r else some v) none

/-- TILE_STEAL (R323), at a graph: a die that has run dry takes the upper half of another die's range (log 13). -/
def execTileSteal (n die : Nat) (s : State) : Out :=
  .next (
    let g := s.cur
    match s.nodeAt g n with
    | none => s
    | some y =>
      match y.range die with
      | none => s
      | some (lo, hi) =>
        if y.dispatches = false ∨ lo < hi ∨ (s.slotFor (ctxOf (s.graphTag g)) y die).isNone then s
        else
          match y.victim die with
          | none => s
          | some (v, a, b) =>
            let m := a + ceilDiv (b - a) 2
            s.modNode g n fun y => (y.setRange v a m).setRange die m b)

/-! ### Bands (R329; 07 R175) -/

/-- The band demand of a running slot: none in a communication phase. -/
def Slot.wants (sl : Slot) : Nat := if sl.comm then 0 else sl.demand

/-- A tile of some node waits for a band that a slot holds beyond its grant: the slot beside it lacks only a band (R328). -/
def State.tileWaits (s : State) (slot : Nat) : Bool :=
  let x := otherSlot slot
  (s.slot slot).withdraw != 0 && s.hub.spool.graphs.any fun (_, g) =>
    g.nodes.any fun y =>
      y.dispatches && (y.slotsOn (dieOf x)).contains x && s.hasSpace x y.header
      && match y.range (dieOf x) with
         | some (lo, hi) => decide (lo < hi)
         | none => false

/-- How many bands a slot is to hold at most: its demand, and what a waiting tile leaves it, but never less than its grant. -/
def State.bandLimit (s : State) (slot : Nat) : Nat :=
  let sl := s.slot slot
  max sl.grant (if s.tileWaits slot then min sl.wants (sl.withdraw - 1) else sl.wants)

/-- No word of the slot that has issued and not completed touches a logical band. -/
def Slot.bandIdle (sl : Slot) (l : Nat) : Bool :=
  (sl.mat.buf.all fun m => decide (m.op.bandCount m.shape ≤ l)) && sl.mat.run.all fun m => decide (m.entry.op.bandCount m.entry.shape ≤ l)

/-- Withdraw the highest logical bands above a limit, as far as no word touches them. -/
def Slot.withdrawTo (side limit : Nat) : Nat → Slot → Slot
  | 0, sl => sl
  | f + 1, sl =>
    let n := sl.granted
    if limit < n ∧ 0 < sl.extra ∧ sl.bandIdle (n - 1) = true then
      Slot.withdrawTo side limit f { sl with extra := sl.extra - 1, act := { sl.act with bands := bandsValue side (n - 1) } }
    else sl

/-- BAND_WITHDRAW (07 R175), at a slot (log 58). -/
def execBandWithdraw (s : State) : Out :=
  .next (
    if (s.slot s.cur).busy then
      let limit := s.bandLimit s.cur
      s.modSlot s.cur fun sl => sl.withdrawTo (sideOf s.cur) limit 8
    else s)

/-- The next logical band of a slot is free, and the slot wants it. -/
def State.wantsBand (s : State) (slot : Nat) : Bool :=
  let sl := s.slot slot
  sl.busy && decide (sl.granted < s.bandLimit slot) && (s.freeBands (coreOf slot)).contains (physBand (sideOf slot) sl.granted)

/-- BAND_EXTRA_GRANT (R329), at a slot: a free band is lent to it; when both slots want one, the slot priority rule chooses (log 58). -/
def execBandExtraGrant (s : State) : Out :=
  .next (
    let slot := s.cur
    let core := coreOf slot
    let both := s.wantsBand (otherSlot slot)
    if s.wantsBand slot = false ∨ (both = true ∧ s.winner core unitArray ≠ sideOf slot) then s
    else
      let n := (s.slot slot).granted
      let s := if both then s.decide_ core unitArray (sideOf slot) else s
      (s.modSlot slot fun sl =>
        { sl with extra := sl.extra + 1, act := { sl.act with bands := bandsValue (sideOf slot) (n + 1) } }).grantBands slot n 1)

/-! ### The end of an activation (04 R110, R111; 18 R413) -/

/-- Every word that the slot has issued has completed. -/
def Slot.drained (sl : Slot) : Bool :=
  sl.vec.fly.isEmpty && sl.mat.buf.isEmpty && sl.mat.run.isEmpty && sl.asy.loads.isEmpty && sl.asy.stores.isEmpty
  && sl.asy.reports.isEmpty && sl.signals.isEmpty && sl.seq.reqs.isEmpty && sl.seq.pend.isEmpty && sl.seq.locks.isEmpty
  && sl.seq.walls.isEmpty

/-- The activation may end: all four counters stand at its END, or its stop is final. -/
def Slot.mayEnd (sl : Slot) : Bool :=
  sl.busy && sl.drained && match sl.stop with
    | none => sl.seq.pc.ended && sl.vec.pc.ended && sl.mat.pc.ended && sl.asy.pc.ended
    | some st => st.final

/-- A slot that becomes free: its registers but tiles and accumulators count no more, and its bands are free. -/
def Slot.freed (sl : Slot) : Slot :=
  { Slot.reset with
    act := { sl.act with bands := 0 }, regs := { Regs.reset with v := sl.regs.v, acc := sl.regs.acc }
    seq := { SeqState.reset with reqNum := sl.seq.reqNum, lastWall := sl.seq.lastWall }, asy := { AsyState.reset with cmdNum := sl.asy.cmdNum }
    strays := sl.strays, lastCtx := sl.lastCtx, seen := sl.seen, mailbox := sl.mailbox }

/-- A slot is a member of no barrier any more (14 R342). -/
def State.leaveBarriers (s : State) (slot : Nat) : State :=
  s.modHub fun h => { h with barriers := h.barriers.map fun (k, b) => (k, { b with members := b.members.filter (· != slot) }) }

/-- A kernel entry after an activation of it has ended (04 R93). -/
def State.entryEnds (s : State) (id : Nat) : State :=
  s.modSpool fun p =>
    { p with
      kernels := (p.kernels.map fun (k, e) => if k = id then (k, { e with count := e.count - 1 }) else (k, e)).filter
        fun (k, e) => !(k == id && e.stale && e.count == 0) }

/-- A HALT has completed: the first one of a node supplies its code, and of those in one cycle the one of the lowest slot (R111). -/
def Node.noteHalt (y : Node) (now slot : Nat) (code : Option (BitVec 16)) : Node :=
  match code with
  | none => y
  | some c =>
    if y.halt.isNone ∨ (y.haltAt.1 = now ∧ slot < y.haltAt.2) then { y with halt := some c.toNat, haltAt := (now, slot) } else y

/-- ACTIVATION_END (R110, R111), at a slot. -/
def execActivationEnd (s : State) : Out :=
  .next (
    let slot := s.cur
    let sl := s.slot slot
    if sl.mayEnd = false then s
    else
      let g := sl.act.graph
      let n := sl.act.node
      let s := if sl.stop.isNone then s.traceAt slot .S 3 1 0 none else s
      let s := (s.modSlot slot Slot.freed).leaveBarriers slot
      match s.nodeAt g n with
      | none => s
      | some y =>
        let s := s.entryEnds y.kentry
        let s := s.modNode g n fun y =>
          let y := { y with active := y.active - 1 }.noteHalt s.now slot (if sl.stop.isNone then sl.halt else none)
          { y with phase := if y.phase = .dispatching ∧ (y.halt.isSome ∨ y.fail.isSome) then .draining else y.phase }
        (s.progress g).settleNode g n)

/-! ### Group words (R330-R332) -/

def execGrpid (d b : BitVec 6) (s : State) : Out :=
  .next (sWord (.grpid d b) [] [.g d.toNat] (fun s =>
    let a := (s.slot s.cur).act
    let node := s.nodeAt a.graph a.node
    let v : Reg := match b.toNat with
      | 0 => a.grpid.setWidth 64
      | 1 => BitVec.ofNat 64 ((node.map (·.tiles)).getD 0)
      | _ =>
        match node.bind fun y => y.shares.find? fun r => r.1 == dieOf s.cur with
        | some (_, lo, hi) => BitVec.ofNat 64 (lo + hi * 2 ^ 32)
        | none => 0
    .done ((s.writeG d.toNat v 1).traceInput s.cur d.toNat v)) s)

/-- What BANDQ reads of a slot (R331). -/
def State.bandState (s : State) (slot : Nat) : Nat :=
  let sl := s.slot slot
  if sl.busy = false then 0
  else
    let both := ((rangeFrom 0 8).map fun p => if s.sharedBand (coreOf slot) p then 2 ^ p else 0).foldl (· + ·) 0
    sl.act.bands.toNat % 2 ^ 12 + sl.grant * 2 ^ 12 + sl.demand * 2 ^ 16 + both * 2 ^ 24 + 2 ^ 32 + bitN sl.comm * 2 ^ 33
      + sl.act.prio.toNat * 2 ^ 34

def execBandq (d b : BitVec 6) (s : State) : Out :=
  .next (sWord (.bandq d b) [] [.g d.toNat] (fun s =>
    let v := BitVec.ofNat 64 (s.bandState (if b = 0 then s.cur else otherSlot s.cur))
    .done ((s.writeG d.toNat v 1).traceInput s.cur d.toNat v)) s)

def execPhase (d a b : BitVec 6) (s : State) : Out :=
  .next (sWord (.phase d a b) [.g a.toNat] [.g d.toNat] (fun s =>
    let x := s.g a.toNat
    let sl := s.slot s.cur
    if 2 ^ 16 ≤ x.toNat then .trap fILLEGAL 0 0
    else
      let old := BitVec.ofNat 64 (sl.phase.toNat + bitN sl.comm * 2 ^ 16)
      .done ((s.modSlot s.cur fun sl => { sl with phase := x.setWidth 16, comm := b == 1 }).writeG d.toNat old 1)) s)

end Sys2Proof.Machine
end

