-- ==== Sys2Proof/Machine/Image.lean ====
section
/-!
DEFINITION. Sys2Proof/Machine/Image.lean: context images and what the hub keeps of a context in them (15 R346-R349; 16 R377), and reclaim
fences (15 R355, R356).
-/

namespace Sys2Proof.Machine

/-! ### Reading an image (R347, R349) -/

/-- The image that stands at a physical address. -/
def State.readImage (s : State) (cimg : Nat) : Image :=
  let w (off : Nat) : Nat := s.memNat (cimg + off) 8
  let bits (n off hi lo : Nat) : BitVec n := BitVec.ofNat n (field (w off) hi lo)
  { slice := bits 32 0x00 63 32, prio := bits 4 0x00 31 28, ptroot := bits 42 0x08 41 0, gcp := bits 56 0x10 55 0
    bcount := bits 13 0x18 28 16, bfirst := bits 12 0x18 11 0, key := BitVec.ofNat 128 (s.memNat (cimg + 0x40) 16)
    tensorid := bits 24 0x50 55 32, stepno := bits 32 0x50 31 0, peertab := bits 56 0x58 55 0, job := bits 32 0x60 63 32
    npeer := bits 7 0x60 6 0 }

/-- CW4 to CW15 of an image. -/
def State.readSoft (s : State) (cimg : Nat) : BitVec 768 := BitVec.ofNat 768 (s.memNat (cimg + 0xA0) 96)

/-- Every reserved field of an image that software wrote is zero (log 61). -/
def State.imageReserved (s : State) (cimg : Nat) : Bool :=
  let w (off : Nat) : Nat := s.memNat (cimg + off) 8
  field (w 0x00) 27 18 == 0 && field (w 0x08) 63 42 == 0 && field (w 0x10) 63 56 == 0 && field (w 0x18) 63 29 == 0
  && field (w 0x18) 15 12 == 0 && field (w 0x50) 63 56 == 0 && field (w 0x58) 63 56 == 0 && field (w 0x60) 31 7 == 0
  && s.memNat (cimg + 0x68) 24 == 0 && s.memNat (cimg + 0x100) 0xF00 == 0

/-- Two ranges of Ballast slots overlap. -/
def Image.shares (i j : Image) : Bool := overlaps i.bfirst.toNat i.bcount.toNat j.bfirst.toNat j.bcount.toNat

/-- The checks of CREATE (R346, R349) (log 61). -/
def State.imageOk (s : State) (c : Nat) : Bool :=
  let cimg := (s.ctx c).cimg.toNat
  let i := s.readImage cimg
  cimg % 16384 == 0 && decide (cimg + 16384 ≤ s.hbmEnd) && s.imageReserved cimg
  && i.ptroot.toNat % 16384 == 0 && decide (i.ptroot.toNat + 16384 ≤ s.hbmEnd)
  && i.gcp.toNat % 65536 == 0 && decide (i.gcp.toNat + 0x100000 ≤ s.hbmEnd)
  && i.peertab.toNat % 64 == 0 && decide (i.peertab.toNat + 16 * i.npeer.toNat ≤ s.hbmEnd)
  && (i.npeer != 0 || i.peertab == 0) && decide (i.npeer.toNat ≤ 64) && decide (i.bfirst.toNat + i.bcount.toNat ≤ 4096)
  && s.hub.ctx.regs.all fun p => p.1 == c || p.2.phase == .free || !p.2.image.shares i

/-- Entry `n` of a peer table (16 R377). -/
def State.peerEntry (s : State) (i : Image) (n : Nat) : Nat := s.memNat (i.peertab.toNat + 16 * n) 16

def Peer.ofEntry (e : Nat) : Peer :=
  { faddr := BitVec.ofNat 64 (field e 127 64), portmask := BitVec.ofNat 8 (field e 63 56), keyidx := BitVec.ofNat 8 (field e 47 40)
    enc := bitAt e 39, swkey := bitAt e 38, rank := BitVec.ofNat 32 (field e 31 0) }

/-- A peer entry lets the switch-in go on (16 R377; 19 R430). -/
def State.peerOk (s : State) (e : Nat) : Bool :=
  field e 55 48 == 0 && field e 37 32 == 0 && field e 63 56 != 0 && (!bitAt e 39 || s.hub.dev.agreed.getLsbD 4)

/-- Log 61. -/
def State.readPeers (s : State) (i : Image) : List Peer := (rangeFrom 0 i.npeer.toNat).map fun n => Peer.ofEntry (s.peerEntry i n)

/-- The physical address of the first entry that fails. -/
def State.badPeer (s : State) (i : Image) : Option Nat :=
  ((rangeFrom 0 i.npeer.toNat).find? fun n => !s.peerOk (s.peerEntry i n)).map fun n => i.peertab.toNat + 16 * n

/-- The image of a context is read. -/
def State.takeImage (s : State) (c : Nat) : State :=
  let cimg := (s.ctx c).cimg.toNat
  let i := s.readImage cimg
  let soft := s.readSoft cimg
  let ps := s.readPeers i
  (s.modCtx c fun x => { x with image := i }).modHub fun h =>
    { h with ctx := { h.ctx with soft := h.ctx.soft.put c soft, peers := h.ctx.peers.put c ps } }

/-! ### Writing an image (R347) -/

/-- Zeros in physical memory. -/
def State.zeroPhys (s : State) (pa n : Nat) : State :=
  { s with mem := s.mem.filter fun e => !(decide (pa ≤ e.1) && decide (e.1 < pa + n)) }

/-- The word CWn of a context as the hub would write it now (R347, R360). -/
def State.ctxWord (s : State) (c n : Nat) : Nat :=
  let x := s.ctx c
  match n with
  | 0 => x.foff.toNat
  | 1 => x.cw1.toNat * 2 ^ 32 + x.extcnt.toNat
  | 2 => x.killFrame.toNat * 2 ^ 32 + x.kinc.toNat * 2 ^ 8 + x.kcause.toNat
  | 3 => 0
  | n => (Tab.get 0 s.hub.ctx.soft c).toNat / 2 ^ (64 * (n - 4)) % 2 ^ 64

/-- CW0 to CW2 are written. -/
def State.writeCws (s : State) (c : Nat) : State :=
  s.physWrite ((s.ctx c).cimg.toNat + 0x80) ((rangeFrom 0 3).flatMap fun n => toBytes 8 (s.ctxWord c n))

/-- TAG is written. -/
def State.writeTag (s : State) (c : Nat) : State :=
  let at_ := (s.ctx c).cimg.toNat
  let w := s.memNat at_ 8
  s.physWrite at_ (toBytes 8 (w - w % 2 ^ 18 + (s.tagOf c).toNat))

/-! ### The registers of a context (R346) -/

def CtxPhase.code : CtxPhase → Nat
  | .free => 0
  | .idle => 1
  | .loading => 2
  | .resident => 3
  | .saving => 4
  | .held => 5

/-- CSTAT, CCNT and CMEAS, by the numbers of R360. -/
def State.ctxStatus (s : State) (c sel : Nat) : Nat :=
  let x := s.ctx c
  match sel with
  | 0 => x.rclfres.toNat * 2 ^ 34 + bitN x.rclf.isSome * 2 ^ 33 + bitN x.yieldreq * 2 ^ 32 + x.phase.code * 2 ^ 24 + x.outst.toNat * 2 ^ 8
      + x.inc.toNat
  | 1 => x.stale.toNat * 2 ^ 32 + x.orphan.toNat
  | _ => x.refused.toNat * 2 ^ 32 + x.swcost.toNat

def State.refuseCtx (s : State) (c : Nat) : State := s.modCtx c fun x => { x with refused := satAdd32 x.refused 1 }

/-! ### Reclaim fences (R355, R356) -/

/-- What a sleeping RCLF holds for its V while its fence has not started. -/
def noFence : Nat := 64

/-- Change the V of the words that sleep at a context's fences (log 63). -/
def State.bindFence (s : State) (c v : Nat) : State :=
  { s with slots := s.slots.map fun (k, sl) =>
      match sl.seq.sleep with
      | some (.rclf c' reg v') => if c' = c ∧ v' = noFence then (k, { sl with seq := { sl.seq with sleep := some (.rclf c reg v) } }) else (k, sl)
      | _ => (k, sl) }

/-- An RCLF of a context starts: a request goes to every peer (log 63). -/
def State.startFence (s : State) (c : Nat) : State :=
  let x := s.ctx c
  let ps := if x.image.npeer = 0 then [] else rangeFrom 0 (s.peersOf c).length
  let s := s.modCtx c fun x => { x with rclf := some { inc := x.inc, base := x.outst.toNat, waiting := ps, lostPeer := false } }
  let s := ps.foldl (fun s n => s.send c n 0 0 .fenceReq x.inc.toNat 0 []) s
  s.bindFence c x.inc.toNat

/-- An RCLF of a context is asked for: it starts, or joins the one under way, or is to start after it. The answer is its V, as far as it
is known (log 63). -/
def State.askFence (s : State) (c : Nat) : Nat × State :=
  match (s.ctx c).rclf with
  | none => ((s.ctx c).inc.toNat, s.startFence c)
  | some f =>
    if f.inc = (s.ctx c).inc then (f.inc.toNat, s) else (noFence, s.modCtxWork c fun w => { w with fenceNext := true })

/-- No endpoint of the package holds a request of a context with another incarnation than V (log 63). -/
def State.fenceClear (s : State) (c v : Nat) : Bool :=
  let other (t : BitVec 18) : Bool := ctxOf t == c && incOf t != v
  (s.slots.all fun p => p.2.strays.all fun x => !other x.tag) && s.dies.all fun p => p.2.accepted.all fun e => !other e.tag

/-- A packet that a peer has answered, or that is given up. -/
def State.dropFencePackets (s : State) (c : Nat) (p : Nat → Bool) : State :=
  s.modHub fun h => { h with sent := h.sent.filter fun x => !(x.ctx == c && x.kind == .fenceReq && p x.peer) }

end Sys2Proof.Machine
end

