-- ==== Sys2Proof/Machine/Kill.lean ====
section
/-!
DEFINITION. Sys2Proof/Machine/Kill.lean: kills and what they do to every part of the package (15 R350, R352), the installing of incarnations (15
R353; 09 R258, R259), and the end of a reclaim fence (15 R355).
-/

namespace Sys2Proof.Machine

/-! ### Activations and messages (R352; 05 R135; 12 R306) -/

/-- A sequencer's access of a killed activation that is still on its way. What a near-store has accepted is dropped there. -/
def GReq.stray (r : GReq) : Option Stray := if r.isStore && r.stage == .served then none else some ⟨r.tag, r.stage == .served⟩

/-- A burst of a killed activation that is still on its way. -/
def Burst.stray (tag : BitVec 18) (store : Bool) (b : Burst) : Option Stray :=
  if b.local_ || (store && b.stage == .served) then none else some ⟨tag, b.stage == .served⟩

/-- What a killed activation leaves on its way: accesses, bursts and probes (log 64). -/
def Slot.leftovers (sl : Slot) : List Stray :=
  let tag := sl.act.inctag
  sl.seq.reqs.filterMap GReq.stray ++ sl.asy.loads.flatMap (fun c => c.flying.filterMap (Burst.stray tag false))
    ++ sl.asy.stores.flatMap (fun c => c.flying.filterMap (Burst.stray tag true))
    ++ (sl.vec.fly.filter fun f => f.probe.isSome).map fun _ => ⟨tag, false⟩

/-- An activation is killed: its slot becomes free, and its undelivered elements are orphans. -/
def State.killSlot (s : State) (slot : Nat) : State :=
  let sl := s.slot slot
  let s := s.countOrphan (ctxOf sl.act.inctag) sl.asy.cq.length
  let s := s.modHub fun h => { h with queues := h.queues.map fun (k, q) => (k, { q with sleepers := q.sleepers.filter (· != slot) }) }
  (s.modSlot slot fun sl => { sl.freed with strays := sl.strays ++ sl.leftovers }).leaveBarriers slot

/-- The slots that run activations of a context. -/
def State.slotsOf (s : State) (c : Nat) : List Nat :=
  (s.slots.filter fun p => p.2.busy && ctxOf p.2.act.inctag == c).map (·.1)

/-- Messages of a context, in mailboxes and in send buffers, are orphans. -/
def State.killMessages (s : State) (c : Nat) : State :=
  let mine (m : Message) : Bool := ctxOf m.tag == c
  let n := (s.slots.map fun p => (p.2.mailbox.filter mine).length).foldl (· + ·) 0
  let m := (s.cores.map fun p => (p.2.sendBuf.filter fun o => mine o.msg).length).foldl (· + ·) 0
  { s.countOrphan c (n + m) with
    slots := (s.countOrphan c (n + m)).slots.map fun (k, sl) => (k, { sl with mailbox := sl.mailbox.filter fun x => !mine x })
    cores := (s.countOrphan c (n + m)).cores.map fun (k, x) => (k, { x with sendBuf := x.sendBuf.filter fun o => !mine o.msg }) }

/-! ### Graphs, queues and barriers (R352) -/

def State.killGraphs (s : State) (c : Nat) : State :=
  s.modSpool fun p =>
    let gone (g : Nat) : Bool := match Tab.find p.graphs g with
      | some x => ctxOf x.tag == c
      | none => true
    { p with
      graphs := p.graphs.filter fun x => ctxOf x.2.tag != c
      kernels := p.kernels.filter fun x => ctxOf x.2.tag != c
      waiting := p.waiting.filter fun x => !gone x.1 }

def State.killQueues (s : State) (c : Nat) : State :=
  ((s.hub.queues.filter fun p => p.2.phase == .active && p.2.ctx.toNat == c).map (·.1)).foldl State.haltQueue s

def State.killBarriers (s : State) (c : Nat) : State :=
  ((s.hub.barriers.filter fun p => p.2.phase == .armed && p.2.ctx.toNat == c).map (·.1)).foldl (fun s b => s.breakQuietly b 1) s

/-! ### Winches and pages (08 R225; 10 R271) -/

/-- A page in transit goes back to the state it left; the bytes at the frame it was going to are free values (log 64). -/
def State.pageBack (s : State) (at_ : Nat) (off : Bool) : State :=
  let e := s.memNat at_ 16
  let (bs, s) := s.freeBytes (leafBytes e)
  (s.physWrite (frameOf e (if off then 2 else 0)) bs).setLeafState at_ (if off then 0 else 2)

/-- A winch's command of a killed context is dropped. -/
def State.dropWCmd (s : State) (c : WCmd) : State :=
  let s := s.countStale (ctxOf c.tag) 1
  match c.page with
  | some at_ => s.pageBack at_ (c.kind == .woff)
  | none => s

/-- The winches drop the commands and the re-encodes of a context. -/
def State.killWinches (s : State) (c : Nat) : State :=
  (rangeFrom 0 24).foldl (fun s w =>
    let x := s.winch w
    let s := (x.queue.filter fun d => ctxOf d.tag == c).foldl State.dropWCmd s
    let s := (x.reenc.filter fun r => ctxOf r.tag == c).foldl (fun s r => s.setLeafState r.at_ r.prior) s
    s.modWinch w fun x =>
      { x with queue := x.queue.filter fun d => ctxOf d.tag != c, reenc := x.reenc.filter fun r => ctxOf r.tag != c }) s

/-! ### The fault table (18 R413) -/

/-- A kill resolves the records of a context: those that wait for their writing stay, and are written resolved. -/
def State.killFaults (s : State) (c : Nat) : State :=
  let mine (f : FaultEntry) : Bool := match f.body.tag with
    | some t => ctxOf t == c
    | none => false
  s.modTraps fun t =>
    { t with
      table := (t.table.filter fun f => !(mine f && f.seq.isSome)).map fun f =>
        if mine f then { f with resolved := true, winchCmd := none, walk := none } else f
      walks := t.walks.filter fun k => ctxOf k.tag != c }

/-! ### Tether (17 R404) -/

/-- The key of a stream's count of commands with a TAG of a context (17 R389). `who` is 0; for a SEND or RECV it names the kind and the
peer, and the counts of these stand at stream 0 (R401). -/
def countKey (who c tag : Nat) : Nat := who * 2 ^ 28 + c * 2 ^ 16 + tag

/-- The streams and the communication queues drop the commands of a context (log 66). -/
def State.killTether (s : State) (c : Nat) : State :=
  let mine (t : BitVec 18) : Bool := ctxOf t == c
  let q := (s.cores.map fun p => (p.2.commq.filter fun x => mine x.tag).length).foldl (· + ·) 0
  let st (x : Stream) : Nat :=
    (x.queue.filter fun d => mine d.tag).length + (x.run.toList.filter fun r => mine r.cmd.tag).length
      + (x.parked.filter fun p => mine p.cmd.tag).length + (x.lane.toList.filter fun r => mine r.cmd.tag).length
  let n := (s.hub.streams.map fun p => st p.2).foldl (· + ·) 0
  let s := s.countStale c (q + n)
  let s : State := { s with cores := s.cores.map fun (k, x) => (k, { x with commq := x.commq.filter fun d => !mine d.tag }) }
  s.modHub fun h =>
    { h with streams := h.streams.map fun (k, x) =>
        (k, { x with
          queue := x.queue.filter fun d => !mine d.tag, run := x.run.filter fun r => !mine r.cmd.tag
          parked := x.parked.filter fun p => !mine p.cmd.tag, lane := x.lane.filter fun r => !mine r.cmd.tag
          counts := x.counts.filter fun p => p.1 % 2 ^ 28 / 2 ^ 16 != c }) }

/-! ### A kill (R350, R352) -/

/-- The actions of R352, all before the new incarnation is installed. -/
def State.killActions (s : State) (c : Nat) : State :=
  let s := (s.slotsOf c).foldl State.killSlot s
  ((((((s.killMessages c).killTether c).killGraphs c).killQueues c).killBarriers c).killWinches c).killFaults c

/-- A kill is recorded in the context and in its image (log 64). -/
def State.noteKill (s : State) (c cause : Nat) : State :=
  let n := (s.ctxWork c).broadcasting
  (s.modCtx c fun x =>
    { x with killFrame := BitVec.ofNat 32 (s.now / 2 ^ 14), kinc := x.inc + BitVec.ofNat 6 n, kcause := BitVec.ofNat 8 cause }).writeCws c

/-- The causes of kills of one cycle, in their order: watchdog, fatal trap, driver. -/
def causeRank (cause : Nat) : Nat := if cause = 2 then 2 else if cause = 3 then 1 else 0

/-- A kill that comes in the cycle of another one of its context: it is the same kill, of the first of their causes (R350). -/
def State.joinKill (s : State) (c cause : Nat) : State :=
  if causeRank cause ≤ causeRank (s.ctx c).kcause.toNat then s else (s.modCtx c fun x => { x with kcause := BitVec.ofNat 8 cause }).writeCws c

/-- The semaphores of a context owe their mirrors nothing more. -/
def State.killSems (s : State) (c : Nat) : State :=
  s.modHub fun h => { h with sems := h.sems.map fun (k, m) => (k, if m.ctx.toNat = c then { m with owed := false } else m) }

/-- A kill of a context (R350): 1 by the driver, 2 by a watchdog, 3 by a fatal trap (log 64). -/
def State.killCtx (s : State) (c cause : Nat) : State :=
  let x := s.ctx c
  if x.phase = .free then s
  else if (s.ctxWork c).killAt = s.now + 1 then s.joinKill c cause
  else
    let s := s.modCtxWork c fun w => { w with killAt := s.now + 1, leaving := false }
    if x.phase = .held then s.noteKill c cause
    else
    let s := ((s.killActions c).killSems c).noteKill c cause
    if x.outst.toNat + (s.ctxWork c).broadcasting < 63 then s.modCtxWork c fun w => { w with broadcasting := w.broadcasting + 1 }
    else ((s.modCtx c fun x => { x with phase := .held }).askFence c).2

/-- KILL (R350), at a context: the driver's command. -/
def State.commandKill (s : State) (c : Nat) : State := if (s.ctx c).phase = .free then s.refuseCtx c else s.killCtx c 1

def execKill (s : State) : Out := .next (s.commandKill s.cur)

/-! ### Incarnations (R353; 09 R258, R259) -/

/-- The packets of a context's older incarnation are dropped at its ports; whether a packet had been acknowledged before is a free value. -/
def State.dropPackets (s : State) (c : Nat) : State :=
  let mine (x : Packet) : Bool := x.ctx == c && x.kind != .fenceReq && x.kind != .fenceConfirm
  let s := (s.hub.sent.filter mine).foldl (fun s _ => let (v, s) := s.takeFree; s.countStale c (v % 2)) s
  s.modHub fun h => { h with sent := h.sent.filter fun x => !mine x }

/-- Every endpoint holds the next incarnation of a context: what its older ones filled is gone. -/
def State.newIncarnation (s : State) (c : Nat) : State :=
  let mine (t : BitVec 18) : Bool := ctxOf t == c
  let s := (s.dropPackets c).modCtx c fun x => { x with inc := x.inc + 1 }
  let s : State := { s with
    cores := s.cores.map fun (k, x) =>
      (k, { x with tlb := x.tlb.filter fun t => !mine t.tag, icache := x.icache.filter fun l => !mine l.tag })
    dies := s.dies.map fun (k, d) =>
      (k, { d with tlb := d.tlb.filter fun t => !mine t.tag, lines := d.lines.filter fun l => !mine l.tag }) }
  s.writeTag c

/-- INCARNATION_INSTALLED (R353), at a context. -/
def execIncarnationInstalled (s : State) : Out :=
  .next (
    let c := s.cur
    if (s.ctxWork c).broadcasting = 0 then s
    else
      let s := s.newIncarnation c
      let s := s.modCtx c fun x => { x with outst := x.outst + 1, phase := if x.phase = .held then .held else .idle }
      s.modCtxWork c fun w =>
        { w with broadcasting := w.broadcasting - 1, leaving := false, fenceNext := w.fenceNext || (s.ctx c).phase == .held })

/-! ### The end of a reclaim fence (R355, R350) -/

/-- A word whose fence has completed writes its result and issues (R359); in a slot that is stopped, or whose PC_S a late matrix word holds,
it does so once the slot goes on. -/
def State.fenceWake (n : Nat) (s : State) : State :=
  match (s.slot n).seq.sleep with
  | some (.fenced reg value) =>
    if (s.slot n).stop.isSome ∨ (s.slot n).mat.late = true then s
    else
      let r : Reg := BitVec.ofNat 64 value
      let s := s.modSeq n fun q => { q with sleep := none }
      let s := ((s.modRegs n fun x => x.setG reg r).traceAt n .S 2 9 reg (some r)).seqWaited n
      ((s.modCounter n .S fun c => c.atCycle s.now).markIssued n .S).leave n .S
  | _ => s

/-- The words that sleep at a context's fence of V complete (R359). -/
def State.wakeFence (s : State) (c v res : Nat) : State :=
  (rangeFrom 0 320).foldl (fun s n =>
    match (s.slot n).seq.sleep with
    | some (.rclf c' reg v') =>
      if c' = c ∧ v' = v then State.fenceWake n (s.modSeq n fun q => { q with sleep := some (.fenced reg (res + v * 2 ^ 8)) }) else s
    | _ => s) s

/-- A fence completes: 1, or 2 with a peer that has not confirmed. -/
def State.endFence (s : State) (c res : Nat) (f : Fence) : State :=
  let s := (s.modCtx c fun x => { x with rclf := none, rclfres := BitVec.ofNat 2 res }).dropFencePackets c fun _ => true
  let s :=
    if res ≠ 1 then s
    else if (s.ctx c).phase = .held ∧ f.inc = (s.ctx c).inc ∧ (s.ctxWork c).broadcasting = 0 then
      (s.newIncarnation c).modCtx c fun x => { x with outst := 0, phase := .idle }
    else s.modCtx c fun x => { x with outst := BitVec.ofNat 6 (x.outst.toNat - f.base) }
  let s := s.wakeFence c f.inc.toNat res
  if (s.ctxWork c).fenceNext then (s.modCtxWork c fun w => { w with fenceNext := false }).startFence c else s

/-- RCLF_COMPLETE (R355), at a context: every endpoint and every peer has confirmed, or a peer never will. -/
def execRclfComplete (s : State) : Out :=
  .next (
    let c := s.cur
    match (s.ctx c).rclf with
    | none => s
    | some f =>
      if f.lostPeer = true ∨ f.waiting.any (fun n => s.unreachable c n) = true then s.endFence c 2 f
      else if f.waiting = [] ∧ s.fenceClear c f.inc.toNat = true then s.endFence c 1 f
      else s)

end Sys2Proof.Machine
end

