-- ==== Sys2Proof/Machine/Context.lean ====
section
/-!
DEFINITION. Sys2Proof/Machine/Context.lean: the life cycle of contexts (15 R350, R351), residency (15 R357), the saving of winch commands (15
R348; 08 R225), and the context words (15 R358-R361).
-/

namespace Sys2Proof.Machine

/-! ### Creation and removal (R349, R350) -/

/-- The precision slots of a new context hold ROLE 7 (11 R280). -/
def State.freshPslots (s : State) (c : Nat) : State :=
  let i := (s.ctx c).image
  s.modHub fun h =>
    { h with ballast := h.ballast.map fun (k, p) =>
        (k, if i.bfirst.toNat ≤ k ∧ k < i.bfirst.toNat + i.bcount.toNat then p.init 7 else p) }

/-- CREATE: an event that matches no row has no effect (00 R8) (logs 50 and 61). -/
def State.createCtx (s : State) (c : Nat) : State :=
  if (s.ctx c).phase ≠ .free then s
  else if s.hub.dev.negotiated = false ∨ s.imageOk c = false then s.refuseCtx c
  else
    let at_ := (s.ctx c).cimg.toNat
    let s := (s.takeImage c).modCtx c fun x =>
      { x with phase := .idle, foff := 0, cw1 := 0, extcnt := 0, killFrame := 0, kinc := 0, kcause := 0, qmask := 0, epoch := 0 }
    ((((s.zeroPhys (at_ + 0x20) 32).zeroPhys (at_ + 0x80) 32).zeroPhys (at_ + 0x1000) 0x3000)).writeTag c |>.freshPslots c

/-- A barrier is bound to a context. -/
def State.hasBarrier (s : State) (c : Nat) : Bool := s.hub.barriers.any fun p => p.2.phase != .unbound && p.2.ctx.toNat == c

/-- DESTROY. -/
def State.destroyCtx (s : State) (c : Nat) : State :=
  let x := s.ctx c
  if x.phase = .free then s
  else if x.phase = .idle ∧ x.qmask = 0 ∧ s.hasBarrier c = false ∧ x.outst = 0 ∧ x.rclf.isNone = true ∧ (s.ctxWork c).broadcasting = 0 then
    s.modCtx c fun x => { x with phase := .free }
  else s.refuseCtx c

/-- RCLF of the driver. -/
def State.commandFence (s : State) (c : Nat) : State := if (s.ctx c).phase = .free then s.refuseCtx c else (s.askFence c).2

/-- CONTEXT_CREATE, CONTEXT_DESTROY and RCLF_COMMAND, at a context. -/
def execContextCreate (s : State) : Out := .next (s.createCtx s.cur)
def execContextDestroy (s : State) : Out := .next (s.destroyCtx s.cur)
def execRclfCommand (s : State) : Out := .next (s.commandFence s.cur)

/-! ### Residency (R350, R357) -/

/-- A context has work: a record in a queue bound to it, or a Ready or Due node. -/
def State.hasWork (s : State) (c : Nat) : Bool :=
  (s.hub.queues.any fun p => p.2.phase != .unbound && p.2.ctx.toNat == c && p.2.used != 0)
  || s.hub.spool.graphs.any fun p => ctxOf p.2.tag == c && p.2.nodes.any fun y => y.phase == .ready || y.phase == .due

/-- The runnable Idle contexts. -/
def State.runnableIdle (s : State) : List Nat :=
  (s.hub.ctx.regs.filter fun p => p.2.phase == .idle && (s.ctxWork p.1).broadcasting == 0 && s.hasWork p.1).map (·.1)

/-- The runnable Idle context of highest PRIO, and of those the lowest. -/
def State.nextIdle (s : State) : Option Nat :=
  s.runnableIdle.foldl (fun (m : Option Nat) c => match m with
    | none => some c
    | some b => if (s.ctx b).image.prio.toNat < (s.ctx c).image.prio.toNat then some c else some b) none

/-- Contexts that are Resident or Loading. -/
def State.places (s : State) : Nat := (s.hub.ctx.regs.filter fun p => p.2.phase == .resident || p.2.phase == .loading).length

/-- The package serves, and takes contexts in: in stages 4, 5 and 7 (19 R426-R428). -/
def DeviceCtl.serves (d : DeviceCtl) : Bool := d.stage == 4 || d.stage == 5 || d.stage == 7

/-- CONTEXT_LOAD_START (R357): a place is free, and a runnable Idle context takes it. A bad peer entry makes the switch-in fail (16 R377). In
stage 6 no context is loaded (19 R428), and none before the package serves. -/
def execContextLoadStart (s : State) : Out :=
  .next (
    match s.nextIdle with
    | none => s
    | some c =>
      if 64 ≤ s.places ∨ s.hub.dev.serves = false then s
      else
        let s := ((s.takeImage c).modCtx c fun x => { x with phase := .loading }).modCtxWork c fun w => { w with since := s.now }
        match s.badPeer (s.ctx c).image with
        | some pa => (s.hubFault .hub fILLEGAL (s.tagOf c) 0 pa).killCtx c 3
        | none => s)

/-- The commands of a context whose records were aborted while it was away end (08 R225). -/
def State.endAborted (s : State) (c : Nat) : State :=
  (rangeFrom 0 24).foldl (fun s w =>
    ((s.winch w).queue.filter fun d => ctxOf d.tag == c && d.stage == .aborting).foldl (fun s d => s.endWinchCmd w d.num d.fault) s) s

/-- CONTEXT_LOAD_DONE (R350), at a context. -/
def execContextLoadDone (s : State) : Out :=
  .next (
    let c := s.cur
    let w := s.ctxWork c
    if (s.ctx c).phase ≠ .loading ∨ w.broadcasting ≠ 0 then s
    else
      let s := s.modCtx c fun x =>
        { x with phase := .resident, cw1 := 0, swcost := BitVec.ofNat 32 (min (2 ^ 32 - 1) (w.saveCost + (s.now - w.since))) }
      (s.modCtxWork c fun w =>
        { w with loads := w.loads + 1, leaving := false, nodeDone := false, wasResident := true, extended := false }).endAborted c)

/-- An incomplete Tether command of a node of a context (R351). -/
def State.tetherBusy (s : State) (c : Nat) : Bool :=
  (s.cores.any fun p => p.2.commq.any fun d => ctxOf d.tag == c)
  || s.hub.streams.any fun p => (p.2.queue.any fun d => ctxOf d.tag == c) || p.2.run.any fun r => ctxOf r.cmd.tag == c

/-- No node of a context is running (R351). -/
def State.atBoundary (s : State) (c : Nat) : Bool := (s.slotsOf c).isEmpty && !s.tetherBusy c

/-- CONTEXT_SAVE_START (R350), at a context: its winch commands stop at a burst boundary. -/
def execContextSaveStart (s : State) : Out :=
  .next (
    let c := s.cur
    if (s.ctx c).phase ≠ .resident ∨ (s.ctxWork c).leaving = false ∨ (s.ctxWork c).broadcasting ≠ 0 ∨ s.atBoundary c = false then s
    else
      let s := (s.modCtx c fun x => { x with phase := .saving }).modCtxWork c fun w => { w with since := s.now }
      { s with winches := s.winches.map fun (k, x) =>
          (k, { x with queue := x.queue.map fun d => if ctxOf d.tag = c ∧ d.stage = .running then { d with stage := .resumed } else d }) })

/-- A shape register in the layout of a shape image (13 R314). -/
def SShape.image (h : SShape) : List Byte :=
  ((rangeFrom 0 23).map fun f => match f with
    | 0 => h.gaddr
    | 1 => h.saddr
    | 2 => h.run
    | 21 => h.pad
    | 22 => h.fmt
    | f => if f ≤ 8 then h.ext.getD (f - 3) 0 else if f ≤ 14 then wrapN 64 (h.gstr.getD (f - 9) 0) else wrapN 64 (h.sstr.getD (f - 15) 0)).flatMap
    (toBytes 8)

/-- The save entry of a winch (R348). -/
def WCmd.saved (d : WCmd) : List Byte :=
  toBytes 64 d.block.toNat ++ toBytes 8 d.gb.toNat ++ toBytes 8 d.cursor
    ++ toBytes 8 (1 + bitN (d.stage == .held) * 2 + d.kind.major * 2 ^ 8 + d.pusher.word % 2 ^ 24 * 2 ^ 32) ++ toBytes 40 0 ++ d.shape.image
    ++ toBytes 200 0

/-- The winch entries of a context's image are written. -/
def State.writeSaves (s : State) (c : Nat) : State :=
  let at_ := (s.ctx c).cimg.toNat + 0x1000
  (rangeFrom 0 24).foldl (fun s w =>
    match (s.winch w).queue.find? fun d => ctxOf d.tag == c && d.stage != .queued with
    | some d => s.physWrite (at_ + 0x200 * w) d.saved
    | none => s.zeroPhys (at_ + 0x200 * w) 0x200) s

/-- CONTEXT_SAVE_DONE (R350), at a context. -/
def execContextSaveDone (s : State) : Out :=
  .next (
    let c := s.cur
    let w := s.ctxWork c
    if (s.ctx c).phase ≠ .saving ∨ w.broadcasting ≠ 0 then s
    else
      let cost := s.now - w.since
      let s := s.modCtx c fun x =>
        { x with phase := .idle, yieldreq := false, swcost := BitVec.ofNat 32 (min (2 ^ 32 - 1) (x.swcost.toNat - w.saveCost + cost)) }
      ((s.modCtxWork c fun w => { w with leaving := false, saveCost := cost }).writeCws c).writeSaves c)

/-! ### Context words (R358-R361) -/

/-- Checks 2 to 4 of R358, and what follows for the context that g[A] names. -/
def State.namedContext (s : State) (x : Reg) (k : Nat → Act) : Act :=
  let own := ctxOf (s.slot s.cur).act.inctag
  if 2 ^ 12 ≤ x.toNat then .trap fILLEGAL 0 0
  else if x.toNat ≠ own ∧ (s.ctx own).priv = false then .trap fPERMISSION 0 0
  else if (s.ctx x.toNat).phase = .free then .trap fILLEGAL 0 0
  else k x.toNat

def execRclf (d a : BitVec 6) (s : State) : Out :=
  .next (sWord (.rclf d a) [.g a.toNat] [.g d.toNat] (fun s =>
    s.namedContext (s.g a.toNat) fun c =>
      let (v, s) := s.askFence c
      .hold ((s.modSeq s.cur fun q => { q with sleep := some (.rclf c d.toNat v) }).seqWait)) s)

def execIncqry (d a b : BitVec 6) (s : State) : Out :=
  .next (sWord (.incqry d a b) (if b.toNat ≤ 2 then [.g a.toNat] else []) [.g d.toNat] (fun s =>
    let put (n : Nat) : Act :=
      let v : Reg := BitVec.ofNat 64 n
      .done ((s.writeG d.toNat v 1).traceInput s.cur d.toNat v)
    if b.toNat ≤ 2 then s.namedContext (s.g a.toNat) fun c => put (s.ctxStatus c b.toNat)
    else put (s.ctxWord (ctxOf (s.slot s.cur).act.inctag) (b.toNat - 16))) s)

/-- The frames for which a context's slice holds its place: SLICE, or what its switching costs (R357) (log 62). -/
def State.sliceFloor (s : State) (c : Nat) : Nat := max (s.ctx c).image.slice.toNat (ceilDiv (s.ctx c).swcost.toNat (2 ^ 14))

def execYield (d : BitVec 6) (s : State) : Out :=
  .next (sWord (.yield d) [] [.g d.toNat] (fun s =>
    let c := ctxOf (s.slot s.cur).act.inctag
    let n := if (s.ctx c).image.slice = 0 then 0 else s.sliceFloor c - (s.ctx c).cw1.toNat
    let v : Reg := BitVec.ofNat 64 n
    let s := s.modCtx c fun x => { x with yieldreq := true }
    .done ((s.writeG d.toNat v 1).traceInput s.cur d.toNat v)) s)

end Sys2Proof.Machine
end

