-- ==== Sys2Proof/Machine/Frame.lean ====
section
/-!
DEFINITION. Sys2Proof/Machine/Frame.lean: the frame boundary (01 R20): watchdog counts (12 R310, R311), context frames (13 R324), the choice of
contexts for switch-out (15 R357, R361), the events of stale and orphan items (18 R416), and what waits a number of frames.
-/

namespace Sys2Proof.Machine

/-! ### Watchdogs (12 R310, R311) -/

/-- The graphs of a queue's running record: its root and the child graphs below it. -/
def State.treeOf (s : State) (root : Nat) : List (Nat × Graph) := s.hub.spool.graphs.filter fun p => s.rootOf 8 p.1 == root

/-- The root graph made no progress in the frame that ended. -/
def State.idleTree (s : State) (root : Nat) : Bool :=
  (s.treeOf root).all (fun p => !p.2.progress) && (s.treeOf root).any fun p => p.2.awake

/-- The count of a queue after the frame that ended. -/
def State.watchCount (s : State) (x : WorkQueue) : BitVec 32 :=
  match x.running with
  | none => 0
  | some g =>
    if x.wdogLim = 0 ∨ x.feed = true ∨ x.phase ≠ .active then 0
    else if (s.ctxWork x.ctx.toNat).wasResident = false then x.wdogCnt
    else if s.idleTree g then satAdd32 x.wdogCnt 1
    else 0

/-- The watchdog counts of all queues; a queue that expires has its WATCHDOG step among the kills of the cycle (00 R9). -/
def State.countWatch (s : State) : State :=
  s.modHub fun h =>
    { h with queues := h.queues.map fun (k, x) =>
        let n := s.watchCount x
        (k, { x with wdogCnt := n, expired := x.phase == .active && x.running.isSome && !x.feed && x.wdogLim != 0 && decide (x.wdogLim ≤ n) }) }

/-- An activation does not sleep in WQPOP. -/
def Slot.awake (sl : Slot) : Bool :=
  sl.stop.isSome || match sl.seq.sleep with
    | some (.wqpop _ _) => false
    | _ => true

/-- A graph has an activation that is awake, or an incomplete command. -/
def State.graphAwake (s : State) (g : Nat) (x : Graph) : Bool :=
  (x.nodes.any fun y => y.cmds != 0 || y.phase == .issued)
  || s.slots.any fun p => p.2.busy && p.2.act.graph == g && (p.2.awake || !p.2.asy.loads.isEmpty || !p.2.asy.stores.isEmpty)

/-- A new frame begins for every graph. -/
def State.freshGraphs (s : State) : State :=
  s.modSpool fun p => { p with graphs := p.graphs.map fun (k, x) => (k, { x with progress := false, awake := s.graphAwake k x }) }

/-- The running activation of a root graph with the lowest slot (R311). -/
def State.lowestSlot (s : State) (root : Nat) : Option Nat :=
  (s.slots.find? fun p => p.2.busy && s.rootOf 8 p.2.act.graph == root).map (·.1)

/-- The record of an expired queue. -/
def State.watchRecord (s : State) (q : Nat) : Record :=
  let x := s.queue q
  let st := q + x.wdogLim.toNat * 2 ^ 32
  let g := x.running.getD 0
  let root := match s.graph g with
    | some y => y.root
    | none => 0
  match s.lowestSlot g with
  | some n => s.slotRecord n .S fWATCHDOG st root naCursor none false
  | none => s.unitRecord fWATCHDOG .hub (some (s.tagOf x.ctx.toNat)) st root naCursor

/-- WATCHDOG (R311), at a queue: every expired queue of its context writes a record, in increasing number, and the context is killed. -/
def execWatchdog (s : State) : Out :=
  .next (
    let x := s.queue s.cur
    if x.expired = false ∨ x.phase ≠ .active then s.modQueue s.cur fun x => { x with expired := false }
    else
      let all := (s.hub.queues.filter fun p => p.2.expired && p.2.phase == .active && p.2.ctx == x.ctx).map (·.1)
      let s := s.modHub fun h =>
        { h with queues := h.queues.map fun (k, y) => (k, if y.ctx = x.ctx then { y with expired := false } else y) }
      (all.foldl (fun s q => (s.enterFault (s.watchRecord q) none none).2) s).killCtx x.ctx.toNat 2)

/-! ### Context frames (13 R324, R325) -/

/-- A timed node of a context waits with a TICK that the frame number `cf` has reached. -/
def State.lateWaits (s : State) (c : Nat) (cf : Int) : Bool :=
  s.hub.spool.graphs.any fun p => ctxOf p.2.tag == c && p.2.nodes.any fun y => y.phase == .waiting && y.timed && decide ((y.tick : Int) ≤ cf)

/-- FOFF of every context, and the due cycles of the nodes whose TICK is reached. -/
def State.countFrames (s : State) : State :=
  let f : Int := (s.now / 2 ^ 14 : Nat)
  let s := s.modHub fun h =>
    { h with ctx := { h.ctx with regs := h.ctx.regs.map fun (k, x) =>
        (k, if x.phase ≠ .free ∧ s.lateWaits k (f - 1 - x.foff.toNat) = true then { x with foff := x.foff + 1 } else x) } }
  s.modSpool fun p =>
    { p with graphs := p.graphs.map fun (k, x) =>
        (k, { x with nodes := x.nodes.map fun y =>
          if y.timed ∧ y.dueAt.isNone = true ∧ (y.tick : Int) = s.contextFrame (ctxOf x.tag) then { y with dueAt := some s.now } else y }) }

/-! ### Residency (15 R357, R361; 19 R428) -/

/-- Another frame of residency. -/
def State.countResidence (s : State) : State :=
  let res (c : Nat) : Bool := (s.ctx c).phase == .resident
  s.modHub fun h =>
    { h with ctx := { h.ctx with
        regs := h.ctx.regs.map fun (k, x) => (k, if res k then { x with cw1 := satAdd32 x.cw1 1 } else x)
        work := h.ctx.work.map fun (k, w) => (k, { w with wasResident := res k }) } }

/-- The slice of a context lets it yield to a waiting context. -/
def State.sliceOver (s : State) (c waiter : Nat) : Bool :=
  let x := s.ctx c
  x.image.slice != 0 && decide (s.sliceFloor c ≤ x.cw1.toNat) && (s.ctxWork c).nodeDone && decide (x.image.prio ≤ (s.ctx waiter).image.prio)

/-- A context may yield its place to a waiting context. -/
def State.mayYield (s : State) (c waiter : Nat) : Bool :=
  (s.ctx c).phase == .resident && !(s.ctxWork c).leaving && ((s.ctx c).yieldreq || s.sliceOver c waiter)

/-- Envelope takes the first context before the second: YIELDREQ, then the lower PRIO, then the greater CW1, then the lower number (log 62). -/
def State.yieldsFirst (s : State) (a b : Nat) : Bool :=
  let x := s.ctx a
  let y := s.ctx b
  if x.yieldreq ≠ y.yieldreq then x.yieldreq
  else if x.image.prio ≠ y.image.prio then decide (x.image.prio < y.image.prio)
  else if x.cw1 ≠ y.cw1 then decide (y.cw1 < x.cw1)
  else decide (a < b)

/-- The resident contexts. -/
def State.residents (s : State) : List Nat := (s.hub.ctx.regs.filter fun p => p.2.phase == .resident).map (·.1)

/-- The context chosen for switch-out (log 62). -/
def State.chosenOut (s : State) : Option Nat :=
  match s.nextIdle with
  | none => none
  | some w =>
    if s.residents.length < 64 then none
    else
      (s.residents.filter fun c => s.mayYield c w).foldl (fun (m : Option Nat) c => match m with
        | none => some c
        | some b => if s.yieldsFirst c b then some c else some b) none

/-- A context stands past its slice, at every boundary since, only because of its cost or for want of a completed node (log 62). -/
def State.heldBack (s : State) (c : Nat) : Bool :=
  match s.nextIdle with
  | none => false
  | some w =>
    let x := s.ctx c
    decide (64 ≤ s.residents.length) && x.image.slice != 0 && decide (x.image.slice.toNat ≤ x.cw1.toNat)
    && decide (x.image.prio ≤ (s.ctx w).image.prio) && (decide (x.cw1.toNat < s.sliceFloor c) || !(s.ctxWork c).nodeDone)
    && (decide (x.cw1.toNat = x.image.slice.toNat) || (s.ctxWork c).extended)

/-- The choice at a frame boundary: one context is chosen, or, in stage 6, every resident one. -/
def State.chooseOut (s : State) : State :=
  if s.hub.dev.stage = 6 then s.residents.foldl (fun s c => s.modCtxWork c fun w => { w with leaving := true }) s
  else
    let out := s.chosenOut
    let marked := s.residents.map fun c => (c, s.heldBack c)
    let s := match out with
      | none => s
      | some c =>
        let late := (s.ctxWork c).extended && decide ((s.ctx c).image.slice.toNat < (s.ctx c).cw1.toNat)
        (s.modCtxWork c fun w => { w with leaving := true }).modCtx c fun x =>
          { x with extcnt := if late then satAdd32 x.extcnt 1 else x.extcnt }
    marked.foldl (fun s p => s.modCtxWork p.1 fun w => { w with extended := p.2 }) s

/-- Yield requests are cleared when no context waits (R361). -/
def State.clearYields (s : State) : State :=
  if s.nextIdle.isSome then s
  else s.modHub fun h => { h with ctx := { h.ctx with regs := h.ctx.regs.map fun (k, x) => (k, { x with yieldreq := false }) } }

/-! ### Events, and what waits (18 R416; 14 R340; 16 R376; 18 R423) -/

/-- An ORPHAN or STALE event. -/
def State.countEvent (s : State) (code c n : Nat) : State :=
  if n = 0 then s else s.writeEvent (s.unitRecord code .hub (some (s.tagOf c)) 0 0 n)

/-- The stale and orphan items of the frame. -/
def State.countEvents (s : State) : State :=
  (s.hub.ctx.work.map (·.1)).foldl (fun s c =>
    let w := s.ctxWork c
    ((s.countEvent 0x82 c w.newOrphan).countEvent 0x83 c w.newStale).modCtxWork c fun w => { w with newStale := 0, newOrphan := 0 }) s

/-- How long a packet is retried, in frames (16 R376) (log 68). -/
def retryFrames : Nat := 1024

/-- A barrier whose local completion has waited another frame. -/
def Barrier.wait (b : Barrier) : Barrier :=
  if b.phase = .armed ∧ b.localDone = true then
    let c := { b with frames := b.frames + 1 }
    { c with overdue := c.timedOut }
  else b

/-- Packets and barriers have waited another frame. A packet past the limit that has not expired has been acknowledged; one of a running
command stays until the command ends (log 68). -/
def State.countWaits (s : State) : State :=
  s.modHub fun h =>
    { h with
      sent := (h.sent.filter fun p => p.kind == .data || decide (p.frames < retryFrames)).map fun p => { p with frames := p.frames + 1 }
      barriers := h.barriers.map fun (k, b) => (k, b.wait) }

/-- The power registers hold what was measured over the last 2^20 cycles: free values (19 R424); past 3000 A k-steps are withheld (19 R434)
(log 65). -/
def State.measure (s : State) : State :=
  let (a, s) := s.takeFree
  let (w, s) := s.takeFree
  s.modHub fun h =>
    { h with dev := { h.dev with
        current := BitVec.ofNat 32 a, power := BitVec.ofNat 32 w, withhold := h.dev.withhold || decide (3000 < a % 2 ^ 32) } }

/-- FRAME_BOUNDARY (R310): the boundary at which the frame number has grown. -/
def execFrameBoundary (s : State) : Out :=
  .next (
    if s.now / 2 ^ 14 ≤ s.hub.frame then s
    else
      let s := s.modHub fun h => { h with frame := h.frame + 1 }
      let s := s.countWatch.freshGraphs.countFrames.countResidence.chooseOut.clearYields.countEvents.countWaits.measure
      let s := if s.hub.frame % 2 ^ 13 = 0 then s.bumpLife 0 1 else s
      if s.hub.frame % 2 ^ 20 = 0 then { s with agenda := .event 0 .lifetimeCounterSave :: s.agenda } else s)

end Sys2Proof.Machine
end

