-- ==== Sys2Proof/Machine/Tether.lean ====
section
/-!
DEFINITION. Sys2Proof/Machine/Tether.lean: a Tether command: its fields and elements (17 R385, R386), its checks (17 R387, R388), its
participants (17 R389), and the reductions (17 R395-R397, R400).
-/

namespace Sys2Proof.Machine

/-! ### The command (R385, R386) -/

def TCmd.bits (d : TCmd) (hi lo : Nat) : Nat := field d.bytes.toNat hi lo
def TCmd.kind (d : TCmd) : Nat := d.bits 7 0
def TCmd.fmt (d : TCmd) : Nat := d.bits 12 8
def TCmd.op (d : TCmd) : Nat := d.bits 15 13
def TCmd.tagId (d : TCmd) : Nat := d.bits 31 16
def TCmd.setEn (d : TCmd) : Bool := bitAt d.bytes.toNat 32
def TCmd.waitEn (d : TCmd) : Bool := bitAt d.bytes.toNat 33
def TCmd.ndok (d : TCmd) : Bool := bitAt d.bytes.toNat 34
def TCmd.sat (d : TCmd) : Bool := bitAt d.bytes.toNat 35
def TCmd.rsr (d : TCmd) : Bool := bitAt d.bytes.toNat 36
def TCmd.ssem (d : TCmd) : Nat := d.bits 51 40
def TCmd.wsem (d : TCmd) : Nat := d.bits 63 52
def TCmd.peerIdx (d : TCmd) : Nat := d.bits 71 64
def TCmd.tid (d : TCmd) : Nat := d.bits 95 72
def TCmd.wval (d : TCmd) : Nat := d.bits 127 96
def TCmd.mask (d : TCmd) : BitVec 64 := BitVec.ofNat 64 (d.bits 191 128)
def TCmd.src (d : TCmd) : Nat := d.bits 247 192
def TCmd.dst (d : TCmd) : Nat := d.bits 311 256
def TCmd.time (d : TCmd) : Nat := d.bits 383 320
def TCmd.ext (d : TCmd) (l : Nat) : Nat := d.bits (335 + 16 * l) (320 + 16 * l)
def TCmd.str (d : TCmd) (l : Nat) : Nat := d.bits (383 + 32 * l) (352 + 32 * l)
def TCmd.argx (d : TCmd) : Nat := d.bits 511 480
def TCmd.ctx (d : TCmd) : Nat := ctxOf d.tag

/-- PEERIDX of the local package. -/
def localPeer : Nat := 255

/-- The format of the elements. -/
def TCmd.elem (d : TCmd) : Fmt := (fmtOf d.fmt).getD fF32

/-- The bytes of an element. -/
def TCmd.width (d : TCmd) : Nat := d.elem.width / 8

/-- N. -/
def TCmd.count (d : TCmd) : Nat := d.ext 0 * d.ext 1 * d.ext 2 * d.ext 3

/-- The address of the element with a coordinate. -/
def TCmd.elemAt (d : TCmd) (base e : Nat) : Nat :=
  let e1 := e / d.ext 0
  let e2 := e1 / d.ext 1
  base + e % d.ext 0 * d.width + e1 % d.ext 1 * d.str 1 + e2 % d.ext 2 * d.str 2 + e2 / d.ext 2 * d.str 3

/-- All elements. -/
def TCmd.all (d : TCmd) : List Nat := rangeFrom 0 d.count

/-- The elements of chunk `c` of `n` (R395). -/
def TCmd.chunk (d : TCmd) (c n : Nat) : List Nat := rangeFrom (c * d.count / n) ((c + 1) * d.count / n - c * d.count / n)

/-- The kinds with participants. -/
def TCmd.collective (d : TCmd) : Bool := decide (1 ≤ d.kind ∧ d.kind ≤ 4) || d.kind == 7

/-! ### Check 1 (R387, R388) -/

def reduceClass (f : Nat) : Bool := f == 0x00 || f == 0x01 || f == 0x02 || f == 0x14 || f == 0x1C

def moveClass (f : Nat) : Bool :=
  match fmtOf f with
  | some x => x.width == 8 || x.width == 16 || x.width == 32 || x.width == 64
  | none => false

/-- FMT and OP of a kind. -/
def kindTakes (kind fmt op : Nat) : Bool :=
  match kind with
  | 1 | 2 => reduceClass fmt && decide (op ≤ 2)
  | 3 | 4 | 5 | 6 => moveClass fmt && op == 0
  | 7 => (reduceClass fmt && decide (op ≤ 2)) || (moveClass fmt && op == 3)
  | 8 => fmt == 0 && op == 0
  | 9 => fmt == 0 && decide (op ≤ 1)
  | _ => false

/-- A kind that reduces, with a format that a reduction rounds. -/
def TCmd.mayRound (d : TCmd) : Bool := (d.kind == 1 || d.kind == 2 || d.kind == 7) && (d.fmt == 1 || d.fmt == 2)

/-- The kinds that read SRC, that write DST, and that have elements. -/
def TCmd.reads (d : TCmd) : Bool := decide (1 ≤ d.kind ∧ d.kind ≤ 5) || d.kind == 7
def TCmd.writes (d : TCmd) : Bool := decide (1 ≤ d.kind ∧ d.kind ≤ 4) || d.kind == 6 || d.kind == 7
def TCmd.moves (d : TCmd) : Bool := decide (1 ≤ d.kind ∧ d.kind ≤ 7)
def TCmd.onePeer (d : TCmd) : Bool := decide (4 ≤ d.kind ∧ d.kind ≤ 6) || d.kind == 9

/-- Check 1: the reserved fields, the kind's table, and zero in every field that the kind does not use (log 8). -/
def TCmd.fieldsOk (d : TCmd) : Bool :=
  let k := d.kind
  d.bits 39 37 == 0 && d.bits 255 248 == 0 && d.bits 319 312 == 0 && kindTakes k d.fmt d.op
  && (d.collective || d.mask == 0) && (d.onePeer || d.peerIdx == 0) && (k == 1 || k == 2 || k == 7 || k == 9 || d.argx == 0)
  && (d.reads || k == 8 || d.src == 0) && (d.writes || d.dst == 0) && (d.moves || k == 8 || d.time == 0)
  && (d.moves || (d.str 1 == 0 && d.str 2 == 0 && d.str 3 == 0))
  && (!d.rsr || d.mayRound) && (d.rsr || (d.mayRound && d.op != 3) || (!d.sat && d.tid == 0)) && (!d.ndok || k == 1 || k == 2)

/-! ### Participants (R389) -/

/-- Put a participant into a list that rises by rank. -/
def placeRank (p : Nat × Nat) : List (Nat × Nat) → List (Nat × Nat)
  | [] => [p]
  | q :: t => if p.1 < q.1 then p :: q :: t else q :: placeRank p t

def State.tctx (s : State) (c : Nat) : TCtx := Tab.get TCtx.reset s.hub.ctx.tctx c

/-- The participants, by rank: ranks and peers, the local package as peer 255. -/
def State.ranked (s : State) (d : TCmd) : List (Nat × Nat) :=
  let ps := s.peersOf d.ctx
  (maskPeers d.mask).foldl (fun l n => match ps[n]? with
    | some p => placeRank (p.rank.toNat, n) l
    | none => l) [((s.tctx d.ctx).selfrank.toNat, localPeer)]

/-- No two neighbours of a list are equal. -/
def noRepeat : List Nat → Bool
  | a :: b :: t => a != b && noRepeat (b :: t)
  | _ => true

/-! ### Checks 2 to 4 (R388) -/

def TCmd.peersOk (s : State) (d : TCmd) : Bool :=
  let n := (s.peersOf d.ctx).length
  (!d.collective || (decide (d.mask.toNat < 2 ^ n) && noRepeat ((s.ranked d).map (·.1))))
  && (!d.onePeer || d.peerIdx == localPeer || decide (d.peerIdx < n))
  && (d.kind != 4 || d.peerIdx == localPeer || d.mask.getLsbD d.peerIdx)

/-- The first element of a side that does not lie below 2^56. -/
def TCmd.beyond (d : TCmd) (base : Nat) : Option Nat :=
  (d.all.find? fun e => decide (2 ^ 56 < d.elemAt base e + d.width)).map fun e => max (d.elemAt base e) (2 ^ 56)

/-- The first check that fails, as fault code and address. -/
def State.tetherCheck (s : State) (d : TCmd) : Option (Nat × Nat) :=
  let far := match (if d.reads then d.beyond d.src else none) with
    | some a => some a
    | none => if d.writes then d.beyond d.dst else none
  if d.fieldsOk = false ∨ d.peersOk s = false then some (fILLEGAL, 0)
  else if far.isSome then some (fILLEGAL, far.getD 0)
  else if d.kind = 8 ∧ d.src % 64 ≠ 0 then some (fILLEGAL, d.src)
  else if (d.waitEn = true ∧ s.semRefuses d.wsem d.tag = true)
      ∨ ((d.setEn = true ∨ (d.kind = 9 ∧ d.peerIdx = localPeer)) ∧ s.semRefuses d.ssem d.tag = true) then some (fPERMISSION, 0)
  else none

/-! ### The check that participants exchange (R389, R401) -/

def State.ownCheck (s : State) (d : TCmd) : PeerCheck :=
  let r := if d.collective then (s.ranked d).map (·.1) else []
  { kind := d.kind, op := d.op, fmt := d.fmt, ext := (rangeFrom 0 4).map d.ext, n := r.length, ranks := r }

/-- The bytes that a check's elements have. -/
def checkBytes (p : PeerCheck) : Nat := p.ext.foldl (· * ·) 1 * (((fmtOf p.fmt).getD fF32).width / 8)

/-- Two checks agree; of a SEND and its RECV, their sizes do. -/
def checksAgree (p q : PeerCheck) : Bool :=
  if p.kind = 5 ∨ p.kind = 6 then q.kind + p.kind == 11 && checkBytes p == checkBytes q else p == q

/-- The peers whose check a command awaits. -/
def TCmd.awaits (d : TCmd) : List Nat :=
  if d.collective then maskPeers d.mask else if d.kind = 5 ∨ d.kind = 6 then [d.peerIdx] else []

/-! ### Reductions (R395, R396, R400) -/

def intFormat (fmt : Nat) : Bool := fmt == 0x14 || fmt == 0x1C

/-- The value of a code, as an FP32 code or an integer. -/
def TCmd.valueOf (d : TCmd) (c : Nat) : Nat := if intFormat d.fmt then c else toF32 (decodeCode d.elem c)

def TCmd.combine (d : TCmd) (a b : Nat) : Nat :=
  if intFormat d.fmt then
    let less (x y : Nat) : Bool := if d.fmt = 0x14 then decide (sext x 32 < sext y 32) else decide (x < y)
    match d.op with
    | 0 => (a + b) % 2 ^ 32
    | 1 => if less a b then b else a
    | _ => if less b a then b else a
  else
    match d.op with
    | 0 => addF32 a b
    | 1 => toF32 (maxV (ofF32 a) (ofF32 b))
    | _ => toF32 (minV (ofF32 a) (ofF32 b))

/-- The output code of a result for an element (log 69). -/
def TCmd.output (d : TCmd) (key : BitVec 128) (e acc : Nat) : Nat :=
  if intFormat d.fmt ∨ d.fmt = 0 then acc
  else if d.rsr then (roundTo d.elem .sr (ctrDraw key.toNat d.argx d.tid 2 e) d.sat (ofF32 acc)).code
  else (roundTo d.elem .rne 0 d.sat (ofF32 acc)).code

/-- The chunk of an element. -/
def TCmd.chunkOf (d : TCmd) (n e : Nat) : Nat := ((rangeFrom 0 n).find? fun c => decide (e < (c + 1) * d.count / n)).getD 0

/-- The deterministic result of an element (R395): `x` gives the value at a position (log 69). -/
def TCmd.reduce (d : TCmd) (n e : Nat) (x : Nat → Nat) : Nat :=
  let c := d.chunkOf n e
  (rangeFrom 2 (n - 1)).foldl (fun acc k => d.combine acc (x ((c + k) % n))) (x ((c + 1) % n))

/-! ### Reduction in the switches (R379, R397) -/

/-- The command asks for it, and its context has declared it acceptable. -/
def State.asksOffload (s : State) (d : TCmd) : Bool := (d.kind == 1 || d.kind == 2) && d.ndok && (s.tctx d.ctx).ndok

/-- A peer that the switches may not reduce for. -/
def State.refusingPeer (s : State) (d : TCmd) : Option Nat :=
  (maskPeers d.mask).find? fun n => match (s.peersOf d.ctx)[n]? with
    | some p => p.enc && !p.swkey
    | none => false

/-- The peer that a refused-offload event names: one that refuses, or else 0xFF where the feature is not agreed (log 70). -/
def State.offloadRefusal (s : State) (d : TCmd) : Option Nat :=
  if s.asksOffload d = false then none
  else
    match s.refusingPeer d with
    | some n => some n
    | none => if s.hub.dev.agreed.getLsbD 3 then none else some localPeer

def State.inSwitch (s : State) (d : TCmd) : Bool := s.asksOffload d && d.op == 0 && (s.offloadRefusal d).isNone

end Sys2Proof.Machine
end

