-- ==== Sys2Proof/Machine/TetherRun.lean ====
section
/-!
DEFINITION. Sys2Proof/Machine/TetherRun.lean: how Tether commands run: their start, their waits, what they send and write, their end and their
faults (17 R388-R402, R404), parked commands (17 R405, R406), collective nodes (13 R318), and the packets of Tether (16 R375, R376; 17 R403).
-/

namespace Sys2Proof.Machine

/-! ### The command of a lane -/

/-- The running command of a stream, or of its trigger lane. -/
def Stream.runner (x : Stream) (lane : Bool) : Option TRun := if lane then x.lane else x.run

def Stream.setRunner (x : Stream) (lane : Bool) (r : Option TRun) : Stream := if lane then { x with lane := r } else { x with run := r }

def State.setRun (s : State) (n : Nat) (lane : Bool) (r : TRun) : State := s.modStream n fun x => x.setRunner lane (some r)

/-- What a command comes to: it goes on, it waits, or it meets a fault, which may be a walk's. -/
inductive TStep where
  | moved (s : State)
  | waits (s : State)
  | bad (code status addr : Nat) (walk : Option WalkKey)

/-- STATUS of a fault of a command (R404): TAG, and of a walk fault the level and the kind of access. LINK keeps the words of R371 and
R376. -/
def TCmd.status (d : TCmd) (code status : Nat) (walk : Bool) : Nat :=
  if walk then d.tagId + field status 2 0 * 2 ^ 16 + field status 9 8 * 2 ^ 24 else if code = fLINK then status else d.tagId

/-! ### The end of a command (R391, R399; 12 R306) -/

/-- The completion element of a command. -/
def TCmd.element (d : TCmd) (stream status word1 : Nat) : BitVec 128 :=
  BitVec.ofNat 128 (d.tagId + d.kind * 2 ^ 16 + status * 2 ^ 24 + stream * 2 ^ 32 + word1 % 2 ^ 64 * 2 ^ 64)

/-- The element is delivered: to the activation that pushed, which may have ended. -/
def State.deliver (s : State) (d : TCmd) (e : BitVec 128) : State :=
  match d.pusher with
  | some (.slot n _ _ _) =>
    let sl := s.slot n
    if sl.busy ∧ sl.act.inctag = d.tag ∧ sl.started = d.started then s.modAsy n fun a => { a with cq := a.cq ++ [e] }
    else if s.live d.tag then s
    else s.countOrphan d.ctx 1
  | _ => s

/-- A packet that a command has sent before its completion: its data, or the operation of a remote SEMOP. -/
def TCmd.sent (d : TCmd) (n : Nat) (p : Packet) : Bool :=
  (p.kind == .data || (d.kind == 9 && p.kind == .release)) && p.ctx == d.ctx && p.stream == n && p.cmd == d.num

/-- The packets of a command have been acknowledged or are given up. -/
def State.dropSent (s : State) (n : Nat) (d : TCmd) : State := s.modHub fun h => { h with sent := h.sent.filter fun p => !d.sent n p }

/-- A command leaves its stream, complete or ended by a fault: its element is delivered, and its node is told. -/
def State.tetherEnd (s : State) (n : Nat) (lane : Bool) (d : TCmd) (fault : Option Nat) (word1 : Nat) : State :=
  let s := (s.modStream n fun x => { x.setRunner lane none with done := x.done + 1 }).dropSent n d
  let s := s.deliver d (d.element n (fault.getD 0) word1)
  match d.pusher with
  | some (.slot _ _ g k) => s.nodeCmdEnd g k none
  | some (.node g k) => s.nodeCmdEnd g k fault
  | none => s

/-- A fault ends a command (R404); one of a walk enters the fault table under its key (10 R274) (log 70). -/
def State.tetherFails (s : State) (n : Nat) (lane : Bool) (d : TCmd) (code status addr : Nat) (key : Option WalkKey) : State :=
  (s.hubWalkFault (.tether n) code d.tag status addr key).tetherEnd n lane d (some code) 0

/-! ### What a command sends (R389, R398; 16 R373) -/

/-- What stands at the front of a data packet's payload: the TAG, the number of the command among those of its TAG, and whether it is a SEND's
and carries a check. ARG is the byte offset (log 9). -/
def dataHead (tag nth : Nat) (send check : Bool) : List Byte := toBytes 2 tag ++ toBytes 4 nth ++ toBytes 2 (bitN send + 2 * bitN check)

def TCmd.head (d : TCmd) (nth : Nat) (check : Bool) : List Byte := dataHead d.tagId nth (d.kind == 5) check

/-- The bytes of a check. -/
def checkPayload (p : PeerCheck) : List Byte :=
  toBytes 1 p.kind ++ toBytes 1 p.op ++ toBytes 1 p.fmt ++ p.ext.flatMap (toBytes 2) ++ toBytes 1 p.n ++ p.ranks.flatMap (toBytes 4)

/-- The check that some bytes hold. -/
def checkOf (bs : List Byte) : PeerCheck :=
  let at_ (i n : Nat) : Nat := ofBytes ((bs.drop i).take n)
  { kind := at_ 0 1, op := at_ 1 1, fmt := at_ 2 1, ext := (rangeFrom 0 4).map fun l => at_ (3 + 2 * l) 2, n := at_ 11 1
    ranks := (rangeFrom 0 ((bs.length - 12) / 4)).map fun k => at_ (12 + 4 * k) 4 }

/-- A command that starts sends its check to every peer that awaits it. -/
def State.announce (s : State) (n : Nat) (r : TRun) : State :=
  let d := r.cmd
  (d.awaits.filter (· != localPeer)).foldl (fun s k =>
    s.send d.ctx k d.cls n .data 0 d.num (d.head r.nth true ++ checkPayload (s.ownCheck d))) s

/-- Codes of consecutive elements go to a peer. -/
def State.sendCodes (s : State) (n : Nat) (r : TRun) (peer : Nat) (cs : List (Nat × Nat)) : State :=
  let d := r.cmd
  match cs with
  | [] => s
  | (e, _) :: _ =>
    s.send d.ctx peer d.cls n .data (e * d.width) d.num (d.head r.nth false ++ cs.flatMap fun c => toBytes d.width c.2)

/-- The codes that some bytes hold. -/
def codesOf (w : Nat) : List Nat → List Byte → List (Nat × Nat)
  | [], _ => []
  | e :: t, bs => (e, ofBytes (bs.take w)) :: codesOf w t (bs.drop w)

/-- The pieces of some elements. -/
def TCmd.piecesOf (d : TCmd) (base : Nat) (es : List Nat) : List (Int × Nat) :=
  es.flatMap fun e => pieces 3 (d.elemAt base e : Nat) d.width

/-- Read elements of the local package and go on with their codes. -/
def State.tetherRead (s : State) (d : TCmd) (base : Nat) (es : List Nat) (k : List (Nat × Nat) → State → TStep) : TStep :=
  match s.hits .hub d.tag .read (d.piecesOf base es) with
  | (.ok l, s) => let (bs, s) := s.homeRead none l; k (codesOf d.width es bs) s
  | (.waits, s) => .waits s
  | (.bad code st a key, _) => .bad code st a key

/-- Write elements of the local package and go on; nothing is written where one of them faults. -/
def State.tetherWrite (s : State) (d : TCmd) (cs : List (Nat × Nat)) (k : State → TStep) : TStep :=
  match s.hits .hub d.tag .write (d.piecesOf d.dst (cs.map (·.1))) with
  | (.ok l, s) => k (s.homePut l (cs.flatMap fun c => toBytes d.width c.2))
  | (.waits, s) => .waits s
  | (.bad code st a key, _) => .bad code st a key

/-- The peers by position; the local package is peer 255. -/
def State.positions (s : State) (d : TCmd) : List Nat := (s.ranked d).map (·.2)

/-- What each peer gets of the elements read (R398, R400): those that get any. -/
def State.shares (s : State) (d : TCmd) (cs : List (Nat × Nat)) : List (Nat × List (Nat × Nat)) :=
  let ps := s.positions d
  let own := ps.findIdx (· == localPeer)
  let others := ps.filter (· != localPeer)
  let all : List (Nat × List (Nat × Nat)) := match d.kind with
    | 2 => others.map fun k => (k, cs.filter fun c => (d.chunk (ps.findIdx (· == k)) ps.length).contains c.1)
    | 4 => if d.peerIdx = localPeer then others.map fun k => (k, cs) else []
    | 5 => [(d.peerIdx, cs)]
    | 7 => [(ps.getD ((own + 1) % ps.length) localPeer, cs)]
    | _ => others.map fun k => (k, cs)
  all.filter fun p => p.1 != localPeer && !p.2.isEmpty

/-- The elements read go to the peers that get them. -/
def State.shareOut (s : State) (n : Nat) (r : TRun) (cs : List (Nat × Nat)) : State :=
  (s.shares r.cmd cs).foldl (fun s p => s.sendCodes n r p.1 p.2) s

/-! ### A SEND and a RECV of one package (R401) -/

/-- A RECV that a local SEND matches, and that has started: its stream and its lane. -/
def State.localRecv (s : State) (r : TRun) : Option (Nat × Bool × TRun) :=
  let fits (q : TRun) : Bool :=
    q.cmd.kind == 6 && q.cmd.peerIdx == localPeer && q.cmd.ctx == r.cmd.ctx && q.cmd.tagId == r.cmd.tagId && q.nth == r.nth && q.waited
  (rangeFrom 0 16).findSome? fun n =>
    match (s.stream n).run, (s.stream n).lane with
    | some q, l => if fits q then some (n, false, q) else match l with
      | some q => if fits q then some (n, true, q) else none
      | none => none
    | none, some q => if fits q then some (n, true, q) else none
    | none, none => none

/-- A local SEND gives its RECV what it read. -/
def State.handLocal (s : State) (n : Nat) (lane : Bool) (r : TRun) (cs : List (Nat × Nat)) : State :=
  match s.localRecv r with
  | none => s
  | some (m, l, q) =>
    let mine := s.ownCheck r.cmd
    let its := s.ownCheck q.cmd
    (s.setRun n lane { r with source := some (cs.map (·.2)), checks := [(localPeer, its)] }).setRun m l
      { q with checks := [(localPeer, mine)], received := [(localPeer, cs)] }

/-! ### A command goes on (R390, R398) -/

/-- The elements that a command reads of SRC. -/
def State.sourceElems (s : State) (d : TCmd) : List Nat :=
  let ps := s.positions d
  match d.kind with
  | 3 => d.chunk (ps.findIdx (· == localPeer)) ps.length
  | 4 => if d.peerIdx = localPeer then d.all else []
  | 6 | 8 | 9 => []
  | _ => d.all

/-- ARG of a semaphore operation (log 9). -/
def TCmd.semArg (d : TCmd) : Nat := d.ssem + d.op * 2 ^ 12 + 2 ^ 13 + d.argx * 2 ^ 32

/-- A command past its wait reads its source and sends what its peers need (log 67). -/
def State.tetherGo (s : State) (n : Nat) (lane : Bool) (r : TRun) : TStep :=
  let d := r.cmd
  if r.waited = false then if s.semRefuses d.wsem d.tag then .bad fPERMISSION 0 0 none else .waits s
  else if d.kind = 5 ∧ d.peerIdx ≠ localPeer ∧ (Tab.find r.checks d.peerIdx).isNone = true then .waits s
  else if d.kind = 5 ∧ d.peerIdx = localPeer ∧ (s.localRecv r).isNone = true then .waits s
  else
    s.tetherRead d d.src (s.sourceElems d) fun cs s =>
      if d.kind = 5 ∧ d.peerIdx = localPeer then .moved (s.handLocal n lane r cs)
      else
        let sends := d.kind ≠ 6 ∧ d.kind ≠ 8 ∧ d.kind ≠ 9
        let r' : TRun := { r with source := some (cs.map (·.2)), sentTo := if sends then (s.shares d cs).map (·.1) else [] }
        let s := s.setRun n lane r'
        .moved (if sends then s.shareOut n r' cs
          else if d.kind = 9 ∧ d.peerIdx ≠ localPeer then s.send d.ctx d.peerIdx d.cls n .release d.semArg d.num []
          else s)

/-! ### What is written (R395-R398, R400) -/

/-- The code that a peer has sent of an element. -/
def TRun.codeOf (r : TRun) (peer e : Nat) : Option Nat := (Tab.find r.received peer).bind fun l => Tab.find l e

/-- The local code of an element that was read. -/
def State.ownCode (s : State) (r : TRun) (e : Nat) : Option Nat :=
  match r.source with
  | some l => l[(s.sourceElems r.cmd).findIdx (· == e)]?
  | none => none

/-- The code of an element at a peer, the local package included. -/
def State.codeAt (s : State) (r : TRun) (peer e : Nat) : Option Nat := if peer = localPeer then s.ownCode r e else r.codeOf peer e

/-- The elements that a command writes of DST, each with the peers whose codes it needs. -/
def State.needs (s : State) (d : TCmd) : List (Nat × List Nat) :=
  let ps := s.positions d
  let own := ps.findIdx (· == localPeer)
  match d.kind with
  | 1 => d.all.map fun e => (e, ps)
  | 2 => (d.chunk own ps.length).map fun e => (e, ps)
  | 3 => d.all.map fun e => (e, [ps.getD (d.chunkOf ps.length e) localPeer])
  | 4 => if d.peerIdx = localPeer then [] else d.all.map fun e => (e, [d.peerIdx])
  | 6 => d.all.map fun e => (e, [d.peerIdx])
  | 7 => d.all.map fun e => (e, [ps.getD ((own + ps.length - 1) % ps.length) localPeer])
  | _ => []

/-- Every code that a command needs is there. -/
def State.gathered (s : State) (r : TRun) : Bool :=
  (s.needs r.cmd).all fun p => p.2.all fun k =>
    if k = localPeer ∧ r.cmd.kind ≠ 6 then (s.ownCode r p.1).isSome else (r.codeOf k p.1).isSome

/-- Bytes that a command reads of SRC lie where it writes DST. -/
def State.sidesOverlap (s : State) (d : TCmd) : Bool :=
  d.kind != 4 && (s.sourceElems d).any fun e => (s.needs d).any fun p => overlaps (d.elemAt d.src e) d.width (d.elemAt d.dst p.1) d.width

/-- Free codes for some elements (log 2). -/
def State.freeCodes (s : State) (w : Nat) : List Nat → List (Nat × Nat) × State
  | [] => ([], s)
  | e :: t =>
    let (v, s) := s.takeFree
    let (l, s) := s.freeCodes w t
    ((e, v % 2 ^ (8 * w)) :: l, s)

/-- The codes that a command writes, from the codes it has gathered and, for a RING, the old ones (log 69). -/
def State.results (s : State) (r : TRun) (old : List (Nat × Nat)) : List (Nat × Nat) :=
  let d := r.cmd
  let ps := s.positions d
  (s.needs d).map fun p =>
    let e := p.1
    let from_ (k : Nat) : Nat := if k = localPeer ∧ d.kind ≠ 6 then (s.ownCode r e).getD 0 else (r.codeOf k e).getD 0
    (e, match d.kind with
      | 1 | 2 => d.output r.key e (d.reduce ps.length e fun q => d.valueOf (from_ (ps.getD q localPeer)))
      | 7 =>
        let c := from_ (p.2.headD localPeer)
        if d.op = 3 then c else d.output r.key e (d.combine (d.valueOf c) (d.valueOf (Tab.get 0 old e)))
      | _ => from_ (p.2.headD localPeer))

/-- Go on with the codes to write. -/
def State.withResults (s : State) (r : TRun) (k : List (Nat × Nat) → State → TStep) : TStep :=
  let d := r.cmd
  let es := (s.needs d).map (·.1)
  if s.sidesOverlap d then let (l, s) := s.freeCodes d.width es; k l s
  else if s.inSwitch d then
    let (l, s) := s.freeCodes 4 es
    k (l.map fun p => (p.1, d.output r.key p.1 p.2)) s
  else if d.kind = 7 ∧ d.op ≠ 3 then s.tetherRead d d.dst es fun old s => k (s.results r old) s
  else k (s.results r []) s

/-! ### Completion (R391, R398, R402, R405) -/

/-- The semaphore of SETEN is set, as a release, and the command ends (log 67). -/
def State.tetherDone (s : State) (n : Nat) (lane : Bool) (r : TRun) (word1 : Nat) (k : State → State) : TStep :=
  let d := r.cmd
  if d.setEn = true ∧ s.semRefuses d.ssem d.tag = true then .bad fPERMISSION 0 0 none
  else .moved (k ((if d.setEn then s.semAdd d.ssem d.tag 1 else s).tetherEnd n lane d none word1))

/-- A kind that completes only when its packets have been acknowledged (R398). -/
def TCmd.needsAcks (d : TCmd) : Bool :=
  d.kind == 1 || d.kind == 2 || d.kind == 3 || d.kind == 5 || d.kind == 7 || d.kind == 9 || (d.kind == 4 && d.peerIdx == localPeer)

/-- A command that has written completes once its packets have been acknowledged: whether they have is a free value (log 68). -/
def State.tetherSettle (s : State) (n : Nat) (lane : Bool) (r : TRun) (word1 : Nat) (k : State → State) : TStep :=
  let d := r.cmd
  if d.needsAcks && s.hub.sent.any (d.sent n) then
    let (v, s) := s.takeFree
    if v % 2 = 0 then .waits s else (s.dropSent n d).tetherDone n lane r word1 k
  else s.tetherDone n lane r word1 k

/-- The peers that received data of a command get a release (R391). -/
def State.releaseTo (s : State) (n : Nat) (r : TRun) : State :=
  r.sentTo.foldl (fun s k => s.send r.cmd.ctx k r.cmd.cls n .release 0 r.cmd.num []) s

/-- A local SEMOP (R402); word 1 is the value it leaves. -/
def State.localSemop (s : State) (n : Nat) (lane : Bool) (r : TRun) : TStep :=
  let d := r.cmd
  if s.semRefuses d.ssem d.tag then .bad fPERMISSION 0 0 none
  else
    let v : BitVec 32 := if d.op = 1 then BitVec.ofNat 32 d.argx else (s.sem d.ssem).value + BitVec.ofNat 32 d.argx
    (s.semPut d.ssem v).tetherDone n lane r v.toNat id

/-- A TRIG parks its wrapped command, once its stream's table has room (R405). -/
def State.parkWrapped (s : State) (n : Nat) (lane : Bool) (r : TRun) (w : TCmd) : TStep :=
  if 8 ≤ (s.stream n).parked.length then .waits s
  else s.tetherDone n lane r 0 fun s =>
    s.modStream n fun x => { x with parked := x.parked ++ [⟨w, BitVec.ofNat 64 r.cmd.time⟩] }

/-- A TRIG reads its wrapped command and checks it, once, and parks it (R405): every failing check raises ILLEGAL. -/
def State.park (s : State) (n : Nat) (lane : Bool) (r : TRun) : TStep :=
  let d := r.cmd
  match r.wrapped with
  | some w => s.parkWrapped n lane r w
  | none =>
    match s.hubRead d.tag d.src 64 with
    | (.waits, s) => .waits s
    | (.bad code st a key, _) => .bad code st a key
    | (.ok bs, s) =>
      let w : TCmd :=
        { num := 0, bytes := BitVec.ofNat 512 (ofBytes bs), tag := d.tag, cls := d.cls, pusher := none, started := 0, relReq := 0, relCmd := 0 }
      match (if w.kind = 8 then some (fILLEGAL, d.src) else s.tetherCheck w) with
      | some (_, addr) => .bad fILLEGAL 0 addr none
      | none =>
        let r' : TRun := { r with wrapped := some w }
        (s.setRun n lane r').parkWrapped n lane r' w

/-- A command that has read its source writes, once all that it awaits has come, and completes. -/
def State.tetherFinish (s : State) (n : Nat) (lane : Bool) (r : TRun) : TStep :=
  let d := r.cmd
  match d.kind with
  | 8 => s.park n lane r
  | 9 => if d.peerIdx = localPeer then s.localSemop n lane r else s.tetherSettle n lane r 0 id
  | _ =>
    let settle (s : State) (r : TRun) : TStep := s.tetherSettle n lane r (if d.kind = 6 then d.count else 0) fun s => s.releaseTo n r
    if r.written then settle s r
    else if d.awaits.all (fun k => (Tab.find r.checks k).isSome) = false then .waits s
    else if s.inSwitch d = false ∧ s.gathered r = false then .waits s
    else
      s.withResults r fun cs s =>
        s.tetherWrite d cs fun s =>
          let r' : TRun := { r with written := true }
          settle (s.setRun n lane r') r'

/-- What the running command of a lane comes to now. -/
def State.tetherNext (s : State) (n : Nat) (lane : Bool) (r : TRun) : TStep :=
  if r.checks.any (fun p => !checksAgree (s.ownCheck r.cmd) p.2) then .bad fILLEGAL 0 0 none
  else if r.source.isNone then s.tetherGo n lane r
  else s.tetherFinish n lane r

/-- The command of a lane goes on, as far as it can. -/
def State.tetherAdvance (s : State) (n : Nat) (lane : Bool) : State :=
  match (s.stream n).runner lane with
  | none => s
  | some r =>
    match s.tetherNext n lane r with
    | .moved t => t
    | .waits t => t
    | .bad _ _ _ _ => s

/-! ### Starting (R382, R388, R389, R397) -/

/-- The count of commands that a command belongs to (logs 66 and 67). -/
def TCmd.counter (d : TCmd) : Nat := countKey (if d.collective then 0 else d.kind * 256 + d.peerIdx) d.ctx d.tagId

/-- A command reaches the head of its stream: its number among those of its TAG (log 67). -/
def State.countCmd (s : State) (n : Nat) (d : TCmd) : Nat × State :=
  if d.collective ∨ d.kind = 5 ∨ d.kind = 6 then
    let m := if d.collective then n else 0
    let v := Tab.get 0 (s.stream m).counts d.counter
    (v, s.modStream m fun x => { x with counts := x.counts.put d.counter (v + 1) })
  else (0, s)

/-- A refused offload is recorded. -/
def State.noteRefusal (s : State) (n : Nat) (d : TCmd) : State :=
  match s.offloadRefusal d with
  | none => s
  | some k =>
    (s.modStream n fun x => { x with refoff := BitVec.ofNat 16 (min 65535 (x.refoff.toNat + 1)) }).writeEvent
      (s.unitRecord 0x87 (.tether n) (some d.tag) (d.tagId + k * 2 ^ 16) 0 0)

/-- A command starts, once it need not wait: its peers get its check, and it goes on as far as it can (R389, R390, R401). -/
def State.tetherStart (s : State) (n : Nat) (lane : Bool) (r : TRun) : State :=
  if r.waited then (s.announce n r).tetherAdvance n lane else s

/-- A command reaches a lane: it is numbered and checked, and starts or waits. -/
def State.tetherBegin (s : State) (n : Nat) (lane : Bool) (d : TCmd) : State :=
  let d : TCmd := { d with num := (s.stream n).cmdNum }
  let s := s.modStream n fun x => { x with cmdNum := x.cmdNum + 1 }
  let (nth, s) := s.countCmd n d
  match s.tetherCheck d with
  | some (code, addr) => s.tetherFails n lane d code d.tagId addr none
  | none =>
    let r : TRun :=
      { cmd := d, key := (s.ctx d.ctx).image.key, waited := !d.waitEn, nth := nth, checks := [], source := none, sentTo := [], written := false
        wrapped := none, received := [], took := [] }
    ((s.setRun n lane r).noteRefusal n d).tetherStart n lane r

/-- The commands that may enter a stream next: the oldest that a node pushed, and the oldest of each core's queue whose releases have
performed, by core. -/
def State.entrants (s : State) (n : Nat) : List (Option Nat) :=
  (if (s.stream n).queue.isEmpty then [] else [none])
    ++ (s.cores.filter fun p => p.2.cqStream.toNat == n && match p.2.commq with
        | c :: _ => (s.slot c.slot).releasedBefore c.cls c.relReq c.relCmd || !s.live c.tag
        | [] => false).map fun p => some p.1

/-- The command that an entrant gives, which leaves its queue. -/
def State.takeEntrant (s : State) (n : Nat) : Option Nat → Option (TCmd × State)
  | none =>
    match (s.stream n).queue with
    | d :: t => some (d, s.modStream n fun x => { x with queue := t })
    | [] => none
  | some core =>
    match (s.core core).commq with
    | c :: t =>
      let d : TCmd :=
        { num := 0, bytes := c.bytes, tag := c.tag, cls := c.cls, pusher := some (.slot c.slot c.word c.graph c.node), started := c.started
          relReq := c.relReq, relCmd := c.relCmd }
      some (d, s.modCore core fun k => { k with commq := t })
    | [] => none

/-- TETHER_COMMAND_START (R388), at a stream. Which of the commands that stand ready arrived first is a free value. -/
def execTetherCommandStart (s : State) : Out :=
  .next (
    let n := s.cur
    if (s.stream n).run.isSome then s
    else
      let es := s.entrants n
      let (v, t) := if es.length ≤ 1 then (0, s) else s.takeFree
      match t.takeEntrant n (es.getD (v % max 1 es.length) none) with
      | none => s
      | some (d, t) => if t.live d.tag then t.tetherBegin n false d else t.countStale d.ctx 1)

/-- COLLECTIVE_NODE_PUSH (13 R318), at a graph. -/
def execCollectiveNodePush (k : Nat) (s : State) : Out :=
  .next (
    let g := s.cur
    if s.canTake g k 3 = false then s
    else
      match s.nodeAt g k with
      | none => s
      | some y =>
        let tag := s.graphTag g
        let a1 := nodeArg y.raw.toNat 1
        match s.hubRead tag (nodeArg y.raw.toNat 0) 64 with
        | (.waits, s) => s
        | (.bad c st a key, s) => s.nodeWalkFault g k c st a key
        | (.ok bs, s) =>
          let d : TCmd :=
            { num := 0, bytes := BitVec.ofNat 512 (ofBytes bs), tag := tag, cls := field a1 7 4, pusher := some (.node g k), started := 0
              relReq := 0, relCmd := 0 }
          let s := s.modStream (field a1 3 0) fun x => { x with queue := x.queue ++ [d] }
          (s.modNode g k fun y => { y with phase := .issued }).graphBusy g)

/-! ### Steps of a running command (R389-R391, R404) -/

/-- TETHER_WAIT_SATISFIED (R390), at a stream. -/
def execTetherWaitSatisfied (lane : Bool) (s : State) : Out :=
  .next (
    let n := s.cur
    match (s.stream n).runner lane with
    | none => s
    | some r =>
      let d := r.cmd
      if r.waited = false ∧ s.semRefuses d.wsem d.tag = false ∧ ((s.sem d.wsem).value - BitVec.ofNat 32 d.wval).toNat < 2 ^ 31 then
        (s.setRun n lane { r with waited := true }).tetherStart n lane { r with waited := true }
      else s)

/-- TETHER_COMMAND_COMPLETE (R391), at a stream: the command goes on, and completes once it can. -/
def execTetherCommandComplete (lane : Bool) (s : State) : Out := .next (s.tetherAdvance s.cur lane)

/-- TETHER_FAULT (R404), at a stream whose command meets a fault (log 70). -/
def execTetherFault (lane : Bool) (s : State) : Out :=
  .next (
    let n := s.cur
    match (s.stream n).runner lane with
    | none => s
    | some r =>
      match s.tetherNext n lane r with
      | .bad code st addr walk => s.tetherFails n lane r.cmd code (r.cmd.status code st walk.isSome) addr walk
      | _ => s)

/-! ### Parked commands (R406) -/

/-- The parked command of a stream that may fire: the least TIME, and of equal ones the one that parked first. -/
def State.mayFire (s : State) (n : Nat) : Option Parked :=
  if (s.stream n).lane.isSome then none
  else
    ((s.stream n).parked.filter fun p => decide (p.time ≤ s.wallTime) && s.resident p.cmd.ctx).foldl
      (fun (m : Option Parked) p => match m with
        | none => some p
        | some q => if p.time < q.time then some p else some q) none

/-- TRIGGER_FIRE (R406), at a stream. -/
def execTriggerFire (s : State) : Out :=
  .next (
    let n := s.cur
    match s.mayFire n with
    | none => s
    | some p =>
      let late := (s.wallTime - p.time).toNat
      let s := s.modStream n fun x => { x with parked := dropFirst (· == p) x.parked }
      let s :=
        if late ≤ 1024 then s
        else
          (s.modStream n fun x => { x with late := BitVec.ofNat 16 (min 65535 (x.late.toNat + 1)) }).writeEvent
            (s.unitRecord 0x86 (.tether n) (some p.cmd.tag) p.cmd.tagId 0 late)
      if s.live p.cmd.tag then s.tetherBegin n true p.cmd else s.countStale p.cmd.ctx 1)

/-! ### The registers of a stream (R383) -/

/-- STATE of a stream. -/
def State.streamState (s : State) (n : Nat) : Nat :=
  match (s.stream n).run with
  | none => 0
  | some r =>
    if r.waited = false then 2
    else if r.cmd.awaits.any (fun k => (Tab.find r.checks k).isNone) then 3
    else 1

/-! ### Packets (R401, R403; 16 R374-R376) -/

/-- The running command of a context that a data packet is for: its stream and its lane. `kind` is the kind of the sender's command, where it
is known. A SEND's packets go to a RECV, and those of a RECV to a SEND, on whatever stream (R401). -/
def State.dataTarget (s : State) (c : Nat) (p : Arrival) (kind : Nat) : Option (Nat × Bool) :=
  let fits (q : TRun) : Bool :=
    q.cmd.ctx == c && q.cmd.tagId == p.tagId && q.nth % 2 ^ 32 == p.nth
    && (if kind = 5 then q.cmd.kind == 6 && q.cmd.peerIdx == p.peer
        else if kind = 6 then q.cmd.kind == 5 && q.cmd.peerIdx == p.peer
        else q.cmd.collective && q.cmd.mask.getLsbD p.peer)
  (if kind = 5 ∨ kind = 6 then rangeFrom 0 16 else [p.stream]).findSome? fun n =>
    if (s.stream n).run.any fits then some (n, false) else if (s.stream n).lane.any fits then some (n, true) else none

/-- A peer's check reaches the command that it is for (R389, R401). A check that differs faults the command next. One for which no command
stands is left to its sender's retry. -/
def State.checkArrives (s : State) (c : Nat) (p : Arrival) : State :=
  let check := checkOf p.data
  match s.dataTarget c p check.kind with
  | none => s
  | some (n, lane) =>
    match (s.stream n).runner lane with
    | none => s
    | some r =>
      if r.cmd.awaits.contains p.peer = false ∨ (Tab.find r.checks p.peer).isSome = true then s
      else
        let t := s.setRun n lane { r with checks := Tab.put r.checks p.peer check }
        if checksAgree (s.ownCheck r.cmd) check then t.tetherAdvance n lane
        else { t with agenda := .event n (.tetherFault lane) :: t.agenda }

/-- PEER_CHECK_ARRIVAL (R389, R401), at a port: a data packet that carries a check. -/
def execPeerCheckArrival (port : Nat) (auth : Bool × Bool) (body : BitVec 128 × List Byte) (s : State) : Out :=
  let p : Arrival := ⟨port, auth.1, auth.2, body.1, body.2⟩
  .next (s.receive p .data id fun c s => if p.isCheck then s.checkArrives c p else s)

/-- A run with codes of a peer. -/
def TRun.take (r : TRun) (p : Arrival) (cs : List (Nat × Nat)) : TRun :=
  { r with
    received := Tab.put r.received p.peer (cs.foldl (fun t c => Tab.put t c.1 c.2) (Tab.get [] r.received p.peer))
    took := if r.took.contains (p.peer, p.stream, p.cls) then r.took else (p.peer, p.stream, p.cls) :: r.took }

/-- PACKET_DATA (16 R374, R375): the codes reach the command that they are for; with none, the packet is left to its sender's retry. -/
def execPacketData (p : Arrival) (s : State) : Out :=
  .next (s.receive p .data id fun c s =>
    if p.isCheck then s.checkArrives c p
    else
    match s.dataTarget c p (if p.isSend then 5 else 1) with
    | none => s
    | some (n, lane) =>
      match (s.stream n).runner lane with
      | none => s
      | some r =>
        let w := r.cmd.width
        let off := p.arg
        if off % w ≠ 0 ∨ p.data.length % w ≠ 0 ∨ r.cmd.count * w < off + p.data.length then s
        else
          let es := rangeFrom (off / w) (p.data.length / w)
          (s.setRun n lane (r.take p (codesOf w es p.data))).tetherAdvance n lane)

/-- Data of a sender's stream and class wait to be written by a command of a context (16 R375). -/
def State.dataWaits (s : State) (c : Nat) (p : Arrival) : Bool :=
  let held (r : TRun) : Bool := r.cmd.ctx == c && !r.written && r.took.contains (p.peer, p.stream, p.cls)
  s.hub.streams.any fun x => x.2.run.any held || x.2.lane.any held

/-- PACKET_RELEASE (16 R375; 17 R402, R403): once the earlier packets of its sender, stream and class have performed, a semaphore operation is
performed, or is refused and counted. Until then it is left to its sender's retry. -/
def execPacketRelease (p : Arrival) (s : State) : Out :=
  .next (s.receive p .release id fun c t =>
    if bitAt p.arg 13 = false ∨ t.dataWaits c p = true then t
    else
      let m := field p.arg 11 0
      let x := field p.arg 63 32
      if t.semRefuses m (t.tagOf c) then t.modStream p.stream fun x => { x with semref := satAdd32 x.semref 1 }
      else t.semPut m (if bitAt p.arg 12 then BitVec.ofNat 32 x else (t.sem m).value + BitVec.ofNat 32 x))

/-- FENCE_REQUEST_PACKET (15 R355; 16 R374): the fence is confirmed once nothing of the job with another incarnation is left, and at once
where the job has no context. -/
def execFenceRequestPacket (p : Arrival) (s : State) : Out :=
  .next (s.receive p .fenceReq
    (fun s =>
      let (src, s) := s.takeFree
      s.modHub fun h =>
        { h with sent := h.sent ++ [{ ctx := 4096, peer := p.peer, job := BitVec.ofNat 32 p.job, src := src % 256, inc := BitVec.ofNat 6 p.arg
                                      cls := 0, stream := 0, kind := .fenceConfirm, arg := p.arg, cmd := 0, payload := [], frames := 0 }] })
    fun c s => if s.fenceClear c (p.arg % 64) then s.send c p.peer 0 0 .fenceConfirm p.arg 0 [] else s)

/-- FENCE_CONFIRM_PACKET (15 R355). -/
def execFenceConfirmPacket (p : Arrival) (s : State) : Out :=
  .next (s.receive p .fenceConfirm id fun c s =>
    match (s.ctx c).rclf with
    | none => s
    | some f =>
      if f.inc.toNat ≠ p.arg then s
      else
        (s.modCtx c fun x => { x with rclf := some { f with waiting := f.waiting.filter (· != p.peer) } }).dropFencePackets c
          (· == p.peer))

/-- The command that a packet belongs to, if it still runs: its lane. -/
def State.packetCmd (s : State) (p : Packet) : Option (Bool × TRun) :=
  let mine (r : TRun) : Bool := r.cmd.num == p.cmd
  match (s.stream p.stream).run.filter mine, (s.stream p.stream).lane.filter mine with
  | some r, _ => some (false, r)
  | none, some r => some (true, r)
  | none, none => none

/-- A packet has gone unacknowledged for too long: LINK at the stream or the unit that sent it, or the end of the wait of a fence (log 68). -/
def State.expire (s : State) (p : Packet) : State :=
  let tag := mkTag p.ctx p.inc.toNat
  let (st, s) := s.peerStatus p.ctx p.peer
  match p.kind with
  | .fenceReq => (s.modCtx p.ctx fun x => { x with rclf := x.rclf.map fun f => { f with lostPeer := true } }).hubFault .hub fLINK tag st 0
  | .fenceConfirm => if p.ctx < 4096 then s.hubFault .hub fLINK tag st 0 else s
  | .barrierDone => s.hubFault .hub fLINK tag st 0
  | .barrierBreak => s.hubFault .hub fLINK tag st 0
  | _ =>
    match s.packetCmd p with
    | some (lane, r) => s.tetherFails p.stream lane r.cmd fLINK st 0 none
    | none => s.hubFault (.tether p.stream) fLINK tag st 0

/-- PACKET_RETRY_EXPIRY (16 R376), of the k-th packet that is not acknowledged. The packets of the same unit for the peer go with it (log 68). -/
def execPacketRetryExpiry (k : Nat) (s : State) : Out :=
  .next (
    match s.hub.sent[k]? with
    | none => s
    | some p =>
      if p.frames < retryFrames ∧ s.unreachable p.ctx p.peer = false then s
      else
        let s := s.modHub fun h =>
          { h with sent := h.sent.filter fun q =>
              !(q.ctx == p.ctx && q.peer == p.peer && q.stream == p.stream && (q.kind == p.kind || (q.kind == .data && p.kind == .release)
                || (q.kind == .release && p.kind == .data))) }
        s.expire p)

end Sys2Proof.Machine
end

