-- ==== Sys2Proof/Machine/Trap.lean ====
section
/-!
DEFINITION. Sys2Proof/Machine/Trap.lean: the return from a fatal record, resumed or aborted (18 R412, R413, R459; 10 R274), the control of the
rings (18 R410), the writing of waiting records (18 R411), and the trace buffer's trigger (18 R419).
-/

namespace Sys2Proof.Machine

/-! ### Going on (R409, R413, R459) -/

/-- What an activation held at its fault is made again: its accesses are walked afresh, and its stopped commands start at their cursors (log 26). -/
def Slot.goesOn (sl : Slot) : Slot :=
  let again (c : StreamCmd) : StreamCmd := { c with stopped := none }
  { sl with
    stop := none
    seq := { sl.seq with reqs := sl.seq.reqs.map fun r => if r.stage = .faulted then { r with stage := .walk } else r }
    asy := { sl.asy with loads := sl.asy.loads.map again, stores := sl.asy.stores.map again } }

/-- A stopped activation continues; after a BRK, past the word. -/
def State.resumeSlot (s : State) (slot : Nat) : State :=
  let brk := (s.slot slot).stop.any fun (t : Stop) => t.code == fBREAKPOINT
  let s := s.modSlot slot Slot.goesOn
  if brk then ((s.modCounter slot .S fun c => c.atCycle s.now).markIssued slot .S).leave slot .S else s

/-! ### A final stop (R413) -/

/-- A stream command of an activation whose stop is final: the bytes past its cursor are discarded, and a command with nothing on the way is
gone (log 76). -/
def StreamCmd.cutShort (c : StreamCmd) : Option StreamCmd :=
  if c.stopped.isNone then some c
  else if c.flying.isEmpty ∨ c.kind = .smcast ∨ c.kind = .sput then none
  else some { c with next := c.total }

/-- The first position at which a final stop of a slot cuts a stream command short: no signal behind it is made (08 R205, R215). -/
def AsyState.cutPos (a : AsyState) : Option Nat :=
  ((a.loads ++ a.stores).filter fun c => c.stopped.isSome).foldl (fun m c => some (min c.pos (m.getD c.pos))) none

/-- The access is discarded: it has faulted, or is held behind one that has (log 76). -/
def SeqState.discards (q : SeqState) (r : GReq) : Bool :=
  r.stage == .faulted || (r.stage == .walk && q.reqs.any fun x => x.stage == .faulted && x.cls == r.cls && decide (x.num < r.num))

/-- What a final stop discards at a slot (log 76). -/
def Slot.stopsForGood (sl : Slot) : Slot :=
  let gone := (sl.seq.reqs.filter fun r => sl.seq.discards r && !r.isStore).map fun r => RegRef.g r.reg
  { sl with
    stop := sl.stop.map fun (t : Stop) => { t with final := true }
    mat := { sl.mat with buf := [] }
    seq := { sl.seq with
      sleep := none, reqs := sl.seq.reqs.filter fun r => !sl.seq.discards r, locks := sl.seq.locks.filter fun r => !gone.contains r }
    signals := (sl.signals.filter fun g => !(g.eng == .A && sl.asy.cutPos.any fun p => decide (p < g.pos))).map fun g =>
      if g.eng = .S then { g with regs := g.regs.filter fun r => !gone.contains r } else g
    asy := { sl.asy with loads := sl.asy.loads.filterMap StreamCmd.cutShort, stores := sl.asy.stores.filterMap StreamCmd.cutShort } }

/-- The barriers of which a slot is a member. -/
def State.barriersOf (s : State) (slot : Nat) : List Nat := (s.hub.barriers.filter fun p => p.2.members.contains slot).map (·.1)

/-- The node of a slot fails (13 R317): it takes no further tile. -/
def State.failNode (s : State) (slot code : Nat) : State :=
  s.modNode (s.slot slot).act.graph (s.slot slot).act.node fun y =>
    { y with fail := some (y.fail.getD code), phase := if y.phase = .dispatching then .draining else y.phase }

/-- The stop of an activation is final: its node fails, its barriers break, and with KILLF its context is killed. -/
def State.endSlot (s : State) (slot : Nat) : State :=
  let code := ((s.slot slot).stop.map (·.code)).getD 0
  let s := s.modSlot slot Slot.stopsForGood
  let s := s.modHub fun h => { h with queues := h.queues.map fun (k, q) => (k, { q with sleepers := q.sleepers.filter (· != slot) }) }
  let s := s.failNode slot code
  let s := (s.barriersOf slot).foldl (fun s b => s.breakBarrier b 2) s
  if s.hub.traps.trap.killf then s.killCtx (ctxOf (s.slot slot).act.inctag) 3 else s

/-! ### Resolution (R413; 08 R224, R225; 10 R274) -/

/-- The slots that a record holds. -/
def State.heldBy (s : State) (id : Nat) : List Nat := (s.slots.filter fun p => p.2.stop.any fun (t : Stop) => t.id == id && !t.final).map (·.1)

/-- The winch commands that a record holds go on from their cursors. -/
def State.resumeWinches (s : State) (id : Nat) : State :=
  { s with winches := s.winches.map fun (k, x) =>
      (k, { x with queue := x.queue.map fun c =>
        if c.stage = .held ∧ c.fault = some id then { c with stage := .resumed, fault := none } else c }) }

/-- A record is resolved: it leaves the table, and its walk may be made again. -/
def State.resolve (s : State) (f : FaultEntry) : State :=
  s.modTraps fun t =>
    { t with table := t.table.filter fun g => g.id != f.id, walks := t.walks.filter fun k => f.walk != some k }

/-- Every agent that a record holds goes on. -/
def State.goOn (s : State) (f : FaultEntry) : State :=
  let s := s.resolve f
  ((s.heldBy f.id).foldl State.resumeSlot s).resumeWinches f.id

/-- A final stop of a winch command ends it; of a context that is not resident, at the switch-in. -/
def State.abortWinch (s : State) (w num code : Nat) : State :=
  match (s.winch w).queue.find? fun c => c.num == num with
  | none => s
  | some c =>
    if s.resident (ctxOf c.tag) then s.endWinchCmd w num (some code)
    else s.modWCmd w num fun c => { c with stage := .aborting, fault := some code }

/-- The stop of a record's own agent becomes final; the agents that joined its fault go on (log 76). -/
def State.abort (s : State) (f : FaultEntry) : State :=
  let s := match f.winchCmd with
    | some (w, num) => s.abortWinch w num f.body.code
    | none => s
  let s := match f.body.who with
    | .slot n _ => if (s.slot n).stop.any (fun (t : Stop) => t.id == f.id && !t.final) then s.endSlot n else s
    | _ => s
  s.goOn f

/-- The records that have been written and end at their writing, as if by ABORT (R413). -/
def State.endWritten (s : State) : State :=
  (s.hub.traps.table.filter fun f => f.seq.isSome && f.endsAtWriting).foldl State.abort s

/-- The pending record of a SEQ. -/
def State.pendingRecord (s : State) (seq : BitVec 16) : Option FaultEntry :=
  s.hub.traps.table.find? fun f => f.seq == some seq.toNat && f.body.pending && !f.resolved

/-- A write of FRES (R410, R413). -/
def State.resolveSeq (s : State) (seq : BitVec 16) (resume : Bool) : State :=
  match s.pendingRecord seq with
  | none => s
  | some f => if resume && resumableCode f.body.code f.walk.isSome then s.goOn f else s.abort f

/-- FRES_RESUME and FRES_ABORT (R413). -/
def execFresResume (seq : BitVec 16) (s : State) : Out := .next (s.resolveSeq seq true)
def execFresAbort (seq : BitVec 16) (s : State) : Out := .next (s.resolveSeq seq false)

/-! ### Rings (R410, R411) -/

/-- A ring after a write of its control register. -/
def Ring.control (r : Ring) (event : Bool) (v : BitVec 64) : Ring :=
  let x := v.toNat
  let n := field x 20 16
  let en := bitAt x 0
  if r.en then { r with en := en }
  else if n < 6 ∨ 16 < n ∨ (en = true ∧ (r.base.toNat % 4096 ≠ 0 ∨ r.base.toNat % (64 * 2 ^ n) ≠ 0)) then r
  else
    { r with
      vector := BitVec.ofNat 11 (field x 42 32), log2n := BitVec.ofNat 5 n, killf := !event && bitAt x 2, intr := bitAt x 1, en := en }

/-- TRAP_RING_CONTROL_WRITE (R410). -/
def execTrapRingControlWrite (event : Bool) (v : BitVec 64) (s : State) : Out :=
  .next (s.modTraps fun t => if event then { t with event := t.event.control event v } else { t with trap := t.trap.control event v })

/-- FAULT_TABLE_RECORD_WRITE (R411) (log 25). -/
def execFaultTableRecordWrite (s : State) : Out := .next s.writeFirst.endWritten

/-! ### The trace buffer (R419) -/

/-- TRACE_TRIGGER (R419), at a core, by a slot of it that has met the condition: a TRIG entry is written, and POST further words are
to come (log 18). -/
def execTraceTrigger (side : Nat) (s : State) : Out :=
  .next (
    let core := s.cur
    let slot := 2 * core + side % 2
    let sl := s.slot slot
    let t := (s.core core).trace
    if t.hit ≠ some (side % 2) ∨ t.frozen = true ∨ t.post.isSome = true then s
    else
      let words := traceWords (traceHead 12 side .S (sl.counter .S).word t.tkind.toNat) (sl.traceMode .S) none s.stamp
      let run : TraceRun := ⟨slot, t.tkind.toNat, sl.act.inctag, t.postCfg.toNat⟩
      s.modCore core fun c => { c with trace := { words.foldl Trace.push t with hit := none, post := some run } })

/-- TRACEFREEZE (R419), at a core whose buffer has written the words that follow its trigger. -/
def execTracefreeze (s : State) : Out :=
  .next (
    let core := s.cur
    let t := (s.core core).trace
    match t.post with
    | some r =>
      if t.frozen = true ∨ r.left ≠ 0 then s
      else
        (s.modCore core fun c => { c with trace := { t with frozen := true, post := none } }).writeEvent
          (s.unitRecord 0x8A (.slot r.slot .S) (some r.tag) (r.kind + core % 256 * 2 ^ 8) 0 t.ptr)
    | none => s)

/-- An item of a core reaches its buffer: its words are written, and the trigger may be met, by it or by a wrap (R419). -/
def Trace.take (t : Trace) (i : TraceItem) : Trace :=
  let u := i.words.foldl Trace.push t
  let wrap := decide (u.ptr < t.ptr)
  let met := t.tkind != 0 && ((i.hit != 0 && t.tkind.toNat == i.hit) || (wrap && t.tkind == 4))
  if met && t.watches i.side && !t.frozen && t.post.isNone then { u with hit := some i.side } else u

/-- The items of a cycle in the order of R417: slot A before B, and then by engine; those of one engine as they came. -/
def traceOrder (q : List TraceItem) : List TraceItem :=
  [0, 1].flatMap fun side => [Engine.S, .V, .M, .A].flatMap fun e => q.filter fun i => i.side == side && i.eng == e

/-- What a step of the trace buffer at a core leaves. -/
def State.traceStep (s : State) (core : Nat) (f : State → Out) : State :=
  match f { s with cur := core } with
  | .next t => { t with cur := s.cur }
  | _ => s

/-- The end of a cycle writes a core's items; a trigger that is met, and the freeze after it, come between them (R417, R419). -/
def State.traceFlush (core : Nat) (s : State) : State :=
  let q := traceOrder (s.core core).trace.queue
  let s := s.modCore core fun c => { c with trace := { c.trace with queue := [] } }
  q.foldl (fun s i =>
    let s := s.modCore core fun c => { c with trace := c.trace.take i }
    (s.traceStep core (execTraceTrigger i.side)).traceStep core execTracefreeze) s

/-- A DUMP of a core's buffer. -/
def State.traceDump (s : State) (core : Nat) : State :=
  let t := (s.core core).trace
  s.physWrite t.tbaddr.toNat ((rangeFrom 0 8192).flatMap fun i => toBytes 8 (Tab.get 0 t.words i).toNat)

/-- A REARM of a core's buffer. -/
def State.traceRearm (s : State) (core : Nat) : State :=
  s.modCore core fun c => { c with trace := { c.trace with words := [], ptr := 0, frozen := false, hit := none, post := none } }

/-- TRACE_DUMP and TRACE_REARM (R419), at a core. -/
def execTraceDump (s : State) : Out := .next (s.traceDump s.cur)
def execTraceRearm (s : State) : Out := .next (s.traceRearm s.cur)

end Sys2Proof.Machine
end

