-- ==== Sys2Proof/Machine/Link.lean ====
section
/-!
DEFINITION. Sys2Proof/Machine/Link.lean: the states of links and the loss of a die (16 R362-R366), requests of the host and of drives through BAR2
(16 R367, R369), path delay (16 R376) and the wall counter (16 R380, R381).
-/

namespace Sys2Proof.Machine

/-! ### Links (R362, R364) -/

/-- The full width of a link, and the least width for Degraded. -/
def fullWidth (l : Nat) : Nat := if l < 8 then 2 else if l = 8 then 16 else 8
def leastWidth (l : Nat) : Nat := if l < 8 then 1 else if l = 8 then 8 else 4

/-- A LINKUP or LINKDOWN event (18 R415). -/
def State.linkEvent (s : State) (code l lanes : Nat) : State :=
  s.writeEvent (s.unitRecord code .hub none (l + lanes % 256 * 2 ^ 8) 0 0)

/-- LINK_TRAINING_DONE (R364), at a link. -/
def execLinkTrainingDone (lanes : Nat) (s : State) : Out :=
  .next (
    let l := s.cur
    if (s.link l).phase ≠ .training ∨ lanes < leastWidth l ∨ fullWidth l < lanes then s
    else
      let p : LinkPhase := if lanes = fullWidth l then .up else .degraded
      (s.modLink l fun x => { x with phase := p, lanes := BitVec.ofNat 8 lanes, attempts := 0 }).linkEvent 0x88 l lanes)

/-- The link is neither Down nor Failed (log 71). -/
def State.linkHolds (s : State) (l : Nat) : Bool := (s.link l).phase != .down && (s.link l).phase != .failed

/-- The dies that are not lost: a route over links that are neither Down nor Failed joins them to the hub (R366). A link in Training holds its
traffic and loses none of it (R364) (log 71). -/
def State.joinedDies (s : State) : List Nat := (routeFrom s.linkHolds 4).filter fun p => p < 4

/-- A context has an activation, a winch command or a near-store line on a die. -/
def State.usesDie (s : State) (c d : Nat) : Bool :=
  (s.slots.any fun p => p.2.busy && dieOf p.1 == d && ctxOf p.2.act.inctag == c)
  || ((rangeFrom (6 * d) 6).any fun w => (s.winch w).queue.any fun x => ctxOf x.tag == c)
  || (s.die d).lines.any fun x => ctxOf x.tag == c

/-- A die is lost: every context that uses it writes its record and is killed. -/
def State.loseDie (s : State) (l d : Nat) : State :=
  let cs := (s.hub.ctx.regs.filter fun p => p.2.phase != .free && s.usesDie p.1 d).map (·.1)
  let s := s.modDie d fun x => { x with lost := true }
  cs.foldl (fun s c => (s.hubFault .hub fLINK (s.tagOf c) (l + 2 ^ 8) 0).killCtx c 3) s

/-- The dies that have lost their last route with a link. -/
def State.loseDies (s : State) (l : Nat) : State :=
  ((rangeFrom 0 4).filter fun d => !s.joinedDies.contains d && !(s.die d).lost).foldl (fun s d => s.loseDie l d) s

/-- Bring-up fails (19 R426) (log 73). -/
def State.keelFails (s : State) (err : Nat) : State :=
  s.modHub fun h => { h with dev := { h.dev with stage := 15, keelerr := BitVec.ofNat 8 err } }

/-- LINK_TRAINING_FAILED (R364), at a link: an attempt has failed, the third in a row for good. CD0 without its link fails the bring-up. -/
def execLinkTrainingFailed (s : State) : Out :=
  .next (
    let l := s.cur
    if (s.link l).phase ≠ .training then s
    else if (s.link l).attempts < 2 then s.modLink l fun x => { x with attempts := x.attempts + 1 }
    else
      let s := ((s.modLink l fun x => { x with phase := .failed, attempts := 0, lanes := 0 }).linkEvent 0x89 l 0).loseDies l
      if l = 0 ∧ 1 ≤ s.hub.dev.stage.toNat ∧ s.hub.dev.stage.toNat ≤ 3 then s.keelFails 5 else s)

/-- A write of DISABLE (log 71). -/
def State.linkDisable (s : State) (l : Nat) (v : Bool) : State :=
  if v then
    ((s.modLink l fun x => { x with disable := true, phase := .down, lanes := 0, attempts := 0 }).linkEvent 0x89 l 0).loseDies l
  else s.modLink l fun x => { x with disable := false, phase := if x.phase = .down then .training else x.phase }

/-- LINK_DISABLE_WRITE (R364), at a link. -/
def execLinkDisableWrite (v : Bool) (s : State) : Out := .next (if s.cur < 17 then s.linkDisable s.cur v else s)

/-- A link that carried traffic enters Training, and the lifetime counter of the link with it (18 R423). -/
def State.linkRetrains (s : State) (l errors : Nat) : State :=
  (s.modLink l fun x =>
    { x with phase := .training, lanes := 0, attempts := 0, retrain := satAdd32 x.retrain 1, uncorr := satAdd32 x.uncorr errors }).bumpLife
      (32 + l) 1

/-- LINK_CORRECTABLE_ERROR (R364), at a link. -/
def execLinkCorrectableError (s : State) : Out :=
  .next (if s.linkUp s.cur then s.modLink s.cur fun x => { x with corr := satAdd32 x.corr 1 } else s)

/-- LINK_UNCORRECTABLE_ERROR (R364), at a link. -/
def execLinkUncorrectableError (s : State) : Out := .next (if s.linkUp s.cur then s.linkRetrains s.cur 1 else s)

/-- A write of RETRAIN. -/
def State.retrain (s : State) (l : Nat) : State :=
  let x := s.link l
  if s.linkUp l then s.linkRetrains l 0
  else if x.phase = .failed ∧ x.disable = false then s.modLink l fun x => { x with phase := .training, attempts := 0 }
  else s

/-- LINK_RETRAIN (R364), at a link. -/
def execLinkRetrain (s : State) : Out := .next (s.retrain s.cur)

/-- PEER_DELAY_EXCHANGE (R376), at a port. -/
def execPeerDelayExchange (delay : BitVec 32) (s : State) : Out :=
  .next (if s.cur < 8 ∧ s.linkUp (9 + s.cur) = true then s.modLink (9 + s.cur) fun x => { x with pdelay := delay } else s)

/-! ### Requests through BAR2 (R367, R369) -/

/-- What the last request was answered with. -/
def State.answer (s : State) (a : Option (List Byte)) : State := s.modHub fun h => { h with ep := { h.ep with answer := a } }

/-- HOST_REQUEST (R369): a posted write performs at the home, and a read is answered. A request through a window that is disabled, or not for
its requester, is answered with Unsupported Request (log 11). -/
def execHostRequest (r : HostReq) (s : State) : Out :=
  .next (
    let w := Tab.get Window.reset s.hub.ep.windows (r.off / 2 ^ 30)
    let pa := w.phys.toNat * 2 ^ 30 + r.off % 2 ^ 30
    if s.hostUp = false then s
    else if 64 * 2 ^ 30 ≤ r.off ∨ w.en = false ∨ (w.peer = false ∧ r.root = false) then s.answer none
    else if s.paKind pa ≠ .hbm then s.stickAt pa
    else
      match r.data with
      | some bs => s.physWrite pa bs
      | none => let (bs, s) := s.physRead pa r.len; s.answer (some bs))

/-! ### The wall counter (R380, R381) -/

/-- The greatest rate correction, in parts per 10^9. -/
def wallLimit : Nat := 100000

/-- A rate correction that moves the counter towards a time, within the limit: how fast is the servo's choice, a free value (log 2). -/
def State.wallRate (s : State) (forward : Bool) : BitVec 32 × State :=
  let (v, s) := s.takeFree
  let n : Int := (v % (wallLimit + 1) : Nat)
  (BitVec.ofInt 32 (if forward then n else -n), s)

/-- PTP_SYNC (R381), at a port: a forward correction of more than 1 ms is a step; any other changes the rate (log 72). -/
def execPtpSync (time : BitVec 64) (s : State) : Out :=
  .next (
    let w := s.hub.wall
    let now := s.wallTime
    if w.en = false ∨ w.port.toNat ≠ s.cur ∨ s.linkUp (9 + s.cur) = false then s
    else if now.toNat + 1000000 < time.toNat then
      s.modHub fun h => { h with wall := { h.wall with phase := .locked, time := time, adj := 0, frac := 0 } }
    else
      let (a, s) := s.wallRate (decide (now ≤ time))
      s.modHub fun h => { h with wall := { h.wall with phase := .locked, time := now, adj := a } })

/-- PTP_SYNC_LOSS (R381): sixteen expected messages in a row have not come. -/
def execPtpSyncLoss (s : State) : Out :=
  .next (s.modHub fun h => { h with wall := { h.wall with phase := if h.wall.phase = .locked then .holdover else h.wall.phase } })

/-- A write of WTIME. -/
def State.setWall (s : State) (v : BitVec 64) : State :=
  if s.hub.wall.phase = .stopped then s.modHub fun h => { h with wall := { h.wall with phase := .free, time := v, frac := 0 } } else s

/-- WTIME_WRITE (R381). -/
def execWtimeWrite (v : BitVec 64) (s : State) : Out := .next (s.setWall v)

end Sys2Proof.Machine
end

