-- ==== Sys2Proof/Machine/Sha.lean ====
section
/-!
DEFINITION. Sys2Proof/Machine/Sha.lean: the digests and signatures of images (19 R425): SHA-256, and the verification of HSS signatures, as FIPS
180-4 and RFC 8554, which the rule names, define them (log 31).
-/

namespace Sys2Proof.Machine

/-! ### Bytes, the most significant first -/

/-- A number of `n` bytes, the most significant first. -/
def bigEnd (n x : Nat) : List Byte := (toBytes n x).reverse

/-- The number that such bytes hold. -/
def ofBigEnd (bs : List Byte) : Nat := ofBytes bs.reverse

/-! ### SHA-256 (log 31) -/

/-- The round constants of SHA-256. -/
def shaK : List (BitVec 32) :=
  [0x428a2f98, 0x71374491, 0xb5c0fbcf, 0xe9b5dba5, 0x3956c25b, 0x59f111f1, 0x923f82a4, 0xab1c5ed5]
  ++ [0xd807aa98, 0x12835b01, 0x243185be, 0x550c7dc3, 0x72be5d74, 0x80deb1fe, 0x9bdc06a7, 0xc19bf174]
  ++ [0xe49b69c1, 0xefbe4786, 0x0fc19dc6, 0x240ca1cc, 0x2de92c6f, 0x4a7484aa, 0x5cb0a9dc, 0x76f988da]
  ++ [0x983e5152, 0xa831c66d, 0xb00327c8, 0xbf597fc7, 0xc6e00bf3, 0xd5a79147, 0x06ca6351, 0x14292967]
  ++ [0x27b70a85, 0x2e1b2138, 0x4d2c6dfc, 0x53380d13, 0x650a7354, 0x766a0abb, 0x81c2c92e, 0x92722c85]
  ++ [0xa2bfe8a1, 0xa81a664b, 0xc24b8b70, 0xc76c51a3, 0xd192e819, 0xd6990624, 0xf40e3585, 0x106aa070]
  ++ [0x19a4c116, 0x1e376c08, 0x2748774c, 0x34b0bcb5, 0x391c0cb3, 0x4ed8aa4a, 0x5b9cca4f, 0x682e6ff3]
  ++ [0x748f82ee, 0x78a5636f, 0x84c87814, 0x8cc70208, 0x90befffa, 0xa4506ceb, 0xbef9a3f7, 0xc67178f2]

/-- The working variables of SHA-256. -/
structure ShaState where
  a : BitVec 32
  b : BitVec 32
  c : BitVec 32
  d : BitVec 32
  e : BitVec 32
  f : BitVec 32
  g : BitVec 32
  h : BitVec 32
  deriving DecidableEq, Repr

def ShaState.start : ShaState :=
  ⟨0x6a09e667, 0xbb67ae85, 0x3c6ef372, 0xa54ff53a, 0x510e527f, 0x9b05688c, 0x1f83d9ab, 0x5be0cd19⟩

/-- One round, with the sum of its constant and its word of the schedule. -/
def ShaState.round (x : ShaState) (kw : BitVec 32) : ShaState :=
  let s1 := x.e.rotateRight 6 ^^^ x.e.rotateRight 11 ^^^ x.e.rotateRight 25
  let t1 := x.h + s1 + ((x.e &&& x.f) ^^^ (~~~x.e &&& x.g)) + kw
  let s0 := x.a.rotateRight 2 ^^^ x.a.rotateRight 13 ^^^ x.a.rotateRight 22
  let t2 := s0 + ((x.a &&& x.b) ^^^ (x.a &&& x.c) ^^^ (x.b &&& x.c))
  ⟨t1 + t2, x.a, x.b, x.c, x.d + t1, x.e, x.f, x.g⟩

/-- The next word of the schedule, from those before it, the newest first. -/
def shaNext (l : List (BitVec 32)) : BitVec 32 :=
  let s1 (x : BitVec 32) : BitVec 32 := x.rotateRight 17 ^^^ x.rotateRight 19 ^^^ (x >>> 10)
  let s0 (x : BitVec 32) : BitVec 32 := x.rotateRight 7 ^^^ x.rotateRight 18 ^^^ (x >>> 3)
  s1 (l.getD 1 0) + l.getD 6 0 + s0 (l.getD 14 0) + l.getD 15 0

/-- The schedule with `n` more words. -/
def shaExtend : Nat → List (BitVec 32) → List (BitVec 32)
  | 0, l => l
  | n + 1, l => shaExtend n (shaNext l :: l)

/-- The 32-bit words of some bytes. -/
def shaWords : Nat → List Byte → List (BitVec 32)
  | 0, _ => []
  | n + 1, bs => BitVec.ofNat 32 (ofBigEnd (bs.take 4)) :: shaWords n (bs.drop 4)

/-- A block of 64 bytes is taken in. -/
def ShaState.block (x : ShaState) (bs : List Byte) : ShaState :=
  let w := (shaExtend 48 (shaWords 16 bs).reverse).reverse
  let y := (shaK.zip w).foldl (fun x p => x.round (p.1 + p.2)) x
  ⟨x.a + y.a, x.b + y.b, x.c + y.c, x.d + y.d, x.e + y.e, x.f + y.f, x.g + y.g, x.h + y.h⟩

/-- The blocks of a padded message. -/
def ShaState.blocks : Nat → List Byte → ShaState → ShaState
  | 0, _, x => x
  | n + 1, bs, x => ShaState.blocks n (bs.drop 64) (x.block (bs.take 64))

/-- The padding of a message of `n` bytes. -/
def shaPad (n : Nat) : List Byte := 0x80 :: List.replicate ((119 - n % 64) % 64) 0 ++ bigEnd 8 (8 * n)

/-- SHA-256 of some bytes, as 32 bytes. -/
def sha256 (m : List Byte) : List Byte :=
  let p := m ++ shaPad m.length
  let x := ShaState.blocks (p.length / 64) p ShaState.start
  [x.a, x.b, x.c, x.d, x.e, x.f, x.g, x.h].flatMap fun v => bigEnd 4 v.toNat

/-! ### LM-OTS, LMS and HSS (log 31) -/

/-- The width in bits, the count of chains and the checksum's shift of an LM-OTS type with SHA-256 and n = 32. -/
def otsParams (ty : Nat) : Option (Nat × Nat × Nat) :=
  match ty with
  | 1 => some (1, 265, 7)
  | 2 => some (2, 133, 6)
  | 3 => some (4, 67, 4)
  | 4 => some (8, 34, 0)
  | _ => none

/-- The height of an LMS type with SHA-256 and m = 32. -/
def lmsHeight (ty : Nat) : Option Nat := if 5 ≤ ty ∧ ty ≤ 9 then some (5 * (ty - 4)) else none

/-- Digit `i` of some bytes, of `w` bits each. -/
def otsCoef (s : List Byte) (i w : Nat) : Nat := (s.getD (i * w / 8) 0).toNat / 2 ^ (8 - (w * (i % (8 / w)) + w)) % 2 ^ w

/-- A digest with its checksum. -/
def otsDigits (q : List Byte) (w ls : Nat) : List Byte :=
  q ++ bigEnd 2 (((rangeFrom 0 (256 / w)).map fun i => 2 ^ w - 1 - otsCoef q i w).foldl (· + ·) 0 * 2 ^ ls)

/-- A chain from step `j` on, `n` steps. -/
def otsChain (pre : List Byte) : Nat → Nat → List Byte → List Byte
  | 0, _, x => x
  | n + 1, j, x => otsChain pre n (j + 1) (sha256 (pre ++ bigEnd 1 j ++ x))

/-- The public key that an LM-OTS signature gives for a message. -/
def otsCandidate (w p ls : Nat) (iq c : List Byte) (y : List Byte) (m : List Byte) : List Byte :=
  let d := otsDigits (sha256 (iq ++ bigEnd 2 0x8181 ++ c ++ m)) w ls
  let z := (rangeFrom 0 p).flatMap fun i =>
    let a := otsCoef d i w
    otsChain (iq ++ bigEnd 2 i) (2 ^ w - 1 - a) a ((y.drop (32 * i)).take 32)
  sha256 (iq ++ bigEnd 2 0x8080 ++ z)

/-- The root that a path leads to, from a node of a number. -/
def lmsClimb (i : List Byte) : Nat → Nat → List Byte → List Byte → List Byte
  | 0, _, _, x => x
  | h + 1, n, path, x =>
    let pre := i ++ bigEnd 4 (n / 2) ++ bigEnd 2 0x8383
    let t := path.take 32
    lmsClimb i h (n / 2) (path.drop 32) (sha256 (if n % 2 = 1 then pre ++ t ++ x else pre ++ x ++ t))

/-- An LMS signature at the front of some bytes, of a message under a public key of 56 bytes: whether it is valid, and what follows it. -/
def lmsVerify (key sig m : List Byte) : Option (List Byte) :=
  let lty := ofBigEnd (key.take 4)
  let oty := ofBigEnd ((key.drop 4).take 4)
  let i := (key.drop 8).take 16
  match lmsHeight lty, otsParams oty with
  | some h, some (w, p, ls) =>
    let q := ofBigEnd (sig.take 4)
    let len := 44 + 32 * p + 32 * h
    let ots := sig.drop 4
    let at_ := 36 + 32 * p
    if sig.length < len ∨ key.length ≠ 56 ∨ ofBigEnd (ots.take 4) ≠ oty ∨ ofBigEnd ((ots.drop at_).take 4) ≠ lty ∨ 2 ^ h ≤ q then none
    else
      let iq := i ++ bigEnd 4 q
      let kc := otsCandidate w p ls iq ((ots.drop 4).take 32) (ots.drop 36) m
      let leaf := sha256 (i ++ bigEnd 4 (2 ^ h + q) ++ bigEnd 2 0x8282 ++ kc)
      if lmsClimb i h (2 ^ h + q) (ots.drop (at_ + 4)) leaf = key.drop 24 then some (sig.drop len) else none
  | _, _ => none

/-- A message has an HSS signature of one or two levels under a root public key of 60 bytes. -/
def hssVerify (key sig m : List Byte) : Bool :=
  let levels := ofBigEnd (key.take 4)
  let nspk := ofBigEnd (sig.take 4)
  let root := key.drop 4
  let rest := sig.drop 4
  if nspk + 1 ≠ levels then false
  else if levels = 1 then lmsVerify root rest m == some []
  else if levels = 2 then
    -- the signed key stands behind its signature, and both behind the count
    match lmsHeight (ofBigEnd (root.take 4)), otsParams (ofBigEnd ((root.drop 4).take 4)) with
    | some h, some (_, p, _) =>
      let len := 44 + 32 * p + 32 * h
      let key1 := (rest.drop len).take 56
      lmsVerify root (rest.take len) key1 == some [] && lmsVerify key1 (rest.drop (len + 56)) m == some []
    | _, _ => false
  else false

end Sys2Proof.Machine
end

