-- ==== Sys2Proof/Machine/Bringup.lean ====
section
/-!
DEFINITION. Sys2Proof/Machine/Bringup.lean: reset and the stages of bring-up (19 R424-R428), feature negotiation (19 R429, R430), attestation (19
R431, R432), power (19 R434) and the lifetime counters (18 R423).
-/

namespace Sys2Proof.Machine

def State.modDev (s : State) (f : DeviceCtl → DeviceCtl) : State := s.modHub fun h => { h with dev := f h.dev }

def State.modNv (s : State) (f : NonVolatile → NonVolatile) : State := s.modHub fun h => { h with nv := f h.nv }

/-! ### Reset (00 R9; 18 R423; 19 R426) -/

/-- Every object at its reset state; the non-volatile store stays, and the lifetime counters are as given (log 74). -/
def State.restart (s : State) (life : Tab (BitVec 64)) : State :=
  { State.reset with free := s.free, stuck := s.stuck, hub := { Hub.reset with nv := s.hub.nv, life := life } }

/-- PACKAGE_RESET (R9) (log 74). -/
def execPackageReset (s : State) : Out := .next (s.restart s.hub.life)

/-- JUNCTION_OVERTEMP_RESET (R434): Keel resets the package at 125 degrees (log 74). -/
def execJunctionOvertempReset (s : State) : Out := .next (if 125 ≤ s.hub.dev.junction then s.restart s.hub.life else s)

/-- POWER_LOSS (R423): the lifetime counters are what the non-volatile store holds. -/
def execPowerLoss (s : State) : Out := .next (s.restart s.hub.nv.counters)

/-- Links that are Down and not disabled begin to train. -/
def State.trainLinks (s : State) (ls : List Nat) : State :=
  ls.foldl (fun s l => s.modLink l fun x => if x.phase = .down ∧ x.disable = false then { x with phase := .training } else x) s

/-- PACKAGE_RESET_RELEASE (R426): Keel starts, the stamp counter is zero, and the links train. -/
def execPackageResetRelease (s : State) : Out :=
  .next (
    if s.hub.dev.stage ≠ 0 then s
    else
      let s : State := { s with stamp := 0 }
      (((s.modHub fun h => { h with frame := 0, samples := 0 }).modDev fun d => { d with stage := 1 }).trainLinks (rangeFrom 0 17)).bumpLife 1 1)

/-! ### Features (R429, R430) -/

/-- AGREED with its bit 0 as DRVFEAT and DEVFEAT have theirs. -/
def DeviceCtl.follow (d : DeviceCtl) : DeviceCtl :=
  { d with agreed := (d.agreed &&& ~~~1) ||| (d.drvfeat &&& d.devfeat &&& 1) }

/-- DEVFEAT changes. -/
def State.offer (s : State) (v : BitVec 128) : State := s.modDev fun d => ({ d with devfeat := v }).follow

/-- The precision slots that the ladder of the reduced service does not let hold their levels go back to the unassigned state (11 R278). -/
def State.narrowLadder (s : State) : State :=
  if s.fullLadder then s
  else s.modHub fun h =>
    { h with ballast := h.ballast.map fun (k, p) => (k, if p.level = 3 ∨ p.level = 5 then p else p.init 7) }

/-- A write of DRVFEAT: whole while every context is Free, and of bit 0 alone at any other time (log 50). -/
def State.acceptFeatures (s : State) (v : BitVec 128) : State :=
  if s.hub.ctx.regs.all (fun p => p.2.phase == .free) then
    (s.modDev fun d => { d with drvfeat := v, agreed := v &&& d.devfeat, negotiated := true }).narrowLadder
  else s.modDev fun d => ({ d with drvfeat := (d.drvfeat &&& ~~~1) ||| (v &&& 1) }).follow

/-- DRVFEAT_WRITE (R429). -/
def execDrvfeatWrite (v : BitVec 128) (s : State) : Out := .next (s.acceptFeatures v)

/-! ### Images and stages (R425, R426) -/

/-- A signature is that of the root key of the fuses, over a header and a payload (log 31). -/
def imageSigned (sig m : List Byte) : Bool :=
  let key := bigEnd 60 Config.rootKey.toNat
  decide (ofBigEnd (sha256 key) = Config.fuseDigest.toNat) && hssVerify key sig m

/-- What the checks of R425 find in a header and the bytes behind it: the code of the first that fails (logs 31 and 73). -/
def State.imageError (s : State) (h : Nat) (rest : List Byte) (kind : Nat) (fromHost : Bool) : Option Nat :=
  let pay := field h 319 256
  let sig := field h 351 320
  let payload := rest.take pay
  if field h 31 0 ≠ 0x4F4C5249 ∨ field h 39 32 ≠ kind ∨ field h 47 41 ≠ 0 ∨ field h 255 64 ≠ 0 ∨ field h 2047 608 ≠ 0 ∨ pay % 64 ≠ 0
      ∨ rest.length < pay + sig ∨ (fromHost = true ∧ (0x800000 - 0x10000 < pay ∨ 0x10000 - 256 < sig)) then some 4
  else if imageSigned ((rest.drop pay).take sig) (toBytes 256 h ++ payload) = false then some 1
  else if ofBigEnd (sha256 payload) ≠ field h 607 352 then some 2
  else if field h 63 48 < (if kind = 0 then s.hub.nv.minFw else s.hub.nv.minBs).toNat then some 3
  else none

/-- Keel has checked an image of a kind; the firmware leads to the bitstream, and the bitstream to the hub (log 73). -/
def State.keelLoads (s : State) (h : Nat) (rest : List Byte) (kind : Nat) : State :=
  match s.imageError h rest kind s.hub.dev.fromHost with
  | some e => (s.keelFails e).modDev fun d => { d with fromHost := false }
  | none =>
    let digest : BitVec 256 := BitVec.ofNat 256 (field h 607 352)
    let seq : BitVec 16 := BitVec.ofNat 16 (field h 63 48)
    if kind = 0 then
      s.modDev fun d => { d with stage := 2, keelerr := 0, fwDigest := digest, fwSeq := seq, fwCommit := bitAt h 40, fromHost := false }
    else
      (s.modDev fun d => { d with stage := 3, bsDigest := digest, bsSeq := seq, bsCommit := bitAt h 40 }).trainLinks [0, 1, 2, 3, 8]

/-- The bytes behind the header of the host's image: the image area is 8 MiB (R426). -/
def State.hostRest (s : State) : List Byte := s.hub.dev.image.readN 256 (0x800000 - 256)

/-- KEEL_IMAGE_CHECK (R425): of the firmware in stage 1 and of the bitstream in stage 2; in stage 15 Keel has read the host's image, and
restarts at stage 1 with it (R426) (log 31). -/
def execKeelImageCheck (image : FlashImage) (s : State) : Out :=
  .next (
    if s.hub.dev.stage = 1 then
      if s.hub.dev.fromHost then s.keelLoads (ofBytes (s.hub.dev.image.readN 0 256)) s.hostRest 0
      else s.keelLoads image.header.toNat image.rest 0
    else if s.hub.dev.stage = 2 then s.keelLoads image.header.toNat image.rest 1
    else if s.hub.dev.stage = 15 then s.modDev fun d => { d with stage := 1, fromHost := true }
    else s)

/-- CD0_TRAINED (R426): CD0 has trained, or has not (log 73). -/
def execCd0Trained (ok : Bool) (s : State) : Out :=
  .next (
    if s.hub.dev.stage ≠ 3 then s
    else if ok = false then s.keelFails 5
    else if s.linkUp 0 = false then s
    else (s.modDev fun d => { d with stage := 4, service := 1, diesok := 0x11 }).offer 0x7C)

/-- A die of CD1 to CD3 has trained, and the links that join it with it (R426). -/
def State.dieTrained (s : State) (ok : BitVec 5) (d : Nat) : Bool :=
  ok.getLsbD d && s.linkUp d && s.linkUp (4 + d) && s.linkUp (4 + (d + 3) % 4)

/-- ALL_DIES_TRAINED (R426): `ok` has a bit for each die that has trained. -/
def execAllDiesTrained (ok : BitVec 5) (s : State) : Out :=
  .next (
    if s.hub.dev.stage ≠ 4 then s
    else
      let good := (rangeFrom 1 3).filter (s.dieTrained ok)
      let s := s.modDev fun d => { d with diesok := d.diesok ||| BitVec.ofNat 5 ((good.map (2 ^ ·)).foldl (· + ·) 0) }
      if good.length = 3 ∧ (rangeFrom 1 7).all (fun l => s.linkUp l) = true then
        (s.modDev fun d => { d with stage := 5 }).offer (s.hub.dev.devfeat ||| 1)
      else s)

/-- Every resident context is chosen for switch-out at its next node boundary (R428). -/
def State.vacate (s : State) : State := s.residents.foldl (fun s c => s.modCtxWork c fun w => { w with leaving := true }) s

/-- DCMD FULL. -/
def State.commandFull (s : State) : State :=
  if s.hub.dev.stage = 5 ∧ s.hub.dev.agreed.getLsbD 0 = true then (s.modDev fun d => { d with stage := 6 }).vacate else s

/-- DCMD_FULL (R426). -/
def execDcmdFull (s : State) : Out := .next s.commandFull

/-- SWITCHING_DONE (R426): full service; a loaded image with COMMIT raises its MINSEQ. -/
def execSwitchingDone (s : State) : Out :=
  .next (
    let busy (x : Ctx) : Bool := x.phase == .resident || x.phase == .loading || x.phase == .saving
    if s.hub.dev.stage ≠ 6 ∨ s.hub.ctx.regs.any (fun p => busy p.2) = true then s
    else
      let d := s.hub.dev
      let up (c : Bool) (old new : BitVec 16) : BitVec 16 := if c && decide (old < new) then new else old
      ((s.modDev fun d => { d with stage := 7, service := 2 }).offer 0x7F).modNv fun v =>
        { v with minFw := up d.fwCommit v.minFw d.fwSeq, minBs := up d.bsCommit v.minBs d.bsSeq })

/-- DCMD RECOVER. -/
def State.commandRecover (s : State) : State :=
  let cs := (s.hub.ctx.regs.filter fun p => p.2.phase != .free).map (·.1)
  (cs.foldl (fun s c => s.killCtx c 1) s).modDev fun d => { d with stage := 15 }

/-- DCMD_RECOVER (R426). -/
def execDcmdRecover (s : State) : Out := .next s.commandRecover

/-! ### Attestation (R431, R432) -/

/-- The host asks for an attestation with the nonce that stands (R432); while another is being answered it is ignored. -/
def State.attest (s : State) : State :=
  s.modHub fun h => { h with attest := { h.attest with asked := some (h.attest.asked.getD h.attest.nonce) } }

/-- Keel answers a request: the leaf is counted first (R431); with no leaf left the request is refused. -/
def State.answerAttest (s : State) (nonce : BitVec 256) : State :=
  let q := s.hub.nv.leaf
  if 2 ^ 15 ≤ q.toNat then s.modHub fun h => { h with attest := { h.attest with refused := true, asked := none } }
  else
    let s := s.modNv fun v => { v with leaf := q + 1 }
    s.modHub fun h =>
      { h with
        attest :=
          { nonce := h.attest.nonce, asked := none, answered := true, refused := false, ansNonce := nonce, ansStage := h.dev.stage
            ansAgreed := h.dev.agreed, ansLeaf := q, ansDigests := h.dev.fwDigest ++ h.dev.bsDigest, ansSeqs := h.dev.fwSeq ++ h.dev.bsSeq
            sigNum := q.toNat } }

/-- Keel answers the request that is being answered in a cycle that the spec leaves open (log 10). -/
def State.keelAnswers (s : State) : State :=
  match s.hub.attest.asked with
  | none => s
  | some nonce => let (v, s) := s.takeFree; if v % 2 = 1 then s.answerAttest nonce else s

/-- ATTESTATION_REQUEST (R432). -/
def execAttestationRequest (s : State) : Out := .next s.attest

/-- What an answer holds before its signature, in the order of R432 (log 10): the hash, the digests, the SEQ values, the nonce, STAGE,
AGREED and q. -/
def Attest.body (a : Attest) : List Byte :=
  (if a.refused then List.replicate 32 0xFF else (rangeFrom 0 32).map Config.freeByte)
    ++ toBytes 32 (a.ansDigests.toNat / 2 ^ 256) ++ toBytes 32 a.ansDigests.toNat ++ toBytes 2 (a.ansSeqs.toNat / 2 ^ 16)
    ++ toBytes 2 a.ansSeqs.toNat ++ toBytes 32 a.ansNonce.toNat ++ toBytes 1 a.ansStage.toNat ++ toBytes 16 a.ansAgreed.toNat
    ++ toBytes 2 a.ansLeaf.toNat

/-- A byte of the answer: zero before the first answer; past the body, the signature. -/
def Attest.byteAt (a : Attest) (i : Nat) : Byte :=
  if a.answered = false ∧ a.refused = false then 0
  else if i < a.body.length then a.body.getD i 0
  else Config.freeByte (32 + a.sigNum * 2 ^ 16 + i)

/-! ### Power and lifetime (R434; 18 R423) -/

/-- The package is past a limit of R434: more than 3000 A, or a junction at 105 degrees. -/
def DeviceCtl.pastLimit (d : DeviceCtl) : Bool := decide (3000 < d.current.toNat ∨ 105 ≤ d.junction)

/-- THROTTLE (R434): the hub begins to withhold k-steps, since the current would pass its limit, or ends to, while no limit is passed (log
65). -/
def execThrottle (on : Bool) (s : State) : Out := .next (s.modDev fun d => { d with withhold := on || (d.withhold && d.pastLimit) })

/-- The histogram counter of a temperature. -/
def tempCounter (degrees : Int) : Nat := if degrees < 0 then 2 else if 120 ≤ degrees then 17 else 2 + degrees.toNat / 8

/-- TEMPERATURE_SAMPLE (R423, R434): the hottest junction; one sample for every 2^27 cycles is counted. From 105 degrees on k-steps are
withheld, and at 125 Keel resets the package (log 65). -/
def execTemperatureSample (degrees : Int) (s : State) : Out :=
  .next (
    let s := s.modDev fun d => { d with junction := degrees.toNat, withhold := d.withhold || decide (105 ≤ degrees) }
    let s := if 125 ≤ degrees then { s with agenda := .event 0 .junctionOvertempReset :: s.agenda } else s
    if s.now / 2 ^ 27 ≤ s.hub.samples then s
    else (s.modHub fun h => { h with samples := h.samples + 1 }).bumpLife (tempCounter degrees) 1)

/-- SOFT_ERROR_CORRECTION (R423): at the counter of the part (log 65). -/
def execSoftErrorCorrection (counter : Nat) (s : State) : Out :=
  .next (
    if (128 ≤ counter ∧ counter ≤ 155) ∨ (160 ≤ counter ∧ counter ≤ 479) then s.bumpLife counter 1 else s)

/-- CORE_RAIL_DROOP (R423) (log 65). -/
def execCoreRailDroop (s : State) : Out := .next (s.bumpLife 18 1)

/-- The lifetime counters are written to the non-volatile store. -/
def State.saveLife (s : State) : State := s.modNv fun v => { v with counters := s.hub.life }

/-- LIFETIME_COUNTER_SAVE and ORDERLY_SHUTDOWN (R423). -/
def execLifetimeCounterSave (s : State) : Out := .next (if s.hub.frame % 2 ^ 20 = 0 then s.saveLife else s)
def execOrderlyShutdown (s : State) : Out := .next s.saveLife

end Sys2Proof.Machine
end

