-- ==== Sys2Proof/Machine/Matrix.lean ====
section
/-!
DEFINITION. Sys2Proof/Machine/Matrix.lean: the words of the matrix engine at issue (07 R182, R189-R198), their start, k-steps and
completion (R183, R184, R186), and timed regions (R187, R188).
-/

namespace Sys2Proof.Machine

/-! ### Issue (R182) -/

/-- An M word enters the elastic buffer of its slot. -/
def State.enterBuffer (s : State) (i : Instr) (op : MOp) (h : MShape) (timed : Option (Nat × Nat × Bool)) : State :=
  let c := (s.slot s.cur).mat.pc
  let e : MEntry :=
    { op := op, word := c.word, raw := (encode i).getD 0, pos := c.pos, shape := h, timed := timed, rrb := c.view.rrb.toNat,
      rotcfg := c.view.rotcfg.toNat, mode := c.view.tracemode.toNat, reads := hullOf (op.rowReads h) ++ op.scaleReads h, writes := hullOf (op.writes h) }
  s.modMat s.cur fun m => { m with buf := m.buf ++ [e] }

/-- The buffer of the current slot has room (R182). -/
def State.bufferRoom (s : State) : Bool := decide ((s.slot s.cur).mat.buf.length < 8)

/-- A timed word of the matrix engine: its shape register, its swap, its stamp offset, and the checks of R182 in order. -/
def mWord (i : Instr) (reg : BitVec 2) (sw : BitVec 1) (stoff : BitVec 12) (op : MOp) (s : State) : State :=
  let sl := s.slot s.cur
  let word := ((encode i).getD 0).toNat
  if i.wellFormed = false then s.trapAt s.cur .M fILLEGAL word 0
  else if s.bufferRoom = false then Act.run .stall .M s
  else
    let regs := if sw.getLsbD 0 then sl.regs.swapShape 1 reg.toNat else sl.regs
    let h := regs.mshape reg.toNat
    let timed := sl.mat.region.map fun r => (r.1 + 8 * stoff.toNat, r.2.1, r.2.2)
    if op.formatsOk h = false ∨ (stoff ≠ 0 ∧ timed = none) ∨ op.extentsOk h = false then s.trapAt s.cur .M fILLEGAL word 0
    else
      match sl.act.firstOut (op.rowReads h ++ op.scaleReads h ++ op.writes h) with
      | some a => s.trapAt s.cur .M fSPBOUND word a
      | none =>
        match op.misaligned h with
        | some a => s.trapAt s.cur .M fALIGN word a
        | none =>
          let pr : Present := ⟨sl.mat.pc.pos, op.rowReads h ++ op.scaleReads h, op.writes h, false⟩
          if sl.rangeRoom pr = false then Act.run .stall .M s
          else Act.run (.done ((s.modRegs s.cur fun _ => regs).enterBuffer i op h timed)) .M s

/-- A word of the matrix engine that uses no shape register. -/
def mPlain (i : Instr) (op : MOp) (ok : State → Bool) (s : State) : State :=
  let word := ((encode i).getD 0).toNat
  if i.wellFormed = false then s.trapAt s.cur .M fILLEGAL word 0
  else if s.bufferRoom = false then Act.run .stall .M s
  else if ok s = false then s.trapAt s.cur .M fILLEGAL word 0
  else Act.run (.done (s.enterBuffer i op ⟨0, 0, 0, 0, 0, 0, 0, 0, 0, 0⟩ none)) .M s

def execMldb (p : BitVec 2) (w c : BitVec 1) (t : BitVec 12) (s : State) : Out :=
  .next (mWord (.mldb p w c t) p w t (.mldb (c.getLsbD 0)) s)
def execMma (a : BitVec 3) (p : BitVec 2) (w : BitVec 1) (t : BitVec 12) (s : State) : Out :=
  .next (mWord (.mma a p w t) p w t (.mma a.toNat) s)
def execMmaT (a : BitVec 3) (p : BitVec 2) (w : BitVec 1) (t : BitVec 12) (s : State) : Out :=
  .next (mWord (.mmaT a p w t) p w t (.mmaT a.toNat) s)
def execMzero (a : BitVec 3) (p : BitVec 2) (w : BitVec 1) (t : BitVec 12) (s : State) : Out :=
  .next (mWord (.mzero a p w t) p w t (.mzero a.toNat) s)
def execMinit (a : BitVec 3) (p : BitVec 2) (w b : BitVec 1) (t : BitVec 12) (s : State) : Out :=
  .next (mWord (.minit a p w b t) p w t (.minit a.toNat (b.getLsbD 0)) s)
def execMdrain (a : BitVec 3) (p : BitVec 2) (w l r : BitVec 1) (t : BitVec 12) (x : BitVec 1) (m : BitVec 2) (s : State) : Out :=
  .next (mWord (.mdrain a p w l r t x m) p w t (.mdrain a.toNat (r.getLsbD 0) (l.getLsbD 0) (x.getLsbD 0) m.toNat) s)
def execMdrainv (a : BitVec 3) (p : BitVec 2) (w : BitVec 1) (v : BitVec 3) (t : BitVec 12) (u : BitVec 3) (s : State) : Out :=
  .next (mWord (.mdrainv a p w v t u) p w t (.mdrainv a.toNat (v.toNat * 8 + u.toNat)) s)
def execMzp (a : BitVec 3) (p : BitVec 2) (w : BitVec 1) (t : BitVec 12) (s : State) : Out :=
  .next (mWord (.mzp a p w t) p w t (.mzp a.toNat) s)
def execMpri (p : BitVec 12) (s : State) : Out := .next (mPlain (.mpri p) (.mpri p.toNat) (fun _ => true) s)
def execKwaitM (k : BitVec 3) (n : BitVec 12) (j : BitVec 1) (s : State) : Out :=
  let tok := j.toNat * 8 + k.toNat
  .next (mPlain (.kwaitM k n j) (.kwait tok n.toNat)
    (fun s => decide (n.toNat ≤ ((s.slot s.cur).regs.getK tok).ceiling.toNat)) s)
def execKsigM (k : BitVec 3) (n : BitVec 12) (j : BitVec 1) (s : State) : Out :=
  .next (mPlain (.ksigM k n j) (.ksig (j.toNat * 8 + k.toNat) n.toNat) (fun _ => true) s)

/-! ### Bands of a word (R175, R176, R186) -/

/-- The physical bands that a word touches. -/
def MEntry.bands (e : MEntry) (side : Nat) : List Nat := (rangeFrom 0 (e.op.bandCount e.shape)).map (physBand side)

/-- The slot may use the band but for its being shared: it is granted and not being zeroed. -/
def State.bandUsable (s : State) (slot p : Nat) : Bool :=
  (s.slot slot).hasBand p && !(s.core (coreOf slot)).bandZeroing.any fun z => z.part == p

/-- The slot holds the band: it alone is granted it, it holds it, or nobody has needed it yet. -/
def State.bandHeld (s : State) (slot p : Nat) : Bool :=
  !s.sharedBand (coreOf slot) p || ((Tab.find (s.core (coreOf slot)).bandHolder p).all (· == sideOf slot))

/-- The slot takes the shared bands that nobody holds. -/
def State.takeBands (s : State) (slot : Nat) (ps : List Nat) : State :=
  s.modCore (coreOf slot) fun c =>
    { c with bandHolder := ps.foldl (fun t p => if s.sharedBand (coreOf slot) p then t.put p (sideOf slot) else t) c.bandHolder }

/-! ### k-steps (R183, R208) -/

/-- The bytes that a k-step reads: by groups for a multiply, by 2048 bits of codes for MLDB, by eight rows for the others (log 28). -/
def MEntry.stepReads (e : MEntry) (n : Nat) : List (Nat × Nat) :=
  let h := e.shape
  if e.op.zero h then []
  else
    match e.op with
    | .mldb col =>
      let w := widthOf h.bfmt
      let len := if col then h.k else h.n
      let per := 2048 / w
      let lo := n * per
      let hi := min (lo + per) (h.k * h.n)
      (if n = 0 then e.op.scaleReads h else [])
        ++ (rangeFrom (lo / len) (ceilDiv hi len - lo / len)).map fun r =>
             let a := lo - r * len
             let b := min len (hi - r * len)
             (h.aaddr + r * h.astr + w * a / 8, ceilDiv (w * b) 8 - w * a / 8)
    | .mma _ | .mmaT _ =>
      let g := n / h.perGroup
      let a := h.perCell * g
      let b := min (a + h.perCell) h.k
      let w := widthOf h.afmt
      let bk := h.block h.afmt
      (rangeFrom 0 h.m).flatMap fun i =>
        (h.aaddr + i * h.astr + w * a / 8, ceilDiv (w * b) 8 - w * a / 8)
          :: if bk = 0 then [] else [(h.scaddr + i * (h.k / bk) + a / bk, 1)]
    | .minit _ bc => if bc then e.op.rowReads h else (e.op.rowReads h).drop (8 * n) |>.take 8
    | .mzp _ => e.op.rowReads h ++ e.op.scaleReads h
    | _ => []

/-- The B-store bytes that a k-step of a multiply reads: the group's elements of the columns it uses, with their scales (R177, R181) (log 28). -/
def MEntry.stepB (e : MEntry) (side n : Nat) : List Nat :=
  let h := e.shape
  let w := widthOf h.bfmt
  let bk := h.block h.bfmt
  let g := n / h.perGroup
  let lo := h.perCell * g
  let hi := min (lo + h.perCell) h.k
  let run (len col a b : Nat) : List Nat :=
    let base := physCol side col * 32768 + h.baddr
    rangeFrom (base + w * a / 8) (ceilDiv (w * b) 8 - w * a / 8)
      ++ if bk = 0 then [] else rangeFrom (base + h.pay len + a / bk) (ceilDiv b bk - a / bk)
  if e.op.zero h then []
  else
    match e.op with
    | .mma _ => (rangeFrom 0 h.n).flatMap fun j => run h.k j lo hi
    | .mmaT _ => (rangeFrom lo (hi - lo)).flatMap fun k => run h.n k 0 h.n
    | _ => []

/-- A word's k-step reads its operand bytes (09 R252). -/
def State.stepRead (s : State) (slot : Nat) (r : MRun) (n : Nat) : MRun × State :=
  let c := s.core (coreOf slot)
  let sp := (r.entry.stepReads n).flatMap fun x => (rangeFrom x.1 x.2).map fun a => (a, c.scratch.read a)
  let (b, s) := s.readB slot (r.entry.stepB (sideOf slot) n)
  ({ r with seen := r.seen ++ sp, seenB := r.seenB ++ b }, s)

/-- The k-step may be made but for the bands that the other slot holds: bands granted, channel bytes ready (R208), and no k-step withheld
(19 R434). -/
def State.stepReady (s : State) (slot : Nat) (e : MEntry) (n : Nat) : Bool :=
  (e.bands (sideOf slot)).all (s.bandUsable slot) && (s.slot slot).channelsReady e.pos (e.stepReads n) && !s.hub.dev.withhold

/-! ### Start (R183, R188) -/

/-- A running word that MLDB has started writes slice bytes that the word reads. -/
def MEntry.feeds (w r : MEntry) : Bool :=
  let reads : Bool := match r.op with
    | .mma _ => true
    | .mmaT _ => true
    | _ => false
  match w.op with
  | .mldb _ =>
    reads && !w.op.zero w.shape && !r.op.zero r.shape
    && overlaps w.shape.baddr (w.shape.sliceEnd (w.op.vecLen w.shape) - w.shape.baddr) r.shape.baddr
         (r.shape.sliceEnd (r.op.vecLen r.shape) - r.shape.baddr)
  | _ => false

/-- The accumulator that a word writes. -/
def MOp.writesAcc : MOp → Option Nat
  | .mma a => some a
  | .mmaT a => some a
  | .mzero a => some a
  | .minit a _ => some a
  | .mzp a => some a
  | .mdrain a _ clr _ _ => if clr then some a else none
  | _ => none

/-- The accumulator that a word drains. -/
def MOp.drains : MOp → Option Nat
  | .mdrain a _ _ _ _ => some a
  | .mdrainv a _ => some a
  | _ => none

/-- Every condition of R183 for the start of a word in the cycle `at_`, but for the bands that the other slot holds. -/
def State.startable (s : State) (slot at_ : Nat) (e : MEntry) : Bool :=
  let sl := s.slot slot
  let pr : Present := ⟨e.pos, e.reads, e.writes, false⟩
  (match e.timed with
   | none => true
   | some (t, slack, strict) => decide (t ≤ at_) && (!strict || decide (at_ ≤ t + slack)))
  && (sl.mat.run.all fun r => decide (r.done = r.steps ∧ r.last < at_) && !r.entry.feeds e
        && !(e.op.drains.isSome && !r.entry.op.zero r.entry.shape && r.entry.op.writesAcc == e.op.drains))
  && sl.mayStart .M pr && s.stepReady slot e 0
  && !((e.reads ++ e.writes).any fun r => s.zeroingAt slot r.1 r.2)

/-- The slip event of a word that starts late in a region that is not strict (R188) (log 40). -/
def State.slipEvent (s : State) (slot : Nat) (e : MEntry) : State :=
  match e.timed with
  | some (t, slack, _) =>
    if t + slack < s.now then s.writeEvent (s.slotRecord slot .M 0x80 0 0 (s.now - t) (some e.word) false) else s
  | none => s

/-- M_WORD_START (R183, R197, R198), at a slot: the word at the head of the buffer starts with its first k-step; MPRI and KSIG.M are
taken there. -/
def execMWordStart (s : State) : Out :=
  .next (
    let slot := s.cur
    if (s.slot slot).bufferHeld then s
    else
    match (s.slot slot).mat.buf with
    | [] => s
    | e :: rest =>
      let pop := s.modMat slot fun m => { m with buf := rest }
      match e.op with
      | .mpri p => pop.modMat slot fun m => { m with mp := p }
      | .ksig tok n => pop.modSlot slot fun sl => { sl with signals := sl.signals ++ [⟨.M, e.pos, e.word, tok, n, []⟩] }
      | .kwait _ _ => s
      | _ =>
        if s.startable slot s.now e = false ∨ (e.bands (sideOf slot)).all (s.bandHeld slot) = false then s
        else
          let (r, t) := (pop.takeBands slot (e.bands (sideOf slot))).stepRead slot ⟨e, e.cycles, 1, s.now, (s.slot slot).mat.mp, [], []⟩ 0
          (t.modMat slot fun m => { m with run := m.run ++ [r] }).slipEvent slot e)

/-! ### The end of a cycle -/

/-- The word that needs the array in the cycle `at_`: the running one, or else the head of the buffer where it may start then. -/
def State.arrayWord (s : State) (slot at_ : Nat) : Option (MEntry × Nat) :=
  let m := (s.slot slot).mat
  match m.run.find? (fun r => decide (r.done < r.steps)) with
  | some r => some (r.entry, r.done)
  | none =>
    match m.buf with
    | e :: _ =>
      match e.op with
      | .mpri _ => none
      | .ksig _ _ => none
      | .kwait _ _ => none
      | _ => if s.startable slot at_ e then some (e, 0) else none
    | [] => none

/-- A running word makes the k-step of this cycle, if it has not made it and holds its bands. -/
def State.kStep (s : State) (slot : Nat) : State :=
  match (s.slot slot).mat.run.find? (fun r => decide (r.done < r.steps)) with
  | none => s
  | some r =>
    let bands := r.entry.bands (sideOf slot)
    if r.last = s.now ∨ s.stepReady slot r.entry r.done = false ∨ bands.all (s.bandHeld slot) = false then s
    else
      let (r, t) := (s.takeBands slot bands).stepRead slot { r with done := r.done + 1, last := s.now } r.done
      t.modMat slot fun m => { m with run := mapFirst (fun r => decide (r.done < r.steps)) (fun _ => r) m.run }

/-- The word of a slot waits only for shared bands that the other slot holds: those bands. -/
def State.waitsForBands (s : State) (slot : Nat) : List Nat :=
  match s.arrayWord slot s.now with
  | none => []
  | some (e, n) =>
    if s.stepReady slot e n then (e.bands (sideOf slot)).filter fun p => !s.bandHeld slot p else []

/-- The effective priority of a slot's words at the array (R186, R326). -/
def Slot.arrayPriority (sl : Slot) : Nat :=
  let mp := match sl.mat.run.find? (fun r => decide (r.done < r.steps)) with
    | some r => r.mp
    | none => sl.mat.mp
  if sl.urgent then 32 else sl.act.prio.toNat + mp

/-- A contest at the array of a core: a slot that waits only for bands the other keeps has lost it (R186). -/
def State.arrayContest (s : State) (core : Nat) : State :=
  match s.waitsForBands (2 * core), s.waitsForBands (2 * core + 1) with
  | [], [] => s
  | [], _ => s.decide_ core unitArray 0
  | _, [] => s.decide_ core unitArray 1
  | _, _ => s

/-- A shared band that nobody has needed yet, and that words of both slots need in this cycle, goes to the slot of the priority rule
(R186). -/
def State.claimBand (core band : Nat) (s : State) : State :=
  let wants (slot : Nat) : Bool :=
    match s.arrayWord slot s.now with
    | some (e, n) => s.stepReady slot e n && (e.bands (sideOf slot)).contains band
    | none => false
  if s.sharedBand core band && (Tab.find (s.core core).bandHolder band).isNone && wants (2 * core) && wants (2 * core + 1) then
    let side := s.winner core unitArray
    (s.decide_ core unitArray side).modCore core fun c => { c with bandHolder := c.bandHolder.put band side }
  else s

/-- The k-step cycles of a group: four for a multiply of F16 operands, one for every other word (R186). -/
def MEntry.groupCycles (e : MEntry) : Nat :=
  match e.op with
  | .mma _ => e.shape.perGroup
  | .mmaT _ => e.shape.perGroup
  | _ => 1

/-- The band may pass at this point of the holder's words: at the end of a group, or where they make no k-step that needs it. -/
def State.bandFree (s : State) (slot p : Nat) : Bool :=
  (s.slot slot).mat.run.all fun r =>
    decide (r.done = r.steps) || !(r.entry.bands (sideOf slot)).contains p || decide (r.done % r.entry.groupCycles = 0)

/-- BAND_HANDOVER (R186), at a core: the band passes to the other slot when the holder has no word that needs it, or when the other
slot's word waits only for it at a strictly higher effective priority. -/
def execBandHandover (band : Nat) (s : State) : Out :=
  .next (
    let core := s.cur
    match Tab.find (s.core core).bandHolder band with
    | none => s
    | some side =>
      let h := 2 * core + side
      let o := 2 * core + (1 - side)
      let needed := (s.arrayWord h (s.now + 1)).any fun x => (x.1.bands side).contains band
      let waits := (s.waitsForBands o).contains band
      if s.sharedBand core band = false ∨ s.bandFree h band = false then s
      else if needed = false ∨ (waits = true ∧ (s.slot h).arrayPriority < (s.slot o).arrayPriority) then
        s.modCore core fun c => { c with bandHolder := c.bandHolder.put band (1 - side) }
      else s)

/-! ### Completion (R183, R184) -/

/-- M_WORD_COMPLETE (R184), at a slot: the earliest word whose last k-step lies seven cycles back completes (log 28). -/
def execMWordComplete (s : State) : Out :=
  .next (
    let slot := s.cur
    match (s.slot slot).mat.run with
    | [] => s
    | r :: rest =>
      if r.done < r.steps ∨ s.now < r.last + 8 then s
      else (s.mEffect slot r).modMat slot fun m => { m with run := rest })

/-! ### Slack (R188) -/

/-- The word's slack has run out before its start. -/
def MEntry.expired (e : MEntry) (now : Nat) : Bool :=
  match e.timed with
  | some (t, slack, _) => decide (t + slack < now)
  | none => false

def MEntry.strict (e : MEntry) : Bool := e.timed.any fun t => t.2.2

/-- REGION_SLACK_EXPIRY (R188), at a slot: a late word holds PC_S, and a late word of a strict region raises SCHEDMISS and leaves the
buffer with every later word. -/
def execRegionSlackExpiry (s : State) : Out :=
  .next (
    let slot := s.cur
    let m := (s.slot slot).mat
    let s := if m.buf.any fun e => e.expired s.now && !e.strict then s.modMat slot fun m => { m with late := true } else s
    match m.buf.find? (fun e => e.expired s.now && e.strict) with
    | none => s
    | some e =>
      if (s.slot slot).stop.isSome then s
      else
        let slack := (e.timed.map (·.2.1)).getD 0
        (s.raiseTrap slot .M fSCHEDMISS (e.raw.toNat + (slack + 1) * 2 ^ 32) 0 naCursor (some e.word) none).modMat slot fun m =>
          { m with buf := m.buf.takeWhile fun x => x.pos != e.pos })

/-- At the end of a cycle, PC_S is released once no late word waits any more. -/
def State.releaseLate (s : State) (slot : Nat) : State :=
  if (s.slot slot).mat.late ∧ ((s.slot slot).mat.buf.any fun e => e.expired s.now && !e.strict) = false then
    s.modMat slot fun m => { m with late := false }
  else s

/-- BSTORE_ZEROING_DONE (R176), at a core: a band's slices hold zero, and waiting words may use it. -/
def execBstoreZeroingDone (band : Nat) (s : State) : Out :=
  .next (
    if ((s.core s.cur).bandZeroing.any fun z => z.part == band) then
      s.modCore s.cur fun c =>
        { c with
          bandZeroing := c.bandZeroing.filter fun z => z.part != band
          bstore := c.bstore.filter (fun e => decide (e.1 < band * 524288 ∨ (band + 1) * 524288 ≤ e.1)) }
    else s)

/-- SCRATCHPAD_ZEROING_DONE (03 R61), at a core: the zeroing of a bank that an activation's start began has ended, and
waiting words may use it. -/
def execScratchpadZeroingDone (bank : Nat) (s : State) : Out :=
  .next (
    s.modCore s.cur fun c => { c with bankZeroing := dropFirst (fun z => z.part == bank) c.bankZeroing })

end Sys2Proof.Machine
end

