-- ==== Sys2Proof/Machine/PageWords.lean ====
section
/-!
DEFINITION. Sys2Proof/Machine/PageWords.lean: the page family of the sequencer (10 R275-R277).
-/

namespace Sys2Proof.Machine

/-- The dies and cores within a scope of TLBINV. -/
def scopeCore (scope core n : Nat) : Bool :=
  match scope with
  | 0 => n == core
  | 1 => dieOfCore n == dieOfCore core
  | _ => true

def scopeDie (scope core d : Nat) : Bool :=
  match scope with
  | 0 => false
  | 1 => d == dieOfCore core
  | _ => true

/-- The entry translates a byte of the range; every entry, where the count is zero. -/
def TlbEntry.inRange (t : TlbEntry) (ctx lo pages : Nat) : Bool :=
  ctxOf t.tag == ctx && (pages == 0 || overlaps t.va (if t.big then 0x200000 else 0x10000) lo (0x10000 * pages))

/-- A store of the context is still on its way to its home, on a die of the scope (log 22). -/
def State.storesUnderway (s : State) (ctx : Nat) (die : Nat → Bool) : Bool :=
  s.dies.any fun d => die d.1 && d.2.accepted.any (fun e => ctxOf e.tag == ctx)

/-- Logs 19 and 22. -/
def execTlbinv (d a b : BitVec 6) (s : State) : Out :=
  .next (sWord (.tlbinv d a b) [.g a.toNat, .g b.toNat] [] (fun s =>
    let lo := (s.g a.toNat).toNat
    let n := (s.g b.toNat).toNat
    let core := coreOf s.cur
    let ctx := ctxOf (s.slot s.cur).act.inctag
    if 2 ^ 24 ≤ n ∨ (n ≠ 0 ∧ 2 ^ 56 < lo + 0x10000 * n) then .trap fILLEGAL 0 0
    else if lo % 0x10000 ≠ 0 then .trap fALIGN 0 lo
    else if s.storesUnderway ctx (fun x => x == dieOfCore core || d.toNat == 2) then .stall
    else .done (s.dropTlb (scopeCore d.toNat core) (scopeDie d.toNat core) (fun t => t.inRange ctx lo n))) s)

/-- The value of PGQRY for an address (R276). -/
def State.pageQuery (s : State) (ctx va : Nat) : Nat :=
  if 2 ^ 56 ≤ va then 0
  else
    match s.walk ctx none va with
    | .leaf e _ =>
      let cur := if lTensor e then s.currentLevel e else 0
      lSlot e * 2 ^ 43 + lEnc e * 2 ^ 40 + (if lState e = 2 then lTfn e else lHfn e) * 2 ^ 16 + cur * 2 ^ 13
      + bitN (lTensor e && lEnc e != cur) * 2 ^ 12 + bitN (bitAt e 12) * 2 ^ 11 + bitN (bitAt e 11) * 2 ^ 10 + bitN (lHalf e) * 2 ^ 9
      + bitN (lBig e) * 2 ^ 8 + bitN (lTensor e) * 2 ^ 7 + field e 7 5 * 2 ^ 4 + 2 ^ 3 + lState e
    | .fault code _ => if code = fILLEGAL then 2 ^ 63 else 0

/-- Log 33. -/
def execPgqry (d a : BitVec 6) (s : State) : Out :=
  .next (sWord (.pgqry d a) [.g a.toNat] [.g d.toNat] (fun s =>
    let v := BitVec.ofNat 64 (s.pageQuery (ctxOf (s.slot s.cur).act.inctag) (s.g a.toNat).toNat)
    .done ((s.writeG d.toNat v 1).traceInput s.cur d.toNat v)) s)

/-- The checks of PGHINT (R277), and the fold of its effect over its pages. -/
def pageHint (i : Instr) (a b : BitVec 6) (f : State → Nat → State) : State → State :=
  sWord i [.g a.toNat, .g b.toNat] [] fun s =>
    let lo := (s.g a.toNat).toNat
    let n := (s.g b.toNat).toNat
    if n = 0 ∨ 4096 < n then .trap fILLEGAL 0 0
    else if lo % 0x10000 ≠ 0 then .trap fALIGN 0 lo
    else .done ((rangeFrom 0 n).foldl (fun s k => f s (lo + 0x10000 * k)) s)

/-- A page of PGHINT.TRANS. -/
def State.hintTrans (s : State) (va : Nat) : State :=
  let tag := (s.slot s.cur).act.inctag
  if 2 ^ 56 ≤ va then s
  else
    match s.walk (ctxOf tag) none va with
    | .leaf e at_ => s.fillDie (dieOf s.cur) (tlbOf tag va e at_)
    | .fault _ _ => s

/-- A page of PGHINT.ENC: a touch of the activation that only requests the re-encode it would wait for. -/
def State.hintEnc (s : State) (va : Nat) : State :=
  let tag := (s.slot s.cur).act.inctag
  if 2 ^ 56 ≤ va then s
  else
    match s.walk (ctxOf tag) none va with
    | .leaf e at_ =>
      let gov := s.governing (some s.cur) e
      if lTensor e && (lState e == 0 || lState e == 2) && lEnc e != gov && gov == s.currentLevel e then
        s.requestReencode (.core (coreOf s.cur)) tag va e at_ gov
      else s
    | .fault _ _ => s

def execPghintTrans (a b : BitVec 6) (s : State) : Out := .next (pageHint (.pghintTrans a b) a b State.hintTrans s)
def execPghintEnc (a b : BitVec 6) (s : State) : Out := .next (pageHint (.pghintEnc a b) a b State.hintEnc s)

end Sys2Proof.Machine
end

