-- ==== Sys2Proof/Machine/Registers.lean ====
section
/-!
DEFINITION. Sys2Proof/Machine/Registers.lean: the hub register space of BAR0 (16 R367): where its registers stand, what a read returns and
clears, and what a write does (00 R6, R7).
-/

namespace Sys2Proof.Machine

/-! ### Where registers stand -/

/-- A register, by its unit and its offset in the unit's block. -/
inductive HubReg where
  | dev (r : Nat)
  | queue (q r : Nat)
  | cqcfg (core : Nat)
  | barrier (b r : Nat)
  | stream (n r : Nat)
  | ctx (c r : Nat)
  | sem (m r : Nat)
  | tctx (c : Nat)
  | ring (event : Bool) (r : Nat)
  | trace (core r : Nat)
  | life (i : Nat)
  | link (l r : Nat)
  | obase
  | pwin (n : Nat)
  | wall (r : Nat)
  /-- A word of a transport key. -/
  | key (i w : Nat)
  | msix (a : Nat)
  | pba (a : Nat)
  | nonce (w : Nat)
  | attestGo
  | attested (a : Nat)
  | image (a : Nat)
  deriving DecidableEq, Repr, Inhabited

/-- The register at an offset of BAR0. -/
def hubReg (off : Nat) : Option HubReg :=
  if off < 0x60 then some (.dev off)
  else if 0x40000 ≤ off ∧ off < 0x44000 then some (.queue ((off - 0x40000) / 64) (off % 64))
  else if 0x50000 ≤ off ∧ off < 0x50500 ∧ off % 8 = 0 then some (.cqcfg ((off - 0x50000) / 8))
  else if 0x60000 ≤ off ∧ off < 0x64000 then some (.barrier ((off - 0x60000) / 64) (off % 64))
  else if 0x70000 ≤ off ∧ off < 0x70400 then some (.stream ((off - 0x70000) / 64) (off % 64))
  else if 0x80000 ≤ off ∧ off < 0xC0000 then some (.ctx ((off - 0x80000) / 64) (off % 64))
  else if 0xC0000 ≤ off ∧ off < 0xE0000 then some (.sem ((off - 0xC0000) / 32) (off % 32))
  else if 0xE0000 ≤ off ∧ off < 0xE8000 ∧ off % 8 = 0 then some (.tctx ((off - 0xE0000) / 8))
  else if 0xF0000 ≤ off ∧ off < 0xF0080 then some (.ring (decide (0xF0040 ≤ off)) (off % 64))
  else if 0xF2000 ≤ off ∧ off < 0xF3400 then some (.trace ((off - 0xF2000) / 32) (off % 32))
  else if 0xF8000 ≤ off ∧ off < 0x100000 ∧ off % 8 = 0 then some (.life ((off - 0xF8000) / 8))
  else if 0x100000 ≤ off ∧ off < 0x100440 then some (.link ((off - 0x100000) / 64) (off % 64))
  else if off = 0x110000 then some .obase
  else if 0x110100 ≤ off ∧ off < 0x110300 ∧ off % 8 = 0 then some (.pwin ((off - 0x110100) / 8))
  else if 0x120000 ≤ off ∧ off < 0x120018 then some (.wall (off % 32))
  else if 0x130000 ≤ off ∧ off < 0x134000 ∧ off % 4 = 0 then
    if off % 64 < 32 then some (.key ((off - 0x130000) / 64) (off % 64 / 4)) else none
  else if 0x140000 ≤ off ∧ off < 0x148000 then some (.msix (off - 0x140000))
  else if 0x148000 ≤ off ∧ off < 0x148100 then some (.pba (off - 0x148000))
  else if 0x400000 ≤ off ∧ off < 0x400020 ∧ off % 8 = 0 then some (.nonce ((off - 0x400000) / 8))
  else if off = 0x400020 then some .attestGo
  else if 0x401000 ≤ off ∧ off < 0x410000 then some (.attested (off - 0x401000))
  else if 0x800000 ≤ off ∧ off < 0x1000000 then some (.image (off - 0x800000))
  else none

/-! ### Reading -/

def QPhase.code : QPhase → Nat
  | .unbound => 0
  | .active => 1
  | .halted => 2

def BPhase.code : BPhase → Nat
  | .unbound => 0
  | .armed => 1
  | .broken => 2

def LinkPhase.code : LinkPhase → Nat
  | .down => 0
  | .training => 1
  | .up => 2
  | .degraded => 3
  | .failed => 4

def WallPhase.code : WallPhase → Nat
  | .stopped => 0
  | .free => 1
  | .locked => 2
  | .holdover => 3

/-- Device control (19 R424). -/
def DeviceCtl.read (d : DeviceCtl) (r : Nat) : Nat :=
  match r with
  | 0x00 => d.keelerr.toNat * 2 ^ 16 + d.diesok.toNat * 2 ^ 8 + d.service.toNat * 2 ^ 4 + d.stage.toNat
  | 0x10 => d.devfeat.toNat % 2 ^ 64
  | 0x18 => d.devfeat.toNat / 2 ^ 64
  | 0x20 => d.drvfeat.toNat % 2 ^ 64
  | 0x28 => d.drvfeat.toNat / 2 ^ 64
  | 0x30 => d.agreed.toNat % 2 ^ 64
  | 0x38 => d.agreed.toNat / 2 ^ 64
  | 0x48 => d.current.toNat * 2 ^ 32 + d.power.toNat
  | 0x50 => d.throttle.toNat
  | _ => 0

/-- A work queue (12 R291). -/
def WorkQueue.read (q : WorkQueue) (r : Nat) : Nat :=
  match r with
  | 0x00 => q.vector.toNat * 2 ^ 32 + q.ctx.toNat * 2 ^ 20 + q.cls.toNat * 2 ^ 16 + q.log2sz.toNat * 2 ^ 8 + bitN q.intr * 2 ^ 5
      + bitN q.feed * 2 ^ 4 + q.phase.code
  | 0x08 => q.qbase.toNat
  | 0x10 => q.head.toNat
  | 0x18 => q.tail.toNat
  | 0x20 => q.commit.toNat
  | 0x30 => q.wdogCnt.toNat * 2 ^ 32 + q.wdogLim.toNat
  | 0x38 => q.refused.toNat * 2 ^ 32 + q.drops.toNat
  | _ => 0

/-- A barrier (14 R333). -/
def Barrier.read (b : Barrier) (r : Nat) : Nat :=
  match r with
  | 0x00 => b.expect.toNat * 2 ^ 32 + b.ctx.toNat * 2 ^ 20 + b.ccls.toNat * 2 ^ 16 + b.team.toNat * 2 ^ 11 + b.die.toNat * 2 ^ 8
      + b.level.toNat * 2 ^ 6 + b.phase.code
  | 0x08 => b.clsmask.toNat
  | 0x10 => b.caddr.toNat
  | 0x18 => b.peermask.toNat
  | 0x20 => b.arr.toNat * 2 ^ 32 + b.gen.toNat
  | 0x28 => b.tmo.toNat
  | 0x30 => b.refused.toNat * 2 ^ 32 + b.cause.toNat
  | _ => 0

/-- A Tether stream (17 R383). -/
def State.readStream (s : State) (n r : Nat) : Nat :=
  let x := s.stream n
  match r with
  | 0x00 => x.done.toNat * 2 ^ 32 + x.parked.length * 2 ^ 8 + s.streamState n
  | 0x08 => x.late.toNat * 2 ^ 48 + x.refoff.toNat * 2 ^ 32 + x.semref.toNat
  | 0x10 => x.rate.toNat
  | _ => 0

/-- A context (15 R346). -/
def State.readCtx (s : State) (c r : Nat) : Nat :=
  match r with
  | 0x00 => (s.ctx c).cimg.toNat
  | 0x08 => bitN (s.ctx c).priv
  | 0x10 => s.ctxStatus c 0
  | 0x18 => s.ctxStatus c 1
  | 0x20 => s.ctxStatus c 2
  | _ => 0

/-- A semaphore (17 R392). -/
def Sem.read (x : Sem) (r : Nat) : Nat :=
  match r with
  | 0x00 => x.value.toNat
  | 0x08 => bitN x.en * 2 ^ 16 + x.mcls.toNat * 2 ^ 12 + x.ctx.toNat
  | 0x10 => x.mirror.toNat
  | _ => 0

/-- A ring (18 R410). -/
def Ring.read (x : Ring) (r : Nat) : Nat :=
  match r with
  | 0x00 => x.base.toNat
  | 0x08 => x.vector.toNat * 2 ^ 32 + x.log2n.toNat * 2 ^ 16 + bitN x.killf * 4 + bitN x.intr * 2 + bitN x.en
  | 0x10 => x.tail.toNat
  | 0x18 => x.head.toNat
  | 0x20 => x.lost.toNat
  | _ => 0

/-- The trace registers of a core (18 R419). -/
def Trace.read (t : Trace) (r : Nat) : Nat :=
  match r with
  | 0x00 => t.matchVal.toNat * 2 ^ 32 + t.postCfg.toNat * 2 ^ 16 + bitN t.frozen * 2 ^ 7 + t.tsel.toNat * 2 ^ 5 + t.tkind.toNat * 4
  | 0x08 => t.tbaddr.toNat
  | 0x10 => t.ptr
  | _ => 0

/-- A link (16 R363). -/
def Link.read (x : Link) (r : Nat) : Nat :=
  match r with
  | 0x00 => x.lanes.toNat * 2 ^ 8 + x.phase.code
  | 0x08 => x.corr.toNat * 2 ^ 32 + x.retrain.toNat
  | 0x10 => x.uncorr.toNat * 2 ^ 32 + x.nojob.toNat
  | 0x18 => bitN x.disable
  | 0x20 => x.pdelay.toNat
  | _ => 0

/-- A window (16 R367). -/
def Window.read (w : Window) : Nat := w.phys.toNat * 2 ^ 30 + bitN w.peer * 2 + bitN w.en

/-- The wall counter's registers (16 R380). -/
def State.readWall (s : State) (r : Nat) : Nat :=
  let w := s.hub.wall
  match r with
  | 0x00 => w.port.toNat * 2 ^ 8 + bitN w.en * 2 ^ 7 + w.phase.code
  | 0x08 => s.wallTime.toNat
  | 0x10 => w.adj.toNat
  | _ => 0

/-- What a read of a register returns; those of an absent core read zero (01 R25) (log 75). -/
def State.readReg (s : State) (x : HubReg) : Nat × State :=
  match x with
  | .dev r => (s.hub.dev.read r, s)
  | .queue q r => ((s.queue q).read r, s)
  | .cqcfg c => (if s.diePresent (dieOfCore c) = false then 0 else bitN (s.core c).cqEn * 16 + (s.core c).cqStream.toNat, s)
  | .barrier b r => ((s.barrier b).read r, s)
  | .stream n r => (s.readStream n r, s)
  | .ctx c r => (s.readCtx c r, s)
  | .sem m r => ((s.sem m).read r, s)
  | .tctx c => (bitN (s.tctx c).ndok * 2 ^ 32 + (s.tctx c).selfrank.toNat, s)
  | .ring e r => ((if e then s.hub.traps.event else s.hub.traps.trap).read r, s)
  | .trace c r => (if s.diePresent (dieOfCore c) then (s.core c).trace.read r else 0, s)
  | .life i => ((Tab.get 0 s.hub.life i).toNat, s)
  | .link l r => ((s.link l).read r, s)
  | .obase => (s.hub.ep.obase.toNat * 2 ^ 41, s)
  | .pwin n => ((Tab.get Window.reset s.hub.ep.windows n).read, s)
  | .wall r => (s.readWall r, s)
  | .key _ _ => (0, s)
  | .msix a => (ofBytes ((rangeFrom a 8).map s.hub.ep.msixByte), s)
  | .pba a => (s.hub.ep.pba.toNat / 2 ^ (8 * a) % 2 ^ 64, s)
  | .nonce w => (s.hub.attest.nonce.toNat / 2 ^ (64 * w) % 2 ^ 64, s)
  | .attestGo => (0, s)
  | .attested a => (ofBytes ((rangeFrom a 8).map s.hub.attest.byteAt), s)
  | .image a => (ofBytes (s.hub.dev.image.readN a 8), s)

/-! ### Fields that a read clears (00 R6) -/

/-- The RC fields of a register take zero. -/
def State.clearReg (s : State) (x : HubReg) : State :=
  match x with
  | .dev 0x50 => s.modDev fun d => { d with throttle := 0 }
  | .queue q 0x38 => s.modQueue q fun x => { x with refused := 0, drops := 0 }
  | .barrier b 0x30 => s.modBarrier b fun x => { x with refused := 0 }
  | .stream n 0x08 => s.modStream n fun x => { x with late := 0, refoff := 0, semref := 0 }
  | .ctx c 0x18 => s.modCtx c fun x => { x with stale := 0, orphan := 0 }
  | .ctx c 0x20 => s.modCtx c fun x => { x with refused := 0 }
  | .ring e 0x20 =>
    s.modTraps fun t => if e then { t with event := { t.event with lost := 0 } } else { t with trap := { t.trap with lost := 0 } }
  | .link l 0x08 => s.modLink l fun x => { x with corr := 0, retrain := 0 }
  | .link l 0x10 => s.modLink l fun x => { x with uncorr := 0, nojob := 0 }
  | _ => s

/-- READ_CLEAR (00 R6): a read of a register answers with its value and then clears its RC fields. While link 8 carries nothing, no read
arrives (16 R371) (log 75). -/
def execReadClear (off : Nat) (s : State) : Out :=
  .next (
    if s.hostUp = false then s
    else
      match hubReg off with
      | none => s.answer (some (toBytes 8 0))
      | some x =>
        let (v, s) := s.readReg x
        (s.answer (some (toBytes 8 v))).clearReg x)

/-! ### Writing -/

/-- Device control: a half of DRVFEAT (19 R429), or DCMD (19 R426). -/
def State.writeDev (s : State) (r v : Nat) : State :=
  let d := s.hub.dev.drvfeat.toNat
  match r with
  | 0x20 => s.acceptFeatures (BitVec.ofNat 128 (d / 2 ^ 64 * 2 ^ 64 + v))
  | 0x28 => s.acceptFeatures (BitVec.ofNat 128 (d % 2 ^ 64 + v * 2 ^ 64))
  | 0x40 => if v % 8 = 1 then s.commandFull else if v % 8 = 2 then s.commandRecover else s
  | _ => s

/-- A work queue (12 R291, R293). -/
def State.writeQueue (s : State) (q r v : Nat) : State :=
  let free := (s.queue q).phase == .unbound
  match r with
  | 0x00 =>
    s.modQueue q fun x =>
      let x := { x with vector := BitVec.ofNat 11 (field v 42 32), intr := bitAt v 5 }
      if free then
        { x with
          ctx := BitVec.ofNat 12 (field v 31 20), cls := BitVec.ofNat 4 (field v 19 16), log2sz := BitVec.ofNat 5 (field v 12 8)
          feed := bitAt v 4 }
      else x
  | 0x08 => if free then s.modQueue q fun x => { x with qbase := BitVec.ofNat 56 v } else s
  | 0x28 => s.doorbell q (v % 2 ^ 17)
  | 0x2C =>
    match v % 2 ^ 32 with
    | 1 => s.queueBind q
    | 2 => s.queueResume q
    | 3 => s.queueUnbind q
    | _ => s.refuseQueue q
  | 0x30 => s.modQueue q fun x => { x with wdogLim := BitVec.ofNat 32 v }
  | _ => s

/-- CQCFG of a core (12 R304): STREAM stays while the queue holds a command. -/
def State.writeCqcfg (s : State) (core v : Nat) : State :=
  s.modCore core fun c => { c with cqEn := bitAt v 4, cqStream := if c.commq.isEmpty then BitVec.ofNat 4 v else c.cqStream }

/-- The RW fields of a barrier (14 R333). -/
def Barrier.write (x : Barrier) (r v : Nat) : Barrier :=
  match r with
  | 0x00 =>
    { x with
      expect := BitVec.ofNat 9 (field v 40 32), ctx := BitVec.ofNat 12 (field v 31 20), ccls := BitVec.ofNat 4 (field v 19 16)
      team := if field v 15 11 < 20 then BitVec.ofNat 5 (field v 15 11) else x.team
      die := if field v 10 8 < 4 then BitVec.ofNat 3 (field v 10 8) else x.die, level := BitVec.ofNat 2 (field v 7 6) }
  | 0x08 => { x with clsmask := BitVec.ofNat 16 v }
  | 0x10 => { x with caddr := BitVec.ofNat 56 v }
  | 0x18 => { x with peermask := BitVec.ofNat 64 v }
  | 0x28 => { x with tmo := BitVec.ofNat 32 v }
  | _ => x

/-- A barrier (14 R333, R335): a write of an RW field in another state than Unbound is ignored and counted. -/
def State.writeBarrier (s : State) (b r v : Nat) : State :=
  if r = 0x38 then
    match v % 2 ^ 32 with
    | 1 => s.barrierBind b
    | 2 => s.barrierReset b
    | 3 => s.barrierUnbind b
    | 4 => s.barrierCommandBreak b
    | _ => s.refuseBarrier b
  else if r = 0x00 ∨ r = 0x08 ∨ r = 0x10 ∨ r = 0x18 ∨ r = 0x28 then
    if (s.barrier b).phase = .unbound then s.modBarrier b fun x => x.write r v else s.refuseBarrier b
  else s

/-- A context (15 R346, R350). -/
def State.writeCtx (s : State) (c r v : Nat) : State :=
  let free := (s.ctx c).phase == .free
  match r with
  | 0x00 => if free then s.modCtx c fun x => { x with cimg := BitVec.ofNat 42 v } else s.refuseCtx c
  | 0x08 => if free then s.modCtx c fun x => { x with priv := bitAt v 0 } else s.refuseCtx c
  | 0x38 =>
    match v % 2 ^ 32 with
    | 1 => s.createCtx c
    | 2 => s.destroyCtx c
    | 3 => s.commandKill c
    | 4 => s.commandFence c
    | _ => s.refuseCtx c
  | _ => s

/-- A semaphore (17 R392). -/
def Sem.write (x : Sem) (r v : Nat) : Sem :=
  match r with
  | 0x00 => if x.en then x else { x with value := BitVec.ofNat 32 v }
  | 0x08 =>
    if x.en then { x with en := bitAt v 16 }
    else { x with en := bitAt v 16, mcls := BitVec.ofNat 4 (field v 15 12), ctx := BitVec.ofNat 12 v }
  | 0x10 => { x with mirror := BitVec.ofNat 56 v }
  | _ => x

/-- TCTX of a context (17 R384). -/
def State.writeTctx (s : State) (c v : Nat) : State :=
  if (s.ctx c).phase = .free ∨ (s.ctx c).phase = .idle then
    s.modHub fun h => { h with ctx := { h.ctx with tctx := h.ctx.tctx.put c { ndok := bitAt v 32, selfrank := BitVec.ofNat 32 v } } }
  else s

/-- A ring's own registers (18 R410). -/
def Ring.write (x : Ring) (event : Bool) (r v : Nat) : Ring :=
  match r with
  | 0x00 => if x.en then x else { x with base := BitVec.ofNat 42 v }
  | 0x08 => x.control event (BitVec.ofNat 64 v)
  | 0x18 => { x with head := BitVec.ofNat 32 v }
  | _ => x

/-- A ring, or FRES of the trap ring (18 R410, R413). -/
def State.writeRing (s : State) (event : Bool) (r v : Nat) : State :=
  if event = false ∧ r = 0x28 then
    match field v 17 16 with
    | 1 => s.resolveSeq (BitVec.ofNat 16 v) true
    | 2 => s.resolveSeq (BitVec.ofNat 16 v) false
    | _ => s
  else
    s.modTraps fun t => if event then { t with event := t.event.write true r v } else { t with trap := t.trap.write false r v }

/-- The trace registers of a core (18 R419): the fields are set, then DUMP and REARM act (log 75). -/
def State.writeTrace (s : State) (core r v : Nat) : State :=
  match r with
  | 0x00 =>
    let s := s.modCore core fun c =>
      { c with trace := { c.trace with
          matchVal := BitVec.ofNat 32 (v / 2 ^ 32), postCfg := BitVec.ofNat 16 (field v 31 16)
          tsel := if field v 6 5 < 3 then BitVec.ofNat 2 (field v 6 5) else c.trace.tsel
          tkind := if field v 4 2 < 5 then BitVec.ofNat 3 (field v 4 2) else c.trace.tkind } }
    let s := if bitAt v 1 then s.traceDump core else s
    if bitAt v 0 then s.traceRearm core else s
  | 0x08 => s.modCore core fun c => { c with trace := { c.trace with tbaddr := BitVec.ofNat 42 v } }
  | _ => s

/-- LCTL of a link (16 R363, R364). -/
def State.writeLink (s : State) (l r v : Nat) : State :=
  if r = 0x18 then
    let s := s.linkDisable l (bitAt v 0)
    if bitAt v 1 then s.retrain l else s
  else s

/-- The wall counter's registers (16 R380). -/
def State.writeWall (s : State) (r v : Nat) : State :=
  match r with
  | 0x00 => s.modHub fun h => { h with wall := { h.wall with port := if field v 11 8 < 8 then BitVec.ofNat 4 (field v 11 8) else h.wall.port, en := bitAt v 7 } }
  | 0x08 => s.setWall (BitVec.ofNat 64 v)
  | _ => s

/-- Replace the `w`-th part of `n` bits of a number. -/
def setPart (x n w v : Nat) : Nat := x - x / 2 ^ (n * w) % 2 ^ n * 2 ^ (n * w) + v % 2 ^ n * 2 ^ (n * w)

def State.modEp (s : State) (f : Endpoint → Endpoint) : State := s.modHub fun h => { h with ep := f h.ep }

/-- A write of the MSI-X table; a vector that pends and is no longer masked is sent (R370) (log 75). -/
def Endpoint.writeMsix (e : Endpoint) (a v : Nat) : Endpoint :=
  let e := { e with msix := e.msix.writeN a (((rangeFrom a 8).zip (toBytes 8 v)).map fun (x, b) => b ^^^ msixReset x) }
  let n := a / 16
  if e.pba.getLsbD n && !e.masked n then { e with pba := e.pba &&& ~~~(BitVec.ofNat 2048 (2 ^ n)), raised := e.raised ++ [n] } else e

/-- A write of a register (log 75). -/
def State.writeReg (s : State) (x : HubReg) (v : Nat) : State :=
  match x with
  | .dev r => s.writeDev r v
  | .queue q r => s.writeQueue q r v
  | .cqcfg c => if s.diePresent (dieOfCore c) then s.writeCqcfg c v else s
  | .barrier b r => s.writeBarrier b r v
  | .stream n r => if r = 0x10 then s.modStream n fun x => { x with rate := BitVec.ofNat 16 v } else s
  | .ctx c r => s.writeCtx c r v
  | .sem m r => s.modSem m fun x => x.write r v
  | .tctx c => s.writeTctx c v
  | .ring e r => s.writeRing e r v
  | .trace c r => if s.diePresent (dieOfCore c) then s.writeTrace c r v else s
  | .life _ => s
  | .link l r => s.writeLink l r v
  | .obase => s.modEp fun e => { e with obase := BitVec.ofNat 23 (v / 2 ^ 41) }
  | .pwin n =>
    s.modEp fun e =>
      { e with windows := e.windows.put n { phys := BitVec.ofNat 12 (field v 41 30), peer := bitAt v 1, en := bitAt v 0 } }
  | .wall r => s.writeWall r v
  | .key i w => s.modHub fun h => { h with keys := h.keys.put i (BitVec.ofNat 256 (setPart (Tab.get 0 h.keys i).toNat 32 w v)) }
  | .msix a => s.modEp fun e => e.writeMsix a v
  | .pba _ => s
  | .nonce w => s.modHub fun h => { h with attest := { h.attest with nonce := BitVec.ofNat 256 (setPart h.attest.nonce.toNat 64 w v) } }
  | .attestGo => if v = 1 then s.attest else s
  | .attested _ => s
  | .image a => s.modDev fun d => { d with image := d.image.writeN a (toBytes 8 v) }

/-- REGISTER_WRITE (00 R6): a write of a register sets its fields under their access codes, or takes the action that the register names. While
link 8 carries nothing, no write arrives (16 R371) (log 75). -/
def execRegisterWrite (off : Nat) (v : BitVec 64) (s : State) : Out :=
  .next (
    if s.hostUp = false then s
    else
      match hubReg off with
      | none => s
      | some x => s.writeReg x v.toNat)

end Sys2Proof.Machine
end

