-- ==== Sys2Proof/Machine/Special.lean ====
section
/-!
DEFINITION. Sys2Proof/Machine/Special.lean: the special functions of the vector engine, correctly rounded (06 R154). An irrational
value is bracketed by fixed-point arithmetic on integers at rising precisions, until both ends of the bracket round to one code.
-/

namespace Sys2Proof.Machine

/-- The integer square root, one bit at a time: `n` bits of the root are still to find. -/
def isqrtBits (x : Nat) : Nat → Nat → Nat
  | 0, r => r
  | n + 1, r => if (r + 2 ^ n) * (r + 2 ^ n) ≤ x then isqrtBits x n (r + 2 ^ n) else isqrtBits x n r

/-- floor(sqrt x). -/
def isqrt (x : Nat) : Nat := isqrtBits x (Nat.log2 x / 2 + 1) 0

/-- The sum of z^(2k+1) / (2k+1) in fixed point with p fraction bits: atanh z. -/
def atanhSum (p z2 : Nat) : Nat → Nat → Nat → Nat
  | 0, _, _ => 0
  | n + 1, k, t => if t = 0 then 0 else t / (2 * k + 1) + atanhSum p z2 n (k + 1) (t * z2 / 2 ^ p)

def atanhFix (p z : Nat) : Nat := atanhSum p (z * z / 2 ^ p) p 0 z

/-- ln 2 in fixed point with p fraction bits. -/
def ln2Fix (p : Nat) : Nat := 2 * atanhFix p (2 ^ p / 3)

/-- The exponential series in fixed point, for 0 ≤ y < 1. -/
def expSum (p y : Nat) : Nat → Nat → Nat → Nat
  | 0, _, _ => 0
  | n + 1, k, t => if t = 0 then 0 else t + expSum p y n (k + 1) (t * y / 2 ^ p / k)

/-- 2^f in fixed point with p fraction bits, for 0 ≤ f < 1. -/
def exp2Frac (p f : Nat) : Nat := expSum p (f * ln2Fix p / 2 ^ p) p 1 (2 ^ p)

/-- A dyadic magnitude in fixed point with p fraction bits, rounded down. -/
def toFix (p m : Nat) (e : Int) : Nat :=
  if 0 ≤ e + p then m * 2 ^ (e + p).toNat else m / 2 ^ (-(e + p)).toNat

/-- ln t in fixed point, for 1 ≤ t < 2 given in fixed point. -/
def lnFix (p t : Nat) : Nat := 2 * atanhFix p ((t - 2 ^ p) * 2 ^ p / (t + 2 ^ p))

/-- 2^(-u) in fixed point with p fraction bits, for u in fixed point with p fraction bits. -/
def exp2Neg (p u : Nat) : Nat :=
  let n := ceilDiv u (2 ^ p)
  exp2Frac p (n * 2 ^ p - u) / 2 ^ n

/-- e^(-a) in fixed point with p fraction bits, for a dyadic magnitude a. -/
def expNeg (p m : Nat) (e : Int) : Nat := exp2Neg p (toFix p m e * 2 ^ p / ln2Fix p)

/-- The functions that are irrational at almost every argument. -/
inductive Transc where
  | exp2 | log2 | tanh | sigm
  deriving DecidableEq, Repr, Inhabited

/-- A magnitude near |f(x)|, with its sign, as an integer times 2^ex; its error is at most 2^16 units (p fraction bits). -/
def approx (t : Transc) (p : Nat) (neg : Bool) (m : Nat) (e : Int) : Bool × Nat × Int :=
  let one := 2 ^ p
  match t with
  | .exp2 =>
    let x := toFix p m e
    if neg then
      let n := ceilDiv x one
      (false, exp2Frac p (n * one - x), -(n : Int) - p)
    else (false, exp2Frac p (x % one), ((x / one : Nat) : Int) - p)
  | .log2 =>
    let k := log2v m e
    let t1 := lnFix p (toFix p m (e - k)) * one / ln2Fix p
    let v : Int := k * (one : Nat) + (t1 : Nat)
    (decide (v < 0), v.natAbs, -(p : Int))
  | .tanh =>
    let y := expNeg p m (e + 1)
    (neg, (one - y) * one / (one + y), -(p : Int))
  | .sigm =>
    let y := expNeg p m e
    (false, (if neg then y else one) * one / (one + y), -(p : Int))

/-- Round a bracket of a positive magnitude that is no boundary itself: the common code of both ends, where they agree (log 42). -/
def roundBracket (f : Fmt) (mode : RMode) (sat : Bool) (neg : Bool) (m : Nat) (e : Int) (err : Nat) : Option Nat :=
  let lo := (if m ≤ err then roundMag f mode 0 sat neg 1 (-5000) true else roundMag f mode 0 sat neg (m - err) e true).code
  let hi := (roundMag f mode 0 sat neg (m + err) e true).code
  if lo = hi then some lo else none

/-- Try each precision in turn (log 42). -/
def roundTransc (f : Fmt) (mode : RMode) (sat : Bool) (t : Transc) (neg : Bool) (m : Nat) (e : Int) : List Nat → Option Nat
  | [] => none
  | p :: ps =>
    let (s, a, ex) := approx t p neg m e
    match roundBracket f mode sat s a ex (2 ^ 20) with
    | some c => some c
    | none => roundTransc f mode sat t neg m e ps

/-- The precisions tried: enough for every FP32 argument (log 42). -/
def precisions : List Nat := [100, 220, 600, 1400]

/-- Is a dyadic magnitude at least 2^k? -/
def magAtLeast (m : Nat) (e : Int) (k : Nat) : Bool := !(magLt m e 1 k)

/-- The special functions by the VB code of R77. -/
inductive SpecFn where
  | rcp | rsq | sqrt | exp2 | log2 | tanh | sigm
  deriving DecidableEq, Repr, Inhabited

/-- The correctly rounded code of a special function (R154); `none` where the precisions above do not decide it (log 42). -/
def special (fn : SpecFn) (f : Fmt) (mode : RMode) (sat : Bool) (x : Val) : Option Nat :=
  let exact (v : Val) : Option Nat := some (roundTo f mode 0 sat v).code
  let sticky (neg : Bool) (m : Nat) (e : Int) (s : Bool) : Option Nat := some (roundMag f mode 0 sat neg m e s).code
  match fn, x with
  | _, .nan => exact .nan
  | .rcp, .inf n => exact (.fin n 0 0)
  | .rcp, .fin n m e =>
    if m = 0 then exact (.inf n)
    else
      let k := Nat.log2 m + 80
      sticky n (2 ^ k / m) (-(k : Int) - e) (2 ^ k % m != 0)
  | .rsq, .inf n => exact (if n then .nan else .zero)
  | .rsq, .fin n m e =>
    if m = 0 then exact (.inf n)
    else if n then exact .nan
    else
      -- 1/sqrt(m 2^e) with e made even: sqrt(2^(2k) / m') * 2^(-k - e'/2)
      let (m1, e1) := if e % 2 = 0 then (m, e) else (2 * m, e - 1)
      let k := Nat.log2 m1 + 80
      let s := isqrt (2 ^ (2 * k) / m1)
      sticky false s (-(k : Int) - e1 / 2) (s * s * m1 != 2 ^ (2 * k))
  | .sqrt, .inf n => exact (if n then .nan else .inf false)
  | .sqrt, .fin n m e =>
    if m = 0 then exact (.fin n 0 0)
    else if n then exact .nan
    else
      let (m1, e1) := if e % 2 = 0 then (m, e) else (2 * m, e - 1)
      let a := m1 * 2 ^ 160
      let s := isqrt a
      sticky false s (e1 / 2 - 80) (s * s != a)
  | .exp2, .inf n => exact (if n then .zero else .inf false)
  | .exp2, .fin n m e =>
    if m = 0 then exact .one
    else if magAtLeast m e 10 then sticky false 1 (if n then -1100 else 1100) true
    else if decide (0 ≤ e) || decide (m % 2 ^ (-e).toNat = 0) then
      let k : Int := (toFix 0 m e : Nat)
      exact (.fin false 1 (if n then -k else k))
    else roundTransc f mode sat .exp2 n m e precisions
  | .log2, .inf n => exact (if n then .nan else .inf false)
  | .log2, .fin n m e =>
    if m = 0 then exact (.inf true)
    else if n then exact .nan
    else if m = 2 ^ Nat.log2 m then exact (Val.ofInt (log2v m e))
    else roundTransc f mode sat .log2 false m e precisions
  | .tanh, .inf n => exact (.fin n 1 0)
  | .tanh, .fin n m e =>
    if m = 0 then exact (.fin n 0 0)
    else if magAtLeast m e 8 then sticky n (2 ^ 100 - 1) (-100) true
    else roundTransc f mode sat .tanh n m e precisions
  | .sigm, .inf n => exact (if n then .zero else .one)
  | .sigm, .fin n m e =>
    if m = 0 then exact (.fin false 1 (-1))
    else if magAtLeast m e 8 then (if n then sticky false 1 (-1100) true else sticky false (2 ^ 100 - 1) (-100) true)
    else roundTransc f mode sat .sigm n m e precisions

end Sys2Proof.Machine
end

