-- ==== Sys2Proof/Machine/Vector.lean ====
section
/-!
DEFINITION. Sys2Proof/Machine/Vector.lean: the arithmetic words of the vector engine: element-wise floating point (06 R151-R153),
special functions (R154), integers and bits (R155), masks and votes (R156-R159), conversion and blocks (R160-R164) and
reductions (R165).
-/

namespace Sys2Proof.Machine

/-! ### Shared forms -/

/-- The checks of R143, R67 and R141: the class of the format, RND = 4 without a random operand, the names of wide operands. -/
def VEnv.fits (e : VEnv) (cls : Nat → Bool) (rand : Bool) (wides : List (Nat × Nat)) : Bool :=
  cls e.sh.code && (rand || e.sh.rnd != 4) && wides.all fun x => decide (e.lastName x.1 x.2 ≤ 63)

def VEnv.mode (e : VEnv) : RMode := (rmodeOf e.sh.rnd).getD .rne

/-- round_to under the shape's RND and SAT. -/
def VEnv.round (e : VEnv) (f : Fmt) (rnd : Nat) (x : Val) : Nat := (roundTo f e.mode rnd e.sh.sat x).code

/-- The decoded value of an element of the shape's format. -/
def VEnv.val (e : VEnv) (name i j : Nat) : Val := decodeCode e.sh.fmt (e.code name i j e.w)

/-- A word that writes one element of its own format at each enabled position from elements of the named operands. -/
def elementWise (i : Instr) (shp : Nat × Bool) (cls : Nat → Bool) (vd : Nat) (srcs : List Nat) (extra : VEnv → Bool)
    (f : VEnv → Nat → Nat → Nat) : State → State :=
  vWord i (some shp) 0 0 true fun e =>
    planIf (e.fits cls false [] && extra e)
      { srcs := srcs.flatMap fun n => e.tilesOf n e.w
        dsts := e.tilesOf vd e.w
        out := fun _ => { tiles := e.map vd e.w (f e) } }

/-- The selection and swap of a T3 word. -/
def shpOf (s : BitVec 2) (w : BitVec 1) : Nat × Bool := (s.toNat, w.getLsbD 0)

/-! ### Element-wise floating point (R151-R153) -/

/-- The exact sum with the zero of R152. -/
def VEnv.sum (e : VEnv) (a b : Val) : Val := Val.addZ (e.mode == .rdn) a b

def float2 (i : Instr) (d a b : BitVec 6) (s : BitVec 2) (w : BitVec 1) (op : VEnv → Val → Val → Val) : State → State :=
  elementWise i (shpOf s w) clsFW d.toNat [a.toNat, b.toNat] (fun _ => true)
    (fun e x y => e.round e.sh.fmt 0 (op e (e.val a.toNat x y) (e.val b.toNat x y)))

def execVadd (d a b : BitVec 6) (s : BitVec 2) (w : BitVec 1) (st : State) : Out :=
  .next (float2 (.vadd d a b s w) d a b s w VEnv.sum st)
def execVsub (d a b : BitVec 6) (s : BitVec 2) (w : BitVec 1) (st : State) : Out :=
  .next (float2 (.vsub d a b s w) d a b s w (fun e x y => e.sum x y.negate) st)
def execVmul (d a b : BitVec 6) (s : BitVec 2) (w : BitVec 1) (st : State) : Out :=
  .next (float2 (.vmul d a b s w) d a b s w (fun _ x y => Val.mul x y) st)

/-- A fused word: no T4 word swaps its shape (R147). -/
def float3 (i : Instr) (p : BitVec 2) (d a b c : BitVec 6) (op : VEnv → Val → Val → Val → Val) : State → State :=
  elementWise i (p.toNat, false) clsFW d.toNat [a.toNat, b.toNat, c.toNat] (fun _ => true)
    (fun e x y => e.round e.sh.fmt 0 (op e (e.val a.toNat x y) (e.val b.toNat x y) (e.val c.toNat x y)))

def execVfma (p : BitVec 2) (d a b c : BitVec 6) (st : State) : Out :=
  .next (float3 (.vfma p d a b c) p d a b c (fun e x y z => e.sum (x.mul y) z) st)
def execVfms (p : BitVec 2) (d a b c : BitVec 6) (st : State) : Out :=
  .next (float3 (.vfms p d a b c) p d a b c (fun e x y z => e.sum (x.mul y) z.negate) st)
def execVfnma (p : BitVec 2) (d a b c : BitVec 6) (st : State) : Out :=
  .next (float3 (.vfnma p d a b c) p d a b c (fun e x y z => e.sum (x.mul y).negate z) st)

/-- The smaller or larger of two codes by their values, unrounded; a NaN gives the canonical NaN (R153). -/
def pickCode (f : Fmt) (larger : Bool) (cx cy : Nat) : Nat :=
  let x := decodeCode f cx
  let y := decodeCode f cy
  if x.isNan || y.isNan then (nanCode f).getD 0
  else if larger then (if x.below y then cy else cx) else (if y.below x then cy else cx)

def pick2 (i : Instr) (d a b : BitVec 6) (s : BitVec 2) (w : BitVec 1) (larger : Bool) : State → State :=
  elementWise i (shpOf s w) clsFW d.toNat [a.toNat, b.toNat] (fun _ => true)
    (fun e x y => pickCode e.sh.fmt larger (e.code a.toNat x y e.w) (e.code b.toNat x y e.w))

def execVmin (d a b : BitVec 6) (s : BitVec 2) (w : BitVec 1) (st : State) : Out := .next (pick2 (.vmin d a b s w) d a b s w false st)
def execVmax (d a b : BitVec 6) (s : BitVec 2) (w : BitVec 1) (st : State) : Out := .next (pick2 (.vmax d a b s w) d a b s w true st)

/-- VABS and VNEG work on the sign bit of every code that is no NaN. -/
def signWord (i : Instr) (d a : BitVec 6) (s : BitVec 2) (w : BitVec 1) (op : Nat → Nat → Nat) : State → State :=
  elementWise i (shpOf s w) clsFW d.toNat [a.toNat] (fun _ => true) fun e x y =>
    let c := e.code a.toNat x y e.w
    if (decodeCode e.sh.fmt c).isNan then (nanCode e.sh.fmt).getD 0 else op (2 ^ (e.w - 1)) c

def execVabs (d a : BitVec 6) (s : BitVec 2) (w : BitVec 1) (st : State) : Out :=
  .next (signWord (.vabs d a s w) d a s w (fun h c => c % h) st)
def execVneg (d a : BitVec 6) (s : BitVec 2) (w : BitVec 1) (st : State) : Out :=
  .next (signWord (.vneg d a s w) d a s w (fun h c => if c < h then c + h else c - h) st)

/-! ### Special functions (R154) -/

def specWord (i : Instr) (d a : BitVec 6) (s : BitVec 2) (w : BitVec 1) (fn : SpecFn) : State → State :=
  elementWise i (shpOf s w) clsFW d.toNat [a.toNat] (fun _ => true)
    (fun e x y => (special fn e.sh.fmt e.mode e.sh.sat (e.val a.toNat x y)).getD Config.hardCase)

def execVrcp (d a : BitVec 6) (s : BitVec 2) (w : BitVec 1) (st : State) : Out := .next (specWord (.vrcp d a s w) d a s w .rcp st)
def execVrsq (d a : BitVec 6) (s : BitVec 2) (w : BitVec 1) (st : State) : Out := .next (specWord (.vrsq d a s w) d a s w .rsq st)
def execVsqrt (d a : BitVec 6) (s : BitVec 2) (w : BitVec 1) (st : State) : Out := .next (specWord (.vsqrt d a s w) d a s w .sqrt st)
def execVexp2 (d a : BitVec 6) (s : BitVec 2) (w : BitVec 1) (st : State) : Out := .next (specWord (.vexp2 d a s w) d a s w .exp2 st)
def execVlog2 (d a : BitVec 6) (s : BitVec 2) (w : BitVec 1) (st : State) : Out := .next (specWord (.vlog2 d a s w) d a s w .log2 st)
def execVtanh (d a : BitVec 6) (s : BitVec 2) (w : BitVec 1) (st : State) : Out := .next (specWord (.vtanh d a s w) d a s w .tanh st)
def execVsigm (d a : BitVec 6) (s : BitVec 2) (w : BitVec 1) (st : State) : Out := .next (specWord (.vsigm d a s w) d a s w .sigm st)

/-! ### Integer and bit operations (R155) -/

/-- The format is signed. -/
def Fmt.signed : Fmt → Bool
  | .int _ s => s
  | _ => false

/-- An integer code of the format as its value. -/
def intOf (f : Fmt) (c : Nat) : Int := if f.signed then sext c f.width else c

/-- The least and greatest values of an integer format (R30). -/
def Fmt.least (f : Fmt) : Int := if f.signed then -(2 ^ (f.width - 1)) else 0
def Fmt.greatest (f : Fmt) : Int := if f.signed then 2 ^ (f.width - 1) - 1 else 2 ^ f.width - 1

/-- The code of an integer result: clamped to the range of the format, or wrapped. -/
def intCode (f : Fmt) (sat : Bool) (x : Int) : Nat :=
  wrapN f.width (if sat then (if x < f.least then f.least else if f.greatest < x then f.greatest else x) else x)

def int2 (i : Instr) (d a b : BitVec 6) (s : BitVec 2) (w sat : BitVec 1) (op : Int → Int → Int) : State → State :=
  elementWise i (shpOf s w) clsIN d.toNat [a.toNat, b.toNat] (fun _ => true) fun e x y =>
    intCode e.sh.fmt (sat.getLsbD 0) (op (intOf e.sh.fmt (e.code a.toNat x y e.w)) (intOf e.sh.fmt (e.code b.toNat x y e.w)))

def execViadd (d a b : BitVec 6) (s : BitVec 2) (w t : BitVec 1) (st : State) : Out :=
  .next (int2 (.viadd d a b s w t) d a b s w t (· + ·) st)
def execVisub (d a b : BitVec 6) (s : BitVec 2) (w t : BitVec 1) (st : State) : Out :=
  .next (int2 (.visub d a b s w t) d a b s w t (· - ·) st)
def execVimul (d a b : BitVec 6) (s : BitVec 2) (w t : BitVec 1) (st : State) : Out :=
  .next (int2 (.vimul d a b s w t) d a b s w t (· * ·) st)

def execVimad (p : BitVec 2) (d a b c : BitVec 6) (st : State) : Out :=
  .next (elementWise (.vimad p d a b c) (p.toNat, false) clsIN d.toNat [a.toNat, b.toNat, c.toNat] (fun _ => true) (fun e x y =>
    let v (n : BitVec 6) : Int := intOf e.sh.fmt (e.code n.toNat x y e.w)
    intCode e.sh.fmt false (v a * v b + v c)) st)

def bits2 (i : Instr) (d a b : BitVec 6) (s : BitVec 2) (w : BitVec 1) (op : Nat → Nat → Nat) : State → State :=
  elementWise i (shpOf s w) clsAny d.toNat [a.toNat, b.toNat] (fun _ => true)
    (fun e x y => op (e.code a.toNat x y e.w) (e.code b.toNat x y e.w))

def execVand (d a b : BitVec 6) (s : BitVec 2) (w : BitVec 1) (st : State) : Out := .next (bits2 (.vand d a b s w) d a b s w (· &&& ·) st)
def execVor (d a b : BitVec 6) (s : BitVec 2) (w : BitVec 1) (st : State) : Out := .next (bits2 (.vor d a b s w) d a b s w (· ||| ·) st)
def execVxor (d a b : BitVec 6) (s : BitVec 2) (w : BitVec 1) (st : State) : Out := .next (bits2 (.vxor d a b s w) d a b s w (· ^^^ ·) st)

/-- A shift: its amount is the field VB with .IMM, else the code bits of VB modulo 64. -/
def shiftWord (i : Instr) (d a b : BitVec 6) (s : BitVec 2) (w imm : BitVec 1) (cls : Nat → Bool) (op : Fmt → Nat → Nat → Nat) :
    State → State :=
  let isImm := imm.getLsbD 0
  elementWise i (shpOf s w) cls d.toNat (if isImm then [a.toNat] else [a.toNat, b.toNat]) (fun _ => true) fun e x y =>
    op e.sh.fmt (e.code a.toNat x y e.w) (if isImm then b.toNat else e.code b.toNat x y e.w % 64)

def execVshl (d a b : BitVec 6) (s : BitVec 2) (w i : BitVec 1) (st : State) : Out :=
  .next (shiftWord (.vshl d a b s w i) d a b s w i clsIN (fun f c n => c * 2 ^ n % 2 ^ f.width) st)
def execVshr (d a b : BitVec 6) (s : BitVec 2) (w i : BitVec 1) (st : State) : Out :=
  .next (shiftWord (.vshr d a b s w i) d a b s w i clsIN (fun _ c n => c / 2 ^ n) st)
def execVsar (d a b : BitVec 6) (s : BitVec 2) (w i : BitVec 1) (st : State) : Out :=
  .next (shiftWord (.vsar d a b s w i) d a b s w i (fun c => decide (0x12 ≤ c ∧ c ≤ 0x15))
    (fun f c n => wrapN f.width (sext c f.width / 2 ^ n)) st)

/-! ### Masks and votes (R156-R159) -/

/-- The entry formed from a condition: its bits are the positions of the shape that are enabled and meet it (R157). -/
def VEnv.maskOf (e : VEnv) (cond : Nat → Nat → Bool) : Mask :=
  e.each.foldl (fun m p => if cond p.1 p.2 then m ||| BitVec.ofNat 4096 (2 ^ (p.1 * 128 + p.2)) else m) 0

/-- The condition of VCMP between two values, the order of numbers (R157). -/
def vcmpHolds (cc : Nat) (x y : Val) : Bool :=
  let nan := x.isNan || y.isNan
  match cc with
  | 0 => x.eqv y
  | 1 => !x.eqv y
  | 2 => x.lt y
  | 3 => x.lt y || x.eqv y
  | 4 => y.lt x
  | 5 => y.lt x || x.eqv y
  | 6 => !nan
  | _ => nan

/-- A word that pushes an entry: with eight held it is illegal (R156). -/
def pushMask (i : Instr) (s : BitVec 2) (w : BitVec 1) (srcs : List Nat) (cond : VEnv → Nat → Nat → Bool) : State → State :=
  vWord i (some (shpOf s w)) 0 0 true fun e =>
    planIf (e.fits (fun c => clsFA c || clsIN c) false [] && decide (e.sl.regs.masks.length < 8))
      { srcs := srcs.flatMap fun n => e.tilesOf n e.w
        out := fun _ => { mask := .push (e.maskOf (cond e)) } }

def execVcmp (a b : BitVec 6) (s : BitVec 2) (w : BitVec 1) (c : BitVec 3) (st : State) : Out :=
  .next (pushMask (.vcmp a b s w c) s w [a.toNat, b.toNat]
    (fun e x y => vcmpHolds c.toNat (e.val a.toNat x y) (e.val b.toNat x y)) st)
def execVmand (a : BitVec 6) (s : BitVec 2) (w : BitVec 1) (st : State) : Out :=
  .next (pushMask (.vmand a s w) s w [a.toNat] (fun e x y => !(e.val a.toNat x y).isZero) st)

/-- A word on the top entry: an empty stack is illegal (R156). -/
def topMask (i : Instr) (op : MaskOp) : State → State :=
  vWord i none 0 0 true fun e => planIf (!e.sl.regs.masks.isEmpty) { out := fun _ => { mask := op } }

def execVmpop (s : State) : Out := .next (topMask .vmpop .pop s)
def execVminv (s : State) : Out := .next (topMask .vminv .invert s)

def execVsel (d a b : BitVec 6) (s : BitVec 2) (w : BitVec 1) (st : State) : Out :=
  .next (vWord (.vsel d a b s w) (some (shpOf s w)) 0 0 true (fun e =>
    planIf (e.fits clsAny false [])
      { srcs := e.tilesOf a.toNat e.w ++ e.tilesOf b.toNat e.w
        dsts := e.tilesOf d.toNat e.w
        out := fun _ =>
          { tiles := (positions e.sh.rows e.sh.cols).map fun p =>
              e.put d.toNat p.1 p.2 e.w (e.code (if e.enabled p.1 p.2 then a.toNat else b.toNat) p.1 p.2 e.w) } }) st)

def voteWord (i : Instr) (s : BitVec 2) (w : BitVec 1) (vote : VEnv → Bool) : State → State :=
  vWord i (some (shpOf s w)) 0 0 true fun e =>
    planIf (e.fits clsAny false []) { votes := true, out := fun _ => { vote := some (vote e) } }

def execVany (s : BitVec 2) (w : BitVec 1) (st : State) : Out := .next (voteWord (.vany s w) s w (fun e => !e.each.isEmpty) st)
def execVall (s : BitVec 2) (w : BitVec 1) (st : State) : Out :=
  .next (voteWord (.vall s w) s w (fun e => decide (e.each.length = e.sh.rows * e.sh.cols)) st)

/-! ### Conversion and block quantisation (R160-R164) -/

/-- The random word at a position: read only in SR mode (R141, R160). -/
def VEnv.random (e : VEnv) (name i j : Nat) : Nat := if e.sh.rnd = 4 then e.code name i j 32 else 0

def cvtWord (ins : Instr) (d a r : BitVec 6) (s : BitVec 2) (w : BitVec 1) (t : BitVec 2) (dst : Nat → Bool) : State → State :=
  vWord ins (some (shpOf s w)) 0 0 true fun e =>
    match e.sl.regs.vshape t.toNat with
    | none => .bad fILLEGAL 0 0
    | some src =>
      let sw := src.fmt.width
      let sr := e.sh.rnd == 4
      planIf (e.fits dst true ((a.toNat, sw) :: if sr then [(r.toNat, 32)] else []) && (sr || r == 0) && src.code != 8)
        { srcs := e.tilesOf a.toNat sw ++ if sr then e.tilesOf r.toNat 32 else []
          dsts := e.tilesOf d.toNat e.w
          out := fun _ =>
            { tiles := e.map d.toNat e.w fun i j =>
                e.round e.sh.fmt (e.random r.toNat i j) (decodeCode src.fmt (e.code a.toNat i j sw)) } }

def execVcvtFlt (d a r : BitVec 6) (s : BitVec 2) (w : BitVec 1) (t : BitVec 2) (st : State) : Out :=
  .next (cvtWord (.vcvtFlt d a r s w t) d a r s w t clsFA st)
def execVcvtInt (d a r : BitVec 6) (s : BitVec 2) (w : BitVec 1) (t : BitVec 2) (st : State) : Out :=
  .next (cvtWord (.vcvtInt d a r s w t) d a r s w t (fun c => decide ((0x10 ≤ c ∧ c ≤ 0x15) ∨ (0x19 ≤ c ∧ c ≤ 0x1D))) st)

/-- COLS is a block size. -/
def VEnv.blockCols (e : VEnv) : Bool := e.sh.cols == 16 || e.sh.cols == 32 || e.sh.cols == 64

/-- Byte `i` of a tile, as a place. -/
def VEnv.bytePlace (e : VEnv) (name i v : Nat) : Nat × Nat × Nat × Nat := (e.tile name, 8 * i, 8, v % 256)
def VEnv.byte (e : VEnv) (name i : Nat) : Nat := (e.sl.regs.getV (e.tile name)).toNat / 2 ^ (8 * i) % 256

def execVqnt (p : BitVec 2) (d a b c : BitVec 6) (st : State) : Out :=
  .next (vWord (.vqnt p d a b c) (some (p.toNat, false)) 0 0 false (fun e =>
    let sr := e.sh.rnd == 4
    planIf (e.fits clsBE true ((a.toNat, 32) :: if sr then [(c.toNat, 32)] else []) && e.blockCols && d != b && (sr || c == 0))
      { srcs := e.tilesOf a.toNat 32 ++ if sr then e.tilesOf c.toNat 32 else []
        dsts := e.tilesOf d.toNat e.w ++ [e.tile b.toNat]
        out := fun _ =>
          { tiles := (rangeFrom 0 e.sh.rows).flatMap fun i =>
              let xs := (rangeFrom 0 e.sh.cols).map fun j => (ofF32 (e.code a.toNat i j 32), e.random c.toNat i j)
              let r := blockScale e.sh.fmt e.mode xs
              e.bytePlace b.toNat i r.sc :: (r.codes.zip (rangeFrom 0 e.sh.cols)).map fun x => e.put d.toNat i x.2 e.w x.1.code } }) st)

def execVdq (d a b : BitVec 6) (s : BitVec 2) (w : BitVec 1) (st : State) : Out :=
  .next (vWord (.vdq d a b s w) (some (shpOf s w)) 0 0 true (fun e =>
    planIf (e.fits clsBE false [(d.toNat, 32)] && e.blockCols)
      { srcs := e.tilesOf a.toNat e.w ++ [e.tile b.toNat]
        dsts := e.tilesOf d.toNat 32
        out := fun _ =>
          { tiles := e.map d.toNat 32 fun i j => e.round fF32 0 (blockDecode e.sh.fmt (e.code a.toNat i j e.w) (e.byte b.toNat i)) } }) st)

/-- The largest magnitude of the values, NaN if one is. -/
def largestAbs (vs : List Val) : Val := vs.foldl (fun m v => maxV m v.abs) .zero

def execVamax (d a : BitVec 6) (s : BitVec 2) (w c : BitVec 1) (st : State) : Out :=
  .next (vWord (.vamax d a s w c) (some (shpOf s w)) 0 0 true (fun e =>
    let acc := c.getLsbD 0
    planIf (e.fits clsFW false [])
      { srcs := e.tilesOf a.toNat e.w ++ if acc then [e.tile d.toNat] else []
        dsts := [e.tile d.toNat]
        out := fun _ =>
          { tiles := (rangeFrom 0 e.sh.rows).map fun i =>
              let row := (e.each.filter fun p => p.1 == i).map fun p => e.val a.toNat i p.2
              let m := largestAbs row
              let m := if acc then maxV (ofF32 (e.code d.toNat i 0 32)) m else m
              e.put d.toNat i 0 32 (exactCode fF32 m) } }) st)

def execVscl (d a b : BitVec 6) (s : BitVec 2) (w n : BitVec 1) (st : State) : Out :=
  .next (vWord (.vscl d a b s w n) (some (shpOf s w)) 0 0 true (fun e =>
    planIf (e.fits clsFW false [])
      { srcs := e.tilesOf a.toNat e.w ++ [e.tile b.toNat]
        dsts := e.tilesOf d.toNat e.w
        out := fun _ =>
          { tiles := e.map d.toNat e.w fun i j =>
              let sc := e.byte b.toNat i
              let k : Int := (sc : Int) - 127
              e.round e.sh.fmt 0 (if sc = 255 then .nan else (e.val a.toNat i j).scale (if n.getLsbD 0 then -k else k)) } }) st)

/-! ### Reductions (R165) -/

inductive RedOp where
  | sum | max | min
  deriving DecidableEq, Repr

/-- The identity of a reduction, as a 32-bit word. -/
def RedOp.ident (r : RedOp) (f : Fmt) : Nat :=
  match r, f with
  | .sum, _ => 0
  | .max, .int _ true => 0x80000000
  | .max, .int _ false => 0
  | .max, _ => 0xFF800000
  | .min, .int _ true => 0x7FFFFFFF
  | .min, .int _ false => 0xFFFFFFFF
  | .min, _ => 0x7F800000

/-- The operation of a reduction, on 32-bit words. -/
def RedOp.op (r : RedOp) (f : Fmt) (x y : Nat) : Nat :=
  match r, f with
  | .sum, .int _ _ => (x + y) % 2 ^ 32
  | .sum, _ => addF32 x y
  | .max, .int _ true => if sext x 32 < sext y 32 then y else x
  | .max, .int _ false => if x < y then y else x
  | .max, _ => exactCode fF32 (maxV (ofF32 x) (ofF32 y))
  | .min, .int _ true => if sext y 32 < sext x 32 then y else x
  | .min, .int _ false => if y < x then y else x
  | .min, _ => exactCode fF32 (minV (ofF32 x) (ofF32 y))

/-- An element as it enters: floats as their exact FP32 values. -/
def redElement (f : Fmt) (c : Nat) : Nat :=
  match f with
  | .int _ _ => c
  | _ => exactCode fF32 (decodeCode f c)

def VEnv.reduce (e : VEnv) (r : RedOp) (a : Nat) (ps : List (Nat × Nat)) : Nat :=
  treeReduce (r.ident e.sh.fmt) (r.op e.sh.fmt)
    (ps.map fun p => if e.enabled p.1 p.2 then redElement e.sh.fmt (e.code a p.1 p.2 e.w) else r.ident e.sh.fmt)

def redWord (i : Instr) (d a : BitVec 6) (s : BitVec 2) (w row : BitVec 1) (r : RedOp) : State → State :=
  vWord i (some (shpOf s w)) 0 0 true fun e =>
    planIf (e.fits (fun c => clsFW c || c == 0x14 || c == 0x1C) false [])
      { srcs := e.tilesOf a.toNat e.w
        dsts := [e.tile d.toNat]
        out := fun _ =>
          { tiles :=
              if row.getLsbD 0 then
                (rangeFrom 0 e.sh.rows).map fun i =>
                  e.put d.toNat i 0 32 (e.reduce r a.toNat ((rangeFrom 0 e.sh.cols).map fun j => (i, j)))
              else [e.put d.toNat 0 0 32 (e.reduce r a.toNat (positions e.sh.rows e.sh.cols))] } }

def execVrsum (d a : BitVec 6) (s : BitVec 2) (w r : BitVec 1) (st : State) : Out := .next (redWord (.vrsum d a s w r) d a s w r .sum st)
def execVrmax (d a : BitVec 6) (s : BitVec 2) (w r : BitVec 1) (st : State) : Out := .next (redWord (.vrmax d a s w r) d a s w r .max st)
def execVrmin (d a : BitVec 6) (s : BitVec 2) (w r : BitVec 1) (st : State) : Out := .next (redWord (.vrmin d a s w r) d a s w r .min st)

end Sys2Proof.Machine
end

