-- ==== Sys2Proof/Machine/VMove.lean ====
section
/-!
DEFINITION. Sys2Proof/Machine/VMove.lean: the words of the vector engine that move data (06 R166-R169), draw (R170), probe (R171) and
operate tokens (R172).
-/

namespace Sys2Proof.Machine

/-! ### Copies (R166) -/

def execVmov (d a : BitVec 6) (s : BitVec 2) (w : BitVec 1) (st : State) : Out :=
  .next (elementWise (.vmov d a s w) (shpOf s w) clsAny d.toNat [a.toNat] (fun _ => true) (fun e i j => e.code a.toNat i j e.w) st)

def execVbcast (d a : BitVec 6) (s : BitVec 2) (w : BitVec 1) (m : BitVec 3) (st : State) : Out :=
  .next (elementWise (.vbcast d a s w m) (shpOf s w) clsAny d.toNat [a.toNat] (fun _ => decide (m.toNat < 3)) (fun e i j =>
    match m.toNat with
    | 0 => e.code a.toNat 0 0 e.w
    | 1 => e.code a.toNat 0 j e.w
    | _ => e.code a.toNat i 0 e.w) st)

def execViota (d : BitVec 6) (s : BitVec 2) (w : BitVec 1) (m : BitVec 3) (st : State) : Out :=
  .next (elementWise (.viota d s w m) (shpOf s w) clsIN d.toNat [] (fun _ => decide (m.toNat < 3)) (fun e i j =>
    (match m.toNat with
     | 0 => i * e.sh.cols + j
     | 1 => i
     | _ => j) % 2 ^ e.w) st)

/-! ### Loads and stores of rows (R167) -/

/-- The rows of VLD and VST: base, row bytes and stride. -/
structure Rows where
  base : Nat
  rb : Nat
  stride : Nat

def VEnv.rowsOf (e : VEnv) : Rows :=
  let rb := e.sh.cols * e.w / 8
  ⟨e.x.toNat, rb, if e.y.toNat = 0 then rb else e.y.toNat⟩

def Rows.ea (r : Rows) (i : Nat) : Nat := r.base + i * r.stride

/-- The checks of VLD and VST, then what the word does with its rows and its range (log 36). -/
def VEnv.rowPlan (e : VEnv) (k : Rows → List (Nat × Nat) → VDo) : VPlan :=
  let r := e.rowsOf
  if e.fits clsAny false [] = false ∨ e.sh.cols * e.w % 8 ≠ 0 ∨ 2 ^ 23 ≤ e.y.toNat then .bad fILLEGAL 0 0
  else
    match (rangeFrom 0 e.sh.rows).find? (fun i => !e.sl.act.inRange (r.ea i : Nat) (r.ea i + r.rb : Nat)) with
    | some i => .bad fSPBOUND 0 (r.ea i % 2 ^ 64)
    | none =>
      if r.base % 4 ≠ 0 ∨ r.stride % 4 ≠ 0 then .bad fALIGN 0 r.base
      else .ok (k r [(r.base, r.ea (e.sh.rows - 1) + r.rb - r.base)])

/-- Log 36. -/
def execVld (d a b : BitVec 6) (s : BitVec 2) (w : BitVec 1) (st : State) : Out :=
  .next (vWord (.vld d a b s w) (some (shpOf s w)) a.toNat b.toNat true (fun e =>
    e.rowPlan fun r rng =>
      { dsts := e.tilesOf d.toNat e.w
        reads := rng
        out := fun _ =>
          let row (i : Nat) : Nat := ofBytes (e.s.spRead e.slot (r.ea i) r.rb)
          { tiles := (rangeFrom 0 e.sh.rows).flatMap fun i =>
              let bits := row i
              ((rangeFrom 0 e.sh.cols).filter fun j => e.enabled i j).map fun j =>
                e.put d.toNat i j e.w (bits / 2 ^ (e.w * j) % 2 ^ e.w) } }) st)

/-- The bytes that a row of VST writes: ones of `keep` are bits of disabled positions. -/
def VEnv.rowWrites (e : VEnv) (vt i ea rb : Nat) : List SpWrite :=
  let on := (rangeFrom 0 e.sh.cols).filter fun j => e.enabled i j
  let val := on.foldl (fun v j => v + e.code vt i j e.w * 2 ^ (e.w * j)) 0
  let mask := on.foldl (fun v j => v + (2 ^ e.w - 1) * 2 ^ (e.w * j)) 0
  ((rangeFrom 0 rb).map fun k =>
    (⟨ea + k, BitVec.ofNat 8 (val / 2 ^ (8 * k)), ~~~(BitVec.ofNat 8 (mask / 2 ^ (8 * k)))⟩ : SpWrite)).filter fun x => x.keep != 255#8

/-- Log 36. -/
def execVst (d a b : BitVec 6) (s : BitVec 2) (w : BitVec 1) (st : State) : Out :=
  .next (vWord (.vst d a b s w) (some (shpOf s w)) a.toNat b.toNat true (fun e =>
    e.rowPlan fun r rng =>
      { srcs := e.tilesOf d.toNat e.w
        writes := rng
        out := fun _ => { sp := (rangeFrom 0 e.sh.rows).flatMap fun i => e.rowWrites d.toNat i (r.ea i) r.rb } }) st)

/-! ### Indexed loads and stores (R168) -/

/-- A position as it stands in the status word (R150). -/
def posStatus (p : Nat × Nat) : Nat := p.1 * 2 ^ 32 + p.2 * 2 ^ 40

/-- The checks of VLDX and VSTX, over the element addresses of the enabled positions (log 36). A word whose destination has a pending write
waits for it first, with its index tile (R146); an early read of the index tile is found after these checks (log 86). -/
def VEnv.indexPlan (e : VEnv) (vi : Nat) (dsts : List Nat) (k : (Nat × Nat → Nat) → List (Nat × Nat) → VDo) : VPlan :=
  let n := e.w / 8
  let ea (p : Nat × Nat) : Nat := e.x.toNat + e.code vi p.1 p.2 32 * n
  if e.fits clsBY false [(vi, 32)] = false then .bad fILLEGAL 0 0
  else if dsts.any e.sl.vec.pendingTile then .stall
  else
    match e.each.find? (fun p => !e.sl.act.inRange (ea p : Nat) (ea p + n : Nat)) with
    | some p => .bad fSPBOUND (posStatus p) (ea p % 2 ^ 64)
    | none =>
      match e.each.find? (fun p => ea p % n != 0) with
      | some p => .bad fALIGN (posStatus p) (ea p)
      | none => .ok (k ea [(e.sl.act.spbase.toNat, e.sl.act.splimit.toNat - e.sl.act.spbase.toNat)])

def execVldx (d a b : BitVec 6) (s : BitVec 2) (w : BitVec 1) (st : State) : Out :=
  .next (vWord (.vldx d a b s w) (some (shpOf s w)) a.toNat 0 true (fun e =>
    e.indexPlan b.toNat (e.tilesOf d.toNat e.w) fun ea rng =>
      { srcs := e.tilesOf b.toNat 32
        dsts := e.tilesOf d.toNat e.w
        reads := rng
        out := fun _ => { tiles := e.map d.toNat e.w fun i j => ofBytes (e.s.spRead e.slot (ea (i, j)) (e.w / 8)) } }) st)

def execVstx (d a b : BitVec 6) (s : BitVec 2) (w : BitVec 1) (st : State) : Out :=
  .next (vWord (.vstx d a b s w) (some (shpOf s w)) a.toNat 0 true (fun e =>
    e.indexPlan b.toNat [] fun ea rng =>
      { srcs := e.tilesOf b.toNat 32 ++ e.tilesOf d.toNat e.w
        writes := rng
        out := fun _ =>
          { sp := e.each.flatMap fun p =>
              ((toBytes (e.w / 8) (e.code d.toNat p.1 p.2 e.w)).zip (rangeFrom (ea p) (e.w / 8))).map fun x => ⟨x.2, x.1, 0#8⟩ } }) st)

/-! ### Permutes (R169) -/

def execVtrn (d a : BitVec 6) (s : BitVec 2) (w : BitVec 1) (st : State) : Out :=
  .next (vWord (.vtrn d a s w) (some (shpOf s w)) 0 0 false (fun e =>
    planIf (e.fits clsAny false [] && decide (e.sh.cols ≤ 32 ∧ e.sh.rows * e.w ≤ 1024))
      { srcs := e.tilesOf a.toNat e.w
        dsts := [e.tile d.toNat]
        out := fun _ =>
          { tiles := (positions e.sh.rows e.sh.cols).map fun p => e.put d.toNat p.2 p.1 e.w (e.code a.toNat p.1 p.2 e.w) } }) st)

def execVperm (d a b : BitVec 6) (s : BitVec 2) (w : BitVec 1) (st : State) : Out :=
  .next (elementWise (.vperm d a b s w) (shpOf s w) clsAny d.toNat [a.toNat, b.toNat] (fun _ => true) (fun e i j =>
    let k := e.code b.toNat i j 8
    if k < 128 ∧ k < e.sh.cols then e.code a.toNat i k e.w else 0) st)

/-! ### Random tiles (R170) -/

/-- The key of a view: KEY3 to KEY0 (02 R48). -/
def CtlView.key (v : CtlView) : Nat := (v.key3 ++ v.key2 ++ v.key1 ++ v.key0).toNat

/-- Log 26. -/
def execVrng (d a b : BitVec 6) (s : BitVec 2) (w : BitVec 1) (st : State) : Out :=
  .next (vWord (.vrng d a b s w) (some (shpOf s w)) a.toNat b.toNat true (fun e =>
    let v := e.sl.vec.pc.view
    let coord (i j : Nat) : Nat := (e.x.toNat + i * e.y.toNat + j) % 2 ^ 64
    planIf (e.fits (· == 0x1C) false [])
      { dsts := e.tilesOf d.toNat 32
        draw := e.each.head?.map fun p => coord p.1 p.2
        out := fun _ =>
          { tiles := e.map d.toNat 32 fun i j => ctrDraw v.key v.stepno.toNat v.tensorid.toNat 0 (coord i j) } }) st)

/-! ### Probes (R171) -/

/-- One FP32 rounding of the value, without saturation (log 91). -/
def f32Square (x : Val) : Nat := toF32 (x.mul x)

/-- The sum of a term over all positions; a disabled one contributes +0. -/
def VEnv.sumOf (e : VEnv) (term : Nat → Nat → Nat) : Nat :=
  treeReduce 0 addF32 ((positions e.sh.rows e.sh.cols).map fun p => if e.enabled p.1 p.2 then term p.1 p.2 else 0)

/-- The code is plus or minus the largest finite value, an infinity or NaN. -/
def overflows (f : Fmt) (c : Nat) : Bool := decide (maxCode f ≤ c % 2 ^ (f.width - 1))

def statWord (i : Instr) (gs : BitVec 6) (srcs : List Nat) (s : BitVec 2) (w : BitVec 1) (cls : Nat → Bool) (kind : ProbeKind)
    (sums : VEnv → Nat × Nat) : State → State :=
  vWord i (some (shpOf s w)) gs.toNat 0 true fun e =>
    if e.fits cls false [] = false ∨ 4096 ≤ e.x.toNat then .bad fILLEGAL 0 0
    else if e.s.ownsPslot (ctxOf e.sl.act.inctag) e.x.toNat = false then .bad fPERMISSION 0 0
    else
      .ok
        { srcs := srcs.flatMap fun n => e.tilesOf n e.w
          out := fun _ =>
            let x := sums e
            { probe := some { kind := kind, pslot := e.x.toNat, s0 := x.1, s1 := x.2, tag := e.sl.act.inctag, fmt := e.sh.code, from_ := e.slot } } }

def execVstatQe (d a b : BitVec 6) (s : BitVec 2) (w : BitVec 1) (st : State) : Out :=
  .next (statWord (.vstatQe d a b s w) d [a.toNat, b.toNat] s w clsFW .qe (fun e =>
    (e.sumOf fun i j => f32Square (ofF32 (toF32 ((e.val a.toNat i j).add (e.val b.toNat i j).negate))),
     e.sumOf fun i j => f32Square (e.val a.toNat i j))) st)
def execVstatGn (d a : BitVec 6) (s : BitVec 2) (w : BitVec 1) (st : State) : Out :=
  .next (statWord (.vstatGn d a s w) d [a.toNat] s w clsFW .gn (fun e => (e.sumOf fun i j => f32Square (e.val a.toNat i j), 0)) st)
def execVstatGnsum (d a : BitVec 6) (s : BitVec 2) (w : BitVec 1) (st : State) : Out :=
  .next (statWord (.vstatGnsum d a s w) d [a.toNat] s w clsFW .gnsum (fun e => (e.sumOf fun i j => f32Square (e.val a.toNat i j), 0)) st)
def execVstatOv (d a : BitVec 6) (s : BitVec 2) (w : BitVec 1) (st : State) : Out :=
  .next (statWord (.vstatOv d a s w) d [a.toNat] s w clsFA .ov (fun e =>
    ((e.each.filter fun p => overflows e.sh.fmt (e.code a.toNat p.1 p.2 e.w)).length, 0)) st)

/-! ### Tokens (R172) -/

/-- A token word of the vector engine: it occupies the engine in the cycle in which it issues. -/
def vToken (i : Instr) (act : State → Act) (s : State) : State :=
  let word := ((encode i).getD 0).toNat
  if i.wellFormed = false then s.trapAt s.cur .V fILLEGAL word 0
  else if s.vFree = false then Act.run .stall .V s
  else
    match act s with
    | .trap code _ addr => s.trapAt s.cur .V code word addr
    | .done t => Act.run (.done (t.modCore (coreOf s.cur) fun k => { k with vBusy := s.now + 1 })) .V s
    | a => Act.run a .V s

def execKwaitV (d : BitVec 6) (n : BitVec 12) (s : State) : Out := .next (vToken (.kwaitV d n) (waitAct .V d.toNat n.toNat) s)
def execKsigV (d : BitVec 6) (n : BitVec 12) (s : State) : Out := .next (vToken (.ksigV d n) (signalAct .V d.toNat n.toNat []) s)

end Sys2Proof.Machine
end

