-- ==== Sys2Proof/Machine/Dispatch.lean ====
section
/-!
DEFINITION. Sys2Proof/Machine/Dispatch.lean: what each instruction does.
-/

namespace Sys2Proof.Machine

def exec (i : Instr) (s : State) : Host.Outcome State Fault Refusal :=
  match i with
  | .bprep t o => Sys2Proof.Machine.execBprep t o s
  | .bprepg d a i_ => Sys2Proof.Machine.execBprepg d a i_ s
  | .blink t l => Sys2Proof.Machine.execBlink t l s
  | .bgo p t f => Sys2Proof.Machine.execBgo p t f s
  | .lset s_ l a i_ => Sys2Proof.Machine.execLset s_ l a i_ s
  | .lstep d a i_ => Sys2Proof.Machine.execLstep d a i_ s
  | .lonlyFirst l n => Sys2Proof.Machine.execLonlyFirst l n s
  | .lonlyLast l n => Sys2Proof.Machine.execLonlyLast l n s
  | .lonlyStage l s_ n => Sys2Proof.Machine.execLonlyStage l s_ n s
  | .rotset i_ => Sys2Proof.Machine.execRotset i_ s
  | .rgn s_ a i_ => Sys2Proof.Machine.execRgn s_ a i_ s
  | .halt a => Sys2Proof.Machine.execHalt a s
  | .icinv d a i_ => Sys2Proof.Machine.execIcinv d a i_ s
  | .add d a b => Sys2Proof.Machine.execAdd d a b s
  | .sub d a b => Sys2Proof.Machine.execSub d a b s
  | .and d a b => Sys2Proof.Machine.execAnd d a b s
  | .or d a b => Sys2Proof.Machine.execOr d a b s
  | .xor d a b => Sys2Proof.Machine.execXor d a b s
  | .shl d a b => Sys2Proof.Machine.execShl d a b s
  | .shr d a b => Sys2Proof.Machine.execShr d a b s
  | .sar d a b => Sys2Proof.Machine.execSar d a b s
  | .mul d a b => Sys2Proof.Machine.execMul d a b s
  | .mulh d a b => Sys2Proof.Machine.execMulh d a b s
  | .mulhn d a b => Sys2Proof.Machine.execMulhn d a b s
  | .div d a b => Sys2Proof.Machine.execDiv d a b s
  | .divn d a b => Sys2Proof.Machine.execDivn d a b s
  | .rem d a b => Sys2Proof.Machine.execRem d a b s
  | .remn d a b => Sys2Proof.Machine.execRemn d a b s
  | .min d a b => Sys2Proof.Machine.execMin d a b s
  | .max d a b => Sys2Proof.Machine.execMax d a b s
  | .minn d a b => Sys2Proof.Machine.execMinn d a b s
  | .maxn d a b => Sys2Proof.Machine.execMaxn d a b s
  | .clz d a => Sys2Proof.Machine.execClz d a s
  | .ctz d a => Sys2Proof.Machine.execCtz d a s
  | .popc d a => Sys2Proof.Machine.execPopc d a s
  | .selFunc16 d a b => Sys2Proof.Machine.execSelFunc16 d a b s
  | .addx d a b s_ => Sys2Proof.Machine.execAddx d a b s_ s
  | .sel d a b f => Sys2Proof.Machine.execSel d a b f s
  | .cmp c f a b => Sys2Proof.Machine.execCmp c f a b s
  | .cmpi c f a i_ => Sys2Proof.Machine.execCmpi c f a i_ s
  | .addi d a i_ => Sys2Proof.Machine.execAddi d a i_ s
  | .andi d a i_ => Sys2Proof.Machine.execAndi d a i_ s
  | .ori d a i_ => Sys2Proof.Machine.execOri d a i_ s
  | .xori d a i_ => Sys2Proof.Machine.execXori d a i_ s
  | .shli d a i_ => Sys2Proof.Machine.execShli d a i_ s
  | .shri d a i_ => Sys2Proof.Machine.execShri d a i_ s
  | .sari d a i_ => Sys2Proof.Machine.execSari d a i_ s
  | .muli d a i_ => Sys2Proof.Machine.execMuli d a i_ s
  | .lui d i_ => Sys2Proof.Machine.execLui d i_ s
  | .lds d a k o => Sys2Proof.Machine.execLds d a k o s
  | .sts d a k o => Sys2Proof.Machine.execSts d a k o s
  | .gld d a c k => Sys2Proof.Machine.execGld d a c k s
  | .gst d a c k => Sys2Proof.Machine.execGst d a c k s
  | .gatom d a c s_ o => Sys2Proof.Machine.execGatom d a c s_ o s
  | .mfc d i_ => Sys2Proof.Machine.execMfc d i_ s
  | .mtc a i_ => Sys2Proof.Machine.execMtc a i_ s
  | .shpw d k r f => Sys2Proof.Machine.execShpw d k r f s
  | .shpr d k r c f => Sys2Proof.Machine.execShpr d k r c f s
  | .kwaitS d i_ => Sys2Proof.Machine.execKwaitS d i_ s
  | .ksigS d i_ => Sys2Proof.Machine.execKsigS d i_ s
  | .kcfg d a => Sys2Proof.Machine.execKcfg d a s
  | .stamp d => Sys2Proof.Machine.execStamp d s
  | .wall d => Sys2Proof.Machine.execWall d s
  | .vget f => Sys2Proof.Machine.execVget f s
  | .msend d a b => Sys2Proof.Machine.execMsend d a b s
  | .mrecv d => Sys2Proof.Machine.execMrecv d s
  | .fenceRel m s_ n => Sys2Proof.Machine.execFenceRel m s_ n s
  | .fenceAcq m s_ n => Sys2Proof.Machine.execFenceAcq m s_ n s
  | .fenceAr m s_ n => Sys2Proof.Machine.execFenceAr m s_ n s
  | .fenceE e => Sys2Proof.Machine.execFenceE e s
  | .trap i_ => Sys2Proof.Machine.execTrap i_ s
  | .trapWarn i_ => Sys2Proof.Machine.execTrapWarn i_ s
  | .tlbinv d a b => Sys2Proof.Machine.execTlbinv d a b s
  | .pgqry d a => Sys2Proof.Machine.execPgqry d a s
  | .pghintTrans a b => Sys2Proof.Machine.execPghintTrans a b s
  | .pghintEnc a b => Sys2Proof.Machine.execPghintEnc a b s
  | .govrd d a f => Sys2Proof.Machine.execGovrd d a f s
  | .govwr f a b => Sys2Proof.Machine.execGovwr f a b s
  | .govstep d a => Sys2Proof.Machine.execGovstep d a s
  | .govpin a b => Sys2Proof.Machine.execGovpin a b s
  | .wqpush a b => Sys2Proof.Machine.execWqpush a b s
  | .wqpop d b => Sys2Proof.Machine.execWqpop d b s
  | .wqroom d b => Sys2Proof.Machine.execWqroom d b s
  | .cqpop d => Sys2Proof.Machine.execCqpop d s
  | .grpid d b => Sys2Proof.Machine.execGrpid d b s
  | .bandq d b => Sys2Proof.Machine.execBandq d b s
  | .phase d a b => Sys2Proof.Machine.execPhase d a b s
  | .barr d b => Sys2Proof.Machine.execBarr d b s
  | .barw d a b => Sys2Proof.Machine.execBarw d a b s
  | .bars d b => Sys2Proof.Machine.execBars d b s
  | .waitc c a b => Sys2Proof.Machine.execWaitc c a b s
  | .rclf d a => Sys2Proof.Machine.execRclf d a s
  | .incqry d a b => Sys2Proof.Machine.execIncqry d a b s
  | .yield d => Sys2Proof.Machine.execYield d s
  | .brk a => Sys2Proof.Machine.execBrk a s
  | .trcmark a => Sys2Proof.Machine.execTrcmark a s
  | .vfma p d a b c => Sys2Proof.Machine.execVfma p d a b c s
  | .vfms p d a b c => Sys2Proof.Machine.execVfms p d a b c s
  | .vfnma p d a b c => Sys2Proof.Machine.execVfnma p d a b c s
  | .vimad p d a b c => Sys2Proof.Machine.execVimad p d a b c s
  | .vqnt p d a b c => Sys2Proof.Machine.execVqnt p d a b c s
  | .vadd d a b s_ w => Sys2Proof.Machine.execVadd d a b s_ w s
  | .vsub d a b s_ w => Sys2Proof.Machine.execVsub d a b s_ w s
  | .vmul d a b s_ w => Sys2Proof.Machine.execVmul d a b s_ w s
  | .vmin d a b s_ w => Sys2Proof.Machine.execVmin d a b s_ w s
  | .vmax d a b s_ w => Sys2Proof.Machine.execVmax d a b s_ w s
  | .vabs d a s_ w => Sys2Proof.Machine.execVabs d a s_ w s
  | .vneg d a s_ w => Sys2Proof.Machine.execVneg d a s_ w s
  | .vrcp d a s_ w => Sys2Proof.Machine.execVrcp d a s_ w s
  | .vrsq d a s_ w => Sys2Proof.Machine.execVrsq d a s_ w s
  | .vsqrt d a s_ w => Sys2Proof.Machine.execVsqrt d a s_ w s
  | .vexp2 d a s_ w => Sys2Proof.Machine.execVexp2 d a s_ w s
  | .vlog2 d a s_ w => Sys2Proof.Machine.execVlog2 d a s_ w s
  | .vtanh d a s_ w => Sys2Proof.Machine.execVtanh d a s_ w s
  | .vsigm d a s_ w => Sys2Proof.Machine.execVsigm d a s_ w s
  | .viadd d a b s_ w t => Sys2Proof.Machine.execViadd d a b s_ w t s
  | .visub d a b s_ w t => Sys2Proof.Machine.execVisub d a b s_ w t s
  | .vimul d a b s_ w t => Sys2Proof.Machine.execVimul d a b s_ w t s
  | .vand d a b s_ w => Sys2Proof.Machine.execVand d a b s_ w s
  | .vor d a b s_ w => Sys2Proof.Machine.execVor d a b s_ w s
  | .vxor d a b s_ w => Sys2Proof.Machine.execVxor d a b s_ w s
  | .vshl d a b s_ w i_ => Sys2Proof.Machine.execVshl d a b s_ w i_ s
  | .vshr d a b s_ w i_ => Sys2Proof.Machine.execVshr d a b s_ w i_ s
  | .vsar d a b s_ w i_ => Sys2Proof.Machine.execVsar d a b s_ w i_ s
  | .vcmp a b s_ w c => Sys2Proof.Machine.execVcmp a b s_ w c s
  | .vmand a s_ w => Sys2Proof.Machine.execVmand a s_ w s
  | .vsel d a b s_ w => Sys2Proof.Machine.execVsel d a b s_ w s
  | .vany s_ w => Sys2Proof.Machine.execVany s_ w s
  | .vall s_ w => Sys2Proof.Machine.execVall s_ w s
  | .vcvtFlt d a r s_ w t => Sys2Proof.Machine.execVcvtFlt d a r s_ w t s
  | .vcvtInt d a r s_ w t => Sys2Proof.Machine.execVcvtInt d a r s_ w t s
  | .vdq d a b s_ w => Sys2Proof.Machine.execVdq d a b s_ w s
  | .vamax d a s_ w c => Sys2Proof.Machine.execVamax d a s_ w c s
  | .vscl d a b s_ w n => Sys2Proof.Machine.execVscl d a b s_ w n s
  | .vrsum d a s_ w r => Sys2Proof.Machine.execVrsum d a s_ w r s
  | .vrmax d a s_ w r => Sys2Proof.Machine.execVrmax d a s_ w r s
  | .vrmin d a s_ w r => Sys2Proof.Machine.execVrmin d a s_ w r s
  | .vmov d a s_ w => Sys2Proof.Machine.execVmov d a s_ w s
  | .vbcast d a s_ w m => Sys2Proof.Machine.execVbcast d a s_ w m s
  | .viota d s_ w m => Sys2Proof.Machine.execViota d s_ w m s
  | .vld d a b s_ w => Sys2Proof.Machine.execVld d a b s_ w s
  | .vst d a b s_ w => Sys2Proof.Machine.execVst d a b s_ w s
  | .vldx d a b s_ w => Sys2Proof.Machine.execVldx d a b s_ w s
  | .vstx d a b s_ w => Sys2Proof.Machine.execVstx d a b s_ w s
  | .vtrn d a s_ w => Sys2Proof.Machine.execVtrn d a s_ w s
  | .vperm d a b s_ w => Sys2Proof.Machine.execVperm d a b s_ w s
  | .vrng d a b s_ w => Sys2Proof.Machine.execVrng d a b s_ w s
  | .vstatQe d a b s_ w => Sys2Proof.Machine.execVstatQe d a b s_ w s
  | .vstatGn d a s_ w => Sys2Proof.Machine.execVstatGn d a s_ w s
  | .vstatGnsum d a s_ w => Sys2Proof.Machine.execVstatGnsum d a s_ w s
  | .vstatOv d a s_ w => Sys2Proof.Machine.execVstatOv d a s_ w s
  | .kwaitV d n => Sys2Proof.Machine.execKwaitV d n s
  | .ksigV d n => Sys2Proof.Machine.execKsigV d n s
  | .mldb p w c t => Sys2Proof.Machine.execMldb p w c t s
  | .mma a p w t => Sys2Proof.Machine.execMma a p w t s
  | .mmaT a p w t => Sys2Proof.Machine.execMmaT a p w t s
  | .mzero a p w t => Sys2Proof.Machine.execMzero a p w t s
  | .minit a p w b t => Sys2Proof.Machine.execMinit a p w b t s
  | .mdrain a p w l r t x m => Sys2Proof.Machine.execMdrain a p w l r t x m s
  | .mdrainv a p w v t u => Sys2Proof.Machine.execMdrainv a p w v t u s
  | .mzp a p w t => Sys2Proof.Machine.execMzp a p w t s
  | .mpri p => Sys2Proof.Machine.execMpri p s
  | .kwaitM k n j => Sys2Proof.Machine.execKwaitM k n j s
  | .ksigM k n j => Sys2Proof.Machine.execKsigM k n j s
  | .sload g s_ w c => Sys2Proof.Machine.execSload g s_ w c s
  | .sstore g s_ w => Sys2Proof.Machine.execSstore g s_ w s
  | .spair g h s_ w => Sys2Proof.Machine.execSpair g h s_ w s
  | .sgath g h s_ w c k => Sys2Proof.Machine.execSgath g h s_ w c k s
  | .sscat g h s_ w k => Sys2Proof.Machine.execSscat g h s_ w k s
  | .swin g h s_ w c y x => Sys2Proof.Machine.execSwin g h s_ w c y x s
  | .smcast g h s_ w b k => Sys2Proof.Machine.execSmcast g h s_ w b k s
  | .sput g h s_ w k => Sys2Proof.Machine.execSput g h s_ w k s
  | .scurOpen g h c => Sys2Proof.Machine.execScurOpen g h c s
  | .scurClose c => Sys2Proof.Machine.execScurClose c s
  | .scurReport g c => Sys2Proof.Machine.execScurReport g c s
  | .kwaitA k n m => Sys2Proof.Machine.execKwaitA k n m s
  | .ksigA k n m => Sys2Proof.Machine.execKsigA k n m s
  | .cqpush g c => Sys2Proof.Machine.execCqpush g c s
  | .wcopy g s_ w x => Sys2Proof.Machine.execWcopy g s_ w x s
  | .wlayout g h s_ w x => Sys2Proof.Machine.execWlayout g h s_ w x s
  | .woff g w => Sys2Proof.Machine.execWoff g w s
  | .wret g w => Sys2Proof.Machine.execWret g w s
  | .wenc g w => Sys2Proof.Machine.execWenc g w s
  | .wcsum g h w => Sys2Proof.Machine.execWcsum g h w s
  | .wdec g h w => Sys2Proof.Machine.execWdec g h w s
  | .wnvme g h w => Sys2Proof.Machine.execWnvme g h w s
  | .wfill g h w => Sys2Proof.Machine.execWfill g h w s
  | .loopBodyEnd e => Sys2Proof.Machine.execLoopBodyEnd e s
  | .laggingOutcomeTake e => Sys2Proof.Machine.execLaggingOutcomeTake e s
  | .bandHandover band => Sys2Proof.Machine.execBandHandover band s
  | .tokenWaitPerform e => Sys2Proof.Machine.execTokenWaitPerform e s
  | .tokenSignal e => Sys2Proof.Machine.execTokenSignal e s
  | .streamBurstStart store => Sys2Proof.Machine.execStreamBurstStart store s
  | .streamBurstComplete store k => Sys2Proof.Machine.execStreamBurstComplete store k s
  | .streamBurstFault store => Sys2Proof.Machine.execStreamBurstFault store s
  | .walkDone agent k => Sys2Proof.Machine.execWalkDone agent k s
  | .globalLoadResponse k => Sys2Proof.Machine.execGlobalLoadResponse k s
  | .globalStoreAck k => Sys2Proof.Machine.execGlobalStoreAck k s
  | .scratchpadZeroingDone bank => Sys2Proof.Machine.execScratchpadZeroingDone bank s
  | .bstoreZeroingDone band => Sys2Proof.Machine.execBstoreZeroingDone band s
  | .emptyNodeTaken n => Sys2Proof.Machine.execEmptyNodeTaken n s
  | .kernelNodeDispatch n => Sys2Proof.Machine.execKernelNodeDispatch n s
  | .kernelValidation n => Sys2Proof.Machine.execKernelValidation n s
  | .copyNodePush n => Sys2Proof.Machine.execCopyNodePush n s
  | .collectiveNodePush n => Sys2Proof.Machine.execCollectiveNodePush n s
  | .controlNodeEvaluate n => Sys2Proof.Machine.execControlNodeEvaluate n s
  | .childGraphEnd n => Sys2Proof.Machine.execChildGraphEnd n s
  | .tileDispatch n die => Sys2Proof.Machine.execTileDispatch n die s
  | .tileSteal n die => Sys2Proof.Machine.execTileSteal n die s
  | .timedNodeDue n => Sys2Proof.Machine.execTimedNodeDue n s
  | .queueDoorbell n => Sys2Proof.Machine.execQueueDoorbell n s
  | .fresResume seq => Sys2Proof.Machine.execFresResume seq s
  | .fresAbort seq => Sys2Proof.Machine.execFresAbort seq s
  | .trapRingControlWrite event v => Sys2Proof.Machine.execTrapRingControlWrite event v s
  | .traceTrigger side => Sys2Proof.Machine.execTraceTrigger side s
  | .tetherWaitSatisfied lane => Sys2Proof.Machine.execTetherWaitSatisfied lane s
  | .peerCheckArrival port auth body => Sys2Proof.Machine.execPeerCheckArrival port auth body s
  | .tetherCommandComplete lane => Sys2Proof.Machine.execTetherCommandComplete lane s
  | .tetherFault lane => Sys2Proof.Machine.execTetherFault lane s
  | .packetData p => Sys2Proof.Machine.execPacketData p s
  | .packetRelease p => Sys2Proof.Machine.execPacketRelease p s
  | .fenceRequestPacket p => Sys2Proof.Machine.execFenceRequestPacket p s
  | .fenceConfirmPacket p => Sys2Proof.Machine.execFenceConfirmPacket p s
  | .barrierDoneReport p => Sys2Proof.Machine.execBarrierDoneReport p s
  | .barrierBreakReport p => Sys2Proof.Machine.execBarrierBreakReport p s
  | .packetRetryExpiry k => Sys2Proof.Machine.execPacketRetryExpiry k s
  | .hostRequest r => Sys2Proof.Machine.execHostRequest r s
  | .linkTrainingDone lanes => Sys2Proof.Machine.execLinkTrainingDone lanes s
  | .linkDisableWrite v => Sys2Proof.Machine.execLinkDisableWrite v s
  | .ptpSync time => Sys2Proof.Machine.execPtpSync time s
  | .wtimeWrite v => Sys2Proof.Machine.execWtimeWrite v s
  | .keelImageCheck image => Sys2Proof.Machine.execKeelImageCheck image s
  | .cd0Trained ok => Sys2Proof.Machine.execCd0Trained ok s
  | .allDiesTrained ok => Sys2Proof.Machine.execAllDiesTrained ok s
  | .drvfeatWrite v => Sys2Proof.Machine.execDrvfeatWrite v s
  | .throttle on => Sys2Proof.Machine.execThrottle on s
  | .temperatureSample degrees => Sys2Proof.Machine.execTemperatureSample degrees s
  | .readClear off => Sys2Proof.Machine.execReadClear off s
  | .registerWrite off v => Sys2Proof.Machine.execRegisterWrite off v s
  | .notAnInstruction w => Sys2Proof.Machine.execNotAnInstruction w s
  | .softErrorCorrection counter => Sys2Proof.Machine.execSoftErrorCorrection counter s
  | .peerDelayExchange delay => Sys2Proof.Machine.execPeerDelayExchange delay s
  | .nop => Sys2Proof.Machine.execNop s
  | .rgnend => Sys2Proof.Machine.execRgnend s
  | .endActivation => Sys2Proof.Machine.execEndActivation s
  | .vmpop => Sys2Proof.Machine.execVmpop s
  | .vminv => Sys2Proof.Machine.execVminv s
  | .barrierWake => Sys2Proof.Machine.execBarrierWake s
  | .waitcComplete => Sys2Proof.Machine.execWaitcComplete s
  | .vResultsWritten => Sys2Proof.Machine.execVResultsWritten s
  | .mWordStart => Sys2Proof.Machine.execMWordStart s
  | .mWordComplete => Sys2Proof.Machine.execMWordComplete s
  | .regionSlackExpiry => Sys2Proof.Machine.execRegionSlackExpiry s
  | .winchCommandStart => Sys2Proof.Machine.execWinchCommandStart s
  | .winchCommandComplete => Sys2Proof.Machine.execWinchCommandComplete s
  | .winchFault => Sys2Proof.Machine.execWinchFault s
  | .nvmeCompletionObserved => Sys2Proof.Machine.execNvmeCompletionObserved s
  | .reencodeTake => Sys2Proof.Machine.execReencodeTake s
  | .reencodeWritten => Sys2Proof.Machine.execReencodeWritten s
  | .outboundDone => Sys2Proof.Machine.execOutboundDone s
  | .inboundDone => Sys2Proof.Machine.execInboundDone s
  | .mailboxAccept => Sys2Proof.Machine.execMailboxAccept s
  | .wqpopWake => Sys2Proof.Machine.execWqpopWake s
  | .probeAccept => Sys2Proof.Machine.execProbeAccept s
  | .queueRecordNop => Sys2Proof.Machine.execQueueRecordNop s
  | .queueRecordLaunch => Sys2Proof.Machine.execQueueRecordLaunch s
  | .queueRecordIcode => Sys2Proof.Machine.execQueueRecordIcode s
  | .graphCompletionWrite => Sys2Proof.Machine.execGraphCompletionWrite s
  | .activationEnd => Sys2Proof.Machine.execActivationEnd s
  | .bandExtraGrant => Sys2Proof.Machine.execBandExtraGrant s
  | .bandWithdraw => Sys2Proof.Machine.execBandWithdraw s
  | .frameBoundary => Sys2Proof.Machine.execFrameBoundary s
  | .watchdog => Sys2Proof.Machine.execWatchdog s
  | .barrierTimeout => Sys2Proof.Machine.execBarrierTimeout s
  | .contextLoadStart => Sys2Proof.Machine.execContextLoadStart s
  | .contextLoadDone => Sys2Proof.Machine.execContextLoadDone s
  | .contextSaveStart => Sys2Proof.Machine.execContextSaveStart s
  | .contextSaveDone => Sys2Proof.Machine.execContextSaveDone s
  | .queueBind => Sys2Proof.Machine.execQueueBind s
  | .queueResume => Sys2Proof.Machine.execQueueResume s
  | .queueUnbind => Sys2Proof.Machine.execQueueUnbind s
  | .barrierBind => Sys2Proof.Machine.execBarrierBind s
  | .barrierReset => Sys2Proof.Machine.execBarrierReset s
  | .barrierUnbind => Sys2Proof.Machine.execBarrierUnbind s
  | .barrierBreakCmd => Sys2Proof.Machine.execBarrierBreakCmd s
  | .contextCreate => Sys2Proof.Machine.execContextCreate s
  | .contextDestroy => Sys2Proof.Machine.execContextDestroy s
  | .kill => Sys2Proof.Machine.execKill s
  | .incarnationInstalled => Sys2Proof.Machine.execIncarnationInstalled s
  | .rclfCommand => Sys2Proof.Machine.execRclfCommand s
  | .rclfComplete => Sys2Proof.Machine.execRclfComplete s
  | .faultTableRecordWrite => Sys2Proof.Machine.execFaultTableRecordWrite s
  | .tracefreeze => Sys2Proof.Machine.execTracefreeze s
  | .traceDump => Sys2Proof.Machine.execTraceDump s
  | .traceRearm => Sys2Proof.Machine.execTraceRearm s
  | .tetherCommandStart => Sys2Proof.Machine.execTetherCommandStart s
  | .triggerFire => Sys2Proof.Machine.execTriggerFire s
  | .linkTrainingFailed => Sys2Proof.Machine.execLinkTrainingFailed s
  | .linkCorrectableError => Sys2Proof.Machine.execLinkCorrectableError s
  | .linkUncorrectableError => Sys2Proof.Machine.execLinkUncorrectableError s
  | .linkRetrain => Sys2Proof.Machine.execLinkRetrain s
  | .ptpSyncLoss => Sys2Proof.Machine.execPtpSyncLoss s
  | .packageResetRelease => Sys2Proof.Machine.execPackageResetRelease s
  | .switchingDone => Sys2Proof.Machine.execSwitchingDone s
  | .dcmdFull => Sys2Proof.Machine.execDcmdFull s
  | .dcmdRecover => Sys2Proof.Machine.execDcmdRecover s
  | .attestationRequest => Sys2Proof.Machine.execAttestationRequest s
  | .junctionOvertempReset => Sys2Proof.Machine.execJunctionOvertempReset s
  | .lifetimeCounterSave => Sys2Proof.Machine.execLifetimeCounterSave s
  | .coreRailDroop => Sys2Proof.Machine.execCoreRailDroop s
  | .winchBurstComplete => Sys2Proof.Machine.execWinchBurstComplete s
  | .packageReset => Sys2Proof.Machine.execPackageReset s
  | .powerLoss => Sys2Proof.Machine.execPowerLoss s
  | .orderlyShutdown => Sys2Proof.Machine.execOrderlyShutdown s

end Sys2Proof.Machine
end

