-- ==== Sys2Proof/Machine/Turn.lean ====
section
/-!
DEFINITION. Sys2Proof/Machine/Turn.lean: what a program counter does next (04 R96-R101, R105; 05 R112, R114, R115; 06 R144): it passes
a position, takes a package step of its own, or executes the word it stands at.
-/

namespace Sys2Proof.Machine

/-- What a counter does next: nothing, something of its own that leads to a state, or an instruction in a state. -/
inductive Turn where
  | rest
  | moved (s : State)
  | run (i : Instr) (s : State)

/-- The instruction that a word stands for; a word that is none is NOT_AN_INSTRUCTION (03 R81) (log 81). -/
def wordInstr (w : Word) : Instr :=
  match decode w with
  | some i => if i.wellFormed then i else .notAnInstruction w
  | none => .notAnInstruction w

/-- The engine whose tag a word bears (03 R53). -/
def wordEngine (w : Word) : Engine := Engine.ofTag (field w.toNat 31 30)

/-- The word is guarded by an LONLY that does not issue it (R105). -/
def Counter.skips (c : Counter) : Bool := c.guard.any fun g => decide (c.word ≤ g.1) && !g.2

/-! ### PC_S -/

/-- How far PC_S leads the last of the lagging counters (R97) (log 35). -/
def Slot.lead (sl : Slot) : Nat := sl.seq.pc.pos - min sl.vec.pc.pos (min sl.mat.pc.pos sl.asy.pc.pos)

/-- PC_S may leave no position: a late matrix word holds it (07 R188), its word sleeps, or it leads by SLIPW (R97) (logs 35 and 77). -/
def Slot.seqHeld (sl : Slot) : Bool := sl.mat.late || sl.seq.sleep.isSome || decide (sl.seq.slipw.toNat ≤ sl.lead)

/-- A fault of a fetch is raised when PC_S reaches the word (R94): it joins the fault of its page, or enters its own (log 77). -/
def State.fetchFault (s : State) (slot code status va : Nat) : State :=
  let key := walkKey (s.slot slot).act.inctag va
  if code = fLINK ∨ code = fENCODING then s.trapAt slot .S code status va
  else (s.addWalk key).raiseTrap slot .S code status va naCursor none (some key)

/-- Fetch a word for a counter: the word, or the state in which the counter goes on waiting for it. -/
def State.textWord (s : State) (slot idx : Nat) : Option Word × State :=
  let a := (s.slot slot).act
  let va := a.wordVa idx
  match (s.core (coreOf slot)).codeLine a.inctag va with
  | some l => (some (l.word va), s)
  | none =>
    match s.joins (.core (coreOf slot)) a.inctag va with
    | some f => (none, s.joinFault slot .S f)
    | none =>
      match s.fetch slot idx with
      | (.word w, s) => (some w, s)
      | (.waits, s) => (none, s)
      | (.trap code status addr, s) => (none, s.fetchFault slot code status addr)

/-- The g registers that a lagging word names, in the order in which it reads them (R98). -/
def copiedRegs (w : Word) : Instr → List Nat
  | .vld _ a b _ _ => [a.toNat, b.toNat]
  | .vst _ a b _ _ => [a.toNat, b.toNat]
  | .vrng _ a b _ _ => [a.toNat, b.toNat]
  | .vldx _ a _ _ _ => [a.toNat]
  | .vstx _ a _ _ _ => [a.toNat]
  | .vstatQe d _ _ _ _ => [d.toNat]
  | .vstatGn d _ _ _ => [d.toNat]
  | .vstatGnsum d _ _ _ => [d.toNat]
  | .vstatOv d _ _ _ => [d.toNat]
  | .kwaitA _ _ _ => []
  | .ksigA _ _ _ => []
  | _ => if wordEngine w = .A then [field w.toNat 23 18, field w.toNat 17 12] else []

/-- PC_S passes a word of another engine: it copies the operands that the word names, stalling on an interlocked one, and an early read
of one is a fault of the lagging word's index (R98, R114, R115). -/
def State.passLagging (s : State) (slot : Nat) (w : Word) : Turn :=
  let q := (s.slot slot).seq
  let named := (((decode w).filter Instr.wellFormed).map (copiedRegs w)).getD []
  let refs := (named.filter (· != 0)).map RegRef.g
  if refs.any q.locked then .rest
  else if q.pc.view.penddbg && refs.any q.exposed then .moved (s.trapAt slot .S fEARLYREAD 0 0)
  else
    let r := (s.slot slot).regs
    let s := if named.isEmpty then s
      else s.modCounter slot (wordEngine w) fun c =>
        { c with copied := c.copied ++ [⟨q.pc.pos, r.getG (named.getD 0 0), r.getG (named.getD 1 0)⟩] }
    .moved (s.leave slot .S)

/-- The turn of PC_S. CODEBOUND and a fault of its fetch wait, as its word does, while a stall of R97 or R100 holds PC_S (log 35). -/
def State.turnS (s : State) (slot : Nat) : Turn :=
  let sl := s.slot slot
  let c := sl.seq.pc
  if c.ending.isSome then .run (.loopBodyEnd .S) s
  else if sl.seqHeld || decide (8 ≤ c.left) then .rest
  else if c.waiting.isSome then .run (.tokenWaitPerform .S) s
  else if sl.act.codelimit.toNat ≤ c.word then .moved (s.trapAt slot .S fCODEBOUND 0 0)
  else
    match s.textWord slot c.word with
    | (none, s) => .moved s
    | (some w, s) =>
      if c.skips then .moved (s.leave slot .S)
      else if wordEngine w ≠ .S then s.passLagging slot w
      else if c.issued && w != 0 then .rest
      else .run (wordInstr w) s

/-! ### The lagging counters -/

/-- The word enqueues an outcome when PC_S evaluates it (R99). -/
def enqueues : Instr → Bool
  | .blink _ _ => true
  | .bgo _ _ _ => true
  | .lset _ _ _ _ => true
  | .lonlyFirst _ _ => true
  | .lonlyLast _ _ => true
  | .lonlyStage _ _ _ => true
  | .rotset _ => true
  | .rgn _ _ _ => true
  | .rgnend => true
  | .endActivation => true
  | .halt _ => true
  | _ => false

/-- A lagging counter stands at a position that PC_S has left, or at the end that PC_S has reached (R96, R110). -/
def Slot.mayStand (sl : Slot) (e : Engine) : Bool :=
  decide ((sl.counter e).pos < sl.seq.pc.pos) || (sl.seq.pc.ended && decide ((sl.counter e).pos = sl.seq.pc.pos))

/-- The turn of a lagging counter (log 77). -/
def State.turnLagging (s : State) (slot : Nat) (e : Engine) : Turn :=
  let sl := s.slot slot
  let c := sl.counter e
  if c.ending.isSome then .run (.loopBodyEnd e) s
  else if !sl.mayStand e || decide (8 ≤ c.left) then .rest
  else if c.waiting.isSome then .run (.tokenWaitPerform e) s
  else
    match s.textWord slot c.word with
    | (none, s) => .moved s
    | (some w, s) =>
      if c.skips then .moved (s.leave slot e)
      else if wordEngine w = .S then
        if enqueues (wordInstr w) then .run (.laggingOutcomeTake e) s else .moved (s.leave slot e)
      else if wordEngine w ≠ e then .moved (s.leave slot e)
      else if c.issued then .rest
      else .run (wordInstr w) s

/-- The turn of a counter of a slot in the present cycle: none while the slot is free, stopped, or at its end (log 12). -/
def State.turn (s : State) (slot : Nat) (e : Engine) : Turn :=
  let sl := s.slot slot
  if !sl.busy || sl.stop.isSome || (sl.counter e).ended then .rest
  else
    let s := ({ s with cur := slot } : State).modCounter slot e fun c => c.atCycle s.now
    if e = .S then s.turnS slot else s.turnLagging slot e

/-! ### The vector engine's arbitration (R144; 13 R326) -/

/-- A word would issue in this state: its counter would leave its position (log 78). -/
def State.wouldIssue (s : State) (slot : Nat) (i : Instr) : Bool :=
  match exec i s with
  | .next t => decide ((s.slot slot).vec.pc.pos < (t.slot slot).vec.pc.pos)
  | _ => false

/-- The word that the other slot of the core has ready for the vector engine, in the state in which it stands ready (log 78). -/
def State.rival (s : State) (slot : Nat) : Option Instr :=
  match s.turn (otherSlot slot) .V with
  | .run j t => if t.wouldIssue (otherSlot slot) j then some j else none
  | _ => none

/-- A vector word is executed, unless the other slot has one ready too and wins the contest: then that word is. -/
def State.runVector (s : State) (slot : Nat) (i : Instr) : Out :=
  match s.rival slot with
  | none => exec i s
  | some j =>
    if s.wouldIssue slot i then
      let core := coreOf slot
      let side := s.winner core unitVector
      let s := s.decide_ core unitVector side
      if side = sideOf slot then exec i s
      else
        match s.turn (otherSlot slot) .V with
        | .run _ t => exec j t
        | _ => .next s
    else exec i s

/-- An engine of a slot takes its turn. -/
def State.engineMove (s : State) (slot : Nat) (e : Engine) : Out :=
  match s.turn slot e with
  | .rest => .next s
  | .moved t => .next t
  | .run i t => if e = .V then t.runVector slot i else exec i t

/-! ### All turns of a counter in a cycle (R96) -/

/-- A counter takes its turns in the present cycle until it rests, as long as the words admitted let it. -/
def State.runTurns (slot : Nat) (e : Engine) (ok : Instr → Bool) : Nat → State → State
  | 0, s => s
  | n + 1, s =>
    let went (t : State) : State :=
      let c := (s.slot slot).counter e
      let d := (t.slot slot).counter e
      if c.pos = d.pos ∧ c.ending = d.ending ∧ c.loops = d.loops then t else State.runTurns slot e ok n t
    match s.turn slot e with
    | .rest => s
    | .moved t => went t
    | .run i t =>
      if ok i then
        match exec i t with
        | .next u => went u
        | _ => s
      else s

/-- The turns of a cycle: eight positions, with the ends of the bodies of six levels at each, and one that rests. -/
def turnFuel : Nat := 64

/-- A counter's own steps, that issue no word. -/
def passes : Instr → Bool
  | .loopBodyEnd _ => true
  | .laggingOutcomeTake _ => true
  | _ => false

/-- The sequencer words that a unit takes after every push and arrival of the cycle (12 R303; 14 R341). -/
def lateWord : Instr → Bool
  | .wqpop _ _ => true
  | .barw _ _ _ => true
  | .waitc _ _ _ => true
  | _ => false

/-- The vector engine's part of a cycle at a core (06 R144). -/
def State.vectorTurns (core : Nat) (s : State) : State :=
  let pass (s : State) : State := [2 * core, 2 * core + 1].foldl (fun s n => State.runTurns n .V passes turnFuel s) s
  let issue (s : State) (n : Nat) : State :=
    match s.turn n .V with
    | .run i t =>
      match t.runVector n i with
      | .next u => u
      | _ => s
    | _ => s
  pass ([2 * core, 2 * core + 1].foldl issue (pass s))

end Sys2Proof.Machine
end

