-- ==== Sys2Proof/Machine/Cycle.lean ====
section
/-!
DEFINITION. Sys2Proof/Machine/Cycle.lean: what a cycle brings of itself (01 R19, R20): the waits, signals, k-steps and handovers that
the rules pin to a cycle, and the results, samples and boundaries that the next cycle begins with; and the moves of a step.
-/

namespace Sys2Proof.Machine

/-! ### Steps of a unit -/

/-- A package step made at the unit of a number, as part of a cycle. -/
def State.at_ (n : Nat) (f : State → Out) (s : State) : State :=
  match f { s with cur := n } with
  | .next t => t
  | _ => s

/-- The slots that have run an activation, the cores and the streams, in increasing number. -/
def State.slotNums (s : State) : List Nat := s.slots.map (·.1)
def State.coreNums (s : State) : List Nat := dedup (s.slotNums.map coreOf)

/-- Do something at each of some numbers. -/
def State.each (s : State) (ns : List Nat) (f : Nat → State → State) : State := ns.foldl (fun s n => f n s) s

/-! ### Within a cycle -/

/-- The signals of a slot in the order of R130, with those that other slots have sent to it (08 R215) after its own. -/
def State.makeSignals (n : Nat) (s : State) : State :=
  let s := [Engine.S, .V, .M, .A].foldl (fun s e =>
    (rangeFrom 0 (s.slot n).signals.length).foldl (fun s _ => s.at_ n (execTokenSignal e)) s) s
  (rangeFrom 0 (s.slot n).remote.length).foldl (fun s _ => s.takeRemote n) s

/-- The head of a slot's elastic buffer is taken or started, and what it lets through after it (07 R183, R197, R198). -/
def State.startM (n : Nat) (s : State) : State :=
  (rangeFrom 0 (s.slot n).mat.buf.length).foldl (fun s _ => (s.at_ n (execTokenWaitPerform .M)).at_ n execMWordStart) s

/-- A cycle in which an engine had a word ready by text order and did not issue it (18 R418). A word that waits is no stall. -/
def State.stalls (s : State) (n : Nat) (e : Engine) : Bool :=
  let sl := s.slot n
  let c := sl.counter e
  sl.busy && sl.stop.isNone && !c.ended && c.ending.isNone && c.waiting.isNone && !c.skips
  && !(c.cycle == s.now && c.issued)
  && (if e = .S then sl.seq.waitFrom.isNone else decide (c.pos < sl.seq.pc.pos))
  && match s.peek n c.word with
     | some w => wordEngine w == e && w != 0
     | none => false

/-- The stalls of a slot in deterministic mode (log 17). -/
def State.countStalls (n : Nat) (s : State) : State :=
  [Engine.S, .V, .M, .A].foldl (fun s e =>
    if (s.slot n).traceMode e = 2 ∧ s.stalls n e = true then s.modCounter n e fun c => { c with stallRun := c.stallRun + 1 } else s) s

/-- The WALL words of a slot whose sample is due (05 R132): a slot never reads a smaller value than before. -/
def State.sampleWalls (n : Nat) (s : State) : State :=
  ((s.slot n).seq.walls.filter fun w => decide (w.due ≤ s.now)).foldl (fun s w =>
    let v := max (s.slot n).seq.lastWall s.wallTime.toNat
    let s := s.modSeq n fun q => { q with walls := dropFirst (· == w) q.walls, lastWall := v }
    let s := (s.modRegs n fun r => r.setG w.reg (BitVec.ofNat 64 v)).modSlot n fun sl => sl.resultWritten (.g w.reg)
    s.traceEntry n .S w.mode 2 9 w.word w.reg (some (BitVec.ofNat 64 v))) s

/-- THROTTLE counts the cycles in which k-steps are withheld, saturating (19 R424, R434). -/
def State.countThrottle (s : State) : State :=
  if s.hub.dev.withhold then
    s.modHub fun h => { h with dev := { h.dev with throttle := BitVec.ofNat 64 (min (2 ^ 64 - 1) (h.dev.throttle.toNat + 1)) } }
  else s

/-- A word that sleeps in a slot at a barrier, at a counter or at a fence looks again (14 R344, R345; 15 R359). -/
def State.lookAgain (n : Nat) (s : State) : State :=
  match (s.slot n).seq.sleep with
  | some (.waitc _ _ _) => s.at_ n execWaitcComplete
  | some (.barrier _ _ _ _) => s.at_ n execBarrierWake
  | some (.broken _) => s.at_ n execBarrierWake
  | some (.fenced _ _) => s.fenceWake n
  | _ => s

/-- The words that sleep at a queue take its records (12 R303). -/
def State.serveQueue (q : Nat) (s : State) : State :=
  (rangeFrom 0 (s.queue q).sleepers.length).foldl (fun s _ => s.at_ q execWqpopWake) s

/-- PC_S of every slot: first the slots whose arrival at a barrier has stalled (14 R341), and then in increasing number. -/
def State.sequencers (s : State) : State :=
  let ns := s.slotNums
  let s := s.each ns State.sampleWalls
  let stalled := ns.filter fun n => (s.slot n).seq.stalledArrival
  s.each (stalled ++ ns) fun n s => State.runTurns n .S (fun i => !lateWord i) turnFuel s

/-- What is owed for the cycle's requests, and the words that wait for it: the records that end at their writing, the adds of completed
generations, the mirrors of semaphores, and then the sleepers and the words that pop and wait. -/
def State.sleepers_ (s : State) : State :=
  let s := s.endWritten
  let s := s.each (s.hub.barriers.map (·.1)) fun b s => s.barrierAdd b
  let s := s.each (s.hub.sems.map (·.1)) State.mirrorStore
  let s := s.each s.slotNums State.lookAgain
  let s := s.each (s.hub.queues.map (·.1)) State.serveQueue
  s.each s.slotNums fun n s => State.runTurns n .S (fun _ => true) turnFuel s

/-- PC_M of every slot, the bands that words of both slots need first, the elastic buffers, and the k-steps. -/
def State.matrices (s : State) : State :=
  let ns := s.slotNums
  let s := s.each ns fun n s => State.runTurns n .M (fun _ => true) turnFuel s
  let s := s.each s.coreNums fun c s => (rangeFrom 0 8).foldl (fun s b => s.claimBand c b) s
  let s := s.each ns State.startM
  s.each ns fun n s => s.kStep n

/-- What follows the turns of the four engines. -/
def State.afterTurns (s : State) : State :=
  let ns := s.slotNums
  let cs := s.coreNums
  let s := s.each ns State.makeSignals
  let s := s.each ns fun n s => s.doReport n
  let s := s.each ns fun n s => s.settleAcquires n
  let s := s.each cs fun c s => s.arrayContest c
  let s := s.each cs fun c s => (rangeFrom 0 8).foldl (fun s b => s.at_ c (execBandHandover b)) s
  let s := s.each ns fun n s => s.releaseLate n
  let s := s.each ns State.countStalls
  let s := s.each (rangeFrom 0 16) fun n s => if (s.mayFire n).isSome then s.at_ n execTriggerFire else s
  s.countThrottle

/-! ### The next cycle -/

/-- The exposed results of a slot that take effect (05 R113). -/
def State.commit (n : Nat) (s : State) : State :=
  ((s.slot n).seq.pend.filter fun p => decide (p.due ≤ s.now)).foldl (fun s p =>
    let s := s.modRegs n fun r => match p.reg with
      | .g d => r.setG d p.val
      | .c f => r.setC f (p.val != 0)
    (s.modSeq n fun q => { q with pend := dropFirst (· == p) q.pend }).modSlot n fun sl => sl.resultWritten p.reg) s

/-- The vector and matrix results of a slot that were written at the end of the last cycle (06 R145; 07 R183). -/
def State.endResults (n : Nat) (s : State) : State :=
  let s := (rangeFrom 0 (s.slot n).vec.fly.length).foldl (fun s _ => s.at_ n execVResultsWritten) s
  (rangeFrom 0 (s.slot n).mat.run.length).foldl (fun s _ => s.at_ n execMWordComplete) s

/-- The wall counter advances by a cycle of the present clock, at the rate of its servo (16 R381; 19 R426) (log 72). -/
def Wall.advance (w : Wall) (reduced : Bool) : Wall :=
  if w.phase = .stopped then w
  else
    let units := w.frac + (if reduced then 2000 else 1000) * ((10 ^ 9 : Int) + w.adj.toInt).toNat
    { w with time := w.time + BitVec.ofNat 64 (units / (2100 * 10 ^ 9)), frac := units % (2100 * 10 ^ 9) }

/-- The zeroings that have lasted as long as they may (03 R61; 07 R176) end. -/
def State.endZeroing (c : Nat) (s : State) : State :=
  let past (n : Nat) (z : Zeroing) : Bool := decide (z.since + n ≤ s.now)
  let bands := ((s.core c).bandZeroing.filter (past 512)).map (·.part)
  let s := s.modCore c fun k => { k with bankZeroing := k.bankZeroing.filter fun z => !past 1536 z }
  s.each bands fun b s => s.at_ c (execBstoreZeroingDone b)

/-- The items of the cycle reach the trace buffers, the stamp counter advances, and with it all that counts cycles (R20). -/
def State.nextCycle (s : State) : State :=
  let ns := s.slotNums
  let s := s.each s.coreNums State.traceFlush
  let s : State := { s with stamp := s.stamp + 1, wraps := if s.stamp + 1 = 0 then s.wraps + 1 else s.wraps }
  let s := s.modHub fun h => { h with wall := h.wall.advance (h.dev.service != 2) }
  let s := s.each ns State.commit
  let s := s.each ns State.endResults
  let s := s.each s.coreNums State.endZeroing
  let s := s.each ns fun n s => s.at_ n execRegionSlackExpiry
  s.keelAnswers.at_ 0 execFrameBoundary

/-! ### The parts of a cycle -/

/-- The class of the events of a cycle, in the order in which they are taken: 0 to 99 before the turns of the engines, 100 to 119 the
turns, and from 120 on the bursts of the streams. Within a class events come by the number of their unit, where a rule orders them so. -/
def classOf (class_ unit : Nat) : Nat := class_ * 4096 + unit % 4096

/-- The next part of the cycle: PC_S, the sleepers, the vector, matrix and asynchronous engines in the order of 18 R412, the signals (05
R130), and, after the bursts, the next cycle. -/
def State.cyclePart (s : State) : State :=
  let to_ (c : Nat) (t : State) : State := { t with phase := classOf c 0 }
  match s.phase / 4096 with
  | 101 => to_ 102 s.sleepers_
  | 102 => to_ 103 (s.each s.coreNums State.vectorTurns)
  | 103 => to_ 104 s.matrices
  | 104 => to_ 105 (s.each s.slotNums fun n s => State.runTurns n .A (fun _ => true) turnFuel s)
  | 105 => to_ 120 s.afterTurns
  | p => if p < 100 then to_ 101 s.sequencers else to_ 0 s.nextCycle

/-! ### Moves -/

/-- A line or a translation leaves a buffer (04 R94; 09 R245; 10 R273) (log 80). -/
def State.dropOne (s : State) (d : Drop) : State :=
  match d with
  | .codeLine n va => s.modCore n fun c => { c with icache := c.icache.filter fun l => l.va != va }
  | .coreTlb n va => s.modCore n fun c => { c with tlb := c.tlb.filter fun t => t.va != va }
  | .dieTlb n va => s.modDie n fun d => { d with tlb := d.tlb.filter fun t => t.va != va }
  | .nearLine n base => s.dropLines n fun l => l.base == base

/-- The package steps that are commands of the host: they arrive while link 8 carries traffic (16 R371). -/
def hostStep (i : Instr) : Bool :=
  match i with
  | .kill | .contextCreate | .contextDestroy | .rclfCommand | .queueBind | .queueResume | .queueUnbind | .queueDoorbell _ | .barrierBind
  | .barrierReset | .barrierUnbind | .barrierBreakCmd | .fresResume _ | .fresAbort _ | .trapRingControlWrite _ _ | .traceDump | .traceRearm
  | .linkDisableWrite _ | .linkRetrain | .wtimeWrite _ | .drvfeatWrite _ | .dcmdFull | .dcmdRecover | .attestationRequest
  | .registerWrite _ _ | .readClear _ | .hostRequest _ => true
  | _ => false

/-- The units of the kind at which a package step is made, where they are numbered (01 R23). -/
def unitsOf (i : Instr) : Option Nat :=
  match i with
  | .kill | .contextCreate | .contextDestroy | .rclfCommand | .rclfComplete | .incarnationInstalled | .contextLoadDone | .contextSaveStart
  | .contextSaveDone => some 4096
  | .queueBind | .queueResume | .queueUnbind | .queueDoorbell _ | .queueRecordNop | .queueRecordLaunch | .queueRecordIcode | .wqpopWake
  | .watchdog | .barrierBind | .barrierReset | .barrierUnbind | .barrierBreakCmd | .barrierTimeout => some 256
  | .winchCommandStart | .winchBurstComplete | .winchCommandComplete | .winchFault | .nvmeCompletionObserved | .reencodeTake | .reencodeWritten
  | .outboundDone | .inboundDone => some 24
  | .traceDump | .traceRearm | .traceTrigger _ | .tracefreeze | .scratchpadZeroingDone _ | .bstoreZeroingDone _ | .bandHandover _ => some 160
  | .activationEnd | .streamBurstStart _ | .streamBurstComplete _ _ | .streamBurstFault _ | .globalLoadResponse _ | .tokenSignal _
  | .tokenWaitPerform _ | .mailboxAccept | .barrierWake | .waitcComplete | .bandExtraGrant | .bandWithdraw | .vResultsWritten | .mWordStart
  | .mWordComplete | .regionSlackExpiry => some 320
  | .globalStoreAck _ => some 4
  | .tetherCommandStart | .tetherCommandComplete _ | .tetherFault _ | .tetherWaitSatisfied _ | .triggerFire => some 16
  | .linkTrainingDone _ | .linkTrainingFailed | .linkCorrectableError | .linkUncorrectableError | .linkDisableWrite _ | .linkRetrain => some 17
  | _ => none

/-- A package step reaches its unit: there is such a unit, and a command of the host comes over a link that carries it. -/
def State.admits (s : State) (unit : Nat) (i : Instr) : Bool :=
  (match unitsOf i with | some n => decide (unit < n) | none => true) && (!hostStep i || s.hostUp)

/-- A package step of the opcode table at the unit of this number. A word is executed only where a counter stands at it, and so are the
steps that a counter makes at a word. -/
def State.packageStep (s : State) (unit : Nat) (i : Instr) : Out :=
  match i with
  | .laggingOutcomeTake e => s.engineMove unit e
  | .notAnInstruction w => s.engineMove unit (wordEngine w)
  | i => if (encode i).isSome || !s.admits unit i then .next s else exec i { s with cur := unit }

/-- What a move does (log 12). -/
def State.make (s : State) (m : Move) : Out :=
  match m with
  | .engine slot e => s.engineMove slot e
  | .tick => .next s.cyclePart
  | .event unit i => s.packageStep unit i
  | .drop d => .next (s.dropOne d)

/-! ### The order of events in a cycle (00 R9) -/

/-- The class of a write of a register: that of the command it gives. -/
def writeClass (x : HubReg) (v : Nat) : Nat :=
  match x with
  | .ctx _ 0x38 => if v % 2 ^ 32 = 3 then 20 else if v % 2 ^ 32 ≤ 2 then 10 else 81
  | .barrier _ 0x38 => if v % 2 ^ 32 = 4 then 30 else 10
  | .ring _ 0x28 => 20
  | .link _ 0x18 => 30
  | .queue _ 0x28 => 80
  | .queue _ 0x2C => 80
  | _ => 81

/-- The class of a semaphore's operation (17 R393): SETs by stream, remote SETs, additions by winch, by stream, and remote ones. -/
def State.semClass (s : State) (n : Nat) (lane : Bool) : Nat :=
  match (s.stream n).runner lane with
  | some r => if r.cmd.kind = 9 ∧ r.cmd.op = 1 then classOf 60 n else classOf 71 n
  | none => classOf 71 n

/-- The place of a package step in a cycle, where its unit's chapter or R9 gives one (12 R303; 13 R323; 14 R341; 15 R350; 17 R393): reset;
kill or incarnation change; fault; completion; request. `none`: the cycle itself makes the step at its time (log 13). -/
def State.rank (s : State) (unit : Nat) (i : Instr) : Option Nat :=
  match i with
  | .packageReset | .packageResetRelease | .powerLoss | .orderlyShutdown | .junctionOvertempReset | .coreRailDroop => some (classOf 0 0)
  | .contextDestroy | .contextCreate | .barrierBind | .barrierReset | .barrierUnbind => some (classOf 10 0)
  | .kill | .incarnationInstalled | .fresResume _ | .fresAbort _ => some (classOf 20 0)
  | .winchFault | .linkTrainingFailed | .linkCorrectableError | .linkUncorrectableError | .barrierBreakReport _ | .barrierBreakCmd
  | .linkDisableWrite _ | .faultTableRecordWrite | .packetRetryExpiry _ | .softErrorCorrection _ => some (classOf 30 0)
  | .walkDone _ _ | .globalLoadResponse _ | .globalStoreAck _ | .scratchpadZeroingDone _ | .bstoreZeroingDone _ | .rclfComplete
  | .activationEnd | .childGraphEnd _ | .graphCompletionWrite | .kernelValidation _ | .barrierDoneReport _ | .packetData _
  | .fenceRequestPacket _ | .fenceConfirmPacket _ | .peerCheckArrival _ _ _ | .winchBurstComplete | .nvmeCompletionObserved
  | .reencodeWritten | .outboundDone | .inboundDone | .linkTrainingDone _ | .switchingDone | .peerDelayExchange _ => some (classOf 40 0)
  | .contextLoadStart | .contextLoadDone | .contextSaveStart | .contextSaveDone => some (classOf 50 0)
  | .tetherCommandComplete lane => some (s.semClass unit lane)
  | .packetRelease p => some (if bitAt p.arg 12 then classOf 61 0 else classOf 72 0)
  | .winchCommandComplete => some (classOf 70 unit)
  | .tetherWaitSatisfied _ | .tetherCommandStart => some (classOf 75 0)
  | .queueDoorbell _ | .queueBind | .queueResume | .queueUnbind => some (classOf 80 0)
  | .registerWrite off v => some (classOf (((hubReg off).map fun x => writeClass x v.toNat).getD 81) 0)
  | .tileSteal _ die => some (classOf 83 die)
  | .emptyNodeTaken _ | .kernelNodeDispatch _ | .copyNodePush _ | .collectiveNodePush _ | .controlNodeEvaluate _ | .tileDispatch _ _
  | .timedNodeDue _ | .trapRingControlWrite _ _ | .hostRequest _ | .ptpSync _ | .wtimeWrite _ | .keelImageCheck _
  | .cd0Trained _ | .allDiesTrained _ | .drvfeatWrite _ | .throttle _ | .temperatureSample _ | .readClear _ | .winchCommandStart
  | .reencodeTake | .mailboxAccept | .probeAccept | .queueRecordNop | .queueRecordLaunch | .queueRecordIcode | .bandExtraGrant
  | .bandWithdraw | .rclfCommand | .traceDump | .traceRearm | .linkRetrain | .ptpSyncLoss
  | .dcmdFull | .dcmdRecover | .attestationRequest => some (classOf 81 0)
  | .streamBurstStart _ | .streamBurstComplete _ _ | .streamBurstFault _ => some (classOf 120 0)
  | _ => none

/-- The steps that the frame boundary has made due: kills by watchdogs (12 R311), and timeouts of barriers (14 R335). -/
def State.dueSteps (s : State) : List Move :=
  (s.hub.queues.filter fun p => p.2.expired).map (fun p => .event p.1 .watchdog)
  ++ (s.hub.barriers.filter fun p => p.2.overdue).map fun p => .event p.1 .barrierTimeout

/-- A move of the free schedule: it is made if its place in the cycle has not passed; else the cycle goes on. What is due comes with the
kills (R9). -/
def State.advance (s : State) (m : Move) : Out :=
  let turns := classOf 100 0
  if turns ≤ s.phase ∧ s.phase < classOf 120 0 then .next s.cyclePart
  else
    let place := match m with
      | .event unit i => s.rank unit i
      | .drop _ => some s.phase
      | _ => none
    let late := match place with
      | some k => decide (classOf 21 0 ≤ k)
      | none => true
    match s.dueSteps with
    | d :: _ => if s.phase < turns ∧ late = true then State.make { s with phase := max s.phase (classOf 21 0) } d else step_ s m place
    | [] => step_ s m place
where
  /-- The move at its place in the cycle. -/
  step_ (s : State) (m : Move) (place : Option Nat) : Out :=
    match place with
    | some k => if s.phase ≤ k then State.make { s with phase := k } m else .next s.cyclePart
    | none => .next s.cyclePart

/-- The machine stops at an access to an address that does not exist (log 11). -/
def settle (o : Out) : Out :=
  match o with
  | .next t =>
    match t.stuck with
    | some f => .fault f
    | none => .next t
  | o => o

/-! ### The placing of a word for the next step -/

/-- A counter that stands at word 0 of a text, at a position count of `pos`. -/
def Counter.placed (c : Counter) (word pos : Nat) : Counter :=
  { c with word := word, pos := pos, delay := none, guard := none, loops := [], ending := none, ended := false, left := 0,
           issued := false, waiting := none }

/-- Slot 0 of the package runs a text that stands at virtual address 0: `w` and a NOP, in a line of the cache. -/
def State.placeWord (s : State) (w : Nat) : State :=
  let e := Engine.ofTag (field w 31 30)
  let far := decide (e ≠ .S)
  let s := s.modSlot 0 fun sl =>
    { sl with
      busy := true
      stop := none
      act := { sl.act with codebase := 0, codelimit := 2 }
      seq := { sl.seq with pc := sl.seq.pc.placed (bitN far) (bitN far), sleep := none, pend := [], locks := [], walls := [] }
      vec := { sl.vec with pc := sl.vec.pc.placed 0 0 }
      mat := { sl.mat with pc := sl.mat.pc.placed 0 0, late := false }
      asy := { sl.asy with pc := sl.asy.pc.placed 0 0 } }
  let l : CodeLine := ⟨0, (s.slot 0).act.inctag, BitVec.ofNat 512 (w % 2 ^ 32)⟩
  let s := s.modCore 0 fun c => { c with icache := l :: c.icache }
  { s with agenda := .engine 0 e :: s.agenda, stuck := none }

end Sys2Proof.Machine
end

