-- ==== Sys2Proof/Machine/Step.lean ====
section
/-!
DEFINITION. Sys2Proof/Machine/Step.lean: one step of the package: the next move of the agenda, or of the free schedule (log 1).
-/

namespace Sys2Proof.Machine

/-- One step. A machine that has stopped at a fault stays there. -/
def step (s : State) : Host.Outcome State Fault Refusal :=
  match s.stuck with
  | some f => .fault f
  | none =>
    match s.agenda with
    | m :: rest => settle (State.make { s with agenda := rest } m)
    | [] => settle (State.advance { s with free := s.free + 1 } (Config.nextMove s.free))

/-- The state whose very next step fetches and executes the word whose bits are `w`: the word stands at the start of the text of
package slot 0, and the next move is the turn of its engine (log 3). -/
def State.withFetchWord (s : State) (nbits w : Nat) : State := s.placeWord (w % 2 ^ nbits)

end Sys2Proof.Machine
end

