-- ==== Sys2Proof/Safety.lean ====
section
/-!
DEFINITION. Sys2Proof/Safety.lean: what claims about the machine call a sound state (every memory in its canonical form, and a machine
that has not stopped), and what the issue of a word leaves unchanged.
-/

namespace Sys2Proof.Machine

/-- The memories of a core are in their canonical form. -/
def CoreState.memWf (c : CoreState) : Bool := Memory.wf c.scratch && Memory.wf c.bstore

/-- Every memory of the package is in its canonical form. -/
def State.memWf (s : State) : Bool := Memory.wf s.mem && s.cores.all fun p => p.2.memWf

/-- The machine has made no access to an address that does not exist. -/
def State.running (s : State) : Bool := s.stuck.isNone

/-- An effect on engine `e` of a slot waits at the position its counter stands at (05 R126). -/
def Slot.awaits (sl : Slot) (e : Engine) : Bool := (sl.counter e).deferred.any fun d => d.1 == (sl.counter e).pos

/-- `t` is `s` once the word that engine `e` of `slot` stands at has issued and its counter has moved by `f` (04 R96). Besides the
counter, only the core's trace buffer may differ (18 R417), and what the effects that wait for the engine at the position change: its
view of the control registers, the slot's shape registers, and the slot's entries of the draw filter (05 R126; 02 R52). -/
structure State.Moved (slot : Nat) (e : Engine) (f : Counter → Counter) (s t : State) : Prop where
  package : t.free = s.free ∧ t.cur = s.cur ∧ t.stuck = s.stuck ∧ t.stamp = s.stamp ∧ t.dies = s.dies ∧ t.winches = s.winches
    ∧ t.mem = s.mem ∧ t.hub = s.hub ∧ t.phase = s.phase ∧ t.wraps = s.wraps
  agenda : ∃ ms, t.agenda = ms ++ s.agenda
  slots : ∀ n, n ≠ slot → t.slot n = s.slot n
  cores : ∀ n, n ≠ coreOf slot → t.core n = s.core n
  own : t.core (coreOf slot)
    = { s.core (coreOf slot) with trace := (t.core (coreOf slot)).trace, filter := (t.core (coreOf slot)).filter }
  regs : t.slot slot = { (s.slot slot).setCounter e ((t.slot slot).counter e) with
    regs := { (s.slot slot).regs with shapes := (t.slot slot).regs.shapes } }
  counter : (t.slot slot).counter e = { f { (s.slot slot).counter e with issued := true, stallRun := 0 } with
    deferred := ((t.slot slot).counter e).deferred, copied := ((t.slot slot).counter e).copied, view := ((t.slot slot).counter e).view }
  still : (s.slot slot).awaits e = false →
    ((t.slot slot).counter e).view = (f { (s.slot slot).counter e with issued := true, stallRun := 0 }).view
    ∧ (t.slot slot).regs.shapes = (s.slot slot).regs.shapes ∧ (t.core (coreOf slot)).filter = (s.core (coreOf slot)).filter

/-- A word has issued and its counter has left by the plain rule. -/
abbrev State.Left (slot : Nat) (e : Engine) (s t : State) : Prop := State.Moved slot e Counter.leave s t

/-- The word that engine `e` of the current slot executes completes: with the effect `s₁`, and its counter leaves. -/
def Completes (o : Out) (e : Engine) (s₁ : State) : Prop := ∃ t, o = .next t ∧ State.Left s₁.cur e s₁ t

/-- The same where the counter moves by a rule of its own. -/
def CompletesBy (o : Out) (e : Engine) (f : Counter → Counter) (s₁ : State) : Prop := ∃ t, o = .next t ∧ State.Moved s₁.cur e f s₁ t

/-- A word of the sequencer may issue: no register that it reads or writes has an interlocked result pending, none that it writes has an
exposed one, and while PENDDBG is 1 none that it reads has an exposed one (05 R113, R115). -/
def State.sReady (s : State) (srcs dsts : List RegRef) : Bool :=
  let q := (s.slot s.cur).seq
  !srcs.any q.locked && !dsts.any (fun r => q.exposed r || q.locked r) && !(q.pc.view.penddbg && srcs.any q.exposed)

/-- `t` is `s` once engine `e` of a slot that runs has raised a fatal trap (04 R100; 18 R409, R411, R412): the slot is stopped, the
record of the activation waits in the fault table, and the lifetime counter of the code has counted. `x` is the record. -/
structure State.Trapped (slot : Nat) (e : Engine) (x : Record) (walk : Option WalkKey) (s t : State) : Prop where
  package : t.agenda = s.agenda ∧ t.free = s.free ∧ t.cur = s.cur ∧ t.stuck = s.stuck ∧ t.stamp = s.stamp ∧ t.cores = s.cores
    ∧ t.dies = s.dies ∧ t.winches = s.winches ∧ t.mem = s.mem ∧ t.phase = s.phase ∧ t.wraps = s.wraps
  slots : ∀ n, n ≠ slot → t.slot n = s.slot n
  stop : t.slot slot = { s.slot slot with stop := some ⟨s.hub.traps.nextId, e, x.code, false⟩ }
  hub : t.hub = { s.hub with
    life := t.hub.life,
    traps := { s.hub.traps with
      nextId := s.hub.traps.nextId + 1, table := s.hub.traps.table ++ [⟨s.hub.traps.nextId, x, none, none, walk, false⟩] } }
  life : (Tab.get 0 t.hub.life (64 + x.code)).toNat = min (2 ^ 64 - 1) ((Tab.get 0 s.hub.life (64 + x.code)).toNat + 1)
  lives : ∀ n, n ≠ 64 + x.code → Tab.get 0 t.hub.life n = Tab.get 0 s.hub.life n

/-- The record of an activation's fatal trap that names no other word and no cursor (18 R408, R413): it is pending. -/
def State.fatalRecord (s : State) (slot : Nat) (e : Engine) (code status addr : Nat) : Record :=
  { code := code, who := .slot slot e, tag := some (s.slot slot).act.inctag, warn := false, pending := true, status := status,
    addr := addr, cursor := 2 ^ 64 - 1, stamp := s.now, mode := (s.slot slot).traceMode e, widxS := (s.slot slot).seq.pc.word, widxV := (s.slot slot).vec.pc.word,
    widxM := (s.slot slot).mat.pc.word, widxA := (s.slot slot).asy.pc.word }

/-- The word that engine `e` of the current slot executes raises a fatal trap and has no effect (05 R112). -/
def Raises (o : Out) (s : State) (e : Engine) (code status addr : Nat) : Prop :=
  ∃ t, o = .next t ∧ State.Trapped s.cur e (s.fatalRecord s.cur e code status addr) none s t

end Sys2Proof.Machine
end

