-- ==== Sys2Proof/Certificates/Slice0/Obligations.lean ====
section
/-!
DEFINITION. Sys2Proof/Certificates/Slice0/Obligations.lean: the statements about the machine. The definitions before them say, from the
rules, what a word needs in order to issue and what its effect is.
-/

namespace Sys2Proof.Machine

/-! ### Words and steps -/

/-- The words of the examples of the spec, and what they are. -/
def exampleWords : List (Word × Instr) :=
  [(0x10143100, .add 5 3 4), (0x131C7FFF, .addi 7 7 0xFFF), (0x11454540, .cmp 2 1 20 21), (0x1B652345, .lui 25 0x12345),
   (0x06054003, .lset 0 1 20 3), (0x08240001, .lonlyLast 1 1), (0x07541040, .lstep 21 1 64), (0x0C000000, .endActivation),
   (0x540C1090, .vadd 3 1 2 1 0), (0x540C1098, .vadd 3 1 2 1 1), (0x41084146, .vfma 1 2 4 5 6), (0x63001082, .vcmp 1 2 0 0 2),
   (0x81480028, .mma 2 1 0 5), (0x85118004, .mdrain 0 2 0 1 1 0 1 0), (0x88000018, .mpri 3), (0xC0500040, .sload 20 0 0 1),
   (0xC1540A00, .sstore 21 2 1), (0xC8515080, .scurOpen 20 21 2), (0xCB540002, .cqpush 21 2), (0x2F0187C0, .wqpush 24 31),
   (0x31556781, .barw 21 22 30), (0x32515000, .rclf 20 21), (0x2E515000, .govrd 20 21 0), (0x33014000, .brk 20)]

/-- A counter of a busy slot stands at a word of its own engine that it may issue in this cycle: the text holds the word there, no fatal
stop, body's end, wait or guard keeps the counter, and it has issued nothing in the cycle (04 R96, R97, R105). -/
def State.standsAt (s : State) (slot : Nat) (e : Engine) (w : Word) : Bool :=
  let sl := s.slot slot
  let c := (sl.counter e).atCycle s.now
  let va := sl.act.wordVa c.word
  sl.busy && sl.stop.isNone && !c.ended && c.ending.isNone && c.waiting.isNone && decide (c.left < 8) && !c.skips && !c.issued
  && decide (wordEngine w = e)
  && (if e = .S then !sl.seqHeld && decide (c.word < sl.act.codelimit.toNat) else sl.mayStand e)
  && (((s.core (coreOf slot)).codeLine sl.act.inctag va).map fun l => l.word va) == some w

/-- The state in which the word of a slot's engine is executed: the counter's marks are those of the cycle. -/
def State.atWord (s : State) (slot : Nat) (e : Engine) : State :=
  ({ s with cur := slot } : State).modCounter slot e fun c => c.atCycle s.now

/-! ### Words of the sequencer -/

/-- The g and c registers that a word of the sequencer reads (05 R112). -/
def Instr.reads : Instr → List RegRef
  | .add _ a b | .sub _ a b | .and _ a b | .or _ a b | .xor _ a b | .shl _ a b | .shr _ a b | .sar _ a b | .mul _ a b
  | .mulh _ a b | .mulhn _ a b | .div _ a b | .divn _ a b | .rem _ a b | .remn _ a b | .min _ a b | .max _ a b | .minn _ a b
  | .maxn _ a b | .addx _ a b _ | .cmp _ _ a b => [.g a.toNat, .g b.toNat]
  | .clz _ a | .ctz _ a | .popc _ a | .cmpi _ _ a _ | .addi _ a _ | .andi _ a _ | .ori _ a _ | .xori _ a _ | .shli _ a _
  | .shri _ a _ | .sari _ a _ | .muli _ a _ | .lds _ a _ _ | .gld _ a _ _ | .bprepg _ a _ | .lset _ _ a _ | .rgn _ a _ | .halt a
  | .icinv _ a _ | .mtc a _ | .kcfg _ a | .brk a | .trcmark a | .pgqry _ a | .govstep _ a | .govrd _ a _ | .rclf _ a
  | .phase _ a _ => [.g a.toNat]
  | .incqry _ a b => if b.toNat ≤ 2 then [.g a.toNat] else []
  | .selFunc16 _ a b => [.g a.toNat, .g b.toNat, .c 0]
  | .sel _ a b f => [.g a.toNat, .g b.toNat, .c f.toNat]
  | .sts d a _ _ | .gst d a _ _ => [.g d.toNat, .g a.toNat]
  | .gatom d a _ _ o => [.g a.toNat, .g d.toNat] ++ if o = 9 then [.g (d.toNat + 1)] else []
  | .bgo _ _ f => [.c f.toNat]
  | .shpw d _ _ _ => [.g d.toNat]
  | .msend d a b => [.g d.toNat, .g a.toNat, .g b.toNat]
  | .tlbinv _ a b | .pghintTrans a b | .pghintEnc a b | .govwr _ a b | .govpin a b | .waitc _ a b | .barw _ a b => [.g a.toNat, .g b.toNat]
  | .wqpush a b => [.g a.toNat, .g (a.toNat + 1), .g (a.toNat + 2), .g (a.toNat + 3), .g b.toNat]
  | .wqpop _ b | .wqroom _ b | .barr _ b | .bars _ b => [.g b.toNat]
  | .yield d => [.g d.toNat]
  | _ => []

/-- The g and c registers that a word of the sequencer writes (05 R113). -/
def Instr.writes : Instr → List RegRef
  | .add d _ _ | .sub d _ _ | .and d _ _ | .or d _ _ | .xor d _ _ | .shl d _ _ | .shr d _ _ | .sar d _ _ | .mul d _ _
  | .mulh d _ _ | .mulhn d _ _ | .div d _ _ | .divn d _ _ | .rem d _ _ | .remn d _ _ | .min d _ _ | .max d _ _ | .minn d _ _
  | .maxn d _ _ | .addx d _ _ _ | .selFunc16 d _ _ | .sel d _ _ _ | .clz d _ | .ctz d _ | .popc d _ | .addi d _ _ | .andi d _ _
  | .ori d _ _ | .xori d _ _ | .shli d _ _ | .shri d _ _ | .sari d _ _ | .muli d _ _ | .lui d _ | .lds d _ _ _ | .gld d _ _ _
  | .gatom d _ _ _ _ | .mfc d _ | .shpr d _ _ _ _ | .stamp d | .wall d | .pgqry d _ | .govrd d _ _ | .govstep d _ | .wqroom d _
  | .grpid d _ | .bandq d _ | .barr d _ | .barw d _ _ | .bars d _ | .rclf d _ | .incqry d _ _ | .phase d _ _ => [.g d.toNat]
  | .mrecv d | .cqpop d => [.g d.toNat, .g (d.toNat + 1)]
  | .wqpop d _ => [.g d.toNat, .g (d.toNat + 1), .g (d.toNat + 2), .g (d.toNat + 3)]
  | .cmp _ f _ _ | .cmpi _ f _ _ | .vget f => [.c f.toNat]
  | _ => []

/-- A word of the sequencer issues: it is well formed and its registers are ready. -/
def State.issues (s : State) (i : Instr) : Bool := i.wellFormed && s.sReady (Instr.reads i) (Instr.writes i)

/-- An ALU word: its destination, its operands, its latency, and its result on its operands as unsigned numbers `a` and `b`, as two's
complement numbers `x` and `y`, and on its flag (05 R116). -/
structure AluWord where
  d : BitVec 6
  a : BitVec 6
  b : BitVec 6
  flag : Nat
  latency : Nat
  result : (a b : Nat) → (x y : Int) → (c : Bool) → Int

/-- The number of one bits of a 64-bit value. -/
def oneBits (a : Nat) : Nat := ((List.range 64).filter a.testBit).length

/-- The table of R116. -/
def aluRule : Instr → Option AluWord
  | .add d a b => some ⟨d, a, b, 0, 1, fun a b _ _ _ => a + b⟩
  | .sub d a b => some ⟨d, a, b, 0, 1, fun a b _ _ _ => a - b⟩
  | .and d a b => some ⟨d, a, b, 0, 1, fun a b _ _ _ => (a &&& b : Nat)⟩
  | .or d a b => some ⟨d, a, b, 0, 1, fun a b _ _ _ => (a ||| b : Nat)⟩
  | .xor d a b => some ⟨d, a, b, 0, 1, fun a b _ _ _ => (a ^^^ b : Nat)⟩
  | .shl d a b => some ⟨d, a, b, 0, 1, fun a b _ _ _ => a * 2 ^ (b % 64)⟩
  | .shr d a b => some ⟨d, a, b, 0, 1, fun a b _ _ _ => (a / 2 ^ (b % 64) : Nat)⟩
  | .sar d a b => some ⟨d, a, b, 0, 1, fun _ b x _ _ => x / 2 ^ (b % 64)⟩
  | .mul d a b => some ⟨d, a, b, 0, 3, fun a b _ _ _ => a * b⟩
  | .mulh d a b => some ⟨d, a, b, 0, 3, fun _ _ x y _ => x * y / 2 ^ 64⟩
  | .mulhn d a b => some ⟨d, a, b, 0, 3, fun a b _ _ _ => (a * b / 2 ^ 64 : Nat)⟩
  | .div d a b => some ⟨d, a, b, 0, 18, fun _ b x y _ => if b = 0 then 2 ^ 64 - 1 else x.tdiv y⟩
  | .divn d a b => some ⟨d, a, b, 0, 18, fun a b _ _ _ => if b = 0 then 2 ^ 64 - 1 else (a / b : Nat)⟩
  | .rem d a b => some ⟨d, a, b, 0, 18, fun a b x y _ => if b = 0 then a else x - y * x.tdiv y⟩
  | .remn d a b => some ⟨d, a, b, 0, 18, fun a b _ _ _ => if b = 0 then a else (a % b : Nat)⟩
  | .min d a b => some ⟨d, a, b, 0, 1, fun _ _ x y _ => if x < y then x else y⟩
  | .max d a b => some ⟨d, a, b, 0, 1, fun _ _ x y _ => if x > y then x else y⟩
  | .minn d a b => some ⟨d, a, b, 0, 1, fun a b _ _ _ => if a < b then a else b⟩
  | .maxn d a b => some ⟨d, a, b, 0, 1, fun a b _ _ _ => if a > b then a else b⟩
  | .clz d a => some ⟨d, a, 0, 0, 1, fun a _ _ _ _ => if a = 0 then 64 else 63 - (a.log2 : Int)⟩
  | .ctz d a => some ⟨d, a, 0, 0, 1, fun a _ _ _ _ => ((List.range 64).find? a.testBit).getD 64⟩
  | .popc d a => some ⟨d, a, 0, 0, 1, fun a _ _ _ _ => oneBits a⟩
  | .selFunc16 d a b => some ⟨d, a, b, 0, 1, fun a b _ _ c => if c then a else b⟩
  | .sel d a b f => some ⟨d, a, b, f.toNat, 1, fun a b _ _ c => if c then a else b⟩
  | .addx d a b n => some ⟨d, a, b, 0, 1, fun a b _ _ _ => a + b * 2 ^ n.toNat⟩
  | _ => none

/-- The register counterpart of an immediate form, with its immediate (05 R117). -/
def immForm : Instr → Option (Instr × BitVec 12)
  | .addi d a i => some (.add d a 0, i)
  | .andi d a i => some (.and d a 0, i)
  | .ori d a i => some (.or d a 0, i)
  | .xori d a i => some (.xor d a 0, i)
  | .shli d a i => some (.shl d a 0, i)
  | .shri d a i => some (.shr d a 0, i)
  | .sari d a i => some (.sar d a 0, i)
  | .muli d a i => some (.mul d a 0, i)
  | _ => none

/-- A result of latency 1 stands in its register for every later word; one of a longer latency waits until it is due (05 R113). A write
of g0 is discarded. -/
def State.withResult (s : State) (d : BitVec 6) (v : Reg) (latency : Nat) : State :=
  if d = 0 then s
  else if latency = 1 then s.modRegs s.cur fun r => { r with g := r.g.put d.toNat v }
  else s.modSeq s.cur fun q => { q with pend := q.pend ++ [⟨.g d.toNat, v, s.now + latency⟩] }

/-- The conditions of CMP and CMPI by number (05 R119). -/
def cmpRule (cc : BitVec 3) (a b : Reg) : Prop :=
  (cc = 0 → a = b) ∧ (cc = 1 → a ≠ b) ∧ (cc = 2 → a.toInt < b.toInt) ∧ (cc = 3 → b.toInt ≤ a.toInt) ∧ (cc = 4 → a.toNat < b.toNat)
  ∧ (cc = 5 → b.toNat ≤ a.toNat) ∧ (cc = 6 → a &&& b ≠ 0) ∧ (cc = 7 → a &&& b = 0)

/-- A c flag takes the value of a condition. -/
def State.withFlag (s : State) (f : BitVec 3) (v : Bool) : State := s.modRegs s.cur fun r => { r with c := r.c.put f.toNat v }

/-! ### Memory words, control and shape registers, tokens, mailboxes, fences and traps of the sequencer -/

/-- The number that `n` bytes hold, the first least significant (00 R2). -/
def numberAt (byte : Nat → Byte) (n : Nat) : Nat := ((List.range n).map fun j => (byte j).toNat * 256 ^ j).sum

/-- A loaded number of `n` bytes as a register holds it: sign-extended for the even kinds, else zero-extended (05 R120). -/
def extended (kind : BitVec 3) (n x : Nat) : Reg :=
  if kind.toNat % 2 = 0 ∧ 2 ^ (8 * n - 1) ≤ x then BitVec.ofInt 64 (x - 2 ^ (8 * n)) else BitVec.ofNat 64 x

/-- The size in bytes of a kind (05 R120). -/
def kindBytes (kind : BitVec 3) : Nat := [1, 1, 2, 2, 4, 4, 8, 0][kind.toNat]!

/-- The address of LDS and STS, formed exactly (05 R120). -/
def scratchAddress (base : Reg) (off : BitVec 9) (kind : BitVec 3) : Int := base.toNat + off.toInt * kindBytes kind

/-- The words of a slot that name a scratchpad address: LDS and STS (05 R120). -/
def scratchFields : Instr → Option (BitVec 6 × BitVec 6 × BitVec 3 × BitVec 9)
  | .lds d a k o => some (d, a, k, o)
  | .sts d a k o => some (d, a, k, o)
  | _ => none

/-- The kind is reserved on the instruction (05 R120). -/
def scratchReserved : Instr → Bool
  | .lds _ _ k _ => decide (k = 7)
  | .sts _ _ k _ => decide (k.toNat % 2 = 1)
  | _ => false

/-- A global access of the sequencer as its words give it: address register, size, class, register of the result, and what is asked (05
R123, R124). -/
structure GlobalWord where
  address : BitVec 6
  size : Nat
  cls : BitVec 4
  kind : GKind
  result : Nat
  x : Reg
  y : Reg

def State.globalWord (s : State) : Instr → Option GlobalWord
  | .gld d a c k => some ⟨a, kindBytes k, c, .load (kindBytes k) (decide (k.toNat % 2 = 0)), d.toNat, 0, 0⟩
  | .gst d a c k => some ⟨a, kindBytes k, c, .store (kindBytes k), 0, s.g d.toNat, 0⟩
  | .gatom d a c z o => some ⟨a, if z = 0 then 4 else 8, c, .atom o.toNat (if z = 0 then 4 else 8), d.toNat, s.g d.toNat,
      if o = 9 then s.g (d.toNat + 1) else 0⟩
  | _ => none

/-- The control register of a number as MFC reads it (03 R63). -/
def State.controlRegister (s : State) (n : Nat) : Reg :=
  let sl := s.slot s.cur
  let v := sl.seq.pc.view
  ([sl.seq.slipw.setWidth 64, sl.act.codebase.setWidth 64, sl.act.codelimit.setWidth 64, sl.act.spbase.setWidth 64,
    sl.act.splimit.setWidth 64, v.stepno.setWidth 64, v.tensorid.setWidth 64, v.rrb.setWidth 64, v.key0.setWidth 64, v.key1.setWidth 64,
    v.key2.setWidth 64, v.key3.setWidth 64, v.tracemode.setWidth 64, if v.penddbg then 1 else 0, if v.trapctl then 1 else 0,
    v.rotcfg.setWidth 64, sl.act.bands.setWidth 64, sl.act.grpid.setWidth 64, sl.act.inctag.setWidth 64, sl.act.wdoglim.setWidth 64,
    BitVec.ofNat 64 s.cur, sl.act.prio.setWidth 64] : List Reg)[n]!

/-- A value that MTC may write to a register (03 R63, R64). -/
def State.controlValueOk (s : State) (n : Nat) (x : Nat) : Prop :=
  (n = 0 → 1 ≤ x ∧ x ≤ 4095) ∧ (n = 6 → x < 2 ^ 24) ∧ (n = 7 → x = 0 ∨ x < 32 ∧ x < (s.slot s.cur).seq.pc.view.rotcfg.toNat)
  ∧ (n = 0xC → x ≤ 1 ∨ x = 2 ∧ s.hub.dev.agreed.getLsbD 6 = true) ∧ (n = 0xD ∨ n = 0xE → x ≤ 1)
  ∧ (n = 5 ∨ (8 ≤ n ∧ n ≤ 0xB) → x < 2 ^ 32)

/-- An effect that an engine of a slot takes when it leaves a position (05 R126). -/
def State.withDeferred (s : State) (e : Engine) (d : Deferred) : State :=
  s.modCounter s.cur e fun c => { c with deferred := c.deferred ++ [((s.slot s.cur).seq.pc.pos, d)] }

/-- The engine whose shape registers a kind selects: vs, ms or ss (05 R127). -/
def shapeEngine (kind : BitVec 2) : Engine := if kind = 0 then .V else if kind = 1 then .M else .A

/-- A value lies in the range of a shape field of some width, two's complement or not (03 R70). -/
def inField (signed : Bool) (w : Nat) (x : Reg) : Prop :=
  if signed then -2 ^ (w - 1) ≤ x.toInt ∧ x.toInt < 2 ^ (w - 1) else x.toNat < 2 ^ w

/-- Each access of the slot in a class of the mask has performed at a scope: its value is fixed or its die has accepted it; beyond the
die, a store has been acknowledged (05 R137; 09 R240). -/
def Slot.performed (sl : Slot) (mask scope : Nat) : Prop :=
  ∀ r ∈ sl.seq.reqs, mask.testBit r.cls = true → r.stage = .served ∧ (2 ≤ scope → ∀ n, r.kind ≠ .store n)

/-- Every word that an engine of the slot issued at a position before `p` has completed, and its counter has left them (05 R138). -/
def Slot.engineQuiet (sl : Slot) (e : Engine) (p : Nat) : Prop :=
  p ≤ (sl.counter e).pos ∧ (∀ g ∈ sl.signals, g.eng = e → p ≤ g.pos)
  ∧ match e with
    | .S => True
    | .V => ∀ f ∈ sl.vec.fly, p ≤ f.pos
    | .M => (∀ m ∈ sl.mat.buf, p ≤ m.pos) ∧ ∀ m ∈ sl.mat.run, p ≤ m.entry.pos
    | .A => (∀ c ∈ sl.asy.loads, p ≤ c.pos) ∧ (∀ c ∈ sl.asy.stores, p ≤ c.pos) ∧ ∀ c ∈ sl.asy.reports, p ≤ c.pos

/-- The record of a software warning at the current slot (05 R139; 18 R408). -/
def State.warningRecord (s : State) (status : Nat) : Record :=
  { s.fatalRecord s.cur .S 0x10 status 0 with warn := true, pending := false }

/-! ### Common control -/

/-- A word of the common control issues: its registers are ready, and it is no delay word (04 R101). -/
def State.controls (s : State) (i : Instr) : Bool := s.issues i && (s.slot s.cur).seq.pc.delay.isNone

/-- There is room for an outcome (04 R99). -/
def State.queueRoom (s : State) : Bool := decide ((s.slot s.cur).seq.outq.length < 16)

/-- An outcome enters the queue; no lagging counter has taken it (04 R99). -/
def State.withOutcome (s : State) (k : OutcomeKind) : State :=
  s.modSeq s.cur fun q => { q with outq := q.outq ++ [⟨k, false, false, false⟩] }

/-- A branch: its counter leaves it, and after two delay words goes on at the target, or at the next word (04 R101). -/
def branched (target : Option Nat) (c : Counter) : Counter := { c.leave with delay := some (2, target) }

/-- A mode of LONLY at a level: whether the guarded words issue; none where the mode does not fit (04 R105). -/
def lonlyMode : Instr → Option (BitVec 3 × BitVec 12 × (LoopLevel → Option Bool))
  | .lonlyFirst l n => some (l, n, fun v => some (decide (v.i = 0)))
  | .lonlyLast l n => some (l, n, fun v => some (decide (v.i + 1 = v.iters)))
  | .lonlyStage l st n => some (l, n, fun v => if v.stages ≤ st.toNat then none else some (decide (st.toNat ≤ v.i ∧ v.i < st.toNat + v.trip)))
  | _ => none

/-! ### Words of the vector engine -/

/-- The physical tile of a name under the rotation that the engine sees (04 R108). -/
def Slot.tileOf (sl : Slot) (name : Nat) : Nat :=
  let v := sl.vec.pc.view
  if 32 ≤ name ∧ name < 32 + v.rotcfg.toNat then 32 + (name - 32 + v.rrb.toNat) % v.rotcfg.toNat else name

/-- Where an operand of width `w` holds its position (i, j): the physical tile and the first bit (06 R140, R141). -/
def Slot.placeOf (sl : Slot) (name i j w : Nat) : Nat × Nat := (sl.tileOf (name + w * j / 1024), 1024 * i + w * j % 1024)

/-- The code at position (i, j) of an operand of width `w`. -/
def Slot.element (sl : Slot) (name i j w : Nat) : Nat :=
  (sl.regs.getV (sl.placeOf name i j w).1).toNat / 2 ^ (sl.placeOf name i j w).2 % 2 ^ w

/-- The position is enabled by the top entry of the mask stack (06 R142). -/
def Slot.isEnabled (sl : Slot) (i j : Nat) : Bool := (sl.regs.masks.head?.map fun m => m.getLsbD (128 * i + j)).getD true

/-- The positions of a shape, row by row. -/
def VShape.places (sh : VShape) : List (Nat × Nat) := (List.range sh.rows).flatMap fun i => (List.range sh.cols).map fun j => (i, j)

/-- Its enabled positions. -/
def VShape.on (sh : VShape) (sl : Slot) : List (Nat × Nat) := sh.places.filter fun p => sl.isEnabled p.1 p.2

/-- The tiles that an operand of width `w` covers. -/
def VShape.tiles (sh : VShape) (sl : Slot) (name w : Nat) : List Nat :=
  (List.range (w * (sh.cols - 1) / 1024 + 1)).map fun k => sl.tileOf (name + k)

def VShape.width (sh : VShape) : Nat := sh.fmt.width

/-- A code written somewhere: the number of the place (a tile, or 0 for the scratchpad), the first bit, the width and the code. -/
structure Piece where
  place : Nat
  bit : Nat
  width : Nat
  code : Nat

/-- A bit after some codes have been written over it, a later one over an earlier one. -/
def bitAfter (ps : List Piece) (place b : Nat) (old : Bool) : Bool :=
  match (ps.filter fun p => p.place == place && decide (p.bit ≤ b ∧ b < p.bit + p.width)).getLast? with
  | some p => p.code.testBit (b - p.bit)
  | none => old

/-- One code at each enabled position of a result of width `w` (06 R142). -/
def VShape.fill (sh : VShape) (sl : Slot) (name w : Nat) (f : Nat → Nat → Nat) : List Piece :=
  (sh.on sl).map fun p => ⟨(sl.placeOf name p.1 p.2 w).1, (sl.placeOf name p.1 p.2 w).2, w, f p.1 p.2⟩

/-- What a vector word does when its results are written. -/
structure VEffect where
  tiles : List Piece := []
  mask : MaskOp := .keep
  vote : Option Bool := none
  probe : Option Probe := none
  scratch : List Piece := []
  reads : List (Nat × Nat) := []
  writes : List (Nat × Nat) := []

/-- A word of the vector engine may issue (06 R144-R148; 08 R208; 09 R255). -/
def State.vReady (s : State) (i : Instr) (swap mask : Bool) (reads writes : List (Nat × Nat)) (srcs dsts : List Nat) : Prop :=
  let sl := s.slot s.cur
  let pr : Present := ⟨sl.vec.pc.pos, reads, writes, false⟩
  i.wellFormed = true ∧ (s.core (s.cur / 2)).vBusy ≤ s.now ∧ (swap = true → ∀ f ∈ sl.vec.fly, f.written = true)
  ∧ (mask = true → ∀ f ∈ sl.vec.fly, f.written = true ∨ f.maskOp = .keep)
  ∧ (∀ f ∈ sl.vec.fly, f.written = true ∨ ∀ w ∈ f.tiles, w.tile ∉ dsts ∧ (sl.vec.pc.view.penddbg = true → w.tile ∉ srcs))
  ∧ sl.rangeRoom pr = true ∧ sl.mayStart .V pr = true ∧ sl.channelsReady sl.vec.pc.pos reads = true
  ∧ ∀ r ∈ reads ++ writes, s.zeroingAt s.cur r.1 r.2 = false

/-- The slot as a word sees it that swaps, or does not swap, its shape register (03 R71). -/
def Slot.swapped (sl : Slot) (reg : Nat) (swap : Bool) : Slot := if swap then { sl with regs := sl.regs.swapShape 0 reg } else sl

/-- The state in which a vector word has issued: its results are in flight and due, and the engine is occupied (06 R144, R145). -/
def State.withFlight (s : State) (sl : Slot) (fl : VFlight) (cycles : Nat) : State :=
  (s.modSlot s.cur fun _ =>
    { sl with vec := { sl.vec with
        fly := sl.vec.fly ++ [fl], votesFormed := if fl.vote.isSome then sl.vec.votesFormed + 1 else sl.vec.votesFormed } }).modCore
    (s.cur / 2) fun c => { c with vBusy := s.now + cycles }

/-- A flight holds the results of an effect: its tile writes, its mask operation, its vote, its probe and its stores. -/
def VFlight.holds (fl : VFlight) (s : State) (cycles : Nat) (x : VEffect) : Prop :=
  fl.pos = (s.slot s.cur).vec.pc.pos ∧ fl.word = (s.slot s.cur).vec.pc.word ∧ fl.due = s.now + cycles + 5 ∧ fl.written = false
  ∧ fl.maskOp = x.mask ∧ fl.vote = x.vote ∧ fl.probe = x.probe ∧ fl.reads = x.reads ∧ fl.writes = x.writes
  ∧ ∀ (u : State) (n : Nat),
      (∀ t b, b < 32768 → (((u.vWrite n fl).slot n).regs.getV t).getLsbD b
        = bitAfter x.tiles t b (((u.slot n).regs.getV t).getLsbD b))
      ∧ ∀ b, (((u.vWrite n fl).core (n / 2)).scratch.read (b / 8)).getLsbD (b % 8)
        = bitAfter x.scratch 0 b (((u.core (n / 2)).scratch.read (b / 8)).getLsbD (b % 8))

/-- A vector word issues, with the slot as it sees it and its effect. -/
def IssuesV (s : State) (i : Instr) (sl : Slot) (cycles : Nat) (x : VEffect) : Prop :=
  ∃ fl : VFlight, Completes (exec i s) .V (s.withFlight sl fl cycles) ∧ fl.holds s cycles x

/-- The 32 bits of a word. -/
def wordOf (i : Instr) : Nat := ((encode i).map BitVec.toNat).getD 0

/-- The cycles a shape occupies the engine for: 256 elements a cycle (06 R144). -/
def VShape.cycles (sh : VShape) : Nat := (sh.rows * sh.cols + 255) / 256

/-- A word that gives one element of its own format at each enabled position: its shape register, its swap, the formats it takes, its
result, its operands, and the code it gives at a position from the codes of its operands (06 R151-R155, R166, R169). -/
structure ElementWord where
  shape : BitVec 2
  swap : BitVec 1
  format : Nat → Bool
  d : BitVec 6
  srcs : List (BitVec 6)
  result : VShape → (BitVec 6 → Nat → Nat → Nat) → Nat → Nat → Nat

/-- The formats FP32, FP16 and BF16; those of integers; those of signed integers (06 R143). -/
def isFloatFormat (c : Nat) : Bool := decide (c ≤ 2)
def isIntFormat (c : Nat) : Bool := decide ((0x12 ≤ c ∧ c ≤ 0x15) ∨ (0x1A ≤ c ∧ c ≤ 0x1D))
def isSignedFormat (c : Nat) : Bool := decide (0x12 ≤ c ∧ c ≤ 0x15)
def isFormat (_ : Nat) : Bool := true

/-- Rounding to the shape's format in its mode. -/
def VShape.rounded (sh : VShape) (rnd : Nat) (x : Val) : Nat := (roundTo sh.fmt ((rmodeOf sh.rnd).getD .rne) rnd sh.sat x).code
def VShape.sum (sh : VShape) (x y : Val) : Val := Val.addZ ((rmodeOf sh.rnd).getD .rne == .rdn) x y

def floatWord (sh : BitVec 2) (sw : BitVec 1) (d : BitVec 6) (srcs : List (BitVec 6)) (f : VShape → (BitVec 6 → Val) → Val) : ElementWord :=
  ⟨sh, sw, isFloatFormat, d, srcs, fun h c i j => h.rounded 0 (f h fun n => decodeCode h.fmt (c n i j))⟩

def specialWord (sh : BitVec 2) (sw : BitVec 1) (d a : BitVec 6) (fn : SpecFn) : ElementWord :=
  ⟨sh, sw, isFloatFormat, d, [a], fun h c i j =>
    (special fn h.fmt ((rmodeOf h.rnd).getD .rne) h.sat (decodeCode h.fmt (c a i j))).getD Config.hardCase⟩

/-- The value of an integer code; an integer result, clamped to its format or wrapped (06 R155). -/
def VShape.intValue (sh : VShape) (c : Nat) : Int := if isSignedFormat sh.code ∧ 2 ^ (sh.width - 1) ≤ c then c - 2 ^ sh.width else c
def VShape.intResult (sh : VShape) (sat : Bool) (x : Int) : Nat :=
  let lo : Int := if isSignedFormat sh.code then -2 ^ (sh.width - 1) else 0
  let hi : Int := if isSignedFormat sh.code then 2 ^ (sh.width - 1) - 1 else 2 ^ sh.width - 1
  ((if sat then max lo (min hi x) else x) % 2 ^ sh.width).toNat

def integerWord (sh : BitVec 2) (sw sat : BitVec 1) (d : BitVec 6) (srcs : List (BitVec 6)) (f : (BitVec 6 → Int) → Int) : ElementWord :=
  ⟨sh, sw, isIntFormat, d, srcs, fun h c i j => h.intResult (sat == 1) (f fun n => h.intValue (c n i j))⟩

/-- The lesser or greater code by value; a NaN gives the canonical NaN (06 R153). -/
def pickWord (sh : BitVec 2) (sw : BitVec 1) (d a b : BitVec 6) (larger : Bool) : ElementWord :=
  ⟨sh, sw, isFloatFormat, d, [a, b], fun h c i j =>
    let x := decodeCode h.fmt (c a i j)
    let y := decodeCode h.fmt (c b i j)
    if x.isNan || y.isNan then (nanCode h.fmt).getD 0
    else if (if larger then x.below y else y.below x) then c b i j else c a i j⟩

def signBitWord (sh : BitVec 2) (sw : BitVec 1) (d a : BitVec 6) (f : Nat → Nat → Nat) : ElementWord :=
  ⟨sh, sw, isFloatFormat, d, [a], fun h c i j =>
    if (decodeCode h.fmt (c a i j)).isNan then (nanCode h.fmt).getD 0 else f (2 ^ (h.width - 1)) (c a i j)⟩

def shiftedWord (sh : BitVec 2) (sw imm : BitVec 1) (format : Nat → Bool) (d a b : BitVec 6) (f : VShape → Nat → Nat → Nat) : ElementWord :=
  ⟨sh, sw, format, d, if imm = 1 then [a] else [a, b], fun h c i j => f h (c a i j) (if imm = 1 then b.toNat else c b i j % 64)⟩

def elementRule : Instr → Option ElementWord
  | .vadd d a b s w => some (floatWord s w d [a, b] fun h v => h.sum (v a) (v b))
  | .vsub d a b s w => some (floatWord s w d [a, b] fun h v => h.sum (v a) (v b).negate)
  | .vmul d a b s w => some (floatWord s w d [a, b] fun _ v => (v a).mul (v b))
  | .vfma p d a b c => some (floatWord p 0 d [a, b, c] fun h v => h.sum ((v a).mul (v b)) (v c))
  | .vfms p d a b c => some (floatWord p 0 d [a, b, c] fun h v => h.sum ((v a).mul (v b)) (v c).negate)
  | .vfnma p d a b c => some (floatWord p 0 d [a, b, c] fun h v => h.sum ((v a).mul (v b)).negate (v c))
  | .vmin d a b s w => some (pickWord s w d a b false)
  | .vmax d a b s w => some (pickWord s w d a b true)
  | .vabs d a s w => some (signBitWord s w d a fun h c => c % h)
  | .vneg d a s w => some (signBitWord s w d a fun h c => (c + h) % (2 * h))
  | .vrcp d a s w => some (specialWord s w d a .rcp)
  | .vrsq d a s w => some (specialWord s w d a .rsq)
  | .vsqrt d a s w => some (specialWord s w d a .sqrt)
  | .vexp2 d a s w => some (specialWord s w d a .exp2)
  | .vlog2 d a s w => some (specialWord s w d a .log2)
  | .vtanh d a s w => some (specialWord s w d a .tanh)
  | .vsigm d a s w => some (specialWord s w d a .sigm)
  | .viadd d a b s w t => some (integerWord s w t d [a, b] fun v => v a + v b)
  | .visub d a b s w t => some (integerWord s w t d [a, b] fun v => v a - v b)
  | .vimul d a b s w t => some (integerWord s w t d [a, b] fun v => v a * v b)
  | .vimad p d a b c => some (integerWord p 0 0 d [a, b, c] fun v => v a * v b + v c)
  | .vand d a b s w => some ⟨s, w, isFormat, d, [a, b], fun _ c i j => c a i j &&& c b i j⟩
  | .vor d a b s w => some ⟨s, w, isFormat, d, [a, b], fun _ c i j => c a i j ||| c b i j⟩
  | .vxor d a b s w => some ⟨s, w, isFormat, d, [a, b], fun _ c i j => c a i j ^^^ c b i j⟩
  | .vshl d a b s w i => some (shiftedWord s w i isIntFormat d a b fun h c n => c * 2 ^ n % 2 ^ h.width)
  | .vshr d a b s w i => some (shiftedWord s w i isIntFormat d a b fun _ c n => c / 2 ^ n)
  | .vsar d a b s w i => some (shiftedWord s w i isSignedFormat d a b fun h c n => (h.intValue c / 2 ^ n % 2 ^ h.width).toNat)
  | .vmov d a s w => some ⟨s, w, isFormat, d, [a], fun _ c i j => c a i j⟩
  | .vbcast d a s w m => some ⟨s, w, isFormat, d, [a], fun _ c i j => c a (if m = 2 then i else 0) (if m = 1 then j else 0)⟩
  | .viota d s w m => some ⟨s, w, isIntFormat, d, [], fun h _ i j =>
      (if m = 0 then i * h.cols + j else if m = 1 then i else j) % 2 ^ h.width⟩
  | _ => none

/-- A word of the vector engine with a result in tiles and rules of its own: the formats and names that it takes, the tiles it reads and
writes, and what it writes (06 R159-R165, R169). -/
structure TileWord where
  shape : BitVec 2
  swap : BitVec 1
  masked : Bool
  ok : Slot → VShape → Bool
  srcs : Slot → VShape → List Nat
  dsts : Slot → VShape → List Nat
  pieces : Slot → VShape → List Piece

/-- The last name that an operand of width `w` covers is v63 or below (06 R141). -/
def VShape.holdsName (sh : VShape) (name : BitVec 6) (w : Nat) : Bool := decide (name.toNat + w * (sh.cols - 1) / 1024 ≤ 63)

/-- Blocks: the formats of block elements and the block sizes (06 R143, R161). -/
def isBlockFormat (c : Nat) : Bool := decide ((3 ≤ c ∧ c ≤ 7) ∨ (0x10 ≤ c ∧ c ≤ 0x12))
def VShape.isBlock (sh : VShape) : Bool := sh.cols == 16 || sh.cols == 32 || sh.cols == 64

/-- Byte `i` of a tile. -/
def Slot.byteOf (sl : Slot) (name : BitVec 6) (i : Nat) : Nat := (sl.regs.getV (sl.tileOf name.toNat)).toNat / 2 ^ (8 * i) % 256

/-- Conversion: the random word of a position under RND 4 (06 R160). -/
def convertWord (d a r : BitVec 6) (s : BitVec 2) (w : BitVec 1) (t : BitVec 2) (format : Nat → Bool) : TileWord where
  shape := s
  swap := w
  masked := true
  ok := fun sl sh => match sl.regs.vshape t.toNat with
    | some src => format sh.code && src.code != 8 && sh.holdsName a src.fmt.width
        && (if sh.rnd = 4 then sh.holdsName r 32 else r == 0)
    | none => false
  srcs := fun sl sh => match sl.regs.vshape t.toNat with
    | some src => sh.tiles sl a.toNat src.fmt.width ++ if sh.rnd = 4 then sh.tiles sl r.toNat 32 else []
    | none => []
  dsts := fun sl sh => sh.tiles sl d.toNat sh.width
  pieces := fun sl sh => match sl.regs.vshape t.toNat with
    | some src => sh.fill sl d.toNat sh.width fun i j =>
        sh.rounded (if sh.rnd = 4 then sl.element r.toNat i j 32 else 0) (decodeCode src.fmt (sl.element a.toNat i j src.fmt.width))
    | none => []

/-- Reduction: over each row, or over the whole shape, by the tree of R46; disabled positions enter as the identity (06 R165). -/
def reduceWord (d a : BitVec 6) (s : BitVec 2) (w row : BitVec 1) (r : RedOp) : TileWord where
  shape := s
  swap := w
  masked := true
  ok := fun _ sh => (isFloatFormat sh.code || sh.code == 0x14 || sh.code == 0x1C) && sh.rnd != 4
  srcs := fun sl sh => sh.tiles sl a.toNat sh.width
  dsts := fun sl _ => [sl.tileOf d.toNat]
  pieces := fun sl sh =>
    let enters (i j : Nat) : Nat := if sl.isEnabled i j then redElement sh.fmt (sl.element a.toNat i j sh.width) else r.ident sh.fmt
    let tree (l : List Nat) : Nat := treeReduce (r.ident sh.fmt) (r.op sh.fmt) l
    if row = 1 then
      (List.range sh.rows).map fun i => ⟨sl.tileOf d.toNat, 1024 * i, 32, tree ((List.range sh.cols).map fun j => enters i j)⟩
    else [⟨sl.tileOf d.toNat, 0, 32, tree (sh.places.map fun p => enters p.1 p.2)⟩]

def tileRule : Instr → Option TileWord
  | .vcvtFlt d a r s w t => some (convertWord d a r s w t fun c => decide (c ≤ 7))
  | .vcvtInt d a r s w t => some (convertWord d a r s w t fun c => decide ((0x10 ≤ c ∧ c ≤ 0x15) ∨ (0x19 ≤ c ∧ c ≤ 0x1D)))
  | .vqnt p d a b c => some {
      shape := p
      swap := 0
      masked := false
      ok := fun _ sh => isBlockFormat sh.code && sh.isBlock && d != b && sh.holdsName a 32
        && (if sh.rnd = 4 then sh.holdsName c 32 else c == 0)
      srcs := fun sl sh => sh.tiles sl a.toNat 32 ++ if sh.rnd = 4 then sh.tiles sl c.toNat 32 else []
      dsts := fun sl sh => sh.tiles sl d.toNat sh.width ++ [sl.tileOf b.toNat]
      pieces := fun sl sh => (List.range sh.rows).flatMap fun i =>
        let xs := (List.range sh.cols).map fun j =>
          (ofF32 (sl.element a.toNat i j 32), if sh.rnd = 4 then sl.element c.toNat i j 32 else 0)
        let q := blockScale sh.fmt ((rmodeOf sh.rnd).getD .rne) xs
        ⟨sl.tileOf b.toNat, 8 * i, 8, q.sc⟩ :: (q.codes.zip (List.range sh.cols)).map fun x =>
          ⟨(sl.placeOf d.toNat i x.2 sh.width).1, (sl.placeOf d.toNat i x.2 sh.width).2, sh.width, x.1.code⟩ }
  | .vdq d a b s w => some {
      shape := s
      swap := w
      masked := true
      ok := fun _ sh => isBlockFormat sh.code && sh.isBlock && sh.rnd != 4 && sh.holdsName d 32
      srcs := fun sl sh => sh.tiles sl a.toNat sh.width ++ [sl.tileOf b.toNat]
      dsts := fun sl sh => sh.tiles sl d.toNat 32
      pieces := fun sl sh => sh.fill sl d.toNat 32 fun i j =>
        (roundTo fF32 ((rmodeOf sh.rnd).getD .rne) 0 sh.sat
          (blockDecode sh.fmt (sl.element a.toNat i j sh.width) (sl.byteOf b i))).code }
  | .vamax d a s w c => some {
      shape := s
      swap := w
      masked := true
      ok := fun _ sh => isFloatFormat sh.code && sh.rnd != 4
      srcs := fun sl sh => sh.tiles sl a.toNat sh.width ++ if c = 1 then [sl.tileOf d.toNat] else []
      dsts := fun sl _ => [sl.tileOf d.toNat]
      pieces := fun sl sh => (List.range sh.rows).map fun i =>
        let row := ((List.range sh.cols).filter fun j => sl.isEnabled i j).map fun j =>
          decodeCode sh.fmt (sl.element a.toNat i j sh.width)
        let m := row.foldl (fun m v => maxV m v.abs) .zero
        ⟨sl.tileOf d.toNat, 1024 * i, 32, exactCode fF32 (if c = 1 then maxV (ofF32 (sl.element d.toNat i 0 32)) m else m)⟩ }
  | .vscl d a b s w n => some {
      shape := s
      swap := w
      masked := true
      ok := fun _ sh => isFloatFormat sh.code && sh.rnd != 4
      srcs := fun sl sh => sh.tiles sl a.toNat sh.width ++ [sl.tileOf b.toNat]
      dsts := fun sl sh => sh.tiles sl d.toNat sh.width
      pieces := fun sl sh => sh.fill sl d.toNat sh.width fun i j =>
        let k : Int := (sl.byteOf b i : Int) - 127
        sh.rounded 0 (if sl.byteOf b i = 255 then .nan
          else (decodeCode sh.fmt (sl.element a.toNat i j sh.width)).scale (if n = 1 then -k else k)) }
  | .vrsum d a s w r => some (reduceWord d a s w r .sum)
  | .vrmax d a s w r => some (reduceWord d a s w r .max)
  | .vrmin d a s w r => some (reduceWord d a s w r .min)
  | .vsel d a b s w => some {
      shape := s
      swap := w
      masked := true
      ok := fun _ sh => sh.rnd != 4
      srcs := fun sl sh => sh.tiles sl a.toNat sh.width ++ sh.tiles sl b.toNat sh.width
      dsts := fun sl sh => sh.tiles sl d.toNat sh.width
      pieces := fun sl sh => sh.places.map fun p =>
        ⟨(sl.placeOf d.toNat p.1 p.2 sh.width).1, (sl.placeOf d.toNat p.1 p.2 sh.width).2, sh.width,
          if sl.isEnabled p.1 p.2 then sl.element a.toNat p.1 p.2 sh.width else sl.element b.toNat p.1 p.2 sh.width⟩ }
  | .vtrn d a s w => some {
      shape := s
      swap := w
      masked := false
      ok := fun _ sh => sh.rnd != 4 && decide (sh.cols ≤ 32 ∧ sh.rows * sh.width ≤ 1024)
      srcs := fun sl sh => sh.tiles sl a.toNat sh.width
      dsts := fun sl _ => [sl.tileOf d.toNat]
      pieces := fun sl sh => sh.places.map fun p =>
        ⟨sl.tileOf d.toNat, 1024 * p.2 + sh.width * p.1, sh.width, sl.element a.toNat p.1 p.2 sh.width⟩ }
  | .vperm d a b s w => some {
      shape := s
      swap := w
      masked := true
      ok := fun _ sh => sh.rnd != 4
      srcs := fun sl sh => sh.tiles sl a.toNat sh.width ++ sh.tiles sl b.toNat sh.width
      dsts := fun sl sh => sh.tiles sl d.toNat sh.width
      pieces := fun sl sh => sh.fill sl d.toNat sh.width fun i j =>
        let k := sl.element b.toNat i j 8
        if k < 128 ∧ k < sh.cols then sl.element a.toNat i k sh.width else 0 }
  | _ => none

/-- A mask entry holds, of the positions of a shape, the enabled ones that meet a condition, and no other position (06 R157). -/
def VShape.forms (sh : VShape) (sl : Slot) (cond : Nat → Nat → Bool) (m : Mask) : Prop :=
  ∀ i j, i < 32 → j < 128 → m.getLsbD (128 * i + j) = (decide (i < sh.rows ∧ j < sh.cols) && sl.isEnabled i j && cond i j)

/-- The condition of VCMP on two values; NE holds and the orders fail where one is NaN (06 R157). -/
def compares (cc : BitVec 3) (x y : Val) : Bool :=
  [x.eqv y, !x.eqv y, x.lt y, x.lt y || x.eqv y, y.lt x, y.lt x || x.eqv y, !(x.isNan || y.isNan), x.isNan || y.isNan][cc.toNat]!

/-- The rows of VLD and VST: g[A] is their base, g[B] their stride, 0 for rows that follow each other (06 R167). -/
def VShape.rowAddress (sh : VShape) (base stride : Reg) (i : Nat) : Nat :=
  base.toNat + i * if stride = 0 then sh.cols * sh.width / 8 else stride.toNat

/-- The bytes of scratchpad that a slot's core holds. -/
def State.scratchByte (s : State) (a : Nat) : Byte := (s.core (s.cur / 2)).scratch.read a

/-- The sums that a probe takes, over the positions in row-major order, a disabled one giving zero (06 R171). -/
def VShape.sumOver (sh : VShape) (sl : Slot) (term : Nat → Nat → Nat) : Nat :=
  treeReduce 0 addF32 (sh.places.map fun p => if sl.isEnabled p.1 p.2 then term p.1 p.2 else 0)

/-- The square of a value, rounded once to FP32. -/
def square (x : Val) : Nat := toF32 (x.mul x)

/-- A probe word: its slot register, its shape, the formats it takes, the tiles it reads, its kind and its sums (06 R171). -/
def probeRule : Instr → Option (BitVec 6 × BitVec 2 × BitVec 1 × (Nat → Bool) × List (BitVec 6) × ProbeKind
    × (Slot → VShape → Nat × Nat))
  | .vstatQe d a b s w => some (d, s, w, isFloatFormat, [a, b], .qe, fun sl sh =>
      let v (n : BitVec 6) (i j : Nat) : Val := decodeCode sh.fmt (sl.element n.toNat i j sh.width)
      (sh.sumOver sl fun i j => square (ofF32 (toF32 ((v a i j).add (v b i j).negate))), sh.sumOver sl fun i j => square (v a i j)))
  | .vstatGn d a s w => some (d, s, w, isFloatFormat, [a], .gn, fun sl sh =>
      (sh.sumOver sl fun i j => square (decodeCode sh.fmt (sl.element a.toNat i j sh.width)), 0))
  | .vstatGnsum d a s w => some (d, s, w, isFloatFormat, [a], .gnsum, fun sl sh =>
      (sh.sumOver sl fun i j => square (decodeCode sh.fmt (sl.element a.toNat i j sh.width)), 0))
  | .vstatOv d a s w => some (d, s, w, fun c => decide (c ≤ 7), [a], .ov, fun sl sh =>
      (((sh.on sl).filter fun p => decide (maxCode sh.fmt ≤ sl.element a.toNat p.1 p.2 sh.width % 2 ^ (sh.width - 1))).length, 0))
  | _ => none

/-! ### Tokens of the lagging engines, global accesses, pages and precision slots -/

/-- A lagging engine's KWAIT or KSIG: its engine, its token and its number (05 R129; 06 R172; 08 R218). -/
def laggingWait : Instr → Option (Engine × Nat × Nat)
  | .kwaitV d n => some (.V, d.toNat, n.toNat)
  | .kwaitA k n m => some (.A, k.toNat, n.toNat * 64 + m.toNat)
  | _ => none

def laggingSignal : Instr → Option (Engine × Nat × Nat)
  | .ksigV d n => some (.V, d.toNat, n.toNat)
  | .ksigA k n m => some (.A, k.toNat, n.toNat * 64 + m.toNat)
  | _ => none

/-- The engine is free for a word: the vector engine is not occupied by an earlier one (06 R144). -/
def State.engineFree (s : State) (e : Engine) : Prop := e = .V → (s.core (s.cur / 2)).vBusy ≤ s.now

/-- A word of one cycle occupies the vector engine; other engines are not occupied. -/
def State.occupied (s : State) (e : Engine) : State :=
  if e = .V then s.modCore (s.cur / 2) fun c => { c with vBusy := s.now + 1 } else s

/-- A token after an operation: its new count and its ceiling. -/
def Token.became (k t : Token) (count : Nat) : Prop := k.count.toNat = count ∧ k.ceiling = t.ceiling

/-- Every word that an engine issued at a position before `p` has completed (05 R131). -/
def Slot.completedBefore (sl : Slot) (e : Engine) (p : Nat) : Prop :=
  match e with
  | .S => True
  | .V => ∀ f ∈ sl.vec.fly, p ≤ f.pos
  | .M => (∀ m ∈ sl.mat.buf, p ≤ m.pos) ∧ ∀ m ∈ sl.mat.run, p ≤ m.entry.pos
  | .A => (∀ c ∈ sl.asy.loads, p ≤ c.pos) ∧ (∀ c ∈ sl.asy.stores, p ≤ c.pos) ∧ ∀ c ∈ sl.asy.reports, p ≤ c.pos

/-- The byte that a read of a class finds on a die: in the die's line of its class, else the latest accepted store over it, else memory
(09 R240, R245). -/
def State.seenAt (s : State) (die cls a : Nat) : Byte :=
  match (s.die die).lines.find? fun l => l.base == a / 256 * 256 && l.cls == cls with
  | some l => BitVec.ofNat 8 (l.bytes.toNat / 2 ^ (8 * (a % 256)))
  | none =>
    match ((s.die die).accepted.filter fun e => decide (e.pa ≤ a ∧ a < e.pa + e.bytes.length)).getLast? with
    | some e => (e.bytes[a - e.pa]?).getD 0
    | none => s.mem.read a

/-- No buffer and no fault table holds a translation of an address for a core of a die: the walk decides (10 R273, R274). -/
def State.walksAfresh (s : State) (core : Nat) (tag : BitVec 18) (va : Nat) : Prop :=
  (∀ t ∈ (s.core core).tlb ++ (s.die (core / 40)).tlb, t.holds tag va = false)
  ∧ (⟨tag, va / 65536⟩ : WalkKey) ∉ s.hub.traps.walks

/-- An entry of a plain page in HBM: a leaf of 64 KiB in state 0 that is not a tensor page (10 R263). -/
def plainPage (e : Nat) : Prop := e / 2 ^ 8 % 2 = 0 ∧ e / 2 ^ 9 % 2 = 0 ∧ e / 2 ^ 2 % 8 = 0

/-- The earlier accesses of the slot in the class of one have performed as far as its order needs, and no acquire before it is under way in
its class (09 R241, R244). -/
def SeqState.ordered (q : SeqState) (r : GReq) : Prop :=
  (∀ x ∈ q.reqs, x.num < r.num → x.cls = r.cls →
    x.stage = .served ∧ ((∀ n, r.kind ≠ .store n) → ∀ n, x.kind ≠ .store n))
  ∧ ∀ a ∈ q.acqs, a.1 ≤ r.num → a.2.testBit r.cls = false

/-- The table of GATOM: the value left in memory, from the old one and the operands, of `w` bits (05 R124). -/
def atomResult (op w old x y : Nat) : Nat :=
  let s (v : Nat) : Int := if 2 ^ (w - 1) ≤ v then v - 2 ^ w else v
  ([(old + x) % 2 ^ w, if s x < s old then x else old, if s old < s x then x else old, min old x, max old x, old &&& x, old ||| x, old ^^^ x,
    x, if old = x then y else old] : List Nat)[op]!

/-- The access kind of a request, as the STATUS of a walk fault numbers it (10 R264). -/
def GReq.walkKind (r : GReq) : AKind :=
  match r.kind with | .load _ _ => .read | .store _ => .write | .atom _ _ => .atomic

/-- The buffers of the package but for the entries that a test names, in the cores and dies of a scope (10 R275). -/
def State.forgetting (s : State) (core die : Nat → Bool) (hit : TlbEntry → Bool) : State :=
  { s with
    cores := s.cores.map fun p => (p.1, if core p.1 then { p.2 with tlb := p.2.tlb.filter fun t => !hit t } else p.2)
    dies := s.dies.map fun p => (p.1, if die p.1 then { p.2 with tlb := p.2.tlb.filter fun t => !hit t } else p.2) }

/-- The current level of a tensor page's slot under the cap of R267. -/
def State.cappedLevel (s : State) (e level : Nat) : Nat :=
  if e / 2 ^ 10 % 2 = 1 then level
  else min level (if s.hub.dev.service = 2 ∧ s.hub.dev.agreed.getLsbD 1 = true then 4 else 3)

/-- The number that a finite value is. -/
def Val.rat : Val → Option ℚ
  | .fin n m e => some ((if n then -1 else 1) * m * (2 : ℚ) ^ e)
  | _ => none

/-- A precision slot's field by number, as GOVRD reads it (11 R279). -/
def PSlot.fieldValue (p : PSlot) (f : Nat) : Nat :=
  let bit (b : Bool) : Nat := if b then 1 else 0
  ([p.level.toNat, [1, 2, 2, 0, 0, 0, 0, 0][p.level.toNat]!, p.role.toNat, bit p.pin, bit p.tch, p.run.toNat, p.layer.toNat, p.loth.toNat,
    p.hith.toNat, p.hyst.toNat, p.nmb.toNat, p.ovlim.toNat, p.resc.toNat, toF32 p.qe, toF32 p.qs, toF32 p.gn, toF32 p.gns, p.ovc.toNat,
    p.ufc.toNat, p.amax.toNat, p.dscale.toNat, p.lcs.toNat, p.prvlvl.toNat, p.chgep.toNat, 0, 0, 0, 0] : List Nat)[f]!

/-- A code of a finite FP32 number that is not below zero; minus zero counts as zero (11 R288). -/
def nonNegF32 (x : Nat) : Prop := x < 2 ^ 32 ∧ ∃ q, (ofF32 x).rat = some q ∧ 0 ≤ q

/-- The values that GOVWR may write (11 R279, R288). -/
def govAllows (full : Bool) (f x : Nat) : Prop :=
  (f = 5 → x < 2 ^ 8) ∧ (f = 6 ∨ f = 10 → x < 2 ^ 16) ∧ (f = 7 ∨ f = 8 → nonNegF32 x) ∧ (f = 9 → 1 ≤ x ∧ x < 2 ^ 8)
  ∧ (f = 11 ∨ f = 21 ∨ f = 26 ∨ f = 27 → x < 2 ^ 32) ∧ (f = 12 → 1 ≤ x ∧ x < 16) ∧ (f = 20 → x < 255 ∧ full = true) ∧ (f = 24 → x < 8)
  ∧ (f = 25 → x < 2 ^ 32 ∧ (ofF32 x).rat.isSome = true)

/-- The effect of a GOVWR (11 R279, R280, R282). -/
def PSlot.govWrite (p : PSlot) (f x : Nat) : PSlot :=
  let plus (a : BitVec 32) : BitVec 32 := BitVec.ofNat 32 (min (2 ^ 32 - 1) (a.toNat + x))
  let code : BitVec 32 := if x = 2 ^ 31 then 0 else BitVec.ofNat 32 x
  let wide := decide (4 ≤ x ∧ x ≤ 6)
  let first : BitVec 3 := if wide then 5 else 3
  if f = 5 then { p with run := BitVec.ofNat 8 x } else if f = 6 then { p with layer := BitVec.ofNat 16 x }
  else if f = 7 then { p with loth := code } else if f = 8 then { p with hith := code }
  else if f = 9 then { p with hyst := BitVec.ofNat 8 x } else if f = 10 then { p with nmb := BitVec.ofNat 16 x }
  else if f = 11 then { p with ovlim := BitVec.ofNat 32 x } else if f = 12 then { p with resc := BitVec.ofNat 4 x }
  else if f = 20 then { p with dscale := BitVec.ofNat 8 x } else if f = 21 then { p with lcs := BitVec.ofNat 32 x }
  else if f = 25 then { p with amax := BitVec.ofNat 32 (max p.amax.toNat (x % 2 ^ 31)), tch := true }
  else if f = 26 then { p with ovc := plus p.ovc, tch := true } else if f = 27 then { p with ufc := plus p.ufc, tch := true }
  else { level := first, role := BitVec.ofNat 3 x, pin := wide, tch := false, run := 0, layer := p.layer, loth := 0x3D800000,
         hith := 0x3F800000, hyst := 4, nmb := 0, ovlim := 1024, resc := 2, qe := .zero, qs := .zero, gn := .zero, gns := .zero, ovc := 0,
         ufc := 0, amax := 0, dscale := 0x7F, lcs := 0, prvlvl := first, chgep := 0 }

/-- The precision slot lies in the context's range. -/
def State.holdsPslot (s : State) (n : Nat) : Prop :=
  let i := (s.ctx ((s.slot s.cur).act.inctag.toNat / 64)).image
  i.bfirst.toNat ≤ n ∧ n < i.bfirst.toNat + i.bcount.toNat

/-- The whole ladder is in use (11 R278). -/
def State.ladder (s : State) : Bool := s.hub.dev.service == 2 && s.hub.dev.agreed.getLsbD 1

/-- The event of a level change (11 R284, R285; 18 R415). -/
def State.levelEvent (s : State) (ctx n old new cause step : Nat) : Record :=
  { code := 0x84, who := .hub, tag := some (BitVec.ofNat 18 (64 * ctx + (s.ctx ctx).inc.toNat)), warn := false, pending := false,
    status := n + old * 2 ^ 12 + new * 2 ^ 16 + cause * 2 ^ 20 + step * 2 ^ 32, addr := 0, cursor := 0, stamp := s.now, mode := 0,
    widxS := 2 ^ 24 - 1, widxV := 2 ^ 24 - 1, widxM := 2 ^ 24 - 1, widxA := 2 ^ 24 - 1 }

/-- The ratio r of R284, where a noise is measured. -/
def PSlot.measured (p : PSlot) (r : ℚ) : Prop :=
  ∃ qe qs gn gns : ℚ, p.qe.rat = some qe ∧ p.qs.rat = some qs ∧ p.gn.rat = some gn ∧ p.gns.rat = some gns
    ∧ 0 < qs ∧ 2 ≤ p.nmb.toNat ∧ 0 < gn - gns / p.nmb.toNat
    ∧ r = qe / qs * (gn / p.nmb.toNat) * ((p.nmb.toNat : ℚ) - 1) / (gn - gns / p.nmb.toNat)

/-- A touched slot widens at GOVSTEP; it has a low step (11 R284). -/
def PSlot.widens (p : PSlot) : Prop := p.ovlim.toNat < p.ovc.toNat ∨ ∃ r hi, p.measured r ∧ (ofF32 p.hith.toNat).rat = some hi ∧ hi < r
def PSlot.low (p : PSlot) : Prop := ∃ r lo, p.measured r ∧ (ofF32 p.loth.toNat).rat = some lo ∧ r < lo

/-- up(L) and down(L) of R278; a level that has none stays. -/
def upLevel (full : Bool) (l : Nat) : Nat := if full then min 5 (l + 1) else if l = 3 then 5 else l
def hasDown (full : Bool) (l : Nat) : Bool := if full then decide (1 ≤ l) else l == 5
def downLevel (full : Bool) (l : Nat) : Nat := if full then l - 1 else 3

/-- The rung that a slot leaves a GOVSTEP with, and its RUN (11 R284). -/
def PSlot.steps (p : PSlot) (full : Bool) (level run : Nat) : Prop :=
  let l := p.level.toNat
  let r := min 255 (p.run.toNat + 1)
  (p.pin = true → level = l ∧ run = 0)
  ∧ (p.pin = false → p.widens → level = upLevel full l ∧ run = 0)
  ∧ (p.pin = false → ¬ p.widens → p.low → p.hyst.toNat ≤ r → hasDown full l = true → level = downLevel full l ∧ run = 0)
  ∧ (p.pin = false → ¬ p.widens → p.low → (r < p.hyst.toNat ∨ hasDown full l = false) → level = l ∧ run = r)
  ∧ (p.pin = false → ¬ p.widens → ¬ p.low → level = l ∧ run = 0)

/-- The delayed scale after a GOVSTEP (11 R278, R284). -/
def PSlot.scaled (p : PSlot) (level dscale : Nat) : Prop :=
  (3 ≤ level → dscale = 0x7F) ∧ (level ≤ 2 → p.amax = 0 → dscale = p.dscale.toNat)
  ∧ (level ≤ 2 → ∀ q, 0 < q → (ofF32 p.amax.toNat).rat = some q →
      (dscale : ℤ) = max (-127) (min 127 (Int.log 2 q - [2, 4, 8][level]!)) + 127)

/-! ### The matrix engine -/

/-- A timed word of the matrix engine: its shape register, its swap, its stamp offset and its operation (07 R189). -/
def matrixRule : Instr → Option (BitVec 2 × BitVec 1 × BitVec 12 × MOp)
  | .mldb p w c t => some (p, w, t, .mldb (c == 1))
  | .mma a p w t => some (p, w, t, .mma a.toNat)
  | .mmaT a p w t => some (p, w, t, .mmaT a.toNat)
  | .mzero a p w t => some (p, w, t, .mzero a.toNat)
  | .minit a p w b t => some (p, w, t, .minit a.toNat (b == 1))
  | .mdrain a p w l r t x m => some (p, w, t, .mdrain a.toNat (r == 1) (l == 1) (x == 1) m.toNat)
  | .mdrainv a p w v t u => some (p, w, t, .mdrainv a.toNat (v.toNat * 8 + u.toNat))
  | .mzp a p w t => some (p, w, t, .mzp a.toNat)
  | _ => none

/-- A word of the matrix engine that uses no shape register (07 R197, R198). -/
def matrixPlain : Instr → Option MOp
  | .mpri p => some (.mpri p.toNat)
  | .kwaitM k n j => some (.kwait (8 * j.toNat + k.toNat) n.toNat)
  | .ksigM k n j => some (.ksig (8 * j.toNat + k.toNat) n.toNat)
  | _ => none

/-- A matrix shape register as a word uses it: the live fields, or the shadow ones where the word swaps (03 R66, R68, R71). -/
def Slot.matrixShape (sl : Slot) (reg swap : Nat) : MShape :=
  let f (n : Nat) : Nat := (Tab.get 0 sl.regs.shapes (256 + 128 * swap + 32 * reg + n)).toNat
  ⟨f 0, f 1, f 2, f 3, f 4, f 5, f 6, f 7, f 8, f 9⟩

/-- The formats of R179 but for F16, the block size of an operand, and the bytes of a row (07 R178-R180). -/
def mixes (c : Nat) : Prop := c = 2 ∨ (3 ≤ c ∧ c ≤ 7) ∨ (0x10 ≤ c ∧ c ≤ 0x12) ∨ c = 0x19 ∨ c = 0x1A
def MShape.blockOf (h : MShape) (c : Nat) : Nat := if h.blk ≠ 0 ∧ ((3 ≤ c ∧ c ≤ 7) ∨ (0x10 ≤ c ∧ c ≤ 0x12)) then 8 * 2 ^ h.blk else 0
def bytesFor (c n : Nat) : Nat := (n * widthOf c + 7) / 8

/-- A vector of a length divides into the blocks of an operand of a format (07 R180). -/
def MShape.blocksFit (h : MShape) (c len : Nat) : Prop := h.blockOf c = 0 ∨ h.blockOf c ∣ len

/-- The end of a slice vector of a length, with its scales (07 R177). -/
def MShape.vectorEnd (h : MShape) (len : Nat) : Nat :=
  h.baddr + 8 * ((len * widthOf h.bfmt + 63) / 64) + (if h.blockOf h.bfmt = 0 then 0 else len / h.blockOf h.bfmt)

/-- Checks 1 and 3 of R182. -/
def MShape.legal (h : MShape) : MOp → Prop
  | .mldb _ => (mixes h.bfmt ∨ h.bfmt = 1) ∧ h.blocksFit h.bfmt h.k ∧ h.vectorEnd h.k ≤ 32768
  | .mma _ => (mixes h.afmt ∧ mixes h.bfmt ∨ h.afmt = 1 ∧ h.bfmt = 1) ∧ h.blocksFit h.afmt h.k ∧ h.blocksFit h.bfmt h.k ∧ h.vectorEnd h.k ≤ 32768
  | .mmaT _ => (mixes h.afmt ∧ mixes h.bfmt ∨ h.afmt = 1 ∧ h.bfmt = 1) ∧ h.blocksFit h.afmt h.k ∧ h.blocksFit h.bfmt h.n
      ∧ h.vectorEnd h.n ≤ 32768 ∧ h.k ≤ 128
  | .minit _ _ => h.afmt ≤ 2
  | .mdrain _ _ _ _ _ => h.afmt ≤ 4 ∧ h.blk = 0
  | .mdrainv _ v => h.m = 0 ∨ h.n = 0 ∨ v + 4 * ((h.m - 1) / 32) + (h.n - 1) / 32 ≤ 63
  | _ => True

/-- The word uses an extent that is zero: it touches nothing (07 R199). -/
def MShape.empties (h : MShape) : MOp → Bool
  | .mldb _ => h.n == 0 || h.k == 0
  | .mma _ | .mmaT _ | .mzp _ => h.m == 0 || h.n == 0 || h.k == 0
  | _ => h.m == 0 || h.n == 0

/-- The first bytes and the lengths of what a word reads and what it writes in the scratchpad (07 R185). -/
def MShape.touchedBy (h : MShape) (op : MOp) : List (Nat × Nat) :=
  let rows (n len : Nat) : List (Nat × Nat) := (List.range n).map fun i => (h.aaddr + i * h.astr, len)
  let scales (c n : Nat) : List (Nat × Nat) := if h.blockOf c = 0 then [] else [(h.scaddr, n / h.blockOf c)]
  if h.empties op then []
  else
    match op with
    | .mldb col => (if col then rows h.n (bytesFor h.bfmt h.k) else rows h.k (bytesFor h.bfmt h.n)) ++ scales h.bfmt (h.n * h.k)
    | .mma _ | .mmaT _ => rows h.m (bytesFor h.afmt h.k) ++ scales h.afmt (h.m * h.k)
    | .minit _ bc => rows (if bc then 1 else h.m) (bytesFor h.afmt h.n)
    | .mzp _ => [(h.aaddr, 8 * h.m), (h.scaddr, 8 * h.n)]
    | .mdrain _ tr _ _ _ => if tr then rows h.n (bytesFor h.afmt h.m) else rows h.m (bytesFor h.afmt h.n)
    | _ => []

/-- The addresses of a word that R177, R178 and R194 align. -/
def MShape.aligned (h : MShape) : MOp → Prop
  | .mldb _ | .mma _ | .mmaT _ => h.aaddr % 4 = 0 ∧ h.astr % 4 = 0 ∧ h.baddr % 8 = 0
  | .minit _ _ | .mdrain _ _ _ _ _ => h.aaddr % 4 = 0 ∧ h.astr % 4 = 0
  | .mzp _ => h.aaddr % 4 = 0 ∧ h.scaddr % 4 = 0
  | _ => True

/-- An entry of the elastic buffer holds a word as it issued (07 R182, R187). -/
def MEntry.holdsWord (x : MEntry) (sl : Slot) (i : Instr) (op : MOp) (h : MShape) (stoff : Nat) : Prop :=
  x.op = op ∧ x.shape = h ∧ x.word = sl.mat.pc.word ∧ x.pos = sl.mat.pc.pos ∧ some x.raw = encode i
  ∧ x.timed = sl.mat.region.map (fun r => (r.1 + 8 * stoff, r.2.1, r.2.2)) ∧ x.rrb = sl.mat.pc.view.rrb.toNat
  ∧ x.rotcfg = sl.mat.pc.view.rotcfg.toNat ∧ x.mode = sl.mat.pc.view.tracemode.toNat

/-- The code of `w` bits at element `e` of a dense vector that begins at a byte (02 R26). -/
def codeAt (byte : Nat → Byte) (base e w : Nat) : Nat :=
  ((List.range w).map fun b => if (byte (base + (w * e + b) / 8)).getLsbD ((w * e + b) % 8) then 2 ^ b else 0).sum

/-- The physical column of a logical column of a slot (07 R174), and where its slice vector begins. -/
def columnOf (slot j : Nat) : Nat := 16 * (if slot % 2 = 0 then j / 16 else 7 - j / 16) + j % 16
def MShape.slice (h : MShape) (slot j : Nat) : Nat := 32768 * columnOf slot j + h.baddr

/-- Element (i, k) of operand A, and element `e` of the slice vector of column `j`, of length `len` (07 R177, R178, R180). -/
def MShape.elementA (h : MShape) (c : CoreState) (i k : Nat) : Val :=
  let b := h.blockOf h.afmt
  blockDecode (fmtAt h.afmt) (codeAt c.scratch.read (h.aaddr + i * h.astr) k (widthOf h.afmt))
    (if b = 0 then 0x7F else (c.scratch.read (h.scaddr + i * (h.k / b) + k / b)).toNat)
def MShape.elementB (h : MShape) (c : CoreState) (slot len j e : Nat) : Val :=
  let b := h.blockOf h.bfmt
  blockDecode (fmtAt h.bfmt) (codeAt c.bstore.read (h.slice slot j) e (widthOf h.bfmt))
    (if b = 0 then 0x7F else (c.bstore.read (h.slice slot j + 8 * ((len * widthOf h.bfmt + 63) / 64) + e / b)).toNat)

/-- Products of a cell and a cycle (07 R179). -/
def MShape.products (h : MShape) : Nat := max 1 (16 / (gangSide (fmtAt h.afmt) * gangSide (fmtAt h.bfmt)))

/-- An accumulator element after the multiply of R191, from the products p(k): cell sums of groups, added in order (07 R181). -/
def MShape.accumulated (h : MShape) (p : Nat → Val) (old : Nat) : Nat :=
  (List.range ((h.k + h.products - 1) / h.products)).foldl (fun a q =>
    accAdd a (cellSum ((rangeFrom (h.products * q) (min h.products (h.k - h.products * q))).map p))) old

/-- The zero-point term of R194. -/
def MShape.correction (h : MShape) (c : CoreState) (i j : Nat) : Val :=
  let f (a n : Nat) : Val := ofF32 (numberAt (fun b => c.scratch.read (a + 4 * n + b)) 4)
  let t := (((f h.scaddr (h.n + j)).mul (f h.aaddr i)).negate.add ((f h.aaddr (h.m + i)).mul (f h.scaddr j)).negate).add
    ((Val.ofInt h.k).mul ((f h.aaddr (h.m + i)).mul (f h.scaddr (h.n + j))))
  if t.isZero then .zero else t

/-- The value that an accumulator element takes when its word completes, where the word writes it (07 R191-R195). -/
def MShape.accValue (h : MShape) (c : CoreState) (slot : Nat) (op : MOp) (i j old : Nat) : Option Nat :=
  match op with
  | .mma _ => some (h.accumulated (fun k => (h.elementA c i k).mul (h.elementB c slot h.k j k)) old)
  | .mmaT _ => some (h.accumulated (fun k => (h.elementA c i k).mul (h.elementB c slot h.n k j)) old)
  | .mzero _ => some 0
  | .minit _ bc => some (exactCode fF32 (decodeCode (fmtAt h.afmt)
      (codeAt c.scratch.read (h.aaddr + (if bc then 0 else i) * h.astr) j (widthOf h.afmt))))
  | .mzp _ => some (accAdd old (h.correction c i j))
  | .mdrain _ _ clr _ _ => if clr then some 0 else none
  | _ => none

/-- The accumulator that an operation names. -/
def MOp.accumulator : MOp → Option Nat
  | .mma a | .mmaT a | .mzero a | .minit a _ | .mdrain a _ _ _ _ | .mdrainv a _ | .mzp a => some a
  | _ => none

/-- The byte of an MDRAIN's row in the scratchpad: row, position in it, byte of the code (07 R195). -/
def MShape.drainCode (h : MShape) (r : Regs) (acc : Nat) (tr sat : Bool) (mode row pos : Nat) : Nat :=
  let x := if tr then r.getAcc acc pos row else r.getAcc acc row pos
  (roundTo (fmtAt h.afmt) ((rmodeOf mode).getD .rne) 0 sat (ofF32 x.toNat)).code

/-- The physical bands that a word touches (07 R174, R175). -/
def MEntry.touches (x : MEntry) (slot p : Nat) : Prop :=
  let cols := match x.op with | .mmaT _ => x.shape.k | _ => x.shape.n
  ∃ l, l < (cols + 15) / 16 ∧ p = if slot % 2 = 0 then l else 7 - l

/-- The operation is a timed word, with k-steps. -/
def MOp.steps : MOp → Bool
  | .mpri _ | .kwait _ _ | .ksig _ _ => false
  | _ => true

/-- The k-step cycles of R183. -/
def MEntry.kSteps (x : MEntry) : Nat :=
  let h := x.shape
  let f16 := gangSide (fmtAt h.afmt) * gangSide (fmtAt h.bfmt) == 64
  if h.empties x.op then 1
  else
    match x.op with
    | .mma _ | .mmaT _ => (h.k + h.products - 1) / h.products * if f16 then 4 else 1
    | .mldb _ => max 1 ((h.k * h.n * widthOf h.bfmt + 2047) / 2048)
    | _ => max 1 ((h.m + 7) / 8)

/-- Every condition of R183 but for the time (07 R175, R183, R186; 08 R208; 09 R256; 19 R434): the slot's running words have made their
last k-step and write nothing that the word uses, its bands are granted, zeroed and not held by the other slot, and the range checker and
the channels let it read. -/
def State.startReady (s : State) (x : MEntry) : Prop :=
  let sl := s.slot s.cur
  let c := s.core (s.cur / 2)
  (∀ r ∈ sl.mat.run, r.done = r.steps ∧ r.last < s.now ∧ r.entry.feeds x = false
    ∧ ((∃ a, x.op.drains = some a) → x.op.drains ≠ r.entry.op.writesAcc ∨ r.entry.shape.empties r.entry.op = true))
  ∧ (∀ p, x.touches s.cur p → sl.act.bands.getLsbD p = true ∧ (∀ z ∈ c.bandZeroing, z.part ≠ p)
    ∧ ((s.slot (if s.cur % 2 = 0 then s.cur + 1 else s.cur - 1)).act.bands.getLsbD p = true →
        Tab.find c.bandHolder p = none ∨ Tab.find c.bandHolder p = some (s.cur % 2)))
  ∧ sl.mayStart .M ⟨x.pos, x.reads, x.writes, false⟩ = true ∧ sl.channelsReady x.pos (x.stepReads 0) = true
  ∧ (∀ r ∈ x.reads ++ x.writes, s.zeroingAt s.cur r.1 r.2 = false) ∧ s.hub.dev.withhold = false

/-- The slack of a word of a region, strict or not, has run out (07 R188). -/
def MEntry.overdue (x : MEntry) (now : Nat) (strict : Bool) : Bool := x.timed.any fun r => r.2.2 == strict && decide (r.1 + r.2.1 < now)

/-- The slip event of a matrix word that starts late (07 R188; 18 R415). -/
def State.slipRecord (s : State) (x : MEntry) (late : Nat) : Record :=
  { s.fatalRecord s.cur .M 0x80 0 0 with pending := false, cursor := late, widxM := x.word }

/-! ### Stream commands -/

/-- A stream command word: kind, number of its word, g operands, shape register, swap, channel, flag, token and steps of a window (08
R210). -/
structure StreamWord where
  kind : StreamKind
  major : Nat
  ga : BitVec 6
  gb : BitVec 6
  shape : BitVec 2
  swap : BitVec 1
  chan : Nat := 0
  flag : Bool := false
  tok : Nat := 0
  dx : Nat := 0
  dy : Nat := 0

def streamRule : Instr → Option StreamWord
  | .sload g r w c => some { kind := .sload, major := 0, ga := g, gb := 0, shape := r, swap := w, chan := c.toNat }
  | .sstore g r w => some { kind := .sstore, major := 1, ga := g, gb := 0, shape := r, swap := w }
  | .spair g h r w => some { kind := .spair, major := 2, ga := g, gb := h, shape := r, swap := w }
  | .sgath g h r w c k => some { kind := .sgath, major := 3, ga := g, gb := h, shape := r, swap := w, chan := c.toNat, flag := k == 1 }
  | .sscat g h r w k => some { kind := .sscat, major := 4, ga := g, gb := h, shape := r, swap := w, flag := k == 1 }
  | .swin g h r w c y x => some { kind := .swin, major := 5, ga := g, gb := h, shape := r, swap := w, chan := c.toNat, dx := x.toNat + 1,
                                  dy := y.toNat + 1 }
  | .smcast g h r w b k => some { kind := .smcast, major := 6, ga := g, gb := h, shape := r, swap := w, flag := b == 1, tok := k.toNat }
  | .sput g h r w k => some { kind := .sput, major := 7, ga := g, gb := h, shape := r, swap := w, tok := k.toNat }
  | _ => none

/-- A two's-complement number of `w` bits. -/
def signedOf (w x : Nat) : Int := if x / 2 ^ (w - 1) % 2 = 1 then x - 2 ^ w else x

/-- A stream shape register as a word uses it (03 R69, R71). -/
def Slot.streamShape (sl : Slot) (reg swap : Nat) : SShape :=
  let f (n : Nat) : Nat := (Tab.get 0 sl.regs.shapes (512 + 128 * swap + 32 * reg + n)).toNat
  { gaddr := f 0, saddr := f 1, run := f 2, ext := [f 3, f 4, f 5, f 6, f 7, f 8],
    gstr := [signedOf 48 (f 9), signedOf 48 (f 10), signedOf 48 (f 11), signedOf 48 (f 12), signedOf 48 (f 13), signedOf 48 (f 14)],
    sstr := [signedOf 24 (f 15), signedOf 24 (f 16), signedOf 24 (f 17), signedOf 24 (f 18), signedOf 24 (f 19), signedOf 24 (f 20)],
    pad := f 21, fmt := f 22 }

/-- The copies of a nest, level 0 fastest, and the offset that strides give a copy (08 R203). -/
def SShape.count (h : SShape) : Nat := h.ext.prod
def SShape.level (h : SShape) (n l : Nat) : Nat := n / (h.ext.take l).prod % h.ext.getD l 1
def SShape.offset (h : SShape) (str : List Int) (n : Nat) : Int := ((List.range 6).map fun l => (h.level n l : Int) * str.getD l 0).sum

/-- The scratchpad address of a copy, and its global address where the nest alone gives it (08 R203). -/
def SShape.saOf (h : SShape) (n : Nat) : Int := h.saddr + h.offset h.sstr n
def SShape.gaOf (h : SShape) (n : Nat) : Int := h.gaddr + h.offset h.gstr n

/-- A pad pattern can fill the copies (08 R213). -/
def SShape.padFits (h : SShape) : Prop := ∃ f, fmtOf h.fmt = some f ∧ f.width ∈ [4, 8, 16, 32] ∧ f.width ∣ h.run * 8

/-- Checks 1 and 2 of a stream command on its parameter word `p`, its operand `b` and its shape (08 R201, R202, R212-R216). -/
def StreamWord.allowed (w : StreamWord) (s : State) (h : SShape) (p b : Nat) : Prop :=
  match w.kind with
  | .sload | .sstore | .sscat => p / 2 ^ 8 = 0
  | .sgath => p / 2 ^ 8 = 0 ∧ (w.flag = true → h.padFits)
  | .spair => p / 2 ^ 48 = 0 ∧ h.ext[0]! = 1 ∧ h.ext[2]! ≤ 1 ∧ h.ext[3]! ≤ 1 ∧ h.ext[4]! ≤ 1 ∧ h.ext[5]! ≤ 1
      ∧ ∃ f, fmtOf h.fmt = some f ∧ f.width ∈ [8, 16, 32] ∧ f.width / 8 ∣ h.run
  | .swin => p / 2 ^ 56 = 0 ∧ b / 2 ^ 48 = 0 ∧ h.ext[4]! ≤ 1 ∧ h.ext[5]! ≤ 1 ∧ h.padFits
  | .smcast => p / 2 ^ 8 = 0 ∧ b < 2 ^ 40
  | .sput => p / 2 ^ 8 = 0 ∧ p % 16 = 0 ∧ b < 320 ∧ s.diePresent (b / 80) = true ∧ h.gaddr < 0x600000

/-- Every scratchpad byte that the command touches on its own slot lies in a range (08 R201 check 3, R212, R219). -/
def StreamWord.within (w : StreamWord) (h : SShape) (b lo hi : Nat) : Prop :=
  (w.kind ≠ .smcast → ∀ n, n < h.count → lo ≤ h.saOf n ∧ h.saOf n + h.run ≤ hi)
  ∧ (w.kind = .sgath ∨ w.kind = .sscat → lo ≤ b ∧ b + 4 * h.ext[1]! ≤ hi)

/-- The alignments that R212 and R214 state. -/
def StreamWord.alignedFor (w : StreamWord) (h : SShape) (p b : Nat) : Prop :=
  (w.kind = .sgath ∨ w.kind = .sscat → b % 4 = 0)
  ∧ (w.kind = .spair → ∀ f, fmtOf h.fmt = some f →
      h.saddr % (f.width / 8) = 0 ∧ h.sstr[1]! % ((f.width / 8 : Nat) : Int) = 0 ∧ b % (f.width / 8) = 0 ∧ p / 2 ^ 8 % 2 ^ 40 % (f.width / 8) = 0)

/-- The kind is one of the load engine's (08 R210). -/
def StreamWord.loads (w : StreamWord) : Bool := w.kind == .sload || w.kind == .sgath || w.kind == .swin || w.kind == .smcast

/-- A command as it was pushed. -/
def StreamCmd.pushedBy (c : StreamCmd) (w : StreamWord) (sl : Slot) (h : SShape) (p b : Reg) : Prop :=
  c.kind = w.kind ∧ c.major = w.major ∧ c.num = sl.asy.cmdNum ∧ c.pos = sl.asy.pc.pos ∧ c.word = sl.asy.pc.word ∧ c.cls = p.toNat % 16
  ∧ c.slack = p.toNat / 16 % 16 ∧ c.arg = p.toNat / 256 ∧ c.shape = h ∧ c.gb = b ∧ c.flag = w.flag ∧ c.tok = w.tok ∧ c.dx = w.dx ∧ c.dy = w.dy
  ∧ c.next = 0 ∧ c.flying = [] ∧ c.stopped = none ∧ c.failed = 0 ∧ c.signalled = 0
  ∧ c.chan = if (w.kind = .sload ∨ w.kind = .sgath ∨ w.kind = .swin) ∧ (Tab.find sl.asy.chans w.chan).isSome then some w.chan else none

/-- The commands of an engine of a slot. -/
def Slot.commands (sl : Slot) (store : Bool) : List StreamCmd := if store then sl.asy.stores else sl.asy.loads

/-- A state whose slot differs in the commands of one engine. -/
def State.withCommands (s : State) (slot : Nat) (store : Bool) (cs : List StreamCmd) : State :=
  s.modAsy slot fun a => if store then { a with stores := cs } else { a with loads := cs }

/-- The commands of an engine once a burst at an offset of one has landed: the burst is no longer in flight. -/
def landed (cs : List StreamCmd) (num off : Nat) : List StreamCmd :=
  cs.map fun c => if c.num = num then { c with flying := c.flying.filter fun b => b.off != off } else c

/-- The scratchpad address of the byte at an offset of a command's copies. -/
def StreamCmd.placeOf (c : StreamCmd) (off : Nat) : Nat := (c.shape.saOf (off / c.shape.run) + (off % c.shape.run : Nat)).toNat

/-- The global address of a copy (08 R203, R212, R213); none where the copy is skipped or padded, or goes to a slot. -/
def State.globalOf (s : State) (slot : Nat) (c : StreamCmd) (n : Nat) : Option Int :=
  let h := c.shape
  let i (l : Nat) : Int := h.level n l
  let str (l : Nat) : Int := h.gstr.getD l 0
  match c.kind with
  | .sput => none
  | .sgath | .sscat =>
    let x := numberAt (fun b => (s.core (slot / 2)).scratch.read (c.gb.toNat + 4 * h.level n 1 + b)) 4
    if c.flag = true ∧ x = 2 ^ 32 - 1 then none else some (h.gaOf n + ((x : Int) - i 1) * str 1)
  | .swin =>
    let x := signedOf 16 (c.gb.toNat % 2 ^ 16) + i 1 * c.dx
    let y := signedOf 16 (c.gb.toNat / 2 ^ 16 % 2 ^ 16) + i 2 * c.dy
    let z : Int := (c.gb.toNat / 2 ^ 32 % 2 ^ 16 : Nat) + i 3
    if 0 ≤ x ∧ x < (c.arg % 2 ^ 16 : Nat) ∧ 0 ≤ y ∧ y < (c.arg / 2 ^ 16 % 2 ^ 16 : Nat) ∧ z < (c.arg / 2 ^ 32 % 2 ^ 16 : Nat) then
      some (h.gaddr + i 0 * str 0 + x * str 1 + y * str 2 + z * str 3)
    else none
  | _ => some (h.gaOf n)

/-- The burst at an offset of a command that stands within its copies (08 R204, R213, R216): to the end of the copy or of the 256-byte
block of its global address; a copy that has none is bounded by the blocks of the scratchpad, and waits for no walk. -/
def State.burstOf (s : State) (slot : Nat) (c : StreamCmd) (off : Nat) (b : Burst) : Prop :=
  let o := off % c.shape.run
  let size (at_ : Int) : Int := min ((c.shape.run - o : Nat) : Int) (256 - at_ % 256)
  b.off = off
  ∧ (∀ ga, s.globalOf slot c (off / c.shape.run) = some ga → b.va = ga + o ∧ (b.len : Int) = size (ga + o) ∧ b.local_ = false
      ∧ b.stage = if 0 ≤ b.va ∧ b.va < 2 ^ 56 then .walk else .faulted)
  ∧ (s.globalOf slot c (off / c.shape.run) = none → (b.len : Int) = size (c.shape.saOf (off / c.shape.run) + o) ∧ b.local_ = true ∧ b.stage = .served
      ∧ (c.kind = .sput → b.va = c.shape.gaOf (off / c.shape.run) + o))

/-- Byte `j` of a pad pattern (08 R213). -/
def SShape.patternByte (h : SShape) (j : Nat) : Byte :=
  let w := widthOf h.fmt
  BitVec.ofNat 8 (if w = 4 then h.pad % 16 * 17 else h.pad / 256 ^ (j % (w / 8)))

/-- The bytes of a memory with some bytes over it. -/
def overlaid (old : Nat → Byte) (at_ : Nat) (bs : List Byte) (x : Nat) : Byte :=
  if at_ ≤ x ∧ x < at_ + bs.length then (bs[x - at_]?).getD 0 else old x
/-- Another slot, or this one, runs an activation of the command's tag whose range holds the bytes of a burst at an offset from its base. -/
def State.runsTag (s : State) (t : Nat) (tag : BitVec 18) : Prop := (s.slot t).busy = true ∧ (s.slot t).act.inctag = tag
def State.placeIn (s : State) (t : Nat) (rel : Int) : Int := (s.slot t).act.spbase.toNat + rel
def State.takesIn (s : State) (t : Nat) (tag : BitVec 18) (rel : Int) (len : Nat) : Prop :=
  s.runsTag t tag ∧ (s.slot t).act.spbase.toNat ≤ s.placeIn t rel ∧ s.placeIn t rel + len ≤ (s.slot t).act.splimit.toNat

/-- What a burst that has faulted meets (08 R205, R216; 10 R264, R274): its code, status and address, and the key of its walk. -/
def State.burstMeets (s : State) (slot : Nat) (c : StreamCmd) (b : Burst) (code status addr : Nat) (key : Option WalkKey) : Prop :=
  let tag := (s.slot slot).act.inctag
  let t := c.gb.toNat
  let access : AKind := if c.kind.isLoad then .read else .write
  (c.kind ≠ .sput ∧ (b.va < 0 ∨ 2 ^ 56 ≤ b.va ∧ s.walksAfresh (slot / 2) tag b.va.toNat) ∧ code = 0x08 ∧ status = 0 ∧ (addr : Int) = b.va % 2 ^ 64
    ∧ key = none)
  ∨ (c.kind ≠ .sput ∧ ∃ va level, b.va = (va : Nat) ∧ va < 2 ^ 56 ∧ s.walksAfresh (slot / 2) tag va
      ∧ s.walk (tag.toNat / 64) (some access) va = .fault code level ∧ status = level + access.code * 256 ∧ addr = va
      ∧ key = some ⟨tag, va / 65536⟩)
  ∨ (c.kind = .sput ∧ status = 0 ∧ key = none ∧
      ((¬ s.runsTag t tag ∧ code = 0x09 ∧ (addr : Int) = s.placeIn t b.va % 2 ^ 64)
        ∨ (s.runsTag t tag ∧ code = 0x03 ∧ (s.placeIn t b.va < (s.slot t).act.spbase.toNat ∧ (addr : Int) = s.placeIn t b.va % 2 ^ 64
          ∨ (s.slot t).act.spbase.toNat ≤ s.placeIn t b.va ∧ ((s.slot t).act.splimit.toNat : Int) < s.placeIn t b.va + b.len
              ∧ (addr : Int) = (max (s.placeIn t b.va) (s.slot t).act.splimit.toNat) % 2 ^ 64))))

/-! ### Communication queues and Tether -/

/-- The page tables of a tag's context lead a range of virtual addresses, in one page, to HBM through a plain leaf that permits the access
and is marked accessed and dirty; no fault of the page is open, and the links that carry traffic join a part of the package, a
die or the hub (4), to its home (10 R261-R265, R274; 16 R365). -/
def State.pageFrom (s : State) (part : Nat) (tag : BitVec 18) (kind : AKind) (va len pa : Nat) : Prop :=
  va < 2 ^ 56 ∧ 0 < len ∧ va % 65536 + len ≤ 65536 ∧ (⟨tag, va / 65536⟩ : WalkKey) ∉ s.hub.traps.walks
  ∧ s.reaches part pa = true
  ∧ ∃ e at_, s.walk (tag.toNat / 64) (some kind) va = .leaf e at_ ∧ plainPage e ∧ e / 2 ^ 11 % 4 = 3
      ∧ pa = e / 2 ^ 24 % 2 ^ 24 * 65536 + va % 65536

/-- The same for the hub. -/
abbrev State.hubPage (s : State) (tag : BitVec 18) (kind : AKind) (va len pa : Nat) : Prop := s.pageFrom 4 tag kind va len pa

/-- The arrival of a packet with a check (17 R389). -/
def checkEvent (p : Arrival) : Instr := .peerCheckArrival p.port (p.encrypted, p.authentic) (p.header, p.payload)

/-- The little-endian bytes of a number. -/
def bytesOf (n v : Nat) : List Byte := (List.range n).map fun j => BitVec.ofNat 8 (v / 2 ^ (8 * j))

/-- The packet's header field (16 R373). -/
def partOf (p : Arrival) (lo n : Nat) : Nat := p.header.toNat / 2 ^ lo % 2 ^ n

/-- A packet of a kind arrives on a link that carries traffic, and is for context `c`: its job names the context, its incarnation is the
context's, its peer is one of the context's, under that peer's encryption, and a Held context takes those of fences (15 R355; 16 R373, R374,
R378). -/
def State.arrives (s : State) (p : Arrival) (kind c : Nat) : Prop :=
  let names (x : Ctx) : Prop := x.phase ≠ .free ∧ x.image.npeer ≠ 0 ∧ x.image.job.toNat = partOf p 96 32
  p.port < 8 ∧ ((s.link (9 + p.port)).phase = .up ∨ (s.link (9 + p.port)).phase = .degraded) ∧ (p.encrypted = true → p.authentic = true)
  ∧ partOf p 84 6 = 0 ∧ partOf p 72 4 = kind ∧ partOf p 90 6 = (s.ctx c).inc.toNat ∧ ((s.ctx c).phase = .held → kind = 2 ∨ kind = 3)
  ∧ (∃ before after x, s.hub.ctx.regs = before ++ (c, x) :: after ∧ names x ∧ ∀ y ∈ before, ¬ names y.2)
  ∧ ∃ e, (Tab.get [] s.hub.ctx.peers c)[partOf p 64 8]? = some e ∧ (e.enc = true → p.encrypted = true)

/-- A number in the payload of a packet, and what follows its first 8 bytes (log 9). -/
def numberIn (p : Arrival) (at_ n : Nat) : Nat := numberAt (fun j => p.payload.getD (at_ + j) 0) n
def bodyOf (p : Arrival) : List Byte := p.payload.drop 8

/-- The bytes that stand before the check or the codes of a command (log 9): its tag, its number among those of its tag, and whether it is a
SEND and whether a check follows. -/
def TCmd.frontOf (d : TCmd) (nth : Nat) (check : Bool) : List Byte :=
  bytesOf 2 (d.bytes.toNat / 2 ^ 16 % 2 ^ 16) ++ bytesOf 4 nth ++ bytesOf 2 ((if d.kind = 5 then 1 else 0) + if check then 2 else 0)

/-- The fields of a check fit their bytes, and those bytes (17 R389, R401; log 9). -/
def checkFits (c : PeerCheck) : Prop :=
  c.kind < 256 ∧ c.op < 256 ∧ c.fmt < 256 ∧ c.ext.length = 4 ∧ (∀ x ∈ c.ext, x < 65536) ∧ c.n < 256 ∧ ∀ x ∈ c.ranks, x < 2 ^ 32
def checkBytesOf (c : PeerCheck) : List Byte :=
  bytesOf 1 c.kind ++ bytesOf 1 c.op ++ bytesOf 1 c.fmt ++ c.ext.flatMap (bytesOf 2) ++ bytesOf 1 c.n ++ c.ranks.flatMap (bytesOf 4)

/-- The command of a lane of stream `n`. -/
def State.laneRun (s : State) (n : Nat) (lane : Bool) : Option TRun := if lane then (s.stream n).lane else (s.stream n).run

/-- The command of context `c` that a data packet is for, given the kind of its sender's command: of the packet's tag and number; a RECV for a
SEND and a SEND for a RECV, on any stream, or a collective command of the packet's stream (16 R374; 17 R389, R401). -/
def State.awaitsFrom (s : State) (p : Arrival) (kind c n : Nat) (lane : Bool) (r : TRun) : Prop :=
  s.laneRun n lane = some r ∧ r.cmd.ctx = c ∧ r.cmd.tagId = numberIn p 0 2 ∧ r.nth % 2 ^ 32 = numberIn p 2 4
  ∧ if kind = 5 then n < 16 ∧ r.cmd.kind = 6 ∧ r.cmd.peerIdx = partOf p 64 8
    else if kind = 6 then n < 16 ∧ r.cmd.kind = 5 ∧ r.cmd.peerIdx = partOf p 64 8
    else n = partOf p 76 4 ∧ r.cmd.collective = true ∧ r.cmd.mask.getLsbD (partOf p 64 8) = true

/-- The state with another command on a lane of a stream. -/
def State.onLane (s : State) (n : Nat) (lane : Bool) (r : TRun) : State :=
  s.modStream n fun x => if lane then { x with lane := some r } else { x with run := some r }

/-- A command's checks have been sent, one to each peer that awaits it (16 R373; 17 R389). -/
def State.Announced (s w : State) (n : Nat) (d : TCmd) (nth : Nat) : Prop :=
  w = { s with free := w.free, hub := { s.hub with sent := w.hub.sent } }
  ∧ ∃ ps, w.hub.sent = s.hub.sent ++ ps ∧ ps.map (·.peer) = d.awaits.filter (· ≠ 255)
      ∧ ∀ p ∈ ps, p.kind = .data ∧ p.ctx = d.ctx ∧ p.job = (s.ctx d.ctx).image.job ∧ p.inc = (s.ctx d.ctx).inc ∧ p.cls = d.cls ∧ p.stream = n
          ∧ p.cmd = d.num ∧ p.payload = d.frontOf nth true ++ checkBytesOf (s.ownCheck d)

/-- The completion element of a command (12 R306): tag, kind, status and stream in word 0. -/
def TCmd.elementOf (d : TCmd) (stream status word1 : Nat) : BitVec 128 :=
  BitVec.ofNat 64 word1 ++ (BitVec.ofNat 28 0 ++ BitVec.ofNat 4 stream ++ BitVec.ofNat 8 status ++ BitVec.ofNat 8 (d.bytes.toNat % 256)
    ++ BitVec.ofNat 16 (d.bytes.toNat / 2 ^ 16))

/-- `u` is `s` after the command of a lane of stream `n` (below 16) has left: DONE has counted, and the activation that pushed the command, if it
still runs, has its element (12 R306; 17 R391, R404). -/
def State.CommandLeft (s u : State) (n : Nat) (lane : Bool) (d : TCmd) (status word1 : Nat) : Prop :=
  let x := s.stream n
  u.stream n = (if lane then { x with lane := none, done := x.done + 1 } else { x with run := none, done := x.done + 1 })
  ∧ (∀ m, m ≠ n → u.stream m = s.stream m) ∧ u.cores = s.cores ∧ u.dies = s.dies
  ∧ (∀ m w g k, d.pusher = some (.slot m w g k) → (s.slot m).busy = true → (s.slot m).act.inctag = d.tag → (s.slot m).started = d.started →
      u.slot m = { s.slot m with asy := { (s.slot m).asy with cq := (s.slot m).asy.cq ++ [d.elementOf n status word1] } })
  ∧ ∀ m, (∀ w g k, d.pusher ≠ some (.slot m w g k)) → u.slot m = s.slot m

/-- `u` is `s` after a command of a lane has ended by a fault: its record stands in the fault table (17 R404). -/
def State.CommandFaults (s u : State) (n : Nat) (lane : Bool) (d : TCmd) (code status addr : Nat) : Prop :=
  s.CommandLeft u n lane d code 0
  ∧ ∃ x, u.hub.traps.table = s.hub.traps.table ++ [x] ∧ x.body.code = code ∧ x.body.who = .tether n ∧ x.body.tag = some d.tag
      ∧ x.body.status = status ∧ x.body.addr = addr

/-- Nothing of the command's node ends with it: a parked command has none, and one of an activation leaves the activation to its node. -/
def State.nodeGoesOn (s : State) (d : TCmd) : Prop :=
  (∀ g k, d.pusher ≠ some (.node g k))
  ∧ ∀ m w g k, d.pusher = some (.slot m w g k) → ∀ y, s.nodeAt g k = some y → y.phase ≠ .issued ∧ y.active ≠ 0

/-- `u` is `s` after the command of a lane has completed with status 0: it has left, its packets are acknowledged, and the peers that got data of
it are sent a release (17 R391, R398). -/
def State.Settled (s u : State) (n : Nat) (lane : Bool) (r : TRun) : Prop :=
  let d := r.cmd
  s.CommandLeft u n lane d 0 (if d.kind = 6 then d.count else 0)
  ∧ ∃ ps, u.hub.sent = (s.hub.sent.filter fun p => !(p.kind == .data && p.ctx == d.ctx && p.stream == n && p.cmd == d.num)) ++ ps
      ∧ ps.map (·.peer) = r.sentTo ∧ ∀ p ∈ ps, p.kind = .release ∧ p.ctx = d.ctx ∧ p.job = (s.ctx d.ctx).image.job ∧ p.cls = d.cls ∧ p.stream = n

/-- The elements of a command stand one after another. -/
def TCmd.dense (d : TCmd) : Prop := d.ext 1 = 1 ∧ d.ext 2 = 1 ∧ d.ext 3 = 1

/-- `v` is the code that a command whose peers have sent theirs writes at an element (17 R395, R396, R398, R401). -/
def State.writesCode (s : State) (r : TRun) (e v : Nat) : Prop :=
  let d := r.cmd
  let ps := s.positions d
  (d.kind = 6 ∧ r.codeOf d.peerIdx e = some v) ∨ (d.kind = 4 ∧ d.peerIdx ≠ 255 ∧ r.codeOf d.peerIdx e = some v)
  ∨ (d.kind = 3 ∧ ∃ c k, c * d.count / ps.length ≤ e ∧ e < (c + 1) * d.count / ps.length ∧ ps[c]? = some k ∧ s.codeAt r k e = some v)
  ∨ (d.kind = 1 ∧ ∃ x : Nat → Nat, (∀ p k, ps[p]? = some k → s.codeAt r k e = some (x p))
      ∧ v = d.output r.key e (d.reduce ps.length e fun p => d.valueOf (x p)))

/-- The state once a command `d` has started on a lane, before its first access: its run, and, where it need not wait, the checks it has sent
(17 R389, R390, R396). -/
def State.Started (s w : State) (n : Nat) (lane : Bool) (d : TCmd) (rest : List TCmd) : Prop :=
  let x := s.stream n
  let m := if d.collective then n else 0
  let nth := if d.collective = true ∨ d.kind = 5 ∨ d.kind = 6 then Tab.get 0 (s.stream m).counts d.counter else 0
  let d' : TCmd := { d with num := x.cmdNum }
  let r : TRun := { cmd := d', key := (s.ctx d.ctx).image.key, waited := !d.waitEn, nth := nth, checks := [], source := none, sentTo := [],
                    written := false, wrapped := none, received := [], took := [] }
  ∃ v : State, v.cur = s.cur ∧ v.mem = s.mem ∧ v.slots = s.slots ∧ v.hub.sems = s.hub.sems ∧ v.hub.traps = s.hub.traps
    ∧ v.hub.ctx = s.hub.ctx ∧ v.hub.sent = s.hub.sent
    ∧ (if lane then (v.stream n).lane = some r ∧ (v.stream n).run = x.run else (v.stream n).run = some r ∧ (v.stream n).lane = x.lane)
    ∧ (v.stream n).queue = rest ∧ (v.stream n).cmdNum = x.cmdNum + 1 ∧ (v.stream n).done = x.done ∧ (v.stream n).refoff = x.refoff
    ∧ if d.waitEn then w = v else v.Announced w n d' nth

/-- Packets that a command must have acknowledged before it completes are on their way (17 R398). -/
def State.owes (s : State) (n : Nat) (d : TCmd) : Prop :=
  (d.kind ∈ [1, 2, 3, 5, 7, 9] ∨ d.kind = 4 ∧ d.peerIdx = 255)
  ∧ ∃ p ∈ s.hub.sent, (p.kind = .data ∨ d.kind = 9 ∧ p.kind = .release) ∧ p.ctx = d.ctx ∧ p.stream = n ∧ p.cmd = d.num

/-- A command does not ask for a reduction in the switches (17 R397). -/
def State.staysOut (s : State) (d : TCmd) : Prop := d.kind = 1 ∨ d.kind = 2 → d.ndok = true → (s.tctx d.ctx).ndok = false

/-! ### Winch commands -/

/-- A winch word: its kind, its g operands, its shape register with the swap if it uses one, and its selector (08 R221). -/
structure WinchWord where
  kind : WinchKind
  ga : BitVec 6
  gb : BitVec 6
  shape : Option (BitVec 2 × BitVec 1)
  sel : BitVec 3

def winchRule : Instr → Option WinchWord
  | .wcopy g r w x => some ⟨.wcopy, g, 0, some (r, w), x⟩
  | .wlayout g h r w x => some ⟨.wlayout, g, h, some (r, w), x⟩
  | .woff g x => some ⟨.woff, g, 0, none, x⟩
  | .wret g x => some ⟨.wret, g, 0, none, x⟩
  | .wenc g x => some ⟨.wenc, g, 0, none, x⟩
  | .wcsum g h x => some ⟨.wcsum, g, h, none, x⟩
  | .wdec g h x => some ⟨.wdec, g, h, none, x⟩
  | .wnvme g h x => some ⟨.wnvme, g, h, none, x⟩
  | .wfill g h x => some ⟨.wfill, g, h, none, x⟩
  | _ => none

/-- The conditions of R235 on a dimension-mapping word and its source, with the limits of R233 and R234. -/
def layoutMeets (h : SShape) (g : Nat) : Prop :=
  let sr := g % 8 + 1
  let dr := g / 2 ^ 3 % 8 + 1
  let op (j : Nat) : Nat := g / 2 ^ (6 * j + 9) % 8
  let ax (j : Nat) : Nat := g / 2 ^ (6 * j + 6) % 8
  let count (p : Nat → Bool) : Nat := ((List.range dr).filter p).length
  let whole (a : Nat) : Nat := count fun j => ((op j == 0 || op j == 4) && ax j == a) || (op j == 3 && (ax j == a || ax j + 1 == a))
  let outer (a : Nat) : Nat := count fun j => op j == 1 && ax j == a
  let inner (a : Nat) : Nat := count fun j => op j == 2 && ax j == a
  let split := (List.range 8).filter fun a => decide (0 < outer a + inner a)
  let lo := g / 2 ^ 54 % 16
  let hi := g / 2 ^ 58 % 16
  let gran := g / 2 ^ 62 % 4
  sr ≤ 6 ∧ (∀ j, dr ≤ j → j < 8 → op j = 0 ∧ ax j = 0)
  ∧ (∀ j, j < dr → op j < 6 ∧ (op j = 3 → ax j + 1 < sr) ∧ (op j = 5 → sr ≤ ax j ∧ ax j ≤ 5 ∧ 1 ≤ h.ext.getD (ax j) 0)
      ∧ (op j ≠ 3 → op j ≠ 5 → ax j < sr))
  ∧ (∀ a, a < sr → (whole a = 1 ∧ outer a = 0 ∧ inner a = 0) ∨ (whole a = 0 ∧ outer a = 1 ∧ inner a = 1))
  ∧ split.length ≤ 2 ∧ (split.length < 2 → hi = 0) ∧ (split.length < 1 → lo = 0)
  ∧ h.gstr.getD 0 0 = 0
  ∧ ∃ f, fmtOf h.fmt = some f ∧ f.width ≠ 6 ∧ f.width ≠ 64
      ∧ (f.width = 4 * 2 ^ gran ∨ (f.width = 2 ∧ gran = 0 ∧ op 0 = 0 ∧ ax 0 = 0 ∧ h.ext.getD 0 0 % 2 = 0))
      ∧ ∀ a ∈ split, (if a = 0 ∧ f.width = 2 then h.ext.getD 0 0 / 2 else h.ext.getD a 0) % (if split.head? = some a then 2 ^ lo else 2 ^ hi) = 0

/-- The limits of a winch word's shape and of its operand `b`, and the features that it needs (08 R226, R229, R231, R235; 19 R430). -/
def WinchWord.allowed (w : WinchWord) (s : State) (h : SShape) (b : Nat) : Prop :=
  match w.kind with
  | .wcopy => h.ext.getD 5 0 ≤ 1 ∧ (h.count = 0 ∨ h.run ≠ 0)
  | .wlayout => layoutMeets h b
  | .wcsum | .wnvme => b < 2 ^ 32
  | .woff | .wret => s.hub.dev.agreed.getLsbD 2 = true
  | _ => True

/-- The reserved fields and the limits of a block `k` (08 R222, R226-R231). -/
def WinchWord.blockFits (w : WinchWord) (k : Nat) : Prop :=
  let a := k / 2 ^ 64 % 2 ^ 64
  let b := k / 2 ^ 128 % 2 ^ 64
  let c := k / 2 ^ 192 % 2 ^ 64
  k / 2 ^ 468 = 0 ∧ k / 2 ^ 461 % 8 = 0 ∧ k / 2 ^ 56 % 256 = 0 ∧ (w.kind ≠ .wcopy → k / 2 ^ 256 % 2 ^ 192 = 0)
  ∧ match w.kind with
    | .wcopy | .wlayout => a = 0 ∧ b = 0 ∧ c = 0
    | .woff | .wret | .wenc => a ≠ 0 ∧ b = 0 ∧ c = 0
    | .wcsum => c = 0
    | .wdec => True
    | .wnvme => c / 2 ^ 33 = 0 ∧ c % 2 ^ 32 ≠ 0
    | .wfill => b = 0 ∧ c = 0

/-- The address that breaks an alignment: DADDR of the block, OPA, or the operand of the word (08 R227-R231). -/
def WinchWord.skew (w : WinchWord) (k b : Nat) : Option Nat :=
  let d := k % 2 ^ 56
  let a := k / 2 ^ 64 % 2 ^ 64
  match w.kind with
  | .woff | .wret | .wenc => if d % 65536 = 0 ∧ a % 65536 = 0 then none else some d
  | .wcsum => if d % 4 = 0 then none else some d
  | .wdec => if b % 8 = 0 then none else some b
  | .wnvme => if a % 64 ≠ 0 then some a else if d % 4 ≠ 0 then some d else none
  | _ => none

/-- A selector picks a winch of a die (08 R221). -/
def State.picksWinch (s : State) (die sel v : Nat) : Prop :=
  (sel < 6 → v = 6 * die + sel)
  ∧ (sel = 7 → v / 6 = die ∧ ∀ u, u / 6 = die → (s.winch v).queue.length ≤ (s.winch u).queue.length
      ∧ (u < v → (s.winch v).queue.length < (s.winch u).queue.length))

/-- A command as a word of the current slot pushes it: not started, with its block, its operand, its shape and the key words and the step
that PC_A sees (08 R221, R222, R228). -/
def WCmd.pushedBy (c : WCmd) (w : WinchWord) (s : State) (v : Nat) (h : SShape) (k : BitVec 512) (b : Reg) : Prop :=
  let sl := s.slot s.cur
  let e := sl.asy.pc.view
  c.kind = w.kind ∧ c.num = (s.winch v).pushes ∧ c.tag = sl.act.inctag ∧ c.pusher = .slot s.cur sl.asy.pc.word sl.act.graph sl.act.node
  ∧ c.block = k ∧ c.gb = b ∧ c.shape = h ∧ c.key = e.key3 ++ e.key2 ++ e.key1 ++ e.key0 ∧ c.step = e.stepno ∧ c.cursor = 0 ∧ c.stage = .queued
  ∧ c.page = none ∧ c.landed = 0 ∧ c.acc = [] ∧ c.olds = [] ∧ c.fault = none ∧ c.cid = 0 ∧ c.relCmd = sl.asy.cmdNum
  ∧ ∀ r ∈ sl.seq.reqs, r.pos < sl.asy.pc.pos → r.num < c.relReq

/-- A tag's page as a winch or another agent of a die meets it: no buffer of the die holds a translation (10 R273). -/
def State.diePage (s : State) (die : Nat) (tag : BitVec 18) (kind : AKind) (va len pa : Nat) : Prop :=
  s.pageFrom die tag kind va len pa ∧ ∀ t ∈ (s.die die).tlb, t.holds tag va = false

/-- The byte that a winch reads: the latest store that its die has accepted over it, else the byte of its home (09 R240, R245). -/
def State.homeSeen (s : State) (die a : Nat) : Byte :=
  match ((s.die die).accepted.filter fun e => decide (e.pa ≤ a ∧ a < e.pa + e.bytes.length)).getLast? with
  | some e => (e.bytes[a - e.pa]?).getD 0
  | none => s.mem.read a

/-- A winch's queue with one command changed. -/
def Winch.changed (x : Winch) (num : Nat) (f : WCmd → WCmd) : Winch := { x with queue := x.queue.map fun c => if c.num = num then f c else c }

/-- `c` is the command that winch `w` executes, its context resident, and no page of a re-encode is at hand (08 R220; 10 R269). -/
def State.winchAt (s : State) (w : Nat) (c : WCmd) (stage : WStage) : Prop :=
  c ∈ (s.winch w).queue ∧ c.stage = stage ∧ (stage = .running ∨ stage = .polling) ∧ (s.ctx (c.tag.toNat / 64)).phase = .resident
  ∧ (∀ d ∈ (s.winch w).queue, d ≠ c → d.stage ≠ .running ∧ d.stage ≠ .polling ∧ d.num ≠ c.num) ∧ ∀ r ∈ (s.winch w).reenc, r.taken = false

/-- `u` is `s` after a burst of winch `w`: the command has changed by `f`; no slot, core, stream or context has. -/
def State.WinchStepped (s u : State) (w num : Nat) (f : WCmd → WCmd) : Prop :=
  u.winch w = (s.winch w).changed num f ∧ (∀ v, v ≠ w → u.winch v = s.winch v) ∧ u.slots = s.slots ∧ u.cores = s.cores ∧ u.hub = s.hub
  ∧ ∀ d, (u.die d).lines = (s.die d).lines ∧ (u.die d).accepted = (s.die d).accepted ∧ (d ≠ w / 6 → (u.die d).tlb = (s.die d).tlb)

/-- Field [hi:lo] of the entry at an address holds `v` in `u`; the other bits of its first 8 bytes, and every other byte, are as in `s`. -/
def State.EntryPut (s u : State) (at_ hi lo v : Nat) : Prop :=
  (∀ a, a < at_ ∨ at_ + 8 ≤ a → u.mem.read a = s.mem.read a)
  ∧ u.memNat at_ 8 / 2 ^ lo % 2 ^ (hi + 1 - lo) = v ∧ ∀ i, i < lo ∨ hi < i → (u.memNat at_ 8).testBit i = (s.memNat at_ 8).testBit i

/-- CRC32C of some bytes, from a remainder (08 R229). -/
def crcShift (c : Nat) : Nat := if c % 2 = 1 then c / 2 ^^^ 0x82F63B78 else c / 2
def crcOver (bs : List Byte) (c : Nat) : Nat := bs.foldl (fun c b => crcShift (crcShift (crcShift (crcShift (crcShift (crcShift (crcShift
  (crcShift (c ^^^ b.toNat))))))))) c

/-- The bytes of a page, or of any range, as memory holds them. -/
def State.bytesAt (s : State) (pa n : Nat) : List Byte := (List.range n).map fun j => s.mem.read (pa + j)
/-- A fault of the running command of a winch holds the command at its cursor, with a record (08 R224). -/
def State.CommandHeld (s : State) (w : Nat) (c : WCmd) (code addr : Nat) : Prop :=
  ∃ u x, exec .winchFault s = .next u ∧ u.hub.traps.table = s.hub.traps.table ++ [x] ∧ x.body.code = code ∧ x.body.who = .winch w
    ∧ x.body.tag = some c.tag ∧ x.body.cursor = c.cursor ∧ x.body.addr = addr ∧ x.winchCmd = some (w, c.num)
    ∧ (∀ n y g k, c.pusher = .slot n y g k → x.body.widxA = y)
    ∧ u.winch w = (s.winch w).changed c.num (fun y => { y with stage := .held, fault := some x.id }) ∧ u.mem = s.mem ∧ u.slots = s.slots

/-! ### Work queues -/

/-- The address of a record number in a queue's ring (12 R292). -/
def WorkQueue.placeOf (x : WorkQueue) (i : BitVec 32) : Nat := x.qbase.toNat + 32 * (i.toNat % 2 ^ x.log2sz.toNat)

/-- The tag with which the hub accesses a queue's ring (12 R292). -/
def State.ringTag (s : State) (x : WorkQueue) : BitVec 18 := BitVec.ofNat 18 (x.ctx.toNat * 64 + (s.ctx x.ctx.toNat).inc.toNat)

/-- The oldest record of a queue stands in HBM at `pa`, on a plain page of its context. -/
def State.recordAt (s : State) (x : WorkQueue) (pa : Nat) : Prop := s.hubPage (s.ringTag x) .read (x.placeOf x.head) 32 pa

/-- Word `k` of the record at `pa`. -/
def State.recordWord (s : State) (pa k : Nat) : Reg := BitVec.ofNat 64 (numberAt (fun j => s.mem.read (pa + 8 * k + j)) 8)

/-- The registers of a slot with the four words of a record from `reg` on. -/
def Regs.takes (r : Regs) (reg : Nat) (word : Nat → Reg) : Regs :=
  (List.range 4).foldl (fun r k => if reg + k = 0 then r else { r with g := r.g.put (reg + k) (word k) }) r

/-- The queue with its oldest record removed (12 R294). -/
def WorkQueue.popped (x : WorkQueue) : WorkQueue :=
  let y := { x with head := x.head + 1, owners := x.owners.tail }
  match x.owners.head? with
  | some (some (g, n)) =>
    if x.resv.any fun r => r.graph == g && r.node == n then
      { y with resv := mapFirst (fun r => r.graph == g && r.node == n) (fun r => { r with occ := r.occ - 1 }) x.resv }
    else { y with commit := x.commit - 1 }
  | _ => { y with commit := x.commit - 1 }

/-- A record that Envelope refuses (12 R295, R296, R298). -/
def malformed (word : Nat → Nat) : Prop :=
  word 0 / 2 ^ 9 ≠ 0 ∨ 2 < word 0 % 256 ∨ (word 0 % 256 = 0 ∧ (word 1 ≠ 0 ∨ word 2 ≠ 0 ∨ word 3 ≠ 0))
  ∨ (word 0 % 256 = 1 ∧ (word 1 % 64 ≠ 0 ∨ word 2 % 16 ≠ 0))
  ∨ (word 0 % 256 = 2 ∧ (word 3 ≠ 0 ∨ word 1 % 64 ≠ 0 ∨ word 2 = 0 ∨ 2 ^ 24 < word 2 ∨ 2 ^ 56 < word 1 + 64 * word 2))

/-- Envelope may take the oldest record of a graph queue (12 R296). -/
def State.mayTake (s : State) (x : WorkQueue) : Prop :=
  x.phase = .active ∧ x.feed = false ∧ x.running = none ∧ x.tail ≠ x.head ∧ (s.ctx x.ctx.toNat).phase = .resident
  ∧ (s.ctxWork x.ctx.toNat).broadcasting = 0

/-- The record of a queue has finished: it is removed, and its vector raised if the record and QCTL say so (12 R296). -/
def State.finished (s : State) (q : Nat) (word0 : Nat) : State :=
  let t := s.modQueue q fun x => { x.popped with running := none }
  if word0 / 2 ^ 8 % 2 = 1 ∧ (s.queue q).intr = true then
    t.raiseVector (s.queue q).vector.toNat
  else t

/-- The slot's accesses and stores in a class have performed at package scope (09 R249). -/
def Slot.released (sl : Slot) (cls : Nat) : Prop :=
  (∀ r ∈ sl.seq.reqs, r.cls = cls → (∃ n b, r.kind = .load n b) ∨ r.atPackage = true) ∧ ∀ c ∈ sl.asy.stores, c.cls ≠ cls

/-! ### Graphs -/

/-- A node waits for its tick (13 R317, R324). -/
def State.early (s : State) (tag : BitVec 18) (raw : Nat) : Prop :=
  raw / 2 ^ 8 % 2 = 1 ∧ ((s.now / 2 ^ 14 : Nat) : Int) - (s.ctx (tag.toNat / 64)).foff.toNat < (raw / 2 ^ 320 % 2 ^ 50 : Nat)

/-- `u` is `s` after node `n` of graph `g` has completed: its edges have fired, and each node that waited for them alone is Ready, or Due at
its tick (13 R317). -/
def State.NodeCompletes (s u : State) (g n : Nat) : Prop :=
  ∃ x y, s.graph g = some x ∧ u.graph g = some y ∧ y.edges = x.edges.map (fun e => if e.src = n then { e with fired := true } else e)
    ∧ y.nodes.length = x.nodes.length ∧ y.firstBad = x.firstBad ∧ y.progress = true ∧ u.slots = s.slots
    ∧ ∀ m a b, x.nodes[m]? = some a → y.nodes[m]? = some b →
        let freed := a.phase = .waiting ∧ (∃ e ∈ x.edges, e.src = n ∧ e.dst = m) ∧ ∀ e ∈ y.edges, e.dst = m → e.fired = true
        (m = n → b = { a with phase := .complete })
        ∧ (m ≠ n → freed → s.early x.tag a.raw.toNat → b = { a with phase := .due })
        ∧ (m ≠ n → freed → ¬ s.early x.tag a.raw.toNat → b = { a with phase := .ready }) ∧ (m ≠ n → ¬ freed → b = a)

/-- `u` is `s` after a node of a graph has failed with a fault that Spool raises: its record stands in the fault table (13 R317, R319). -/
def State.NodeFails (s u : State) (g n : Nat) (code status addr : Nat) : Prop :=
  ∃ x y r, s.graph g = some x ∧ u.graph g = some y ∧ (y.nodes[n]?).map (·.phase) = some (.failed code)
    ∧ (x.firstBad = none → y.firstBad = some ⟨true, code, s.now, n⟩) ∧ y.edges = x.edges
    ∧ u.hub.traps.table = s.hub.traps.table ++ [r] ∧ r.body.code = code ∧ r.body.who = .spool ∧ r.body.tag = some x.tag
    ∧ r.body.status = status ∧ r.body.addr = addr ∧ u.slots = s.slots ∧ u.mem = s.mem

/-- Spool may take a node of a kind (13 R317). -/
def State.takes (s : State) (g n kind : Nat) (x : Graph) (y : Node) : Prop :=
  s.graph g = some x ∧ x.nodes[n]? = some y ∧ y.phase = .ready ∧ y.raw.toNat % 256 = kind ∧ x.firstBad = none ∧ x.outcome = none
  ∧ s.live x.tag = true ∧ (s.ctx (x.tag.toNat / 64)).phase = .resident ∧ (s.ctxWork (x.tag.toNat / 64)).broadcasting = 0
  ∧ (s.ctxWork (x.tag.toNat / 64)).leaving = false

/-- The graph with one node changed. -/
def State.nodeSet (s : State) (g n : Nat) (y : Node) : State :=
  match s.graph g with
  | some x => s.modSpool fun p => { p with graphs := p.graphs.put g { x with nodes := x.nodes.set n y } }
  | none => s

/-- A number of `n` bytes at `pa`. -/
def State.number (s : State) (pa n : Nat) : Nat := numberAt (fun j => s.mem.read (pa + j)) n

/-- Argument `i` of a node record (13 R314). -/
def argOf (raw i : Nat) : Nat := raw / 2 ^ (64 + 64 * i) % 2 ^ 64

/-- A graph that passes the checks of R316 stands at `root`, with these node and edge records, on plain pages. -/
def State.graphAt (s : State) (tag : BitVec 18) (root : Nat) (nodes edges : List Nat) : Prop :=
  root % 64 = 0 ∧ ∃ pa na, s.hubPage tag .read root 64 pa ∧
    let h := s.number pa 64
    graphHeaderBad h = none ∧ h / 2 ^ 32 % 2 ^ 16 = nodes.length ∧ h / 2 ^ 48 % 2 ^ 16 = edges.length
    ∧ s.hubPage tag .read (h / 2 ^ 64 % 2 ^ 64) (64 * nodes.length) na
    ∧ (∀ i r, nodes[i]? = some r → r = s.number (na + 64 * i) 64 ∧ nodeBad r = none)
    ∧ (edges ≠ [] → ∃ ea, s.hubPage tag .read (h / 2 ^ 128 % 2 ^ 64) (32 * edges.length) ea
        ∧ ∀ i r, edges[i]? = some r → r = s.number (ea + 32 * i) 32 ∧ edgeBad nodes.length r = none)
    ∧ firstCycle [] (edges.map fun e => ⟨e % 2 ^ 16, e / 2 ^ 16 % 2 ^ 16, e / 2 ^ 64 % 2 ^ 64, e / 2 ^ 128 % 2 ^ 64, false⟩) 0 = none

/-- The graph that a launch makes (13 R316, R317). -/
def State.Launched (s u : State) (tag : BitVec 18) (root : Nat) (queue : Option Nat) (parent : Option (Nat × Nat)) (depth : Nat)
    (nodes edges : List Nat) : Prop :=
  u.hub.spool.nextId = s.hub.spool.nextId + 1 ∧ u.slots = s.slots ∧ u.mem = s.mem
  ∧ ∃ x, u.graph s.hub.spool.nextId = some x ∧ x.root = root ∧ x.tag = tag ∧ x.queue = queue ∧ x.parent = parent ∧ x.depth = depth
      ∧ x.launched = s.now ∧ x.firstBad = none ∧ x.outcome = none ∧ x.nodes.length = nodes.length
      ∧ x.edges = edges.map (fun e => ⟨e % 2 ^ 16, e / 2 ^ 16 % 2 ^ 16, e / 2 ^ 64 % 2 ^ 64, e / 2 ^ 128 % 2 ^ 64, false⟩)
      ∧ ∀ m r y, nodes[m]? = some r → x.nodes[m]? = some y → y.raw.toNat = r ∧ y.active = 0 ∧ y.cmds = 0 ∧ y.iter = 0 ∧
          let held := ∃ e ∈ edges, e / 2 ^ 16 % 2 ^ 16 = m
          (held → y.phase = .waiting) ∧ (¬ held → s.early tag r → y.phase = .due) ∧ (¬ held → ¬ s.early tag r → y.phase = .ready)

/-- Fewer graphs run than Spool holds (13 R316). -/
def State.graphRoom (s : State) : Prop := (s.hub.spool.graphs.filter fun p => p.2.result.isNone).length < 1024

/-- A graph has ended: with outcome 0 completed, 1 halted or 2 failed, and the code (12 R297; 13 R319). -/
def Graph.endedAs (x : Graph) (o code : Nat) : Prop :=
  x.outcome = some (o, code)
  ∨ x.outcome = none ∧ (∃ b, x.firstBad = some b ∧ o = (if b.failed then 2 else 1) ∧ code = b.code ∧ ∀ y ∈ x.nodes, y.phase.running = false)
  ∨ x.outcome = none ∧ x.firstBad = none ∧ o = 0 ∧ code = 0 ∧ ∀ y ∈ x.nodes, y.phase = .complete

/-- The level at which a kernel node's tensor pages stand at its dispatch: the highest of its precision slots, or 3 (11 R286). -/
def State.levelFor (s : State) (raw : Nat) : Nat :=
  let n := argOf raw 1 / 2 ^ 48 % 8
  if n = 0 then 3 else ((List.range n).map fun i => (s.pslot (argOf raw 1 / 2 ^ (12 * i) % 2 ^ 12)).level.toNat).foldl max 0

/-- The bands of a core that neither slot holds (13 R328). -/
def State.openBands (s : State) (core : Nat) : List Nat :=
  (List.range 8).filter fun p => !(s.slot (2 * core)).act.bands.getLsbD p && !(s.slot (2 * core + 1)).act.bands.getLsbD p

/-- The slot beside a slot. -/
def beside (x : Nat) : Nat := 2 * (x / 2) + (1 - x % 2)

/-- Slot `x` is free, and its scratchpad has room for a tile that uses `sp` bytes (13 R328). -/
def State.roomFor (s : State) (x sp : Nat) : Bool :=
  let o := s.slot (beside x)
  !(s.slot x).busy && decide (sp + (if o.busy then o.act.splimit.toNat - o.act.spbase.toNat else 0) ≤ 0x600000)

/-- Slot `x` can take a tile of a node of a context (13 R328). -/
def State.fitsTile (s : State) (ctx sp x : Nat) : Bool :=
  let o := s.slot (beside x)
  s.roomFor x sp && (!(s.openBands (x / 2)).isEmpty || (o.busy && o.act.inctag.toNat / 64 == ctx && o.extra == 0))

/-- The number of slots of some that can take a tile. -/
def State.roomIn (s : State) (ctx sp : Nat) (l : List Nat) : Nat := (l.filter (s.fitsTile ctx sp)).length

/-- `y` is `y₀` with its group chosen and its tiles shared among the dies (13 R321, R322). -/
def State.grouped (s : State) (ctx : Nat) (y₀ y : Node) : Prop :=
  let room (first size : Nat) : Nat := s.roomIn ctx y₀.header.spBytes ((List.range size).map (first + ·))
  let memb := y₀.raw.toNat / 2 ^ 40 % 4
  ∃ (team : Option Nat) (dies : List Nat) (l : List (Nat × Nat × Nat)), y = { y₀ with team := team, shares := l, ranges := l }
    ∧ l.length = dies.length
    ∧ (∀ (k d : Nat) (r : Nat × Nat × Nat), dies[k]? = some d → l[k]? = some r →
        r = (d, k * y₀.tiles / dies.length, (k + 1) * y₀.tiles / dies.length))
    ∧ (memb = 0 → ∃ t, team = some t ∧ t < 20 ∧ dies = [t / 5] ∧ s.diePresent (t / 5) = true ∧ ∀ z < 20, s.diePresent (z / 5) = true →
        room (16 * z) 16 < room (16 * t) 16 ∨ room (16 * z) 16 = room (16 * t) 16 ∧ t ≤ z)
    ∧ (memb = 1 → ∃ d, team = none ∧ d < 4 ∧ dies = [d] ∧ s.diePresent d = true ∧ ∀ z < 4, s.diePresent z = true →
        room (80 * z) 80 < room (80 * d) 80 ∨ room (80 * z) 80 = room (80 * d) 80 ∧ d ≤ z)
    ∧ (2 ≤ memb → team = none ∧ dies = (List.range 4).filter s.diePresent)

/-- `z` is a node under a kernel entry at its first dispatch: the tiles, the level and the epoch are read, and its group is chosen (04 R90; 11
R286; 13 R321, R322). -/
def State.begun (s : State) (y : Node) (id : Nat) (e : KEntry) (z : Node) : Prop :=
  s.grouped (e.tag.toNat / 64)
    { y with kentry := id, header := e.header, phase := .dispatching, tiles := (e.header.levels.map (·.1)).prod, level := s.levelFor y.raw.toNat,
             epoch := (s.ctx (e.tag.toNat / 64)).epoch.toNat } z

/-! ### Groups -/

/-- A slot of a die lies in a node's group (13 R321). -/
def Node.groupHas (y : Node) (d x : Nat) : Prop := x / 80 = d ∧ ∀ t, y.team = some t → x / 16 = t

/-- The lowest slot of a die that can take a tile of a node. -/
def State.nextSlot (s : State) (ctx : Nat) (y : Node) (d x : Nat) : Prop :=
  y.groupHas d x ∧ s.fitsTile ctx y.header.spBytes x = true ∧ ∀ z < x, y.groupHas d z → s.fitsTile ctx y.header.spBytes z = false

/-- BANDS of a side that holds `k` bands (07 R174). -/
def heldBands (side k : Nat) : BitVec 12 := BitVec.ofNat 12 (k * 256 + if side = 0 then 2 ^ k - 1 else 256 - 2 ^ (8 - k))

/-- The band demand of a node at its level (04 R91). -/
def Node.bandDemand (y : Node) : Nat := if y.level ≤ 4 then y.header.demand.getD y.level 0 else 0

/-- Node `n` of graph `g` hands out tiles (13 R317, R322). -/
def State.handsOut (s : State) (g n : Nat) (x : Graph) (y : Node) (e : KEntry) : Prop :=
  s.graph g = some x ∧ x.nodes[n]? = some y ∧ y.phase = .dispatching ∧ y.halt = none ∧ y.fail = none ∧ s.live x.tag = true
  ∧ (s.ctx (x.tag.toNat / 64)).phase = .resident ∧ (y.ranges.map (·.1)).Nodup ∧ Tab.find s.hub.spool.kernels y.kentry = some e
  ∧ (y.header.levels.map (·.2)).Nodup ∧ ∀ p ∈ y.header.levels, p.2 < 6

/-- A line of a near-store overlaps a region that an edge into node `n` lists (09 R251). -/
def State.listed (s : State) (gr : Graph) (n : Nat) (l : NearLine) : Prop :=
  ∃ e ∈ gr.edges, e.dst = n ∧ ∃ a leaf at_, e.base ≤ a ∧ a < e.base + e.len ∧ s.walk (gr.tag.toNat / 64) none a = .leaf leaf at_
    ∧ l.base ≤ leafPa leaf a ∧ leafPa leaf a < l.base + 256

/-- `u` is `s` after tile `t` of a node has started in slot `x` (03 R60 to R65; 04 R90, R91; 09 R251; 13 R322, R326, R328). -/
structure State.TileStarted (s u : State) (x g n t : Nat) (gr : Graph) (y : Node) (e : KEntry) : Prop where
  slot :
    let c := gr.tag.toNat / 64
    let opened := (s.openBands (x / 2)).length
    let grant := if opened = 0 then 1 else min (max 1 y.bandDemand) opened
    let image := (s.ctx c).image
    let now := u.slot x
    let lo := if x % 2 = 0 then 0 else 0x600000 - y.header.spBytes
    let counter : Counter := { Counter.reset with
      view := { CtlView.reset with
        stepno := image.stepno, tensorid := image.tensorid, key0 := image.key.setWidth 32, key1 := (image.key >>> 32).setWidth 32,
        key2 := (image.key >>> 64).setWidth 32, key3 := (image.key >>> 96).setWidth 32 } }
    now.busy = true ∧ now.stop = none ∧ now.comm = false ∧ now.phase = 0 ∧ now.grant = grant ∧ now.extra = 0 ∧ now.demand = y.bandDemand
    ∧ now.act.codebase = BitVec.ofNat 56 (e.base + y.header.textOff) ∧ now.act.codelimit = BitVec.ofNat 24 y.header.textWords
    ∧ now.act.spbase = BitVec.ofNat 23 lo ∧ now.act.splimit = BitVec.ofNat 24 (lo + y.header.spBytes) ∧ now.act.bands = heldBands (x % 2) grant
    ∧ now.act.inctag = gr.tag ∧ now.act.graph = g ∧ now.act.node = n ∧ now.act.tile = t
    ∧ now.act.prio.toNat = min (y.raw.toNat / 2 ^ 48 % 16) image.prio.toNat ∧ now.basePrio = now.act.prio.toNat
    ∧ now.act.grpid.toNat % 2 ^ 16 = n % 2 ^ 16 ∧ now.act.grpid.toNat / 2 ^ 30 = y.raw.toNat / 2 ^ 40 % 4
    ∧ (gr.parent = none → now.act.grpid.toNat / 2 ^ 16 % 2 ^ 14 = 0)
    ∧ (∀ q, gr.parent = none → gr.queue = some q → now.act.wdoglim = (s.queue q).wdogLim)
    ∧ now.seq.pc = counter ∧ now.vec.pc = counter ∧ now.mat.pc = counter ∧ now.asy.pc = counter
    ∧ now.regs.getG 7 = BitVec.ofNat 64 t ∧ now.regs.getG 12 = BitVec.ofNat 64 grant
    ∧ (∀ i l trip, y.header.levels[i]? = some (trip, l) →
        now.regs.getG (l + 1) = BitVec.ofNat 64 (t / ((y.header.levels.drop (i + 1)).map (·.1)).prod % trip))
    ∧ (∀ i < 4, now.regs.getG (8 + i) = BitVec.ofNat 64 ((y.header.tiles.getD (min y.level 5) []).getD i 0))
    ∧ (∀ r, (r < 7 → ∀ p ∈ y.header.levels, r ≠ p.2 + 1) → r < 7 ∨ 12 < r → now.regs.getG r = 0)
    ∧ now.regs = { Regs.reset with
        g := now.regs.g, v := if (s.slot x).lastCtx = some c then (s.slot x).regs.v else [],
        acc := if (s.slot x).lastCtx = some c then (s.slot x).regs.acc else [] }
    ∧ ∀ a, (u.core (x / 2)).scratch.read a
        = if lo ≤ a ∧ a < lo + y.header.spBytes ∧ Tab.find (s.core (x / 2)).banks (a / 0x18000) ≠ some c then 0
          else (s.core (x / 2)).scratch.read a
  others : ∀ m, m ≠ x → u.slot m = if m = beside x then { s.slot m with withdraw := 0 } else s.slot m
  memory : u.mem = s.mem
  stores : u.dies = s.dies ∨ x / 80 ∉ y.cleared
  lines : x / 80 ∉ y.cleared → (∀ k, k ≠ x / 80 → u.die k = s.die k)
    ∧ ∀ l, l ∈ (u.die (x / 80)).lines ↔ l ∈ (s.die (x / 80)).lines ∧ ¬ s.listed gr n l
  kernels : u.hub.spool.kernels = s.hub.spool.kernels.map fun p =>
    if p.1 = y.kentry then (p.1, { p.2 with count := p.2.count + 1, used := s.hub.spool.dispatches }) else p

/-- The distance of two dies on the ring. -/
def dieDistance (a b : Nat) : Nat := min ((a + 4 - b) % 4) ((b + 4 - a) % 4)

/-- A tile of some node waits for a band of a slot beside a free one (13 R328). -/
def State.bandAwaited (s : State) (x : Nat) : Prop :=
  ∃ p ∈ s.hub.spool.graphs, ∃ y ∈ p.2.nodes, ∃ lo hi, y.phase = .dispatching ∧ y.halt = none ∧ y.fail = none
    ∧ y.groupHas (beside x / 80) (beside x) ∧ s.roomFor (beside x) y.header.spBytes = true
    ∧ y.ranges.find? (fun r => r.1 == beside x / 80) = some (beside x / 80, lo, hi) ∧ lo < hi

/-- How many bands a slot may hold (13 R329): its demand, none in a communication phase, but never less than its dispatch grant; and while a
tile awaits a band, less than the bands from which withdrawal began. -/
def State.bandCeiling (s : State) (x n : Nat) : Prop :=
  let sl := s.slot x
  let wants := if sl.comm then 0 else sl.demand
  let called := sl.withdraw ≠ 0 ∧ s.bandAwaited x
  (¬ called → n = max sl.grant wants) ∧ (called → n = max sl.grant (min wants (sl.withdraw - 1)))

/-- The number of logical bands that the slot's issued and not completed words touch (07 R175). -/
def Slot.bandsTouched (sl : Slot) : Nat :=
  ((sl.mat.buf.map fun m => m.op.bandCount m.shape) ++ (sl.mat.run.map fun m => m.entry.op.bandCount m.entry.shape)).foldl max 0

/-- Every word that the slot has issued has completed. -/
def Slot.completed (sl : Slot) : Prop :=
  sl.vec.fly = [] ∧ sl.mat.buf = [] ∧ sl.mat.run = [] ∧ sl.asy.loads = [] ∧ sl.asy.stores = [] ∧ sl.asy.reports = [] ∧ sl.signals = []
  ∧ sl.seq.reqs = [] ∧ sl.seq.pend = [] ∧ sl.seq.locks = [] ∧ sl.seq.walls = []

/-- All four counters of the slot stand at its END or HALT. -/
def Slot.atEnd (sl : Slot) : Prop :=
  sl.seq.pc.ended = true ∧ sl.vec.pc.ended = true ∧ sl.mat.pc.ended = true ∧ sl.asy.pc.ended = true

/-- A word completes, and writes a value of which `p` holds to a g register, with latency 1. -/
def CompletesWith (o : Out) (s : State) (d : BitVec 6) (p : Reg → Prop) : Prop := ∃ v, p v ∧ Completes o .S (s.withResult d v 1)

/-! ### Barriers -/

/-- The context tag of a context (03 R63). -/
def State.ctxTag (s : State) (c : Nat) : BitVec 18 := BitVec.ofNat 18 (64 * c + (s.ctx c).inc.toNat)

/-- The slot lies within a barrier's level (14 R336). -/
def Barrier.reaches (x : Barrier) (slot : Nat) : Prop := (x.level = 0 → slot / 16 = x.team.toNat) ∧ (x.level = 1 → slot / 80 = x.die.toNat)

/-- The scope of a barrier as a FENCE numbers it (14 R336). -/
def Barrier.reach (x : Barrier) : Nat := if x.level.toNat ≤ 1 then (if x.caddr = 0 then 1 else 2) else x.level.toNat

/-- The slot's activation is a member of a barrier (14 R342). -/
def State.joined (s : State) (b : Nat) : State :=
  s.modBarrier b fun x => { x with members := if s.cur ∈ x.members then x.members else x.members ++ [s.cur] }

/-- The word names an Armed barrier of its context that reaches its slot (14 R343). -/
def State.barrierOpen (s : State) (b : Nat) : Prop :=
  b < 256 ∧ (s.barrier b).phase = .armed ∧ (s.barrier b).ctx.toNat = (s.slot s.cur).act.inctag.toNat / 64 ∧ (s.barrier b).reaches s.cur

/-- The slot's releases at a barrier have performed (14 R338). -/
def State.releases (s : State) (b : Nat) : Prop := (s.slot s.cur).performed (s.barrier b).clsmask.toNat (s.barrier b).reach

/-- The slot may arrive: its releases have performed, and it has not arrived in the generation; an arrival that has stalled, in a later cycle
than GEN changed (14 R338, R341). -/
def State.mayArrive (s : State) (b : Nat) : Prop :=
  let x := s.barrier b
  s.releases b ∧ s.cur ∉ x.arrived ∧ x.localDone = false
  ∧ ((s.slot s.cur).seq.stalledArrival = true → x.genAt < s.now)

/-- The slot has arrived. -/
def State.arrivedIn (s : State) (b : Nat) : State :=
  ((s.joined b).modBarrier b fun x => { x with arr := x.arr + 1, arrived := x.arrived ++ [s.cur] }).modSeq s.cur fun q =>
    { q with stalledArrival := false }

/-- The completion counter of a barrier stands on a plain page of HBM, if it has one; without one no add is owed. -/
def State.counterAtPa (s : State) (b pa : Nat) : Prop :=
  let x := s.barrier b
  (x.caddr = 0 → x.adds = 0) ∧ (x.caddr ≠ 0 → s.hubPage (s.ctxTag x.ctx.toNat) .atomic x.caddr.toNat 4 pa)

/-- `u` is `s` after the generation of a barrier has ended (14 R339). -/
def State.GenerationEnded (s u : State) (b pa : Nat) : Prop :=
  u = { s.modBarrier b (fun x =>
      { x with gen := x.gen + 1, arr := 0, arrived := [], localDone := false, frames := 0, reports := x.ahead, ahead := 0, genAt := s.now }) with
      mem := u.mem }
  ∧ ∀ a, u.mem.read a = if (s.barrier b).caddr = 0 then s.mem.read a else overlaid s.mem.read pa (bytesOf 4 (s.number pa 4 + 1)) a

/-- The reports that a barrier's package sends to its peers (14 R335, R340). -/
def State.barrierReports (s : State) (b : Nat) (kind : PacketKind) : List Packet :=
  let x := s.barrier b
  (((List.range 64).filter fun n => x.peermask.getLsbD n).zipIdx).map fun n =>
    { ctx := x.ctx.toNat, peer := n.1, job := (s.ctx x.ctx.toNat).image.job, src := Config.freeNat (s.free + n.2) % 256,
      inc := (s.ctx x.ctx.toNat).inc, cls := x.ccls.toNat, stream := 0, kind := kind, arg := b * 2 ^ 32 + x.gen.toNat, cmd := 0,
      payload := [], frames := 0 }

/-- A barrier whose package has completed its generation, at system level with its reports sent (14 R340). -/
def State.told (s : State) (b : Nat) : State :=
  let t := s.modBarrier b fun x => { x with localDone := true }
  if (s.barrier b).level = 3 then
    { t with free := t.free + ((List.range 64).filter fun n => (s.barrier b).peermask.getLsbD n).length }.modHub fun h =>
      { h with sent := h.sent ++ s.barrierReports b .barrierDone }
  else t

/-- The peers of a system barrier have all reported. -/
def Barrier.heardAll (x : Barrier) : Prop := x.level = 3 → x.peermask &&& ~~~x.reports = 0

/-- An acquire of the slot at package scope over a class mask (09 R244, R246): the die's lines of those classes are invalidated, at once where
every access of the slot in them has its value or has been accepted, else once they have. -/
def State.acquiresMask (s : State) (mask : Nat) : State :=
  if ∀ r ∈ (s.slot s.cur).seq.reqs, mask.testBit r.cls = true → r.stage = .served then
    s.modDie (s.cur / 80) fun d => { d with lines := d.lines.filter fun l => !mask.testBit l.cls }
  else s.modSeq s.cur fun q => { q with acqs := q.acqs ++ [(q.reqNum, mask)] }

/-- The acquire of a barrier's wait (14 R344). -/
def State.acquires (s : State) (b : Nat) : State :=
  let x := s.barrier b
  if x.reach < 2 then s else s.acquiresMask x.clsmask.toNat

/-- The slot's accesses bear numbers below the next one. -/
def State.reqsNumbered (s : State) : Prop := ∀ r ∈ (s.slot s.cur).seq.reqs, r.num < (s.slot s.cur).seq.reqNum

/-- A wait at a barrier ends, and writes a generation. -/
def State.barrierPassed (s : State) (b : Nat) (d : BitVec 6) (v : Nat) : State :=
  ((s.acquires b).withResult d (BitVec.ofNat 64 v) 1).modSeq s.cur fun q => { q with waitFrom := none }

/-- The word sleeps. -/
def State.sleeping (s : State) (w : Sleep) : State :=
  s.modSeq s.cur fun q => { q with sleep := some w, waitFrom := some (q.waitFrom.getD s.now) }

/-- A wait sleeps at a barrier. -/
def Slot.atBarrier (sl : Slot) (b : Nat) : Prop := ∃ g d own, sl.seq.sleep = some (.barrier b g d own)

/-- The generation has completed (14 R344). -/
def Barrier.passed (x : Barrier) (g : Nat) : Prop := (x.gen - BitVec.ofNat 32 g - 1).toNat < 2 ^ 31

/-- A slot waits for a generation of a barrier that has not completed. -/
def Slot.waitsAt (sl : Slot) (x : Barrier) (b : Nat) : Prop := ∃ g d own, sl.seq.sleep = some (.barrier b g d own) ∧ ¬ x.passed g

/-- `u` is `s` after an Armed barrier has broken: the waits whose generation has not completed raise BARRIERBROKEN, those of stopped slots once
they go on (14 R335, R344). -/
def State.Broken (s u : State) (b cause : Nat) : Prop :=
  let x := s.barrier b
  u.barrier b = { x with phase := .broken, cause := BitVec.ofNat 8 cause, localDone := false, frames := 0 }
  ∧ u.mem = s.mem ∧ u.hub.sent = s.hub.sent ++ (if x.level = 3 then s.barrierReports b .barrierBreak else [])
  ∧ (∀ n, ¬ (n < 320 ∧ (s.slot n).waitsAt x b) → u.slot n = s.slot n)
  ∧ ∀ n < 320, (s.slot n).waitsAt x b →
      let status := b + cause % 256 * 2 ^ 8 + x.gen.toNat * 2 ^ 32
      ((s.slot n).stop ≠ none → (u.slot n).seq.sleep = some (.broken status) ∧ (u.slot n).stop = (s.slot n).stop)
      ∧ ((s.slot n).stop = none → (u.slot n).seq.sleep = none ∧ ∃ r ∈ u.hub.traps.table, (u.slot n).stop = some ⟨r.id, .S, 0x0D, false⟩
          ∧ r.body.code = 0x0D ∧ r.body.who = .slot n .S ∧ r.body.status = status)

/-- The barrier takes reports of a peer for a context. -/
def Barrier.listens (x : Barrier) (c peer : Nat) : Prop :=
  x.phase = .armed ∧ x.ctx.toNat = c ∧ x.level = 3 ∧ x.peermask.getLsbD peer = true

/-- Only translation buffers differ (10 R273; 14 R345). -/
def State.Looked (s u : State) : Prop :=
  u = { s with cores := u.cores, dies := u.dies } ∧ (∀ c, u.core c = { s.core c with tlb := (u.core c).tlb })
  ∧ ∀ d, u.die d = { s.die d with tlb := (u.die d).tlb }

/-! ### Contexts -/

/-- The number of a context's state (15 R346). -/
def stateNumber (p : CtxPhase) : Nat := [CtxPhase.free, .idle, .loading, .resident, .saving, .held].idxOf p

/-- A word of the sequencer may name a context (15 R358). -/
def State.mayName (s : State) (c : Nat) : Prop :=
  let own := (s.slot s.cur).act.inctag.toNat / 64
  c < 2 ^ 12 ∧ (c = own ∨ (s.ctx own).priv = true) ∧ (s.ctx c).phase ≠ .free

/-- `u` is `s` after a reclaim fence of a context has started (15 R355). -/
def State.FenceStarted (s u : State) (c : Nat) : Prop :=
  let x := s.ctx c
  let peers := if x.image.npeer = 0 then [] else List.range (Tab.get [] s.hub.ctx.peers c).length
  u.ctx c = { x with rclf := some ⟨x.inc, x.outst.toNat, peers, false⟩ } ∧ u.mem = s.mem
  ∧ (∀ k, k ≠ c → u.ctx k = s.ctx k) ∧ (∀ k, u.ctxWork k = s.ctxWork k)
  ∧ u.hub.sent = s.hub.sent ++ peers.zipIdx.map (fun n =>
      { ctx := c, peer := n.1, job := x.image.job, src := Config.freeNat (s.free + n.2) % 256, inc := x.inc, cls := 0, stream := 0,
        kind := .fenceReq, arg := x.inc.toNat, cmd := 0, payload := [], frames := 0 })
  ∧ (∀ n, (∀ reg, (s.slot n).seq.sleep ≠ some (.rclf c reg 64)) → u.slot n = s.slot n)
  ∧ ∀ n reg, (s.slot n).seq.sleep = some (.rclf c reg 64) → (u.slot n).seq.sleep = some (.rclf c reg x.inc.toNat)

/-- The image at a physical address (15 R347). -/
def State.imageIn (s : State) (at_ : Nat) : Image :=
  let f (off lo n : Nat) : Nat := s.number (at_ + off) 16 / 2 ^ lo % 2 ^ n
  { slice := BitVec.ofNat 32 (f 0 32 32), prio := BitVec.ofNat 4 (f 0 28 4), ptroot := BitVec.ofNat 42 (f 8 0 42),
    gcp := BitVec.ofNat 56 (f 0x10 0 56), bcount := BitVec.ofNat 13 (f 0x18 16 13), bfirst := BitVec.ofNat 12 (f 0x18 0 12),
    key := BitVec.ofNat 128 (f 0x40 0 128), tensorid := BitVec.ofNat 24 (f 0x50 32 24), stepno := BitVec.ofNat 32 (f 0x50 0 32),
    peertab := BitVec.ofNat 56 (f 0x58 0 56), job := BitVec.ofNat 32 (f 0x60 32 32), npeer := BitVec.ofNat 7 (f 0x60 0 7) }

/-- The checks of CREATE on a context's image (15 R346, R347, R349). -/
def State.imageLegal (s : State) (c : Nat) : Prop :=
  let at_ := (s.ctx c).cimg.toNat
  let i := s.imageIn at_
  let zero (off lo n : Nat) : Prop := s.number (at_ + off) 8 / 2 ^ lo % 2 ^ n = 0
  16384 ∣ at_ ∧ at_ + 16384 ≤ s.hbmEnd ∧ zero 0 18 10 ∧ zero 8 42 22 ∧ zero 0x10 56 8 ∧ zero 0x18 29 35 ∧ zero 0x18 12 4 ∧ zero 0x50 56 8
  ∧ zero 0x58 56 8 ∧ zero 0x60 7 25 ∧ s.number (at_ + 0x68) 24 = 0 ∧ s.number (at_ + 0x100) 0xF00 = 0
  ∧ 16384 ∣ i.ptroot.toNat ∧ i.ptroot.toNat + 16384 ≤ s.hbmEnd ∧ 65536 ∣ i.gcp.toNat ∧ i.gcp.toNat + 2 ^ 20 ≤ s.hbmEnd
  ∧ 64 ∣ i.peertab.toNat ∧ i.peertab.toNat + 16 * i.npeer.toNat ≤ s.hbmEnd ∧ (i.npeer = 0 → i.peertab = 0) ∧ i.npeer.toNat ≤ 64
  ∧ i.bfirst.toNat + i.bcount.toNat ≤ 4096
  ∧ ∀ p ∈ s.hub.ctx.regs, p.1 ≠ c → p.2.phase ≠ .free → ∀ n, i.bfirst.toNat ≤ n → n < i.bfirst.toNat + i.bcount.toNat →
      ¬ (p.2.image.bfirst.toNat ≤ n ∧ n < p.2.image.bfirst.toNat + p.2.image.bcount.toNat)

/-- A peer as its entry in memory gives it (16 R377). -/
def peerOf (e : Nat) : Peer :=
  { faddr := BitVec.ofNat 64 (e / 2 ^ 64), portmask := BitVec.ofNat 8 (e / 2 ^ 56), keyidx := BitVec.ofNat 8 (e / 2 ^ 40),
    enc := decide (e / 2 ^ 39 % 2 = 1), swkey := decide (e / 2 ^ 38 % 2 = 1), rank := BitVec.ofNat 32 e }

/-- The entry of a peer is legal, and its encryption has been agreed on (16 R377; 19 R430). -/
def State.peerLegal (s : State) (e : Nat) : Prop :=
  e / 2 ^ 48 % 2 ^ 8 = 0 ∧ e / 2 ^ 32 % 2 ^ 6 = 0 ∧ e / 2 ^ 56 % 2 ^ 8 ≠ 0 ∧ (e / 2 ^ 39 % 2 = 1 → s.hub.dev.agreed.getLsbD 4 = true)

/-- The context waits for a place: it is Idle, no kill of it is under way, and it has a record or a node to run (15 R357). -/
def State.wantsPlace (s : State) (c : Nat) (x : Ctx) : Prop :=
  x.phase = .idle ∧ (s.ctxWork c).broadcasting = 0
  ∧ ((∃ p ∈ s.hub.queues, p.2.phase ≠ .unbound ∧ p.2.ctx.toNat = c ∧ p.2.tail ≠ p.2.head)
    ∨ ∃ p ∈ s.hub.spool.graphs, p.2.tag.toNat / 64 = c ∧ ∃ y ∈ p.2.nodes, y.phase = .ready ∨ y.phase = .due)

/-- The context that is loaded next: no other has a higher PRIO, and none before it the same. -/
def State.loadsNext (s : State) (c : Nat) (x : Ctx) : Prop :=
  ∃ before after, s.hub.ctx.regs = before ++ (c, x) :: after ∧ s.wantsPlace c x
    ∧ (∀ p ∈ before, s.wantsPlace p.1 p.2 → (s.ctx p.1).image.prio < (s.ctx c).image.prio)
    ∧ ∀ p ∈ after, s.wantsPlace p.1 p.2 → (s.ctx p.1).image.prio ≤ (s.ctx c).image.prio

/-- No activation and no Tether command of a context is left (15 R351). -/
def State.restsAt (s : State) (c : Nat) : Prop :=
  let mine (t : BitVec 18) : Prop := t.toNat / 64 = c
  (∀ p ∈ s.slots, p.2.busy = true → ¬ mine p.2.act.inctag) ∧ (∀ p ∈ s.cores, ∀ d ∈ p.2.commq, ¬ mine d.tag)
  ∧ ∀ p ∈ s.hub.streams, (∀ d ∈ p.2.queue, ¬ mine d.tag) ∧ ∀ r, p.2.run = some r → ¬ mine r.cmd.tag

/-- A peer's every port carries nothing (16 R376). -/
def State.cutOff (s : State) (c n : Nat) : Prop :=
  ∀ p, (Tab.get [] s.hub.ctx.peers c)[n]? = some p → ∀ i < 8, p.portmask.getLsbD i = true →
    (s.link (9 + i)).phase ≠ .up ∧ (s.link (9 + i)).phase ≠ .degraded

/-- No endpoint of the package holds a request of a context with another incarnation (15 R355). -/
def State.fenceSeen (s : State) (c v : Nat) : Prop :=
  let late (t : BitVec 18) : Prop := t.toNat / 64 = c ∧ t.toNat % 64 ≠ v
  (∀ p ∈ s.slots, ∀ x ∈ p.2.strays, ¬ late x.tag) ∧ ∀ p ∈ s.dies, ∀ e ∈ p.2.accepted, ¬ late e.tag

/-- Only the bytes of some ranges of memory differ. -/
def State.sameMemBut (s u : State) (l : List (Nat × Nat)) : Prop := ∀ a, (∀ r ∈ l, ¬ (r.1 ≤ a ∧ a < r.1 + r.2)) → u.mem.read a = s.mem.read a

/-! ### Records, traps and traces -/

/-- The 512 bits of a record (18 R408). -/
def recordNumber (x : Record) (seq : Nat) (pend : Bool) : Nat :=
  let f (v lo n : Nat) : Nat := v % 2 ^ n * 2 ^ lo
  let (slot, engine) := match x.who with
    | .slot n .S => (n, 0)
    | .slot n .V => (n, 1)
    | .slot n .M => (n, 2)
    | .slot n .A => (n, 3)
    | .winch n => (n, 4)
    | .tether n => (n, 5)
    | .hub => (2 ^ 10 - 1, 6)
    | .spool => (2 ^ 10 - 1, 7)
  f ((x.tag.map BitVec.toNat).getD 0) 0 18 + f slot 18 10 + f engine 28 4 + f x.code 32 8 + f x.warn.toNat 40 1 + f x.tag.isNone.toNat 41 1
    + f pend.toNat 42 1 + f seq 48 16 + f x.widxS 64 24 + f x.widxV 88 24 + f x.widxM 112 24 + f x.widxA 136 24 + f x.stamp 192 64
    + f x.cursor 256 64 + f x.addr 320 64 + f x.status 384 64

/-- The ring is enabled and has room (18 R411). -/
def Ring.takes (r : Ring) : Prop := r.en = true ∧ (r.tail - r.head).toNat < 2 ^ r.log2n.toNat

/-- The physical address of the next record of a ring. -/
def Ring.nextAt (r : Ring) : Nat := r.base.toNat + 64 * (r.tail.toNat % 2 ^ r.log2n.toNat)

/-- A record has been written to its ring, with the interrupt of the ring (18 R410, R411). The trace may hold an entry of it. -/
def State.RecordPut (s u : State) (trap : Bool) (x : Record) (pend : Bool) : Prop :=
  let r := if trap then s.hub.traps.trap else s.hub.traps.event
  (∀ a, u.mem.read a = overlaid s.mem.read r.nextAt (bytesOf 64 (recordNumber x r.tail.toNat pend)) a)
  ∧ u.hub.traps.trap = (if trap then { r with tail := r.tail + 1 } else s.hub.traps.trap)
  ∧ u.hub.traps.event = (if trap then s.hub.traps.event else { r with tail := r.tail + 1 })
  ∧ u.hub.ep = (if r.intr then (s.raiseVector r.vector.toNat).hub.ep else s.hub.ep)
  ∧ u.slots = s.slots ∧ u.dies = s.dies ∧ (∀ c, u.core c = { s.core c with trace := (u.core c).trace })
  ∧ (trap = false → u.cores = s.cores ∧ u.agenda = s.agenda ∧ u.hub = { s.hub with traps := u.hub.traps, ep := u.hub.ep })

/-- An event has been written, or counted as lost (18 R411). -/
def State.EventMade (s u : State) (x : Record) : Prop :=
  let r := s.hub.traps.event
  (r.takes → r.nextAt + 64 ≤ s.hbmEnd → s.RecordPut u false x false ∧ u.hub.traps.table = s.hub.traps.table)
  ∧ (¬ r.takes → u = { s with hub := { s.hub with traps := { s.hub.traps with
        event := { r with lost := BitVec.ofNat 32 (min (2 ^ 32 - 1) (r.lost.toNat + 1)) } } } })

/-- A fatal record that waits for its resolution under a SEQ (18 R413). -/
def FaultEntry.awaits (f : FaultEntry) (seq : BitVec 16) : Prop := f.seq = some seq.toNat ∧ f.body.pending = true ∧ f.resolved = false

/-- A written record that is resolved with its writing: of a final class, with a winch command or a walk to end (18 R413). -/
def FaultEntry.settles (f : FaultEntry) : Prop := f.body.pending = false ∧ f.resolved = false ∧ (f.winchCmd ≠ none ∨ f.walk ≠ none)

/-- RESUME lets its agent go on (18 R409). -/
def FaultEntry.resumable (f : FaultEntry) : Prop :=
  f.body.code = 0x05 ∨ f.body.code = 0x11 ∨ f.body.code = 0x12 ∨ ((f.body.code = 0x08 ∨ f.body.code = 0x09) ∧ f.walk.isSome = true)

/-- The slot is stopped by a record, and not for good. -/
def Slot.stoppedBy (sl : Slot) (id : Nat) : Prop := ∃ t, sl.stop = some t ∧ t.id = id ∧ t.final = false

/-- A stopped slot that goes on: its faulted accesses are walked afresh, and its stopped commands go on from their cursors. -/
def Slot.continued (sl : Slot) : Slot :=
  let again (c : StreamCmd) : StreamCmd := { c with stopped := none }
  { sl with
    stop := none
    seq := { sl.seq with reqs := sl.seq.reqs.map fun r => if r.stage = .faulted then { r with stage := .walk } else r }
    asy := { sl.asy with loads := sl.asy.loads.map again, stores := sl.asy.stores.map again } }

/-- Slots and winch commands that a record stopped go on (18 R409, R413; 10 R274). -/
def State.WentOn (s u : State) (id : Nat) (but : Nat → Prop) : Prop :=
  (∀ n, ¬ but n → (s.slot n).stoppedBy id →
    (∀ t, (s.slot n).stop = some t → t.code ≠ 0x11 → u.slot n = (s.slot n).continued)
    ∧ ((u.slot n).stop = none ∧ ∀ t, (s.slot n).stop = some t → t.code = 0x11 → (u.slot n).seq.pc.pos = (s.slot n).seq.pc.pos + 1))
  ∧ (∀ n, ¬ but n → ¬ (s.slot n).stoppedBy id → u.slot n = s.slot n)
  ∧ ∀ w, (u.winch w).queue = (s.winch w).queue.map fun c =>
      if c.stage = .held ∧ c.fault = some id then { c with stage := .resumed, fault := none } else c

/-- An access of the slot is discarded by a final stop: it has faulted, or is held behind one that has (18 R459). -/
def Slot.discarded (sl : Slot) (r : GReq) : Prop :=
  r.stage = .faulted ∨ (r.stage = .walk ∧ ∃ x ∈ sl.seq.reqs, x.stage = .faulted ∧ x.cls = r.cls ∧ x.num < r.num)

/-- A slot after its stop has become final (18 R413): of a stopped command nothing further leaves, and no signal behind it is made (08 R205,
R215). -/
def Slot.StoppedForGood (sl v : Slot) (t : Stop) : Prop :=
  v.stop = some { t with final := true } ∧ v.mat = { sl.mat with buf := [] } ∧ v.vec = sl.vec ∧ v.regs = sl.regs ∧ v.act = sl.act
  ∧ v.seq.pc = sl.seq.pc ∧ v.seq.sleep = none ∧ (∀ r, r ∈ v.seq.reqs ↔ r ∈ sl.seq.reqs ∧ ¬ sl.discarded r)
  ∧ (∀ c ∈ v.asy.loads ++ v.asy.stores, c.stopped ≠ none → c.next = c.total) ∧ (∀ c ∈ sl.asy.loads, c.stopped = none → c ∈ v.asy.loads)
  ∧ (∀ c ∈ sl.asy.stores, c.stopped = none → c ∈ v.asy.stores)
  ∧ let cut (p : Nat) : Prop := ∃ c ∈ sl.asy.loads ++ sl.asy.stores, c.stopped ≠ none ∧ c.pos < p
    (∀ g ∈ v.signals, g.eng = .A → ¬ cut g.pos)
    ∧ ∀ g ∈ sl.signals, g.eng ≠ .A ∨ ¬ cut g.pos → ∃ h ∈ v.signals, h.eng = g.eng ∧ h.pos = g.pos

/-- The winch command of an aborted record ends, or ends at the next switch-in of its context; the commands that joined its fault go on (08 R225;
18 R413). -/
def State.CommandCut (s u : State) (f : FaultEntry) (w num : Nat) : Prop :=
  ∀ b c rest, (s.winch w).queue = b ++ c :: rest → (∀ d ∈ b, d.num ≠ num) → (∀ d ∈ rest, d.num ≠ num) → c.num = num →
    let goes (l : List WCmd) : List WCmd := l.map fun d => if d.stage = .held ∧ d.fault = some f.id then { d with stage := .resumed, fault := none } else d
    ((s.ctx (c.tag.toNat / 64)).phase = .resident → (u.winch w).queue = goes (b ++ rest))
    ∧ ((s.ctx (c.tag.toNat / 64)).phase ≠ .resident →
        (u.winch w).queue = goes b ++ { c with stage := .aborting, fault := some f.body.code } :: goes rest)

/-- The first word of an entry of the trace (18 R417). -/
def entryWord (type side engine word data : Nat) : BitVec 64 :=
  BitVec.ofNat 64 (type * 2 ^ 59 + side * 2 ^ 58 + engine * 2 ^ 56 + word % 2 ^ 24 * 2 ^ 32 + data % 2 ^ 32)

/-- The state with other rings, and all else the same. -/
def State.withRing (s : State) (event : Bool) (r : Ring) : State :=
  { s with hub := { s.hub with traps := if event then { s.hub.traps with event := r } else { s.hub.traps with trap := r } } }

/-! ### Packets between packages -/

/-- The packet's constructor, and the KIND it has in its header (16 R373). -/
def packetEvent (p : Arrival) : List (Nat × Instr) :=
  [(0, .packetData p), (0, checkEvent p), (1, .packetRelease p), (2, .fenceRequestPacket p), (3, .fenceConfirmPacket p), (4, .barrierDoneReport p),
    (5, .barrierBreakReport p)]

/-- A link carries traffic (16 R362). -/
def State.carries (s : State) (l : Nat) : Prop := (s.link l).phase = .up ∨ (s.link l).phase = .degraded

/-- A context's image names a job (16 R374). -/
def Ctx.ofJob (x : Ctx) (job : Nat) : Prop := x.phase ≠ .free ∧ x.image.npeer ≠ 0 ∧ x.image.job.toNat = job

/-- The state with one more NOJOB, or one more UNCORR, at a port. -/
def State.noJobAt (s : State) (port : Nat) : State :=
  s.modLink (9 + port) fun l => { l with nojob := BitVec.ofNat 32 (min (2 ^ 32 - 1) (l.nojob.toNat + 1)) }
def State.uncorrAt (s : State) (port : Nat) : State :=
  s.modLink (9 + port) fun l => { l with uncorr := BitVec.ofNat 32 (min (2 ^ 32 - 1) (l.uncorr.toNat + 1)) }

/-- A stale item of a context that is not Free has been counted (15 R353; 18 R416). -/
def State.staleAt (s : State) (c : Nat) : State :=
  (s.modCtx c fun x => { x with stale := BitVec.ofNat 32 (min (2 ^ 32 - 1) (x.stale.toNat + 1)) }).modCtxWork c fun w =>
    { w with newStale := w.newStale + 1 }

/-- The command with the packet's codes: whole elements, from the element at the packet's offset on; and it holds data of the sender's stream and
class. -/
def TRun.Took (r v : TRun) (p : Arrival) : Prop :=
  let peer := partOf p 64 8
  let of_ := (peer, partOf p 76 4, partOf p 80 4)
  let w := r.cmd.width
  let off := partOf p 0 64
  v = { r with received := v.received, took := if of_ ∈ r.took then r.took else of_ :: r.took }
  ∧ (∀ q, q ≠ peer → Tab.find v.received q = Tab.find r.received q)
  ∧ ∀ e, Tab.find (Tab.get [] v.received peer) e =
      if off ≤ e * w ∧ e * w < off + (bodyOf p).length then some (numberAt (fun j => (bodyOf p).getD (e * w - off + j) 0) w)
      else Tab.find (Tab.get [] r.received peer) e

/-- Data of the sender's stream and class that a command of context `c` has taken stand nowhere yet (16 R375). -/
def State.holdsData (s : State) (p : Arrival) (c : Nat) : Prop :=
  ∃ x ∈ s.hub.streams, ∃ r, (x.2.run = some r ∨ x.2.lane = some r) ∧ r.cmd.ctx = c ∧ r.written = false
    ∧ (partOf p 64 8, partOf p 76 4, partOf p 80 4) ∈ r.took

/-- A confirmation has been sent: of a fence of a context's job, or of one of no context (15 R355; 16 R373). SRCPEER is a free value (log 9). -/
def State.confirms (s : State) (c peer : Nat) (job : BitVec 32) (inc : BitVec 6) (arg : Nat) : State :=
  ({ s with free := s.free + 1 } : State).modHub fun h => { h with sent := h.sent ++ [
    { ctx := c, peer := peer, job := job, src := Config.freeNat s.free % 256, inc := inc, cls := 0, stream := 0, kind := .fenceConfirm, arg := arg,
      cmd := 0, payload := [], frames := 0 }] }

/-- A fault of a unit of the hub has been recorded for a context (18 R411). -/
def State.HubFaulted (s u : State) (who : Raiser) (c code status : Nat) : Prop :=
  u.slots = s.slots ∧ u.cores = s.cores ∧ u.dies = s.dies ∧ u.mem = s.mem ∧ u.hub.streams = s.hub.streams
  ∧ ∃ x, u.hub.traps.table = s.hub.traps.table ++ [x] ∧ x.body.code = code ∧ x.body.who = who ∧ x.body.status = status
      ∧ x.body.tag = some (BitVec.ofNat 18 c) ∧ x.body.pending = false

/-! ### Links, the host and wall time -/

/-- The full width of a link, and the least that leaves it Degraded (16 R362). -/
def laneCount (l : Nat) : Nat := if l < 8 then 2 else if l = 8 then 16 else 8

/-- A LINKUP or LINKDOWN event (18 R415). -/
def State.linkRecord (s : State) (code l lanes : Nat) : Record :=
  { code := code, who := .hub, tag := none, warn := false, pending := false, status := l + lanes * 2 ^ 8, addr := 0, cursor := 0
    stamp := s.now, mode := 0, widxS := 2 ^ 24 - 1, widxV := 2 ^ 24 - 1, widxM := 2 ^ 24 - 1, widxA := 2 ^ 24 - 1 }

/-- A route joins a die to the hub over links that are neither Down nor Failed (16 R365, R366). -/
inductive State.Joined (s : State) : Nat → Prop
  | hub (d : Nat) : d < 4 → (s.link d).phase ≠ .down → (s.link d).phase ≠ .failed → Joined s d
  | up (d : Nat) : Joined s d → (s.link (4 + d)).phase ≠ .down → (s.link (4 + d)).phase ≠ .failed → Joined s ((d + 1) % 4)
  | back (d : Nat) : d < 4 → Joined s ((d + 1) % 4) → (s.link (4 + d)).phase ≠ .down → (s.link (4 + d)).phase ≠ .failed → Joined s d

/-- A context has an activation, a winch command or a near-store line on a die (16 R366). -/
def State.onDie (s : State) (c d : Nat) : Prop :=
  (∃ p ∈ s.slots, p.2.busy = true ∧ p.1 / 80 = d ∧ p.2.act.inctag.toNat / 64 = c)
  ∨ (∃ w, 6 * d ≤ w ∧ w < 6 * d + 6 ∧ ∃ x ∈ (s.winch w).queue, x.tag.toNat / 64 = c) ∨ ∃ l ∈ (s.die d).lines, l.tag.toNat / 64 = c

/-- A link has gone down to `v`: its event, and the loss of each die that no route joins any more (16 R364, R366). -/
def State.WentDown (v u : State) (l : Nat) : Prop :=
  let cut (d : Nat) : Prop := d < 4 ∧ ¬ v.Joined d ∧ (v.die d).lost = false
  ((∀ d, ¬ cut d) → v.EventMade u (v.linkRecord 0x89 l 0))
  ∧ ∀ d, cut d → (u.die d).lost = true ∧ ∀ c x, (c, x) ∈ v.hub.ctx.regs → x.phase ≠ .free → (v.ctx c).phase ≠ .free → c < 4096 → (v.ctxWork c).killAt ≠ v.now + 1 → v.onDie c d →
      (u.ctx c).kcause = 3 ∧ ∃ r ∈ u.hub.traps.table, r.body.code = 0x0F ∧ r.body.who = .hub ∧ r.body.status = l + 2 ^ 8
        ∧ ∃ t, r.body.tag = some t ∧ t.toNat / 64 = c

/-- A lifetime counter has grown by one (18 R423). -/
def State.lifeUp (s : State) (i : Nat) : State :=
  s.modHub fun h => { h with life := h.life.put i (BitVec.ofNat 64 (min (2 ^ 64 - 1) ((Tab.get 0 h.life i).toNat + 1))) }

def upTo32 (x : BitVec 32) : BitVec 32 := BitVec.ofNat 32 (min (2 ^ 32 - 1) (x.toNat + 1))

/-! ### The frame boundary -/

/-- The frame that a context stands in (13 R324). -/
def State.frameOf (s : State) (c : Nat) : Int := (s.now / 2 ^ 14 : Nat) - ((s.ctx c).foff.toNat : Int)

/-- A context may yield its place to a context that waits (15 R357); `cw1` is its count of frames. -/
def State.yields (s : State) (cw1 : Nat → Nat) (c w : Nat) : Prop :=
  let x := s.ctx c
  x.phase = .resident ∧ (s.ctxWork c).leaving = false
  ∧ (x.yieldreq = true ∨ (x.image.slice ≠ 0 ∧ x.image.slice.toNat ≤ cw1 c ∧ x.swcost.toNat ≤ 2 ^ 14 * cw1 c ∧ (s.ctxWork c).nodeDone = true
      ∧ x.image.prio ≤ (s.ctx w).image.prio))

/-- Of two contexts that may yield, the first is taken first (15 R357). -/
def State.before (s : State) (cw1 : Nat → Nat) (c d : Nat) : Prop :=
  let x := s.ctx c
  let y := s.ctx d
  (x.yieldreq = true ∧ y.yieldreq = false) ∨ (x.yieldreq = y.yieldreq ∧ (x.image.prio < y.image.prio ∨ (x.image.prio = y.image.prio ∧
    (cw1 d < cw1 c ∨ (cw1 c = cw1 d ∧ c < d)))))

/-- The graphs that a queue's running record has launched, all of which made no progress in the frame that ended, though one of them was awake
(12 R310). -/
def State.stalled (s : State) (g : Nat) : Prop :=
  (∀ p ∈ s.hub.spool.graphs, s.rootOf 8 p.1 = g → p.2.progress = false)
  ∧ ∃ p ∈ s.hub.spool.graphs, s.rootOf 8 p.1 = g ∧ p.2.awake = true

/-- The watchdog count of a queue after a frame (12 R310). -/
def State.CountsTo (s : State) (x : WorkQueue) (n : BitVec 32) : Prop :=
  let off := x.running = none ∨ x.wdogLim = 0 ∨ x.feed = true ∨ x.phase ≠ .active
  (off → n = 0) ∧ (¬ off → (s.ctxWork x.ctx.toNat).wasResident = false → n = x.wdogCnt)
  ∧ ∀ g, x.running = some g → ¬ off → (s.ctxWork x.ctx.toNat).wasResident = true → (s.stalled g → n = upTo32 x.wdogCnt) ∧ (¬ s.stalled g → n = 0)

/-- A record of the hub about a context. -/
def State.hubRecord (s : State) (code c cursor : Nat) : Record :=
  { code := code, who := .hub, tag := some (s.ctxTag c), warn := false, pending := false, status := 0, addr := 0, cursor := cursor
    stamp := s.now, mode := 0, widxS := 2 ^ 24 - 1, widxV := 2 ^ 24 - 1, widxM := 2 ^ 24 - 1, widxA := 2 ^ 24 - 1 }

/-- A slot runs an activation of the graph that a queue's record launched, and none before it in the table of slots does. -/
def State.lowestOf (s : State) (g n : Nat) : Prop :=
  ∃ before sl after, s.slots = before ++ (n, sl) :: after ∧ sl.busy = true ∧ s.rootOf 8 sl.act.graph = g
    ∧ ∀ p ∈ before, ¬ (p.2.busy = true ∧ s.rootOf 8 p.2.act.graph = g)

/-! ### Bring-up and registers -/

/-- The state with other device-control registers. -/
def State.withDev (s : State) (d : DeviceCtl) : State := s.modHub fun h => { h with dev := d }

/-- Every part of the package at its reset state, but the non-volatile store and these lifetime counters (00 R9; 18 R423). -/
def State.resetWith (s : State) (life : Tab (BitVec 64)) : State :=
  { State.reset with free := s.free, stuck := s.stuck, hub := { Hub.reset with nv := s.hub.nv, life := life } }

/-- The image that Keel checks in a stage, its header and what stands behind it: that of the flash, or, where it has restarted with the
host's image, the image area's (19 R426). -/
def State.imageOf (s : State) (image : FlashImage) : Nat × List Byte :=
  let area (at_ n : Nat) : List Byte := (List.range n).map fun i => s.hub.dev.image.read (at_ + i)
  if s.hub.dev.stage = 1 ∧ s.hub.dev.fromHost = true then (ofBytes (area 0 256), area 256 (0x800000 - 256)) else (image.header.toNat, image.rest)

/-- The codes of the checks of an image of a kind that fail, in their order (19 R425). -/
def State.imageFaults (s : State) (image : FlashImage) (kind : Nat) : List Nat :=
  let (h, rest) := s.imageOf image
  let f (lo n : Nat) : Nat := h / 2 ^ lo % 2 ^ n
  let pay := f 256 64
  let sig := f 320 32
  let format : Bool := f 0 32 == 0x4F4C5249 && f 32 8 == kind && f 41 7 == 0 && f 64 192 == 0 && f 608 1440 == 0 && pay % 64 == 0
    && decide (pay + sig ≤ rest.length)
    && (!s.hub.dev.fromHost || (decide (pay ≤ 0x800000 - 0x10000) && decide (sig ≤ 0x10000 - 256)))
  (if format then [] else [4])
    ++ (if imageSigned ((rest.drop pay).take sig) (bytesOf 256 h ++ rest.take pay) then [] else [1])
    ++ (if ofBigEnd (sha256 (rest.take pay)) = f 352 256 then [] else [2])
    ++ (if (if kind = 0 then s.hub.nv.minFw else s.hub.nv.minBs).toNat ≤ f 48 16 then [] else [3])

/-- The features offered become `f`; of AGREED only bit 0 follows (19 R429). -/
def DeviceCtl.Offers (d e : DeviceCtl) (f : BitVec 128) : Prop :=
  e = { d with devfeat := f, agreed := e.agreed }
  ∧ ∀ i, e.agreed.getLsbD i = if i = 0 then d.drvfeat.getLsbD 0 && f.getLsbD 0 else d.agreed.getLsbD i

/-- Links that are Down and not disabled enter Training; the others stay (16 R364). -/
def State.Trains (s u : State) (ls : List Nat) : Prop :=
  ∀ l, u.link l = if l ∈ ls ∧ (s.link l).phase = .down ∧ (s.link l).disable = false then { s.link l with phase := .training } else s.link l

/-- A lifetime counter of soft errors (18 R423). -/
def softCounter (i : Nat) : Prop := (128 ≤ i ∧ i ≤ 155) ∨ (160 ≤ i ∧ i ≤ 479)

/-- The histogram counter of a temperature (18 R423). -/
def tempIndex (t : Int) : Int := if t < 0 then 2 else if t < 120 then 2 + t / 8 else 17

/-- The state after an answer to the host. -/
def State.answered (s : State) (a : Option (List Byte)) : State := s.modHub fun h => { h with ep := { h.ep with answer := a } }

/-- The registers of a ring (18 R410). -/
def ringRows (s : State) (event : Bool) (at_ : Nat) : List (Nat × Nat × (State → State)) :=
  let r := if event then s.hub.traps.event else s.hub.traps.trap
  let zero (t : State) : State := t.withRing event { r with lost := 0 }
  [(at_, r.base.toNat, id),
    (at_ + 8, r.vector.toNat * 2 ^ 32 + r.log2n.toNat * 2 ^ 16 + r.killf.toNat * 4 + r.intr.toNat * 2 + r.en.toNat, id),
    (at_ + 16, r.tail.toNat, id), (at_ + 24, r.head.toNat, id), (at_ + 32, r.lost.toNat, zero)]

/-- What a read of a register returns, and the fields that it clears: device control, and the registers of one queue, barrier, context,
stream, semaphore and link (12 R291; 14 R333; 15 R346; 16 R363; 17 R383, R392; 19 R424). -/
def State.readRows (s : State) (q b c n m l : Nat) : List (Nat × Nat × (State → State)) :=
  let d := s.hub.dev
  let x := s.queue q
  let y := s.barrier b
  let z := s.ctx c
  let w := s.stream n
  let v := s.sem m
  let k := s.link l
  let phase (p : LinkPhase) : Nat := [LinkPhase.down, .training, .up, .degraded, .failed].idxOf p
  [(0x00, d.keelerr.toNat * 2 ^ 16 + d.diesok.toNat * 2 ^ 8 + d.service.toNat * 2 ^ 4 + d.stage.toNat, id),
    (0x10, d.devfeat.toNat % 2 ^ 64, id), (0x18, d.devfeat.toNat / 2 ^ 64, id), (0x20, d.drvfeat.toNat % 2 ^ 64, id),
    (0x28, d.drvfeat.toNat / 2 ^ 64, id), (0x30, d.agreed.toNat % 2 ^ 64, id), (0x38, d.agreed.toNat / 2 ^ 64, id), (0x40, 0, id),
    (0x48, d.current.toNat * 2 ^ 32 + d.power.toNat, id), (0x50, d.throttle.toNat, fun t => t.withDev { d with throttle := 0 }),
    (0x40000 + 64 * q, x.vector.toNat * 2 ^ 32 + x.ctx.toNat * 2 ^ 20 + x.cls.toNat * 2 ^ 16 + x.log2sz.toNat * 2 ^ 8 + x.intr.toNat * 2 ^ 5
      + x.feed.toNat * 2 ^ 4 + [QPhase.unbound, .active, .halted].idxOf x.phase, id),
    (0x40008 + 64 * q, x.qbase.toNat, id), (0x40010 + 64 * q, x.head.toNat, id), (0x40018 + 64 * q, x.tail.toNat, id),
    (0x40020 + 64 * q, x.commit.toNat, id), (0x40028 + 64 * q, 0, id), (0x4002C + 64 * q, 0, id),
    (0x40030 + 64 * q, x.wdogCnt.toNat * 2 ^ 32 + x.wdogLim.toNat, id),
    (0x40038 + 64 * q, x.refused.toNat * 2 ^ 32 + x.drops.toNat, State.modQueue q fun x => { x with refused := 0, drops := 0 }),
    (0x60000 + 64 * b, y.expect.toNat * 2 ^ 32 + y.ctx.toNat * 2 ^ 20 + y.ccls.toNat * 2 ^ 16 + y.team.toNat * 2 ^ 11 + y.die.toNat * 2 ^ 8
      + y.level.toNat * 2 ^ 6 + [BPhase.unbound, .armed, .broken].idxOf y.phase, id),
    (0x60008 + 64 * b, y.clsmask.toNat, id), (0x60010 + 64 * b, y.caddr.toNat, id), (0x60018 + 64 * b, y.peermask.toNat, id),
    (0x60020 + 64 * b, y.arr.toNat * 2 ^ 32 + y.gen.toNat, id), (0x60028 + 64 * b, y.tmo.toNat, id),
    (0x60030 + 64 * b, y.refused.toNat * 2 ^ 32 + y.cause.toNat, State.modBarrier b fun y => { y with refused := 0 }), (0x60038 + 64 * b, 0, id),
    (0x70000 + 64 * n, w.done.toNat * 2 ^ 32 + w.parked.length * 2 ^ 8 + s.streamState n, id),
    (0x70008 + 64 * n, w.late.toNat * 2 ^ 48 + w.refoff.toNat * 2 ^ 32 + w.semref.toNat,
      State.modStream n fun w => { w with late := 0, refoff := 0, semref := 0 }),
    (0x70010 + 64 * n, w.rate.toNat, id),
    (0x80000 + 64 * c, z.cimg.toNat, id), (0x80008 + 64 * c, z.priv.toNat, id),
    (0x80010 + 64 * c, z.rclfres.toNat * 2 ^ 34 + z.rclf.isSome.toNat * 2 ^ 33 + z.yieldreq.toNat * 2 ^ 32 + stateNumber z.phase * 2 ^ 24
      + z.outst.toNat * 2 ^ 8 + z.inc.toNat, id),
    (0x80018 + 64 * c, z.stale.toNat * 2 ^ 32 + z.orphan.toNat, State.modCtx c fun z => { z with stale := 0, orphan := 0 }),
    (0x80020 + 64 * c, z.refused.toNat * 2 ^ 32 + z.swcost.toNat, State.modCtx c fun z => { z with refused := 0 }), (0x80038 + 64 * c, 0, id),
    (0xC0000 + 32 * m, v.value.toNat, id), (0xC0008 + 32 * m, v.en.toNat * 2 ^ 16 + v.mcls.toNat * 2 ^ 12 + v.ctx.toNat, id),
    (0xC0010 + 32 * m, v.mirror.toNat, id),
    (0xF8000 + 8 * (32 + l), (Tab.get 0 s.hub.life (32 + l)).toNat, id),
    (0x100000 + 64 * l, k.lanes.toNat * 2 ^ 8 + phase k.phase, id),
    (0x100008 + 64 * l, k.corr.toNat * 2 ^ 32 + k.retrain.toNat, State.modLink l fun k => { k with corr := 0, retrain := 0 }),
    (0x100010 + 64 * l, k.uncorr.toNat * 2 ^ 32 + k.nojob.toNat, State.modLink l fun k => { k with uncorr := 0, nojob := 0 }),
    (0x100018 + 64 * l, k.disable.toNat, id), (0x100020 + 64 * l, k.pdelay.toNat, id), (0x130000, 0, id)]
  ++ ringRows s false 0xF0000 ++ ringRows s true 0xF0040

/-- What a write of a register does, for registers of the same units, rings, traces and the wall counter. -/
def State.writeRows (s : State) (q b c n m l core : Nat) (v : BitVec 64) : List (Nat × State) :=
  let f (lo n : Nat) : Nat := v.toNat / 2 ^ lo % 2 ^ n
  let low := f 0 32
  let half (hi : Bool) : State := s.acceptFeatures (if hi then v ++ BitVec.ofNat 64 s.hub.dev.drvfeat.toNat
    else BitVec.ofNat 64 (s.hub.dev.drvfeat.toNat / 2 ^ 64) ++ v)
  let ruled (t : State) : State := if (s.barrier b).phase = .unbound then t else s.refuseBarrier b
  let freeCtx (t : State) : State := if (s.ctx c).phase = .free then t else s.refuseCtx c
  [(0x00, s), (0x10, s), (0x18, s), (0x20, half false), (0x28, half true), (0x30, s),
    (0x40, if f 0 3 = 1 then s.commandFull else if f 0 3 = 2 then s.commandRecover else s), (0x48, s), (0x50, s),
    (0x40000 + 64 * q, s.modQueue q fun x =>
      let x := { x with vector := BitVec.ofNat 11 (f 32 11), intr := v.getLsbD 5 }
      if (s.queue q).phase = .unbound then
        { x with ctx := BitVec.ofNat 12 (f 20 12), cls := BitVec.ofNat 4 (f 16 4), log2sz := BitVec.ofNat 5 (f 8 5), feed := v.getLsbD 4 }
      else x),
    (0x40008 + 64 * q, if (s.queue q).phase = .unbound then s.modQueue q fun x => { x with qbase := BitVec.ofNat 56 (f 0 56) } else s),
    (0x40010 + 64 * q, s), (0x40018 + 64 * q, s), (0x40020 + 64 * q, s), (0x40028 + 64 * q, s.doorbell q (f 0 17)),
    (0x4002C + 64 * q, if low = 1 then s.queueBind q else if low = 2 then s.queueResume q else if low = 3 then s.queueUnbind q
      else s.refuseQueue q),
    (0x40030 + 64 * q, s.modQueue q fun x => { x with wdogLim := BitVec.ofNat 32 low }), (0x40038 + 64 * q, s),
    (0x60000 + 64 * b, ruled (s.modBarrier b fun y => { y with
      expect := BitVec.ofNat 9 (f 32 9), ctx := BitVec.ofNat 12 (f 20 12), ccls := BitVec.ofNat 4 (f 16 4), team := if f 11 5 < 20 then BitVec.ofNat 5 (f 11 5) else y.team
      die := if f 8 3 < 4 then BitVec.ofNat 3 (f 8 3) else y.die, level := BitVec.ofNat 2 (f 6 2) })),
    (0x60008 + 64 * b, ruled (s.modBarrier b fun y => { y with clsmask := BitVec.ofNat 16 (f 0 16) })),
    (0x60010 + 64 * b, ruled (s.modBarrier b fun y => { y with caddr := BitVec.ofNat 56 (f 0 56) })),
    (0x60018 + 64 * b, ruled (s.modBarrier b fun y => { y with peermask := v })), (0x60020 + 64 * b, s),
    (0x60028 + 64 * b, ruled (s.modBarrier b fun y => { y with tmo := BitVec.ofNat 32 low })), (0x60030 + 64 * b, s),
    (0x60038 + 64 * b, if low = 1 then s.barrierBind b else if low = 2 then s.barrierReset b else if low = 3 then s.barrierUnbind b
      else if low = 4 then s.barrierCommandBreak b else s.refuseBarrier b),
    (0x70010 + 64 * n, s.modStream n fun w => { w with rate := BitVec.ofNat 16 (f 0 16) }),
    (0x80000 + 64 * c, freeCtx (s.modCtx c fun z => { z with cimg := BitVec.ofNat 42 (f 0 42) })),
    (0x80008 + 64 * c, freeCtx (s.modCtx c fun z => { z with priv := v.getLsbD 0 })),
    (0x80038 + 64 * c, if low = 1 then s.createCtx c else if low = 2 then s.destroyCtx c else if low = 3 then s.commandKill c
      else if low = 4 then s.commandFence c else s.refuseCtx c),
    (0xC0000 + 32 * m, s.modSem m fun x => if x.en then x else { x with value := BitVec.ofNat 32 low }),
    (0xC0008 + 32 * m, s.modSem m fun x => if x.en then { x with en := v.getLsbD 16 } else
      { x with en := v.getLsbD 16, mcls := BitVec.ofNat 4 (f 12 4), ctx := BitVec.ofNat 12 (f 0 12) }),
    (0xC0010 + 32 * m, s.modSem m fun x => { x with mirror := BitVec.ofNat 56 (f 0 56) }),
    (0xF0000, if s.hub.traps.trap.en then s else s.withRing false { s.hub.traps.trap with base := BitVec.ofNat 42 (f 0 42) }),
    (0xF0018, s.withRing false { s.hub.traps.trap with head := BitVec.ofNat 32 low }),
    (0xF0028, if f 16 2 = 1 then s.resolveSeq (BitVec.ofNat 16 (f 0 16)) true else if f 16 2 = 2 then s.resolveSeq (BitVec.ofNat 16 (f 0 16)) false
      else s),
    (0xF0058, s.withRing true { s.hub.traps.event with head := BitVec.ofNat 32 low }),
    (0xF2008 + 32 * core, if s.diePresent (core / 40) = false then s else s.modCore core fun k => { k with trace := { k.trace with tbaddr := BitVec.ofNat 42 (f 0 42) } }),
    (0xF8000 + 8 * (32 + l), s),
    (0x100018 + 64 * l, if v.getLsbD 1 then (s.linkDisable l (v.getLsbD 0)).retrain l else s.linkDisable l (v.getLsbD 0)),
    (0x110000, s.modHub fun h => { h with ep := { h.ep with obase := BitVec.ofNat 23 (f 41 23) } }),
    (0x110100 + 8 * l, s.modHub fun h => { h with ep := { h.ep with
      windows := h.ep.windows.put l { phys := BitVec.ofNat 12 (f 30 12), peer := v.getLsbD 1, en := v.getLsbD 0 } } }),
    (0x120000, s.modHub fun h => { h with wall := { h.wall with port := if f 8 4 < 8 then BitVec.ofNat 4 (f 8 4) else h.wall.port, en := v.getLsbD 7 } }),
    (0x120008, s.setWall v), (0x400020, if v = 1 then s.attest else s)]

end Sys2Proof.Machine

open Sys2Proof Sys2Proof.Machine

/-- Each of 24 words that the worked examples of the spec write out decodes to the instruction and the field values that the example
states. -/
def Obligations.DecodesWords : Prop := ∀ p ∈ exampleWords, decode p.1 = some p.2

/-- For every instruction and every word, the encoder gives the instruction that word if and only if the decoder reads the instruction
from the word: no bit of an encoding is dropped, no two words are one instruction, and every word that is no encoding is rejected. -/
def Obligations.DecodeIffEncode : Prop := ∀ (i : Instr) (w : Word), encode i = some w ↔ decode w = some i

/-- When the next move is the turn of an engine of a slot, its counter stands at a word of that engine which the text holds, and the word
decodes to a well-formed instruction i, then step is exec of i at that state (its agenda shortened, the slot current, the counter's marks
those of the cycle), answered with a fault if the access it made does not exist. If the word does not decode, or decodes to an ill-formed
instruction, step executes NOT_AN_INSTRUCTION of that word instead, which raises ILLEGAL at the engine its tag names: the slot is stopped
with code ILLEGAL, unless it was stopped before. For the vector engine, the other slot of the core has no word ready to issue. (Readings
of the model, where it rests on one: logs 12, 78 and 81.) -/
def Obligations.StepRunsWord : Prop :=
  (∀ (s : State) (slot : Nat) (e : Engine) (w : Word) (rest : List Move),
    let t : State := { s with agenda := rest }
    s.stuck = none → s.agenda = .engine slot e :: rest → t.standsAt slot e w = true → (e = .V → (t.atWord slot e).rival slot = none) →
    (∀ i, decode w = some i → i.wellFormed = true → step s = settle (exec i (t.atWord slot e)))
    ∧ (((decode w).all fun i => !i.wellFormed) = true → step s = settle (exec (.notAnInstruction w) (t.atWord slot e))))
  ∧ ∀ (s : State) (w : Word), (s.slot s.cur).stop = none →
      ∃ t, exec (.notAnInstruction w) s = .next t
        ∧ ((t.slot s.cur).stop.map fun (x : Stop) => (x.eng, x.code, x.final)) = some (wordEngine w, fILLEGAL, false)
        ∧ t.mem = s.mem ∧ (t.slot s.cur).regs = (s.slot s.cur).regs

/-- When the next move is a package step of the opcode table at a unit, other than the two that a counter makes at its word, step is exec
of it with that unit current, answered with a fault if the access it made does not exist. A step at a unit number that the package does
not have, and a command of the host while link 8 carries no traffic, change nothing. (Readings of the model, where it rests on one: log
12.) -/
def Obligations.StepRunsEvent : Prop :=
  ∀ (s : State) (unit : Nat) (i : Instr) (rest : List Move),
    s.stuck = none → s.agenda = .event unit i :: rest → encode i = none →
    (∀ e, i ≠ .laggingOutcomeTake e) → (∀ w, i ≠ .notAnInstruction w) →
    (s.admits unit i = true → step s = settle (exec i { s with agenda := rest, cur := unit }))
    ∧ (s.admits unit i = false → step s = .next { s with agenda := rest })

/-- No step of any state is refused: every instruction and every package step of the table has a meaning in every state. (Readings of the
model, where it rests on one: log 12.) -/
def Obligations.StepNeverRefuses : Prop := ∀ (s : State) (r : Refusal), step s ≠ .refused r

/-- After package reset the stamp counter is zero; every slot is free, with g registers and tokens zero, no mask, no loop level and an
empty outcome queue, and SLIPW 256; every bank records mixed; no link is up; the package is in stage 0 with no service; every context is
Free, every queue and barrier Unbound; both rings are disabled; the wall counter is Stopped. (The zero of a register that the rules give
no reset value is the model's choice, logs 4 and 5.) -/
def Obligations.ResetValues : Prop :=
  let s := State.reset
  s.stamp = 0 ∧ s.hub.dev.stage = 0 ∧ s.hub.dev.service = 0 ∧ s.hub.wall.phase = .stopped
  ∧ s.hub.traps.trap.en = false ∧ s.hub.traps.event.en = false
  ∧ (∀ n, (s.slot n).busy = false ∧ (∀ g, (s.slot n).regs.getG g = 0) ∧ (∀ k, (s.slot n).regs.getK k = Token.reset)
      ∧ (s.slot n).regs.masks = [] ∧ (s.slot n).seq.pc.loops = [] ∧ (s.slot n).seq.outq = [] ∧ (s.slot n).seq.slipw = 256)
  ∧ (∀ c b, Tab.find (s.core c).banks b = none)
  ∧ (∀ l, (s.link l).phase = .down)
  ∧ (∀ c, (s.ctx c).phase = .free) ∧ (∀ q, (s.queue q).phase = .unbound) ∧ ∀ b, (s.barrier b).phase = .unbound

/-- At reset every memory of the package is in its canonical form, and the machine has made no access to an address that does not exist.
When step answers a next state, the machine has made no access to a physical address that the map of R260 leaves out. (The canonical form
is the model's own.) -/
def Obligations.RunningKept : Prop :=
  State.reset.memWf = true ∧ State.reset.running = true ∧ ∀ s t : State, step s = .next t → t.running = true

/-- Every ALU word whose registers are ready completes. Its result, by the formula that the table of R116 gives it on the operands as
unsigned and as two's complement numbers, is stored into g[D] modulo 2^64, at the word's latency. Nothing else changes: no flag, no other
register, no memory; no ALU word raises a fault for its values. -/
def Obligations.AluResults : Prop :=
  ∀ (s : State) (i : Instr) (w : AluWord), aluRule i = some w → s.issues i = true →
    let a := s.g w.a.toNat
    let b := s.g w.b.toNat
    let v := w.result a.toNat b.toNat a.toInt b.toInt ((s.slot s.cur).regs.getC w.flag)
    Completes (exec i s) .S (s.withResult w.d (BitVec.ofInt 64 v) w.latency)

/-- Each immediate form whose registers are ready completes with the result of its register counterpart, the sign-extended immediate
modulo 2^64 in place of g[B]. SHLI, SHRI and SARI with an immediate outside 0 to 63 raise ILLEGAL. LUI is the S.RI18 word of major 0x1B
and sets g[D] to the sign-extended immediate times 4096, modulo 2^64. -/
def Obligations.ImmediateResults : Prop :=
  (∀ (s : State) (i j : Instr) (imm : BitVec 12) (w : AluWord), immForm i = some (j, imm) → aluRule j = some w → s.issues i = true →
    let a := s.g w.a.toNat
    let b : Reg := imm.signExtend 64
    Completes (exec i s) .S (s.withResult w.d (BitVec.ofInt 64 (w.result a.toNat b.toNat a.toInt b.toInt false)) w.latency))
  ∧ (∀ (s : State) (d a : BitVec 6) (imm : BitVec 12) (i : Instr), imm.toInt < 0 ∨ 63 < imm.toInt → (s.slot s.cur).stop = none →
    i = .shli d a imm ∨ i = .shri d a imm ∨ i = .sari d a imm → Raises (exec i s) s .S 0x01 0 0)
  ∧ (∀ (d : BitVec 6) (imm : BitVec 18), encode (.lui d imm) = some (BitVec.ofNat 32 (0x1B * 2 ^ 24 + d.toNat * 2 ^ 18 + imm.toNat)))
  ∧ ∀ (s : State) (d : BitVec 6) (imm : BitVec 18), s.issues (.lui d imm) = true →
    Completes (exec (.lui d imm) s) .S (s.withResult d (BitVec.ofInt 64 (imm.toInt * 4096 % 2 ^ 64)) 1)

/-- CMP and CMPI whose registers are ready complete: the flag c[f] becomes 1 when the condition of the table holds of g[A] and of g[B] or
the sign-extended immediate, else 0. Nothing else changes. -/
def Obligations.Comparisons : Prop :=
  (∀ (s : State) (cc f : BitVec 3) (a b : BitVec 6) (v : Bool), s.issues (.cmp cc f a b) = true →
    (v = true ↔ cmpRule cc (s.g a.toNat) (s.g b.toNat)) → Completes (exec (.cmp cc f a b) s) .S (s.withFlag f v))
  ∧ ∀ (s : State) (cc f : BitVec 3) (a : BitVec 6) (imm : BitVec 12) (v : Bool), s.issues (.cmpi cc f a imm) = true →
    (v = true ↔ cmpRule cc (s.g a.toNat) (imm.signExtend 64)) → Completes (exec (.cmpi cc f a imm) s) .S (s.withFlag f v)

/-- A well-formed word of the sequencer that is no common-control word leaves the state as it is while a register it reads has an
interlocked result pending, or a register it writes has a pending write of either kind. Where neither holds, PENDDBG is 1 and it reads a
register with an exposed write pending, it raises EARLYREAD at engine S and has no effect in the cycle in which it would issue: an ALU
word, an immediate form and a comparison at once, and another word unless what else it waits for keeps it where it stands. When the
results of a slot are committed at a cycle, a g register or flag with exactly one pending write takes its value if the write is due and
keeps its old value otherwise, and a register with no pending write keeps its value; a write of g0 is discarded. A result of latency 1
stands in its register once the word that gives it has completed, and reading g0 gives zero. (Readings of the model, where it rests on
one: logs 33 and 34.) -/
def Obligations.PendingResults : Prop :=
  (∀ (s : State) (i : Instr) (w : Word), encode i = some w → i.wellFormed = true → wordEngine w = .S → isControl w = false →
    let q := (s.slot s.cur).seq
    ((Instr.reads i).any q.locked = true ∨ ((Instr.writes i).any fun r => q.exposed r || q.locked r) = true → exec i s = .next s)
    ∧ ((Instr.reads i).any q.locked = false → ((Instr.writes i).any fun r => q.exposed r || q.locked r) = false →
        q.pc.view.penddbg = true → (Instr.reads i).any q.exposed = true → (s.slot s.cur).stop = none →
        (Raises (exec i s) s .S 0x05 0 0 ∨ exec i s = .next s)
        ∧ ((aluRule i).isSome = true ∨ (immForm i).isSome = true ∨ (∃ cc f a b, i = .cmp cc f a b) ∨ (∃ cc f a imm, i = .cmpi cc f a imm) →
            Raises (exec i s) s .S 0x05 0 0)))
  ∧ (∀ (s : State) (n d : Nat) (p : PendWrite), d ≠ 0 → (s.slot n).seq.pend.filter (fun x => x.reg == .g d) = [p] →
    ((s.commit n).slot n).regs.getG d = if p.due ≤ s.now then p.val else (s.slot n).regs.getG d)
  ∧ (∀ (s : State) (n f : Nat) (p : PendWrite), (s.slot n).seq.pend.filter (fun x => x.reg == .c f) = [p] →
    ((s.commit n).slot n).regs.getC f = if p.due ≤ s.now then p.val != 0 else (s.slot n).regs.getC f)
  ∧ (∀ (s : State) (n d : Nat), (s.slot n).seq.pend.filter (fun x => x.reg == .g d) = [] →
    ((s.commit n).slot n).regs.getG d = (s.slot n).regs.getG d)
  ∧ (∀ (s : State) (n d : Nat) (p : PendWrite), d ≠ 0 → (s.slot n).seq.pend.filter (fun x => x.reg == .g d) = [p] →
    (p ∈ ((s.commit n).slot n).seq.pend ↔ s.now < p.due))
  ∧ (∀ (s : State) (d : BitVec 6) (v : Reg), ((s.withResult d v 1).slot s.cur).regs.getG d.toNat = if d = 0 then 0 else v)
  ∧ ∀ (s : State) (n : Nat), ((s.commit n).slot n).regs.getG 0 = 0

/-- The IMM12 of LDS and STS holds the kind above the offset. The address is formed exactly. A reserved kind raises ILLEGAL; then an
address outside SPBASE to SPLIMIT raises SPBOUND; then one that its size does not divide raises ALIGN; the record holds the address modulo
2^64. If all checks pass, and no bank of the bytes is being zeroed, LDS completes with the bytes as a little-endian number, sign- or zero-
extended, as an exposed result of latency 4, and STS completes: exactly its bytes of the scratchpad take the low bytes of g[D], the banks
that do not hold them keep their records, and nothing else changes. -/
def Obligations.ScratchWords : Prop :=
  (∀ (d a : BitVec 6) (k : BitVec 3) (o : BitVec 9), (k ≠ 7 → encode (.lds d a k o)
      = some (BitVec.ofNat 32 (0x1C * 2 ^ 24 + d.toNat * 2 ^ 18 + a.toNat * 2 ^ 12 + k.toNat * 2 ^ 9 + o.toNat)))
    ∧ (k.toNat % 2 = 0 → encode (.sts d a k o)
      = some (BitVec.ofNat 32 (0x1D * 2 ^ 24 + d.toNat * 2 ^ 18 + a.toNat * 2 ^ 12 + k.toNat * 2 ^ 9 + o.toNat))))
  ∧ ∀ (s : State) (i : Instr) (d a : BitVec 6) (k : BitVec 3) (o : BitVec 9), scratchFields i = some (d, a, k, o) →
    let sl := s.slot s.cur
    let core := coreOf s.cur
    let sz := kindBytes k
    let ea := scratchAddress (s.g a.toNat) o k
    (scratchReserved i = true → sl.stop = none → Raises (exec i s) s .S 0x01 0 0)
    ∧ (s.issues i = true → ea < sl.act.spbase.toNat ∨ sl.act.splimit.toNat < ea + sz → sl.stop = none →
        Raises (exec i s) s .S 0x03 0 (ea % 2 ^ 64).toNat)
    ∧ (s.issues i = true → sl.act.spbase.toNat ≤ ea ∧ ea + sz ≤ sl.act.splimit.toNat →
        (ea % sz ≠ 0 → sl.stop = none → Raises (exec i s) s .S 0x04 0 (ea % 2 ^ 64).toNat)
        ∧ (ea % sz = 0 → s.zeroingAt s.cur ea.toNat sz = false →
            (i = .lds d a k o → Completes (exec i s) .S
              (s.withResult d (extended k sz (numberAt (fun j => (s.core core).scratch.read (ea.toNat + j)) sz)) 4))
            ∧ (i = .sts d a k o → ∃ s₁ : State, Completes (exec i s) .S s₁
                ∧ s₁ = s.modCore core (fun c =>
                    { c with scratch := (s₁.core core).scratch, banks := (s₁.core core).banks })
                ∧ (∀ x, (s₁.core core).scratch.read x
                    = if ea.toNat ≤ x ∧ x < ea.toNat + sz then BitVec.ofNat 8 ((s.g d.toNat).toNat / 256 ^ (x - ea.toNat))
                      else (s.core core).scratch.read x)
                ∧ ∀ b, b ≠ ea.toNat / 0x18000 → Tab.find (s₁.core core).banks b = Tab.find (s.core core).banks b)))

/-- A global access whose registers are ready raises TRANSLATION for an address with a bit set above the low 56, else ALIGN for one that
its size does not divide; ADDR is the address. Otherwise it completes: it stands as the slot's next access, with its class, its tag and
the operands read at issue, to make its walk, and the result register of GLD and GATOM is held for the response (that of a g0 is not). A
reserved kind or operation, and GATOM.CAS with an odd D, are no instructions. (Readings of the model, where it rests on one: log 14.) -/
def Obligations.GlobalIssue : Prop :=
  (∀ (s : State) (i : Instr) (w : GlobalWord), s.globalWord i = some w → s.issues i = true →
    let sl := s.slot s.cur
    let ea := (s.g w.address.toNat).toNat
    (2 ^ 56 ≤ ea → sl.stop = none → Raises (exec i s) s .S 0x08 0 ea)
    ∧ (ea < 2 ^ 56 → ea % w.size ≠ 0 → sl.stop = none → Raises (exec i s) s .S 0x04 0 ea)
    ∧ (ea < 2 ^ 56 → ea % w.size = 0 →
        Completes (exec i s) .S (s.modSeq s.cur fun q =>
          { q with
            reqs := q.reqs ++ [{ kind := w.kind, num := q.reqNum, pos := q.pc.pos, word := q.pc.word, mode := sl.traceMode .S, reg := w.result,
                                 va := ea, cls := w.cls.toNat, tag := sl.act.inctag, x := w.x.toNat, y := w.y.toNat, stage := .walk, pa := 0,
                                 val := 0 }]
            reqNum := q.reqNum + 1
            locks := if w.result = 0 then q.locks else q.locks ++ [.g w.result] })))
  ∧ (∀ (d a : BitVec 6) (c : BitVec 4), (Instr.gld d a c 7).wellFormed = false)
  ∧ (∀ (d a : BitVec 6) (c : BitVec 4) (k : BitVec 3), k.toNat % 2 = 1 → (Instr.gst d a c k).wellFormed = false)
  ∧ ∀ (d a : BitVec 6) (c : BitVec 4) (z : BitVec 1) (o : BitVec 4),
      ((Instr.gatom d a c z o).wellFormed = true ↔ o.toNat ≤ 9 ∧ (o = 9 → d.toNat % 2 = 0))

/-- MFC completes with the named register, zero-extended, as an exposed result of latency 2. MTC of a value that R63 allows completes:
SLIPW takes it at once; another register takes it for the sequencer, and each other engine takes it when it leaves the MTC's position. A
value that R63 does not allow raises ILLEGAL. When an engine leaves a position at which one such effect waits, its view of the register
takes the value. (Readings of the model, where it rests on one: log 29.) -/
def Obligations.ControlRegisterWords : Prop :=
  (∀ (s : State) (d : BitVec 6) (n : BitVec 12), s.issues (.mfc d n) = true →
    Completes (exec (.mfc d n) s) .S (s.withResult d (s.controlRegister n.toNat) 2))
  ∧ (∀ (s : State) (a : BitVec 6) (n : BitVec 12), s.issues (.mtc a n) = true →
    let x := s.g a.toNat
    (s.controlValueOk n.toNat x.toNat → n = 0 →
      Completes (exec (.mtc a n) s) .S (s.modSeq s.cur fun q => { q with slipw := x.setWidth 12 }))
    ∧ (s.controlValueOk n.toNat x.toNat → n ≠ 0 →
      let d : Deferred := .ctl n.toNat x
      let s₁ := s.modCounter s.cur .S fun c => { c with view := c.view.write n.toNat x }
      Completes (exec (.mtc a n) s) .S (((s₁.withDeferred .V d).withDeferred .M d).withDeferred .A d))
    ∧ (¬ s.controlValueOk n.toNat x.toNat → (s.slot s.cur).stop = none → Raises (exec (.mtc a n) s) s .S 0x01 0 0))
  ∧ ∀ (s : State) (n : Nat) (e : Engine) (r : Nat) (x : Reg), let c := (s.slot n).counter e
    c.deferred.filter (fun d => d.1 == c.pos) = [(c.pos, .ctl r x)] →
      (((s.leave n e).slot n).counter e).view = c.view.write r x ∧ ∀ d ∈ (((s.leave n e).slot n).counter e).deferred, d.1 ≠ c.pos

/-- SHPW of a value that its field holds completes: the shadow field takes it when the engine that reads the register leaves the word's
position. A value that the field does not hold raises ILLEGAL. SHPR waits until the engine that reads the register has left every position
before it, and completes with the field, zero- or sign-extended. (Readings of the model, where it rests on one: log 29.) -/
def Obligations.ShapeWords : Prop :=
  ∀ (s : State) (d : BitVec 6) (kind reg : BitVec 2) (copy : BitVec 1) (f : BitVec 5),
    let signed := decide (kind = 2 ∧ 9 ≤ f.toNat ∧ f.toNat ≤ 20)
    let w := shapeWidth kind.toNat f.toNat
    let key (copy : Nat) : Nat := kind.toNat * 256 + copy * 128 + reg.toNat * 32 + f.toNat
    let x := s.g d.toNat
    let v := Tab.get 0 (s.slot s.cur).regs.shapes (key copy.toNat)
    let e := shapeEngine kind
    (s.issues (.shpw d kind reg f) = true → inField signed w x →
      Completes (exec (.shpw d kind reg f) s) .S (s.withDeferred e (.shape (key 1) (BitVec.ofNat 56 (x.toNat % 2 ^ w)))))
    ∧ (s.issues (.shpw d kind reg f) = true → ¬ inField signed w x → (s.slot s.cur).stop = none →
      Raises (exec (.shpw d kind reg f) s) s .S 0x01 0 0)
    ∧ (s.issues (.shpr d kind reg copy f) = true → ((s.slot s.cur).counter e).pos < (s.slot s.cur).seq.pc.pos →
      exec (.shpr d kind reg copy f) s = .next s)
    ∧ (s.issues (.shpr d kind reg copy f) = true → (s.slot s.cur).seq.pc.pos ≤ ((s.slot s.cur).counter e).pos → v.toNat < 2 ^ w →
      Completes (exec (.shpr d kind reg copy f) s) .S
        (s.withResult d (if signed ∧ 2 ^ (w - 1) ≤ v.toNat then BitVec.ofInt 64 (v.toNat - 2 ^ w) else BitVec.ofNat 64 v.toNat) 1))

/-- KCFG waits until every lagging counter has left every earlier position and every wait and signal there has been made; then it sets the
ceiling and the count of its token, and raises ILLEGAL for a value above 32 bits or a count above the ceiling. KWAIT.S on a ceiling below
n raises ILLEGAL; when the count is at least n, it completes and subtracts n; when it is less, the sequencer comes to wait at the word.
KSIG.S completes: its signal stands to be made once the results now pending have been written. (Readings of the model, where it rests on
one: log 29.) -/
def Obligations.SequencerTokens : Prop :=
  ∀ (s : State) (d a : BitVec 6) (n : BitVec 12),
    let sl := s.slot s.cur
    let x := (s.g a.toNat).toNat
    let t := sl.regs.getK d.toNat
    (s.issues (.kcfg d a) = true → sl.tokensSettled sl.seq.pc.pos = false → exec (.kcfg d a) s = .next s)
    ∧ (s.issues (.kcfg d a) = true → sl.tokensSettled sl.seq.pc.pos = true →
        (x < 2 ^ 32 → x % 2 ^ 16 ≤ x / 2 ^ 16 → ∃ k : Token, k.count.toNat = x % 2 ^ 16 ∧ k.ceiling.toNat = x / 2 ^ 16
          ∧ Completes (exec (.kcfg d a) s) .S (s.modRegs s.cur fun r => r.setK d.toNat k))
        ∧ (2 ^ 32 ≤ x ∨ x / 2 ^ 16 < x % 2 ^ 16 → sl.stop = none → Raises (exec (.kcfg d a) s) s .S 0x01 0 0))
    ∧ (s.issues (.kwaitS d n) = true →
        (t.ceiling.toNat < n.toNat → sl.stop = none → Raises (exec (.kwaitS d n) s) s .S 0x01 0 0)
        ∧ (n.toNat ≤ t.ceiling.toNat → n.toNat ≤ t.count.toNat →
            ∃ k : Token, k.count.toNat = t.count.toNat - n.toNat ∧ k.ceiling = t.ceiling
              ∧ Completes (exec (.kwaitS d n) s) .S (s.modRegs s.cur fun r => r.setK d.toNat k))
        ∧ (n.toNat ≤ t.ceiling.toNat → t.count.toNat < n.toNat → sl.seq.pc.waiting = none →
            exec (.kwaitS d n) s = .next (s.modCounter s.cur .S fun c => { c with waiting := some (d.toNat, n.toNat, s.now) })))
    ∧ (s.issues (.ksigS d n) = true → Completes (exec (.ksigS d n) s) .S (s.modSlot s.cur fun sl =>
        { sl with signals := sl.signals ++ [⟨.S, sl.seq.pc.pos, sl.seq.pc.word, d.toNat, n.toNat,
            sl.seq.pend.map (·.reg) ++ sl.seq.locks ++ sl.seq.walls.map fun w => .g w.reg⟩] }))

/-- STAMP completes with the stamp counter as an exposed result of latency 2. WALL completes: its sample is due no earlier than the
present cycle and no later than 64 cycles after it; when the sample of a slot's one WALL is due, the register takes the wall counter, or
zero while it is Stopped, and never less than the slot read before. VGET takes the oldest vote of the queue into its flag; with no vote it
waits, or raises ILLEGAL where PC_V has left every earlier position and has formed fewer votes than it needs. -/
def Obligations.StampWallVotes : Prop :=
  (∀ (s : State) (d : BitVec 6), s.issues (.stamp d) = true → Completes (exec (.stamp d) s) .S (s.withResult d s.stamp 2))
  ∧ (∀ (s : State) (d : BitVec 6), s.issues (.wall d) = true → ∃ k, k ≤ 64 ∧ Completes (exec (.wall d) s) .S
      (if d = 0 then { s with free := s.free + 1 }
       else ({ s with free := s.free + 1 } : State).modSeq s.cur fun q => { q with walls := q.walls ++ [⟨d.toNat, s.now + k, q.pc.word, q.pc.view.tracemode.toNat⟩] }))
  ∧ (∀ (s : State) (n : Nat) (w : WallWait), w.reg ≠ 0 → (s.slot n).seq.walls = [w] → w.due ≤ s.now →
      let now := if s.hub.wall.phase = .stopped then 0 else s.hub.wall.time.toNat
      ((s.sampleWalls n).slot n).regs.getG w.reg = BitVec.ofNat 64 (max (s.slot n).seq.lastWall now)
      ∧ ((s.sampleWalls n).slot n).seq.lastWall = max (s.slot n).seq.lastWall now ∧ ((s.sampleWalls n).slot n).seq.walls = [])
  ∧ ∀ (s : State) (f : BitVec 3), s.issues (.vget f) = true →
    let sl := s.slot s.cur
    (∀ v rest, sl.seq.votes = v :: rest → Completes (exec (.vget f) s) .S ((s.withFlag f v).modSeq s.cur fun q =>
      { q with votes := rest, votesTaken := q.votesTaken + 1, waitFrom := none }))
    ∧ (sl.seq.votes = [] → sl.vec.pc.pos < sl.seq.pc.pos ∨ sl.seq.votesTaken < sl.vec.votesFormed →
        exec (.vget f) s = .next (s.modSeq s.cur fun q => { q with waitFrom := some (q.waitFrom.getD s.now) }))
    ∧ (sl.seq.votes = [] → sl.seq.pc.pos ≤ sl.vec.pc.pos → sl.vec.votesFormed ≤ sl.seq.votesTaken → sl.stop = none →
        Raises (exec (.vget f) s) s .S 0x01 0 0)

/-- MSEND to a target that is no slot of a present core raises ILLEGAL; otherwise it waits while the core's send buffer holds four
messages, and then completes: its two registers and the slot's tag enter the buffer. MAILBOX_ACCEPT at a slot moves its oldest message
whose target has a free entry of the 32 to the end of that target's mailbox. MRECV waits while the mailbox holds no entry of the slot's
tag, and otherwise takes the oldest such entry: its low 8 bytes into g[D] and its high 8 into g[D+1]. (Readings of the model, where it
rests on one: log 30.) -/
def Obligations.Mailboxes : Prop :=
  (∀ (s : State) (d a b : BitVec 6), s.issues (.msend d a b) = true →
    let t := (s.g d.toNat).toNat
    let buf := (s.core (coreOf s.cur)).sendBuf
    (320 ≤ t ∨ s.diePresent (t / 80) = false → (s.slot s.cur).stop = none → Raises (exec (.msend d a b) s) s .S 0x01 0 0)
    ∧ (t < 320 → s.diePresent (t / 80) = true → 4 ≤ buf.length → exec (.msend d a b) s = .next s)
    ∧ (t < 320 → s.diePresent (t / 80) = true → buf.length < 4 → Completes (exec (.msend d a b) s) .S
        (s.modCore (coreOf s.cur) fun c =>
          { c with sendBuf := c.sendBuf ++ [⟨s.cur, t, ⟨s.g a.toNat, s.g b.toNat, (s.slot s.cur).act.inctag⟩⟩] })))
  ∧ (∀ (s : State) (before after : List Outgoing) (o : Outgoing),
    (s.core (coreOf s.cur)).sendBuf = before ++ o :: after → o.sender = s.cur → (s.slot o.target).mailbox.length < 32 →
    (∀ x ∈ before, x.sender = s.cur → 32 ≤ (s.slot x.target).mailbox.length) →
    exec .mailboxAccept s = .next ((s.modCore (coreOf s.cur) fun c => { c with sendBuf := before ++ after }).modSlot o.target
      fun sl => { sl with mailbox := sl.mailbox ++ [o.msg] }))
  ∧ ∀ (s : State) (d : BitVec 6), s.issues (.mrecv d) = true →
    ((∀ x ∈ (s.slot s.cur).mailbox, x.tag ≠ (s.slot s.cur).act.inctag) →
      exec (.mrecv d) s = .next (s.modSeq s.cur fun q => { q with waitFrom := some (q.waitFrom.getD s.now) }))
    ∧ ∀ (before after : List Message) (m : Message), (s.slot s.cur).mailbox = before ++ m :: after →
      (∀ x ∈ before, x.tag ≠ (s.slot s.cur).act.inctag) → m.tag = (s.slot s.cur).act.inctag →
      Completes (exec (.mrecv d) s) .S ((((s.modSlot s.cur fun sl => { sl with mailbox := before ++ after }).withResult d m.lo 1).withResult
        (d + 1) m.hi 1).modSeq s.cur fun q => { q with waitFrom := none })

/-- A release FENCE completes, with no effect of its own, once each access of the slot in a class of the mask has performed at the scope,
and leaves the state as it is until then. An acquire FENCE completes: at package and system scope the lines of its die whose class is in
the mask are invalidated, at once where every earlier access of the slot in those classes has its value or has been accepted, and else
once they have: until then no later access in those classes is served. FENCE.AR does both. FENCE.E completes once each engine that it
names has left every earlier position and completed every word it issued there, and no GST of the slot awaits its acknowledgement, and
leaves the state as it is until then. ICINV of an aligned range below 2^56 completes: the lines of the context that overlap it leave the
caches of the core, of the die, or of every core; at package scope a Ready entry of the kernel cache whose text overlaps it is dropped and
a Running one becomes stale. A base that is no multiple of 64 raises ALIGN with the address; a range past 2^56 raises ILLEGAL. (Readings
of the model, where it rests on one: logs 14, 85 and 88.) -/
def Obligations.Fences : Prop :=
  (∀ (s : State) (m : BitVec 4) (scope : BitVec 2) (n : BitVec 12),
    let mask := m.toNat * 2 ^ 12 + n.toNat
    let sl := s.slot s.cur
    let acquired := if scope.toNat < 2 then s
      else if (sl.seq.reqs.all fun r => !mask.testBit r.cls || decide (r.stage = .served)) = true then
        s.modDie (s.cur / 80) fun d => { d with lines := d.lines.filter fun l => !mask.testBit l.cls }
      else s.modSeq s.cur fun q => { q with acqs := q.acqs ++ [(q.reqNum, mask)] }
    (s.issues (.fenceRel m scope n) = true → sl.performed mask scope.toNat → Completes (exec (.fenceRel m scope n) s) .S s)
    ∧ (s.issues (.fenceRel m scope n) = true → ¬ sl.performed mask scope.toNat → exec (.fenceRel m scope n) s = .next s)
    ∧ (s.issues (.fenceAcq m scope n) = true → (∀ r ∈ sl.seq.reqs, r.num < sl.seq.reqNum) → Completes (exec (.fenceAcq m scope n) s) .S acquired)
    ∧ (s.issues (.fenceAr m scope n) = true → (∀ r ∈ sl.seq.reqs, r.num < sl.seq.reqNum) → sl.performed mask scope.toNat → Completes (exec (.fenceAr m scope n) s) .S acquired)
    ∧ (s.issues (.fenceAr m scope n) = true → ¬ sl.performed mask scope.toNat → exec (.fenceAr m scope n) s = .next s))
  ∧ (∀ (s : State) (e : BitVec 3), s.issues (.fenceE e) = true →
    let sl := s.slot s.cur
    let done := (e.getLsbD 0 = true → sl.engineQuiet .V sl.seq.pc.pos) ∧ (e.getLsbD 1 = true → sl.engineQuiet .M sl.seq.pc.pos)
      ∧ (e.getLsbD 2 = true → sl.engineQuiet .A sl.seq.pc.pos) ∧ ∀ r ∈ sl.seq.reqs, ∀ n, r.kind ≠ .store n
    (done → Completes (exec (.fenceE e) s) .S s) ∧ (¬ done → exec (.fenceE e) s = .next s))
  ∧ ∀ (s : State) (d a : BitVec 6) (i : BitVec 12), s.controls (.icinv d a i) = true →
    let lo := (s.g a.toNat).toNat
    let hi := lo + 64 * (i.toNat + 1)
    let ctx := (s.slot s.cur).act.inctag.toNat / 64
    let core := s.cur / 2
    let drop (l : CodeLine) : Bool := decide (l.tag.toNat / 64 = ctx) && decide (l.va < hi) && decide (lo < l.va + 64)
    let cores (p : Nat → Bool) : Tab CoreState := s.cores.map fun (n, c) =>
      if p n then (n, { c with icache := c.icache.filter fun l => !drop l }) else (n, c)
    let dropped (p : Nat → Bool) : State := { s with cores := cores p }
    let hit (k : KEntry) : Bool := decide (k.tag.toNat / 64 = ctx) && decide (k.base + k.header.textOff < hi)
      && decide (lo < k.base + k.header.textOff + 4 * k.header.textWords)
    (lo % 64 ≠ 0 → (s.slot s.cur).stop = none → Raises (exec (.icinv d a i) s) s .S 0x04 0 lo)
    ∧ (lo % 64 = 0 → 2 ^ 56 < hi → (s.slot s.cur).stop = none → Raises (exec (.icinv d a i) s) s .S 0x01 0 0)
    ∧ (lo % 64 = 0 → hi ≤ 2 ^ 56 →
      (d = 0 → Completes (exec (.icinv d a i) s) .S (dropped fun n => decide (n = core)))
      ∧ (d = 1 → Completes (exec (.icinv d a i) s) .S (dropped fun n => decide (n / 40 = core / 40)))
      ∧ (d = 2 → Completes (exec (.icinv d a i) s) .S ((dropped fun _ => true).modSpool fun p =>
          { p with kernels := (p.kernels.filter fun k => !(hit k.2 && k.2.count == 0)).map fun k =>
              if hit k.2 then (k.1, { k.2 with stale := true }) else k })))

/-- TRAP takes the fatal trap SWTRAP whose status word holds the code. TRAP.WARN completes: the record of the warning, with bit 18 of its
status word set, is written as warnings are. BRK takes the fatal trap BREAKPOINT whose status word holds g[A]. TRCMARK completes and
changes nothing but the trace; while the slot is traced and the buffer is not frozen, the entry for the buffer that it leaves to the end
of the cycle holds type 10, its slot, its word index and the low 32 bits of g[A]. (Readings of the model, where it rests on one: log 15.)
-/
def Obligations.TrapWords : Prop :=
  (∀ (s : State) (i : BitVec 18), s.issues (.trap i) = true → (s.slot s.cur).stop = none →
    Raises (exec (.trap i) s) s .S 0x10 i.toNat 0)
  ∧ (∀ (s : State) (i : BitVec 18), s.issues (.trapWarn i) = true →
    Completes (exec (.trapWarn i) s) .S (s.writeWarning (s.warningRecord (i.toNat + 2 ^ 18))))
  ∧ (∀ (s : State) (a : BitVec 6), s.issues (.brk a) = true → (s.slot s.cur).stop = none →
    Raises (exec (.brk a) s) s .S 0x11 (s.g a.toNat).toNat 0)
  ∧ ∀ (s : State) (a : BitVec 6), s.issues (.trcmark a) = true → Completes (exec (.trcmark a) s) .S s
    ∧ let c := (s.slot s.cur).seq.pc
      let tr := (s.core (coreOf s.cur)).trace
      c.view.tracemode.toNat = 1 ∨ c.view.tracemode.toNat = 2 → tr.frozen = false →
      ∃ t before after x, exec (.trcmark a) s = .next t ∧ (t.core (coreOf s.cur)).trace.queue = tr.queue ++ before ++ x :: after
        ∧ x.side = s.cur % 2 ∧ x.eng = .S ∧ x.words.head? = some (BitVec.ofNat 64 (10 * 2 ^ 59 + s.cur % 2 * 2 ^ 58 + c.word % 2 ^ 24 * 2 ^ 32 + (s.g a.toNat).toNat % 2 ^ 32))

/-- Leaving a position adds one to the counter's position count. With no branch on its way the counter goes on at the next word; if it
left the last word of an active level, the body's end is due, and an LONLY's guard ends with its last word. A branch is left for its two
delay words, and then for its target if it is taken, else for the next word. At the target, exactly the levels stay active, from the
lowest up, whose bodies hold it, and an LONLY's guard stays only for a forward transfer within its words. -/
def Obligations.LeavingAPosition : Prop :=
  (∀ c : Counter, c.leave.pos = c.pos + 1 ∧ c.leave.left = c.left + 1 ∧ c.leave.deferred = c.deferred ∧ c.leave.view = c.view)
  ∧ (∀ c : Counter, c.delay = none → c.leave.word = c.word + 1 ∧ c.leave.loops = c.loops ∧ c.leave.delay = none)
  ∧ (∀ (c : Counter) (l : LoopLevel) (rest : List LoopLevel), c.delay = none → c.loops = l :: rest →
      c.leave.ending = if ∃ v ∈ l :: rest, v.last = c.word then some (c.word, l.lvl) else c.ending)
  ∧ (∀ (c : Counter) (last : Nat) (y : Bool), c.delay = none → (c.leave.guard = some (last, y) ↔ c.guard = some (last, y) ∧ c.word < last))
  ∧ (∀ (c : Counter) (t : Nat), c.delay = none → c.loops = [] →
      (branched (some t) c).word = c.word + 1 ∧ (branched (some t) c).leave.word = c.word + 2
      ∧ (branched (some t) c).leave.leave.word = t ∧ (branched (some t) c).leave.leave.delay = none
      ∧ (branched none c).leave.leave.word = c.word + 3 ∧ (branched none c).leave.leave.delay = none)
  ∧ ∀ (c : Counter) (t : Nat) (inner outer : List LoopLevel), c.delay = some (1, some t) → c.loops = inner ++ outer →
      (∀ l ∈ outer, l.first ≤ t ∧ t ≤ l.last) → (∀ l ∈ inner.getLast?, ¬ (l.first ≤ t ∧ t ≤ l.last)) →
      c.leave.word = t ∧ c.leave.loops = outer ∧ c.leave.delay = none
      ∧ ∀ last y, c.leave.guard = some (last, y) ↔ c.guard = some (last, y) ∧ t ≤ last ∧ c.word < t

/-- NOP moves its counter past it and is not issued. BPREP and BPREPG complete with the target word index in the target register, and
raise ILLEGAL for one outside 0 to 2^24 - 1. BGO whose flag equals its polarity, and BLINK, complete: the outcome is a transfer to the
index in the target register, and the counter leaves by a taken branch; BLINK puts the index of the word after the delay words into its
link register. Another BGO completes: its outcome is to proceed, and its branch is not taken. A full outcome queue holds BGO and BLINK.
Each of these words but NOP raises ILLEGAL as a delay word. -/
def Obligations.BranchWords : Prop :=
  (∀ s : State, ∃ t, exec .nop s = .next t ∧ (t.slot s.cur).seq.pc.pos = (s.slot s.cur).seq.pc.pos + 1
    ∧ (t.slot s.cur).seq.pc.word = (s.slot s.cur).seq.pc.leave.word ∧ (t.slot s.cur).seq.pc.issued = (s.slot s.cur).seq.pc.issued
    ∧ t.mem = s.mem ∧ t.hub = s.hub ∧ t.cores = s.cores ∧ (∀ n, n ≠ s.cur → t.slot n = s.slot n)
    ∧ (∀ g, (t.slot s.cur).regs.getG g = (s.slot s.cur).regs.getG g))
  ∧ (∀ (s : State) (t : BitVec 3) (o : BitVec 18), s.controls (.bprep t o) = true →
      let x : Int := (s.slot s.cur).seq.pc.word + o.toInt
      (0 ≤ x → x < 2 ^ 24 → Completes (exec (.bprep t o) s) .S (s.modRegs s.cur fun r => { r with b := r.b.put t.toNat (BitVec.ofInt 64 x) }))
      ∧ (x < 0 ∨ 2 ^ 24 ≤ x → (s.slot s.cur).stop = none → Raises (exec (.bprep t o) s) s .S 0x01 0 0))
  ∧ (∀ (s : State) (d a : BitVec 6) (i : BitVec 12), s.controls (.bprepg d a i) = true →
      let x : Int := (s.g a.toNat).toInt + i.toInt
      (0 ≤ x → x < 2 ^ 24 → Completes (exec (.bprepg d a i) s) .S (s.modRegs s.cur fun r => { r with b := r.b.put d.toNat (BitVec.ofInt 64 x) }))
      ∧ (x < 0 ∨ 2 ^ 24 ≤ x → (s.slot s.cur).stop = none → Raises (exec (.bprepg d a i) s) s .S 0x01 0 0))
  ∧ (∀ (s : State) (p : BitVec 1) (t f l : BitVec 3),
      let r := (s.slot s.cur).regs
      let target := (r.getB t.toNat).toNat % 2 ^ 24
      (s.controls (.bgo p t f) = true → s.queueRoom = true → r.getC f.toNat = p.getLsbD 0 →
        CompletesBy (exec (.bgo p t f) s) .S (branched (some target)) (s.withOutcome (.transfer target)))
      ∧ (s.controls (.bgo p t f) = true → s.queueRoom = true → r.getC f.toNat ≠ p.getLsbD 0 →
        CompletesBy (exec (.bgo p t f) s) .S (branched none) (s.withOutcome .proceed))
      ∧ (s.controls (.blink t l) = true → s.queueRoom = true → CompletesBy (exec (.blink t l) s) .S (branched (some target))
        ((s.modRegs s.cur fun r => { r with b := r.b.put l.toNat (BitVec.ofNat 64 (((s.slot s.cur).seq.pc.word + 3) % 2 ^ 24)) }).withOutcome
          (.transfer target)))
      ∧ (s.controls (.bgo p t f) = true → s.queueRoom = false → exec (.bgo p t f) s = .next s)
      ∧ (s.controls (.blink t l) = true → s.queueRoom = false → exec (.blink t l) s = .next s))
  ∧ ∀ (s : State) (i : Instr) (w : Word), encode i = some w → isControl w = true → i ≠ .nop → i.wellFormed = true →
      (s.slot s.cur).seq.pc.delay ≠ none → (s.slot s.cur).stop = none → Raises (exec i s) s .S 0x01 0 0

/-- LSET of a level above every active one, whose body ends within theirs and not on a control word, whose trip count is below 2^32 and
which fewer than five LSTEP words follow, completes once those words are fetched: with no iterations it continues after the body; else the
level becomes the highest active one, at iteration 0 of trip count plus stages less one, its body beginning after its LSTEP words. LSTEP
among the words directly after an LSET of its level registers a stride while the level's body lies ahead, completes without an effect
where the level is not active there, and raises ILLEGAL elsewhere. LONLY completes with the guard that its mode gives. At a body's end
that is due, with room for its outcome, the sequencer repeats the highest level that ends on the word while iterations remain: its index
grows, its registered strides are added, a guard ends, and the rotation advances where the level was the highest active one at the word;
it waits while a result is pending for a stepped register; after the last iteration the level ends, and the next one that ends on the word
is taken. A lagging counter repeats or ends its level with the outcome that the sequencer enqueued. (Readings of the model, where it rests
on one: logs 16 and 17.) -/
def Obligations.LoopWords : Prop :=
  (∀ (s : State) (sg l : BitVec 3) (a : BitVec 6) (n : BitVec 12), s.controls (.lset sg l a n) = true → s.queueRoom = true →
    let c := (s.slot s.cur).seq.pc
    (∀ t, s.countLsteps l.toNat (c.word + 1) 5 = .error t → exec (.lset sg l a n) s = .next t) ∧ ∀ steps,
    s.countLsteps l.toNat (c.word + 1) 5 = .ok steps →
    let last := c.word + steps + n.toNat
    let trip := (s.g a.toNat).toNat
    let lv : LoopLevel := { lvl := l.toNat, trip := trip, stages := sg.toNat + 1, iters := trip + sg.toNat, i := 0,
                            first := c.word + steps + 1, last := last, strides := [] }
    let fits := (∀ v ∈ c.loops.head?, v.lvl < l.toNat ∧ last ≤ v.last) ∧ trip < 2 ^ 32 ∧ steps < 5 ∧ s.controlAt last = false
    (fits → trip = 0 → CompletesBy (exec (.lset sg l a n) s) .S (fun c => { c with pos := c.pos + 1, left := c.left + 1, word := last + 1 })
      (s.withOutcome (.skip (last + 1))))
    ∧ (fits → trip ≠ 0 → CompletesBy (exec (.lset sg l a n) s) .S (fun c => { c.leave with loops := lv :: c.loops })
      (s.withOutcome (.enter lv)))
    ∧ (¬ fits → (s.slot s.cur).stop = none → Raises (exec (.lset sg l a n) s) s .S 0x01 0 0))
  ∧ (∀ (s : State) (d a : BitVec 6) (i : BitVec 12), s.controls (.lstep d a i) = true →
    let c := (s.slot s.cur).seq.pc
    (∀ t, s.afterLset a.toNat c.word = .error t → exec (.lstep d a i) s = .next t)
    ∧ (s.afterLset a.toNat c.word = .ok false → (s.slot s.cur).stop = none → Raises (exec (.lstep d a i) s) s .S 0x01 0 0)
    ∧ (s.afterLset a.toNat c.word = .ok true → (∀ l ∈ c.loops.head?, l.lvl = a.toNat → l.first ≤ c.word) →
        Completes (exec (.lstep d a i) s) .S s)
    ∧ ∀ (l : LoopLevel) (rest : List LoopLevel), s.afterLset a.toNat c.word = .ok true → c.loops = l :: rest → l.lvl = a.toNat →
      c.word < l.first → Completes (exec (.lstep d a i) s) .S (s.modCounter s.cur .S fun c =>
        { c with loops := { l with strides := l.strides ++ [(d.toNat, i.toInt)] } :: rest }))
  ∧ (∀ (s : State) (i : Instr) (l : BitVec 3) (n : BitVec 12) (pick : LoopLevel → Option Bool) (v : LoopLevel) (y : Bool),
    lonlyMode i = some (l, n, pick) → s.controls i = true → s.queueRoom = true →
    let c := (s.slot s.cur).seq.pc
    c.loops.find? (fun v => v.lvl == l.toNat) = some v → c.word + n.toNat ≤ v.last → (rangeFrom (c.word + 1) n.toNat).any s.controlAt = false →
    pick v = some y →
    CompletesBy (exec i s) .S (fun c => { c.leave with guard := some (c.word + n.toNat, y) })
      (s.withOutcome (.guard (c.word + n.toNat) y)))
  ∧ (∀ (s : State) (above rest : List LoopLevel) (l : LoopLevel) (w hi : Nat),
    let c := (s.slot s.cur).seq.pc
    let pending := l.strides.any fun p => (s.slot s.cur).seq.exposed (.g p.1) || (s.slot s.cur).seq.locked (.g p.1)
    c.loops = above ++ l :: rest → (∀ v ∈ above, v.last ≠ w) → l.last = w → c.ending = some (w, hi) → s.queueRoom = true →
    let rrb := if l.lvl = hi ∧ c.view.rotcfg ≠ 0 then BitVec.ofNat 5 ((c.view.rrb.toNat + 1) % c.view.rotcfg.toNat) else c.view.rrb
    (l.i + 1 < l.iters → pending = true → exec (.loopBodyEnd .S) s = .next s)
    ∧ (l.i + 1 < l.iters → pending = false → ∃ t, exec (.loopBodyEnd .S) s = .next t ∧ t.mem = s.mem ∧ t.hub = s.hub
      ∧ (t.slot s.cur).seq = { (s.slot s.cur).seq with
          outq := (s.slot s.cur).seq.outq ++ [⟨.again, false, false, false⟩]
          pc := { c with word := l.first, ending := none, guard := none, loops := above ++ { l with i := l.i + 1 } :: rest,
                         view := { c.view with rrb := rrb } } }
      ∧ ∀ g, (l.strides.map (·.1)).Nodup → (∀ p ∈ l.strides, p.1 ≠ 0) → (t.slot s.cur).regs.getG g
          = (s.slot s.cur).regs.getG g + BitVec.ofInt 64 (((l.strides.find? fun p => p.1 == g).map (·.2)).getD 0))
    ∧ (l.iters ≤ l.i + 1 → ∃ t, exec (.loopBodyEnd .S) s = .next t ∧ t.mem = s.mem ∧ (t.slot s.cur).regs = (s.slot s.cur).regs
      ∧ (t.slot s.cur).seq = { (s.slot s.cur).seq with
          outq := (s.slot s.cur).seq.outq ++ [⟨.exit, false, false, false⟩]
          pc := { c with loops := above ++ rest, ending := if rest.any (fun v => v.last == w) then some (w, hi) else none } }))
  ∧ ∀ (s : State) (e : Engine) (above rest : List LoopLevel) (l : LoopLevel) (w hi : Nat), e ≠ .S →
    let c := (s.slot s.cur).counter e
    c.loops = above ++ l :: rest → (∀ v ∈ above, v.last ≠ w) → l.last = w → c.ending = some (w, hi) →
    ((s.slot s.cur).seq.nextOutcome e = some .again → ∃ t, exec (.loopBodyEnd e) s = .next t
      ∧ ((t.slot s.cur).counter e).word = l.first ∧ ((t.slot s.cur).counter e).loops = above ++ { l with i := l.i + 1 } :: rest
      ∧ ((t.slot s.cur).counter e).ending = none ∧ (t.slot s.cur).regs = (s.slot s.cur).regs ∧ t.mem = s.mem)
    ∧ ((s.slot s.cur).seq.nextOutcome e = some .exit → ∃ t, exec (.loopBodyEnd e) s = .next t
      ∧ ((t.slot s.cur).counter e).word = c.word ∧ ((t.slot s.cur).counter e).loops = above ++ rest
      ∧ ((t.slot s.cur).counter e).ending = (if rest.any (fun v => v.last == w) then some (w, hi) else none)
      ∧ (t.slot s.cur).regs = (s.slot s.cur).regs ∧ t.mem = s.mem)
    ∧ ((s.slot s.cur).seq.nextOutcome e = none → exec (.loopBodyEnd e) s = .next s)

/-- ROTSET completes: the rotation size is set and the base cleared, for the sequencer at once and for the others by its outcome. RGN
outside a region completes: the region has the base g[A], or the present stamp for g0, and eight times the immediate as slack; RGN in a
region raises ILLEGAL, as RGNEND outside one does; RGNEND in a region completes and ends it. END and HALT complete at their position: the
sequencer stands at the activation's end, which its outcome tells the others, and ends a region that is open; HALT keeps its code, and
raises ILLEGAL for one above 16 bits. -/
def Obligations.RotationRegionEnd : Prop :=
  ∀ s : State, s.queueRoom = true →
    let region := (s.slot s.cur).seq.region
    let ended (s : State) : State := ((s.modSeq s.cur fun q => { q with region := none }).withOutcome .endAct).modCounter s.cur .S fun c =>
      { c with ended := true }
    (∀ i : BitVec 12, s.controls (.rotset i) = true → Completes (exec (.rotset i) s) .S
      ((s.modCounter s.cur .S fun c => { c with view := { c.view with rotcfg := i.setWidth 6, rrb := 0 } }).withOutcome (.rotset i.toNat)))
    ∧ (∀ (st : BitVec 1) (a : BitVec 6) (i : BitVec 12), s.controls (.rgn st a i) = true →
      let base := if a = 0 then s.now else (s.g a.toNat).toNat
      (region = none → Completes (exec (.rgn st a i) s) .S ((s.modSeq s.cur fun q =>
        { q with region := some (base, 8 * i.toNat, st.getLsbD 0) }).withOutcome (.region base (8 * i.toNat) (st.getLsbD 0))))
      ∧ (region ≠ none → (s.slot s.cur).stop = none → Raises (exec (.rgn st a i) s) s .S 0x01 0 0))
    ∧ (s.controls .rgnend = true →
      (region ≠ none → Completes (exec .rgnend s) .S ((s.modSeq s.cur fun q => { q with region := none }).withOutcome .regionEnd))
      ∧ (region = none → (s.slot s.cur).stop = none → Raises (exec .rgnend s) s .S 0x01 0 0))
    ∧ (s.controls .endActivation = true → CompletesBy (exec .endActivation s) .S id (ended s))
    ∧ ∀ a : BitVec 6, s.controls (.halt a) = true →
      ((s.g a.toNat).toNat < 2 ^ 16 → CompletesBy (exec (.halt a) s) .S id
        (ended (s.modSlot s.cur fun sl => { sl with halt := some ((s.g a.toNat).setWidth 16) })))
      ∧ (2 ^ 16 ≤ (s.g a.toNat).toNat → (s.slot s.cur).stop = none → Raises (exec (.halt a) s) s .S 0x01 0 0)

/-- The engine of a lagging counter takes the oldest outcome that it has not taken: a transfer or a passed branch starts its two delay
words, a level entered becomes its highest one, a skipped body is left behind, a guard, a rotation or, for the matrix engine, a region is
set, and at the activation's end the counter stops there. An outcome that all three have taken leaves the queue, and the others keep their
order. With none to take the counter waits. -/
def Obligations.LaggingOutcomes : Prop :=
  ∀ (s : State) (e : Engine), e ≠ .S →
    let sl := s.slot s.cur
    let c := sl.counter e
    (sl.seq.outq.all (fun o => o.taken e) = true → exec (.laggingOutcomeTake e) s = .next s)
    ∧ ∀ (before after : List Outcome) (o : Outcome), sl.seq.outq = before ++ o :: after → (∀ x ∈ before, x.taken e = true) →
      o.taken e = false → o.kind ≠ .again → o.kind ≠ .exit →
      ∃ t, exec (.laggingOutcomeTake e) s = .next t ∧ t.mem = s.mem ∧ t.hub = s.hub ∧ (∀ n, n ≠ s.cur → t.slot n = s.slot n)
        ∧ (t.slot s.cur).seq = { sl.seq with outq := (before ++ o.take e :: after).filter fun o => !(o.takenV && o.takenM && o.takenA) }
        ∧ (∀ g, (t.slot s.cur).regs.getG g = sl.regs.getG g)
        ∧ (o.kind = .endAct → ((t.slot s.cur).counter e).ended = true ∧ ((t.slot s.cur).counter e).pos = c.pos)
        ∧ (o.kind ≠ .endAct → ((t.slot s.cur).counter e).pos = c.pos + 1)
        ∧ (∀ w, o.kind = .transfer w → ((t.slot s.cur).counter e).delay = some (2, some w) ∧ ((t.slot s.cur).counter e).word = c.leave.word)
        ∧ (o.kind = .proceed → ((t.slot s.cur).counter e).delay = some (2, none))
        ∧ (∀ l, o.kind = .enter l → ((t.slot s.cur).counter e).loops = l :: c.loops)
        ∧ (∀ w, o.kind = .skip w → ((t.slot s.cur).counter e).word = w)
        ∧ (∀ last y, o.kind = .guard last y → ((t.slot s.cur).counter e).guard = some (last, y))
        ∧ (∀ n, o.kind = .rotset n → sl.awaits e = false →
            ((t.slot s.cur).counter e).view = { c.view with rotcfg := BitVec.ofNat 6 n, rrb := 0 })
        ∧ (e = .M → (t.slot s.cur).mat.region = match o.kind with
            | .region b w st => some (b, w, st)
            | .regionEnd => none
            | .endAct => none
            | _ => sl.mat.region)

/-- An element-wise word (floating point, fused, minimum, maximum, sign, special function, integer, bit, shift, copy, broadcast, index) of
a shape whose format its class takes, and whose RND is not 4, completes: the results are in flight and due five cycles after the cycles it
occupies the engine for; when they are written, each enabled position of the result holds the code that the word's formula gives of the
codes at that position before issue, rounded to the format in the shape's mode where it rounds, and every other bit of every tile, and the
scratchpad, is as it was. A shape outside its limits, a format that its class does not take, or RND 4, raises ILLEGAL with the word in the
status. (Readings of the model, where it rests on one: log 42.) -/
def Obligations.ElementWords : Prop :=
  ∀ (s : State) (i : Instr) (e : ElementWord), elementRule i = some e → i.wellFormed = true →
    let sl := (s.slot s.cur).swapped e.shape.toNat (e.swap == 1)
    (∀ sh, sl.regs.vshape e.shape.toNat = some sh → e.format sh.code = true → sh.rnd ≠ 4 →
      s.vReady i (e.swap == 1) true [] [] (e.srcs.map fun n => sl.tileOf n.toNat) [sl.tileOf e.d.toNat] →
      let code := e.result sh fun n i j => sl.element n.toNat i j sh.width
      IssuesV s i sl sh.cycles { tiles := sh.fill sl e.d.toNat sh.width code })
    ∧ ((∀ sh, sl.regs.vshape e.shape.toNat = some sh → e.format sh.code = false ∨ sh.rnd = 4) → s.vReady i (e.swap == 1) true [] [] [] [] →
      (s.slot s.cur).stop = none → Raises (exec i s) s .V 0x01 (wordOf i) 0)

/-- A word of these families whose shape, formats and names its rule takes completes: its results are in flight, due five cycles after the
cycles it occupies the engine for, and when they are written exactly the places that its rule names hold the codes that the rule gives of
the tiles before issue; every other bit of every tile, and the scratchpad, is as it was. A shape, format or name that the rule does not
take raises ILLEGAL with the word in the status. -/
def Obligations.TileWords : Prop :=
  ∀ (s : State) (i : Instr) (e : TileWord), tileRule i = some e → i.wellFormed = true →
    let sl := (s.slot s.cur).swapped e.shape.toNat (e.swap == 1)
    (∀ sh, sl.regs.vshape e.shape.toNat = some sh → e.ok sl sh = true →
      s.vReady i (e.swap == 1) e.masked [] [] (e.srcs sl sh) (e.dsts sl sh) →
      IssuesV s i sl sh.cycles { tiles := e.pieces sl sh })
    ∧ ((∀ sh, sl.regs.vshape e.shape.toNat = some sh → e.ok sl sh = false) → s.vReady i (e.swap == 1) e.masked [] [] [] [] →
      (s.slot s.cur).stop = none → Raises (exec i s) s .V 0x01 (wordOf i) 0)

/-- VCMP and VMAND of a format they take, with fewer than eight entries held, complete: the entry they push holds exactly the enabled
positions that meet the condition. VMPOP and VMINV with an entry held complete and pop or invert. VANY and VALL, while the queue has room
for their vote, complete: the vote is whether any, or every, position of the shape is enabled. With eight entries VCMP and VMAND raise
ILLEGAL, as VMPOP and VMINV do with none. -/
def Obligations.MaskWords : Prop :=
  (∀ (s : State) (i : Instr) (reg : BitVec 2) (w : BitVec 1) (srcs : List (BitVec 6)) (cond : Slot → VShape → Nat → Nat → Bool),
    (∃ a b c, i = .vcmp a b reg w c ∧ srcs = [a, b] ∧ cond = fun sl sh i j =>
        compares c (decodeCode sh.fmt (sl.element a.toNat i j sh.width)) (decodeCode sh.fmt (sl.element b.toNat i j sh.width)))
      ∨ (∃ a, i = .vmand a reg w ∧ srcs = [a] ∧ cond = fun sl sh i j =>
        !(decodeCode sh.fmt (sl.element a.toNat i j sh.width)).isZero) →
    let sl := (s.slot s.cur).swapped reg.toNat (w == 1)
    ∀ sh, sl.regs.vshape reg.toNat = some sh → sh.code ≤ 7 ∨ isIntFormat sh.code = true → sh.rnd ≠ 4 →
      s.vReady i (w == 1) true [] [] (srcs.map fun n => sl.tileOf n.toNat) [] →
      (sl.regs.masks.length < 8 → ∃ m, sh.forms sl (cond sl sh) m ∧ IssuesV s i sl sh.cycles { mask := .push m })
      ∧ (8 ≤ sl.regs.masks.length → (s.slot s.cur).stop = none → Raises (exec i s) s .V 0x01 (wordOf i) 0))
  ∧ (∀ (s : State), let sl := s.slot s.cur
    (s.vReady .vmpop false true [] [] [] [] → sl.regs.masks ≠ [] → IssuesV s .vmpop sl 1 { mask := .pop })
    ∧ (s.vReady .vminv false true [] [] [] [] → sl.regs.masks ≠ [] → IssuesV s .vminv sl 1 { mask := .invert })
    ∧ (s.vReady .vmpop false true [] [] [] [] → sl.regs.masks = [] → sl.stop = none → Raises (exec .vmpop s) s .V 0x01 (wordOf .vmpop) 0)
    ∧ (s.vReady .vminv false true [] [] [] [] → sl.regs.masks = [] → sl.stop = none → Raises (exec .vminv s) s .V 0x01 (wordOf .vminv) 0))
  ∧ ∀ (s : State) (reg : BitVec 2) (w : BitVec 1), let sl := (s.slot s.cur).swapped reg.toNat (w == 1)
    ∀ sh, sl.regs.vshape reg.toNat = some sh → sh.rnd ≠ 4 →
      sl.seq.votes.length + (sl.vec.fly.filter fun f => !f.written && f.vote.isSome).length < 8 →
      (s.vReady (.vany reg w) (w == 1) true [] [] [] [] →
        IssuesV s (.vany reg w) sl sh.cycles { vote := some (sh.places.any fun p => sl.isEnabled p.1 p.2) })
      ∧ (s.vReady (.vall reg w) (w == 1) true [] [] [] [] →
        IssuesV s (.vall reg w) sl sh.cycles { vote := some (sh.places.all fun p => sl.isEnabled p.1 p.2) })

/-- VLD and VST whose rows fill whole bytes, with a stride below 2^23, and lie in the slot's range, with base and stride aligned to four
bytes, complete: VLD fills the enabled positions of its tile from the rows, and VST writes exactly the bits of the enabled positions into
them, when its results are written. VLDX and VSTX do the same element by element at g[A] plus the index times the size, where every
enabled element lies in range and is aligned. Of each of the four words, the first row or enabled element out of range raises SPBOUND with
its address, row by row. Where none is, a base or stride of VLD and VST that is no multiple of four raises ALIGN with the base, and the
first enabled element of VLDX and VSTX that its size does not divide raises ALIGN with its address; the status of an element holds its row
and column. A row that does not fill whole bytes, a stride of 2^23 or more, elements of another width than 8, 16, 32 and 64 bits, an index
operand that does not end at v63 or before, and RND 4 raise ILLEGAL. (Readings of the model, where it rests on one: logs 14, 36 and 86.)
-/
def Obligations.ScratchTiles : Prop :=
  (∀ (s : State) (d a b : BitVec 6) (reg : BitVec 2) (w : BitVec 1),
    let sl := (s.slot s.cur).swapped reg.toNat (w == 1)
    let (x, y) := s.copiedOf .V a.toNat b.toNat
    ∀ sh, sl.regs.vshape reg.toNat = some sh → sh.rnd ≠ 4 → sh.cols * sh.width % 8 = 0 → y.toNat < 2 ^ 23 →
      let n := sh.cols * sh.width / 8
      let ea := sh.rowAddress x y
      let fits (i : Nat) : Prop := sl.act.spbase.toNat ≤ ea i ∧ ea i + n ≤ sl.act.splimit.toNat
      let rng : List (Nat × Nat) := [(x.toNat, ea (sh.rows - 1) + n - x.toNat)]
      let row (i : Nat) : Nat := numberAt (fun k => s.scratchByte (ea i + k)) n
      let code (i j : Nat) : Nat := row i / 2 ^ (sh.width * j) % 2 ^ sh.width
      let bits : List Piece := (sh.on sl).map fun p =>
        ⟨0, 8 * ea p.1 + sh.width * p.2, sh.width, sl.element d.toNat p.1 p.2 sh.width⟩
      ((∀ i, i < sh.rows → fits i) → x.toNat % 4 = 0 → ea 1 % 4 = 0 →
        (s.vReady (.vld d a b reg w) (w == 1) true rng [] [] [sl.tileOf d.toNat] →
          IssuesV s (.vld d a b reg w) sl sh.cycles { tiles := sh.fill sl d.toNat sh.width code, reads := rng })
        ∧ (s.vReady (.vst d a b reg w) (w == 1) true [] rng [sl.tileOf d.toNat] [] →
          IssuesV s (.vst d a b reg w) sl sh.cycles { scratch := bits, writes := rng }))
      ∧ ∀ word ∈ [Instr.vld d a b reg w, .vst d a b reg w], s.vReady word (w == 1) true [] [] [] [] → sl.stop = none →
          (∀ k, k < sh.rows → (∀ i, i < k → fits i) → ¬ fits k →
            Raises (exec word s) s .V 0x03 (wordOf word) (ea k % 2 ^ 64))
          ∧ ((∀ i, i < sh.rows → fits i) → x.toNat % 4 ≠ 0 ∨ (ea 1 - ea 0) % 4 ≠ 0 →
            Raises (exec word s) s .V 0x04 (wordOf word) x.toNat))
  ∧ (∀ (s : State) (d a b : BitVec 6) (reg : BitVec 2) (w : BitVec 1),
    let sl := (s.slot s.cur).swapped reg.toNat (w == 1)
    ∀ word ∈ [Instr.vld d a b reg w, .vst d a b reg w], s.vReady word (w == 1) true [] [] [] [] → sl.stop = none →
      (∀ sh, sl.regs.vshape reg.toNat = some sh →
        sh.rnd = 4 ∨ sh.cols * sh.width % 8 ≠ 0 ∨ 2 ^ 23 ≤ (s.copiedOf .V a.toNat b.toNat).2.toNat) →
      Raises (exec word s) s .V 0x01 (wordOf word) 0)
  ∧ (∀ (s : State) (d a b : BitVec 6) (reg : BitVec 2) (w : BitVec 1),
    let sl := (s.slot s.cur).swapped reg.toNat (w == 1)
    ∀ word ∈ [Instr.vldx d a b reg w, .vstx d a b reg w], s.vReady word (w == 1) true [] [] [] [] → sl.stop = none →
      (∀ sh, sl.regs.vshape reg.toNat = some sh → sh.rnd = 4 ∨ sh.width ∉ [8, 16, 32, 64] ∨ sh.holdsName b 32 = false) →
      Raises (exec word s) s .V 0x01 (wordOf word) 0)
  ∧ ∀ (s : State) (d a b : BitVec 6) (reg : BitVec 2) (w : BitVec 1),
    let sl := (s.slot s.cur).swapped reg.toNat (w == 1)
    let base := (s.copiedOf .V a.toNat 0).1.toNat
    ∀ sh, sl.regs.vshape reg.toNat = some sh → sh.rnd ≠ 4 → sh.width ∈ [8, 16, 32, 64] → sh.holdsName b 32 = true →
      let n := sh.width / 8
      let ea (i j : Nat) : Nat := base + sl.element b.toNat i j 32 * n
      let fits (p : Nat × Nat) : Prop := sl.act.spbase.toNat ≤ ea p.1 p.2 ∧ ea p.1 p.2 + n ≤ sl.act.splimit.toNat
      let rng : List (Nat × Nat) := [(sl.act.spbase.toNat, sl.act.splimit.toNat - sl.act.spbase.toNat)]
      let code (i j : Nat) : Nat := numberAt (fun k => s.scratchByte (ea i j + k)) n
      let bits : List Piece := (sh.on sl).map fun p => ⟨0, 8 * ea p.1 p.2, sh.width, sl.element d.toNat p.1 p.2 sh.width⟩
      ((∀ p ∈ sh.on sl, fits p ∧ ea p.1 p.2 % n = 0) →
        (s.vReady (.vldx d a b reg w) (w == 1) true rng [] (sh.tiles sl b.toNat 32) [sl.tileOf d.toNat] →
          IssuesV s (.vldx d a b reg w) sl sh.cycles { tiles := sh.fill sl d.toNat sh.width code, reads := rng })
        ∧ (s.vReady (.vstx d a b reg w) (w == 1) true [] rng (sh.tiles sl b.toNat 32 ++ [sl.tileOf d.toNat]) [] →
          IssuesV s (.vstx d a b reg w) sl sh.cycles { scratch := bits, writes := rng }))
      ∧ ∀ word ∈ [Instr.vldx d a b reg w, .vstx d a b reg w],
          s.vReady word (w == 1) true [] [] [] (if word = .vldx d a b reg w then sh.tiles sl d.toNat sh.width else []) → sl.stop = none →
          ∀ before p after, sh.on sl = before ++ p :: after →
          ((∀ q ∈ before, fits q) → ¬ fits p →
            Raises (exec word s) s .V 0x03 (wordOf word + p.1 * 2 ^ 32 + p.2 * 2 ^ 40) (ea p.1 p.2 % 2 ^ 64))
          ∧ ((∀ q ∈ sh.on sl, fits q) → (∀ q ∈ before, ea q.1 q.2 % n = 0) → ea p.1 p.2 % n ≠ 0 →
            Raises (exec word s) s .V 0x04 (wordOf word + p.1 * 2 ^ 32 + p.2 * 2 ^ 40) (ea p.1 p.2))

/-- VRNG of an unsigned 32-bit shape completes: each enabled position receives the draw of the slot's key, step and tensor, as the engine
sees them, at the coordinate g[A] plus the row times g[B] plus the column; the triple of its first enabled coordinate enters the draw
filter of the core. Where the filter holds the triple already and TRAPCTL is 1, the slot is stopped by KEYREUSE. VSTAT of a slot number of
the context's own completes: its probe, with the sums its kind forms, is on its way with the results. Another slot raises PERMISSION.
(Readings of the model, where it rests on one: logs 26 and 59.) -/
def Obligations.DrawsAndProbes : Prop :=
  (∀ (s : State) (d a b : BitVec 6) (reg : BitVec 2) (w : BitVec 1),
    let sl := (s.slot s.cur).swapped reg.toNat (w == 1)
    let (x, y) := s.copiedOf .V a.toNat b.toNat
    let v := sl.vec.pc.view
    let key := v.key0.toNat + v.key1.toNat * 2 ^ 32 + v.key2.toNat * 2 ^ 64 + v.key3.toNat * 2 ^ 96
    let coord (i j : Nat) : Nat := (x.toNat + i * y.toNat + j) % 2 ^ 64
    ∀ sh, sl.regs.vshape reg.toNat = some sh → sh.code = 0x1C → sh.rnd ≠ 4 →
      s.vReady (.vrng d a b reg w) (w == 1) true [] [] [] [sl.tileOf d.toNat] →
      let es : List DrawEntry := ((sh.on sl).head?.map fun p => ⟨s.cur, v.tensorid, v.stepno, BitVec.ofNat 64 (coord p.1 p.2)⟩).toList
      let z : VEffect := { tiles := sh.fill sl d.toNat 32 fun i j => ctrDraw key v.stepno.toNat v.tensorid.toNat 0 (coord i j) }
      let old := (s.core (s.cur / 2)).filter
      ((∀ e ∈ es, e ∉ old) → ∃ fl : VFlight, fl.holds s sh.cycles z ∧ Completes (exec (.vrng d a b reg w) s) .V
        ((s.withFlight sl fl sh.cycles).modCore (s.cur / 2) fun c => { c with filter := if es = [] then old else (es ++ old).take 64 }))
      ∧ (∀ e, es = [e] → e ∈ old → v.trapctl = true → sl.stop = none → ∃ t, exec (.vrng d a b reg w) s = .next t
        ∧ ((t.slot s.cur).stop.map fun (z : Stop) => (z.eng, z.code, z.final)) = some (.V, 0x12, false)))
  ∧ ∀ (s : State) (i : Instr) (d : BitVec 6) (reg : BitVec 2) (w : BitVec 1) (format : Nat → Bool) (srcs : List (BitVec 6)) (k : ProbeKind)
      (sums : Slot → VShape → Nat × Nat), probeRule i = some (d, reg, w, format, srcs, k, sums) →
    let sl := (s.slot s.cur).swapped reg.toNat (w == 1)
    let n := (s.copiedOf .V d.toNat 0).1.toNat
    let img := (s.ctx (sl.act.inctag.toNat / 64)).image
    let owns := img.bfirst.toNat ≤ n ∧ n < img.bfirst.toNat + img.bcount.toNat
    ∀ sh, sl.regs.vshape reg.toNat = some sh → format sh.code = true → sh.rnd ≠ 4 → n < 4096 →
      (owns → s.vReady i (w == 1) true [] [] (srcs.map fun m => sl.tileOf m.toNat) [] → IssuesV s i sl sh.cycles
        { probe := some { kind := k, pslot := n, s0 := (sums sl sh).1, s1 := (sums sl sh).2, tag := sl.act.inctag, fmt := sh.code,
                          from_ := s.cur } })
      ∧ (¬ owns → s.vReady i (w == 1) true [] [] [] [] → sl.stop = none → Raises (exec i s) s .V 0x09 (wordOf i) 0)

/-- V_RESULTS_WRITTEN at a slot with a word in flight that is due writes the results of the earliest one: its tiles, its mask operation,
its stores and its vote; the word leaves the list of those in flight, or stays for its probe. With none due it changes nothing. A popped,
pushed or inverted mask stack, and the vote queue, stand as the rules give them; nothing outside the slot and its core's scratchpad
changes. -/
def Obligations.VectorResults : Prop :=
  ∀ s : State, let sl := s.slot s.cur
    ((∀ f ∈ sl.vec.fly, f.written = true ∨ s.now < f.due) → exec .vResultsWritten s = .next s)
    ∧ ∀ before fl after, sl.vec.fly = before ++ fl :: after → (∀ f ∈ before, f.written = true ∨ s.now < f.due) →
      fl.written = false → fl.due ≤ s.now →
      ∃ t, exec .vResultsWritten s = .next t ∧ t.mem = s.mem ∧ t.hub = s.hub ∧ t.dies = s.dies ∧ t.winches = s.winches
        ∧ (∀ n, n ≠ s.cur → t.slot n = s.slot n) ∧ (∀ n, n ≠ s.cur / 2 → t.core n = s.core n)
        ∧ (t.slot s.cur).vec.fly = before ++ (if fl.probe.isSome then [{ fl with written := true }] else []) ++ after
        ∧ (∀ n, (t.slot s.cur).regs.getV n = ((s.vWrite s.cur fl).slot s.cur).regs.getV n)
        ∧ (∀ a, (t.core (s.cur / 2)).scratch.read a = ((s.vWrite s.cur fl).core (s.cur / 2)).scratch.read a)
        ∧ (t.slot s.cur).seq.votes = sl.seq.votes ++ fl.vote.toList
        ∧ (∀ m, fl.maskOp = .push m → (t.slot s.cur).regs.masks = m :: sl.regs.masks)
        ∧ (fl.maskOp = .pop → (t.slot s.cur).regs.masks = sl.regs.masks.tail)
        ∧ (fl.maskOp = .keep → (t.slot s.cur).regs.masks = sl.regs.masks)
        ∧ (∀ m rest, fl.maskOp = .invert → sl.regs.masks = m :: rest →
            (t.slot s.cur).regs.masks = (rest.head?.getD (BitVec.allOnes 4096) &&& ~~~m) :: rest)
        ∧ ∀ g, (t.slot s.cur).regs.getG g = sl.regs.getG g

/-- A KWAIT of the vector engine or of the asynchronous slot, whose engine is free, raises ILLEGAL when n is above the ceiling; when the
count is at least n, it completes and subtracts n; when the count is less, its engine comes to wait at it. A KSIG there completes: its
signal stands after those not yet made. -/
def Obligations.LaggingTokens : Prop :=
  (∀ (s : State) (i : Instr) (e : Engine) (tok n : Nat), laggingWait i = some (e, tok, n) → i.wellFormed = true → s.engineFree e →
    let sl := s.slot s.cur
    let t := sl.regs.getK tok
    (t.ceiling.toNat < n → sl.stop = none → ∃ status, Raises (exec i s) s e 0x01 status 0)
    ∧ (n ≤ t.ceiling.toNat → n ≤ t.count.toNat →
        ∃ k : Token, k.became t (t.count.toNat - n) ∧ Completes (exec i s) e ((s.modRegs s.cur fun r => r.setK tok k).occupied e))
    ∧ (n ≤ t.ceiling.toNat → t.count.toNat < n → (sl.counter e).waiting = none →
        exec i s = .next (s.modCounter s.cur e fun c => { c with waiting := some (tok, n, s.now) })))
  ∧ ∀ (s : State) (i : Instr) (e : Engine) (tok n : Nat), laggingSignal i = some (e, tok, n) → i.wellFormed = true → s.engineFree e →
    let c := (s.slot s.cur).counter e
    Completes (exec i s) e ((s.modSlot s.cur fun sl => { sl with signals := sl.signals ++ [⟨e, c.pos, c.word, tok, n, []⟩] }).occupied e)

/-- TOKEN_WAIT_PERFORM at a slot that runs performs the wait at which its engine stands, or that heads its elastic buffer, once the count
is at least n: it subtracts n and the engine goes on; with a lesser count nothing changes but that the buffer notes since when its head
has waited. TOKEN_SIGNAL makes the engine's first signal once every earlier word of the engine has completed, and changes nothing before:
it adds n, or, where the count would pass the ceiling, leaves it and raises TOKENCEIL in a slot that has not stopped, whose status word
holds the token, the count and n and whose record names the signalling word. -/
def Obligations.TokenSteps : Prop :=
  (∀ (s : State) (e : Engine) (tok n since : Nat), e ≠ .M → (s.slot s.cur).stop = none → s.engineFree e →
    (e = .S → (s.slot s.cur).mat.late = false) → ((s.slot s.cur).counter e).waiting = some (tok, n, since) →
    let t := (s.slot s.cur).regs.getK tok
    (n ≤ t.count.toNat → ∃ u, exec (.tokenWaitPerform e) s = .next u
      ∧ ((u.slot s.cur).regs.getK tok).became t (t.count.toNat - n) ∧ (∀ k, k ≠ tok → (u.slot s.cur).regs.getK k = (s.slot s.cur).regs.getK k)
      ∧ ((u.slot s.cur).counter e).pos = ((s.slot s.cur).counter e).pos + 1
      ∧ ((u.slot s.cur).counter e).word = ((s.slot s.cur).counter e).leave.word ∧ ((u.slot s.cur).counter e).waiting = none
      ∧ (∀ x, x ≠ s.cur → u.slot x = s.slot x) ∧ u.mem = s.mem ∧ u.hub = s.hub ∧ ∀ g, (u.slot s.cur).regs.getG g = (s.slot s.cur).regs.getG g)
    ∧ (t.count.toNat < n → exec (.tokenWaitPerform e) s = .next s))
  ∧ (∀ (s : State) (m : MEntry) (rest : List MEntry) (tok n : Nat), (s.slot s.cur).stop = none → (s.slot s.cur).mat.buf = m :: rest →
    m.op = .kwait tok n →
    let t := (s.slot s.cur).regs.getK tok
    (n ≤ t.count.toNat → ∃ (k : Token) (u : State), k.became t (t.count.toNat - n) ∧ exec (.tokenWaitPerform .M) s = .next u
      ∧ u.slots = ((s.modRegs s.cur fun r => r.setK tok k).modMat s.cur fun x => { x with buf := rest, waitFrom := none }).slots
      ∧ u.mem = s.mem ∧ u.hub = s.hub ∧ u.dies = s.dies ∧ u.winches = s.winches)
    ∧ (t.count.toNat < n → exec (.tokenWaitPerform .M) s
        = .next (s.modMat s.cur fun x => { x with waitFrom := some (x.waitFrom.getD s.now) })))
  ∧ ∀ (s : State) (e : Engine) (g : PendSignal) (before after : List PendSignal), (s.slot s.cur).signals = before ++ g :: after →
    (∀ x ∈ before, x.eng ≠ e) → g.eng = e →
    let sl := s.slot s.cur
    let t := sl.regs.getK g.tok
    let ready := if e = .S then g.regs = [] else sl.completedBefore e g.pos
    let rest (u : State) : State := u.modSlot s.cur fun sl => { sl with signals := before ++ after }
    (¬ ready → exec (.tokenSignal e) s = .next s)
    ∧ (ready → t.count.toNat + g.n ≤ t.ceiling.toNat → ∃ k : Token, k.became t (t.count.toNat + g.n)
      ∧ exec (.tokenSignal e) s = .next (rest (s.modRegs s.cur fun r => r.setK g.tok k)))
    ∧ (ready → t.ceiling.toNat < t.count.toNat + g.n → sl.stop ≠ none → exec (.tokenSignal e) s = .next s)
    ∧ (ready → t.ceiling.toNat < t.count.toNat + g.n → sl.stop = none → ∃ u x, exec (.tokenSignal e) s = .next (rest u)
      ∧ State.Trapped s.cur e x none s u ∧ x.code = 0x06 ∧ x.status = g.tok + t.count.toNat * 2 ^ 16 + g.n * 2 ^ 32 ∧ x.addr = 0
      ∧ (match e with | .S => x.widxS | .V => x.widxV | .M => x.widxM | .A => x.widxA) = g.word)

/-- WALK_DONE for an access of a slot, of a tag that is current, whose earlier accesses have performed, which no buffer translates, and
whose home the links that carry traffic reach from its die: on a plain page in HBM, the ACC bit of its entry is set, and DIRTY too for a
write, and a load fixes the bytes that its class reads on the die, filling its line; a store is accepted by the die with its bytes; an
atomic, over which no accepted store lies, fixes the old value at its home and leaves there the new one. A walk that faults stops the slot
at the sequencer: the record holds the fault, the address, the level and the access kind. Before its turn an access changes nothing.
(Readings of the model, where it rests on one: logs 20, 21 and 24.) -/
def Obligations.GlobalWalk : Prop :=
  ∀ (s : State) (slot k : Nat) (r : GReq), (s.slot slot).seq.reqs[k]? = some r → r.stage = .walk →
    let die := slot / 80
    let done (u : State) (x : GReq) : Prop := (u.slot slot).seq.reqs = (s.slot slot).seq.reqs.set k x
      ∧ (∀ n, n ≠ slot → u.slot n = s.slot n) ∧ u.stuck = s.stuck ∧ ∀ g, (u.slot slot).regs.getG g = (s.slot slot).regs.getG g
    (¬ (s.slot slot).seq.ordered r → exec (.walkDone (.seq slot) k) s = .next s)
    ∧ ((s.slot slot).seq.ordered r → s.live r.tag = true → s.walksAfresh (slot / 2) r.tag r.va →
      (∀ e at_, s.walk (r.tag.toNat / 64) (some r.walkKind) r.va = .leaf e at_ → plainPage e →
        let pa := e / 2 ^ 24 % 2 ^ 24 * 65536 + r.va % 65536
        s.reaches die pa = true →
        (∀ n sg, r.kind = .load n sg → n ∣ 8 → r.va % n = 0 → ∃ u, exec (.walkDone (.seq slot) k) s = .next u
          ∧ done u { r with stage := .served, pa := pa, val := numberAt (fun j => u.seenAt die r.cls (pa + j)) n }
          ∧ u.memNat at_ 16 / 2 ^ 11 % 2 = 1
          ∧ ∃ l ∈ (u.die die).lines, l.base = pa / 256 * 256 ∧ l.cls = r.cls)
        ∧ (∀ n, r.kind = .store n → n ∣ 8 → ∃ u bs, exec (.walkDone (.seq slot) k) s = .next u
          ∧ done u { r with stage := .served, pa := pa }
          ∧ bs.length = n ∧ (∀ j, j < n → bs[j]? = some (BitVec.ofNat 8 (r.x / 256 ^ j)))
          ∧ (u.die die).accepted = (s.die die).accepted ++ [⟨slot, false, r.num, 0, pa, bs, r.tag, r.cls⟩]
          ∧ u.memNat at_ 16 / 2 ^ 11 % 4 = 3)
        ∧ (∀ op n, r.kind = .atom op n → n = 4 ∨ n = 8 → op ≤ 9 → (∀ x ∈ (s.die die).accepted, x.pa + x.bytes.length ≤ pa ∨ pa + n ≤ x.pa) →
          ∃ u old, exec (.walkDone (.seq slot) k) s = .next u ∧ done u { r with stage := .served, pa := pa, val := old }
          ∧ numberAt (fun j => u.mem.read (pa + j)) n = atomResult op (8 * n) old (r.x % 256 ^ n) (r.y % 256 ^ n)
          ∧ ((pa + n ≤ at_ ∨ at_ + 16 ≤ pa) → old = numberAt (fun j => s.mem.read (pa + j)) n ∧ u.memNat at_ 16 / 2 ^ 11 % 4 = 3)))
      ∧ ∀ code level, s.walk (r.tag.toNat / 64) (some r.walkKind) r.va = .fault code level → (s.slot slot).stop = none →
        ∃ u x, exec (.walkDone (.seq slot) k) s = .next u ∧ done u { r with stage := .faulted }
          ∧ (u.slot slot).stop = some ⟨s.hub.traps.nextId, .S, code, false⟩
          ∧ u.hub.traps.table = s.hub.traps.table ++ [x] ∧ x.id = s.hub.traps.nextId ∧ x.body.code = code ∧ x.body.addr = r.va
          ∧ x.body.status = level + r.walkKind.code * 256 ∧ x.body.who = .slot slot .S ∧ x.walk = some ⟨r.tag, r.va / 65536⟩
          ∧ u.hub.traps.walks = s.hub.traps.walks ++ [⟨r.tag, r.va / 65536⟩])

/-- GLOBAL_LOAD_RESPONSE of a served load or atomic writes the value, sign- or zero-extended, to its register, which later words may then
read, and the access is over. GLOBAL_STORE_ACK of the k-th store that a die has accepted, a GST of a current tag to HBM before which no
accepted store overlaps it or has its slot and class, and whose home the die reaches, writes its bytes at the home and ends the access, or
counts an orphan where the slot no longer runs the tag that issued it; no other byte of memory changes. One whose home is not reached
stays. A store of a tag that is not current is dropped and writes nothing. -/
def Obligations.GlobalAnswers : Prop :=
  (∀ (s : State) (k : Nat) (r : GReq), (s.slot s.cur).seq.reqs[k]? = some r → r.stage = .served → (∀ n, r.kind ≠ .store n) →
    let v : Reg := match r.kind with
      | .load n true => if 2 ^ (8 * n - 1) ≤ r.val then BitVec.ofInt 64 (r.val - 2 ^ (8 * n)) else BitVec.ofNat 64 r.val
      | _ => BitVec.ofNat 64 r.val
    (∀ n sg, r.kind = .load n sg → 1 ≤ n ∧ r.val < 2 ^ (8 * n)) →
    ∃ u, exec (.globalLoadResponse k) s = .next u ∧ (u.slot s.cur).regs.getG r.reg = (if r.reg = 0 then 0 else v)
      ∧ (∀ g, g ≠ r.reg → (u.slot s.cur).regs.getG g = (s.slot s.cur).regs.getG g)
      ∧ (u.slot s.cur).seq.reqs = (s.slot s.cur).seq.reqs.eraseIdx k ∧ (u.slot s.cur).seq.locks = (s.slot s.cur).seq.locks.erase (.g r.reg)
      ∧ u.mem = s.mem ∧ u.hub = s.hub ∧ ∀ n, n ≠ s.cur → u.slot n = s.slot n)
  ∧ ∀ (s : State) (k : Nat) (e : NearStoreEntry), (s.die s.cur).accepted[k]? = some e → e.burst = false →
    (s.live e.tag = false → ∃ u, exec (.globalStoreAck k) s = .next u ∧ u.mem = s.mem
      ∧ (u.die s.cur).accepted = (s.die s.cur).accepted.eraseIdx k)
    ∧ (s.live e.tag = true → s.reaches s.cur e.pa = false → exec (.globalStoreAck k) s = .next s)
    ∧ (s.live e.tag = true → s.reaches s.cur e.pa = true → e.pa + e.bytes.length ≤ s.hbmEnd →
      (∀ x ∈ (s.die s.cur).accepted.take k, (x.pa + x.bytes.length ≤ e.pa ∨ e.pa + e.bytes.length ≤ x.pa)
        ∧ ¬ (x.slot = e.slot ∧ x.burst = false ∧ x.cls = e.cls)) → e.pa < s.hbmEnd →
      let runs := (s.slot e.slot).busy = true ∧ (s.slot e.slot).act.inctag = e.tag
      ∃ u, exec (.globalStoreAck k) s = .next u
        ∧ (∀ a, u.mem.read a = if e.pa ≤ a ∧ a < e.pa + e.bytes.length then (e.bytes[a - e.pa]?).getD 0 else s.mem.read a)
        ∧ (u.die s.cur).accepted = (s.die s.cur).accepted.eraseIdx k
        ∧ (runs → (u.slot e.slot).seq.reqs = (s.slot e.slot).seq.reqs.eraseP (fun r => r.num == e.num && r.tag == e.tag)
            ∧ (∀ n, n ≠ e.slot → u.slot n = s.slot n) ∧ u.hub = s.hub)
        ∧ (¬ runs → u.slots = s.slots ∧ ((s.ctx (e.tag.toNat / 64)).phase ≠ .free →
            (u.ctx (e.tag.toNat / 64)).orphan.toNat = min (2 ^ 32 - 1) ((s.ctx (e.tag.toNat / 64)).orphan.toNat + 1))))

/-- TLBINV of a range checks its size, its end and then its alignment; once no store of the context is on its way in its scope, it
completes: within its scope exactly the context's translations of a byte of the range, or all of the context where the count is zero,
leave the buffers. PGQRY completes with the word that R276 lays out: the fields of the leaf that it walks to without a permission check,
the capped current level and staleness of a tensor page, bit 63 alone for a malformed entry, and zero where nothing maps the address.
PGHINT checks its count and alignment; over pages that nothing maps it completes with no effect, and PGHINT.TRANS of one page that is
mapped completes with its translation in the die's buffer and no other change. (Readings of the model, where it rests on one: logs 19 and
22.) -/
def Obligations.PageWords : Prop :=
  (∀ (s : State) (d a b : BitVec 6), s.issues (.tlbinv d a b) = true →
    let lo := (s.g a.toNat).toNat
    let n := (s.g b.toNat).toNat
    let core := s.cur / 2
    let ctx := (s.slot s.cur).act.inctag.toNat / 64
    (2 ^ 24 ≤ n ∨ n ≠ 0 ∧ 2 ^ 56 < lo + 65536 * n → (s.slot s.cur).stop = none → Raises (exec (.tlbinv d a b) s) s .S 0x01 0 0)
    ∧ (n < 2 ^ 24 → (n = 0 ∨ lo + 65536 * n ≤ 2 ^ 56) → lo % 65536 ≠ 0 → (s.slot s.cur).stop = none → Raises (exec (.tlbinv d a b) s) s .S 0x04 0 lo)
    ∧ (n < 2 ^ 24 → (n = 0 ∨ lo + 65536 * n ≤ 2 ^ 56) → lo % 65536 = 0 →
      (∀ p ∈ s.dies, (p.1 = core / 40 ∨ d = 2) → ∀ e ∈ p.2.accepted, e.tag.toNat / 64 ≠ ctx) →
      Completes (exec (.tlbinv d a b) s) .S (s.forgetting
        (fun c => if d = 0 then c == core else if d = 1 then c / 40 == core / 40 else true)
        (fun x => if d = 0 then false else if d = 1 then x == core / 40 else true)
        (fun t => t.tag.toNat / 64 == ctx
          && (n == 0 || decide (t.va < lo + 65536 * n ∧ lo < t.va + if t.big then 0x200000 else 0x10000))))))
  ∧ (∀ (s : State) (d a : BitVec 6), s.issues (.pgqry d a) = true →
    let va := (s.g a.toNat).toNat
    let ctx := (s.slot s.cur).act.inctag.toNat / 64
    (2 ^ 56 ≤ va → Completes (exec (.pgqry d a) s) .S (s.withResult d 0 1))
    ∧ (∀ code level, va < 2 ^ 56 → s.walk ctx none va = .fault code level →
      Completes (exec (.pgqry d a) s) .S (s.withResult d (if code = 0x01 then BitVec.ofNat 64 (2 ^ 63) else 0) 1))
    ∧ (∀ e at_, va < 2 ^ 56 → s.walk ctx none va = .leaf e at_ → ∃ v : Reg, Completes (exec (.pgqry d a) s) .S (s.withResult d v 1)
      ∧ (let x := v.toNat
         let cur := if e / 2 ^ 8 % 2 = 1 then s.cappedLevel e (s.pslot (e / 2 ^ 52 % 2 ^ 12)).level.toNat else 0
         x / 2 ^ 55 = 0 ∧ x / 2 ^ 43 % 2 ^ 12 = e / 2 ^ 52 % 2 ^ 12 ∧ x / 2 ^ 40 % 8 = e / 2 ^ 49 % 8
         ∧ x / 2 ^ 16 % 2 ^ 24 = (if e / 2 ^ 2 % 8 = 2 then e / 2 ^ 64 % 2 ^ 24 else e / 2 ^ 24 % 2 ^ 24)
         ∧ x / 2 ^ 13 % 8 = cur ∧ (x / 2 ^ 12 % 2 = 1 ↔ e / 2 ^ 8 % 2 = 1 ∧ e / 2 ^ 49 % 8 ≠ cur)
         ∧ x / 2 ^ 11 % 2 = e / 2 ^ 12 % 2 ∧ x / 2 ^ 10 % 2 = e / 2 ^ 11 % 2 ∧ x / 2 ^ 9 % 2 = e / 2 ^ 10 % 2
         ∧ x / 2 ^ 8 % 2 = e / 2 ^ 9 % 2 ∧ x / 2 ^ 7 % 2 = e / 2 ^ 8 % 2 ∧ x / 2 ^ 4 % 8 = e / 2 ^ 5 % 8 ∧ x / 2 ^ 3 % 2 = 1
         ∧ x % 8 = e / 2 ^ 2 % 8)))
  ∧ ∀ (s : State) (a b : BitVec 6) (i : Instr), i = .pghintTrans a b ∨ i = .pghintEnc a b → s.issues i = true →
    let lo := (s.g a.toNat).toNat
    let n := (s.g b.toNat).toNat
    let tag := (s.slot s.cur).act.inctag
    (n = 0 ∨ 4096 < n → (s.slot s.cur).stop = none → Raises (exec i s) s .S 0x01 0 0)
    ∧ (1 ≤ n → n ≤ 4096 → lo % 65536 ≠ 0 → (s.slot s.cur).stop = none → Raises (exec i s) s .S 0x04 0 lo)
    ∧ (1 ≤ n → n ≤ 4096 → lo % 65536 = 0 →
      (∀ k, k < n → 2 ^ 56 ≤ lo + 65536 * k ∨ ∃ code level, s.walk (tag.toNat / 64) none (lo + 65536 * k) = .fault code level) →
      Completes (exec i s) .S s)
    ∧ (n = 1 → lo % 65536 = 0 → lo < 2 ^ 56 → ∀ e at_, s.walk (tag.toNat / 64) none lo = .leaf e at_ → i = .pghintTrans a b →
      let big := decide (e / 2 ^ 9 % 2 = 1)
      let x : TlbEntry := ⟨tag, if big then lo / 0x200000 * 0x200000 else lo, big, BitVec.ofNat 128 e, at_⟩
      Completes (exec i s) .S (s.modDie (s.cur / 80) fun y => { y with tlb := (x :: y.tlb.filter (· != x)).take 32768 }))

/-- GOVRD, GOVWR and GOVPIN raise ILLEGAL for a slot number from 4096, then PERMISSION for one outside the context's range, then, but for
GOVRD and an INIT, ILLEGAL for an unassigned slot. GOVRD completes with the field, the sums rounded to FP32. GOVWR of a value that R288
allows completes with the effect of its field, and raises ILLEGAL for another. GOVPIN of 7 completes and unpins; of the level that the
slot has, it completes and pins; of another level that the ladder has, it also changes the level and the epoch and records the change; it
raises ILLEGAL for a level that the ladder lacks. PROBE_ACCEPT of the earliest probe whose sums are formed adds them exactly, where the
tag is current and the slot is assigned, and sets TCH; it drops and counts one that is not current, and discards one to an unassigned
slot. (Readings of the model, where it rests on one: logs 32 and 33.) -/
def Obligations.GovernorWords : Prop :=
  (∀ (s : State) (i : Instr) (a : BitVec 6), (∃ d f, i = .govrd d a f) ∨ (∃ f b, i = .govwr f a b) ∨ (∃ b, i = .govpin a b) →
    s.issues i = true → (s.slot s.cur).stop = none →
    let n := (s.g a.toNat).toNat
    (4096 ≤ n → Raises (exec i s) s .S 0x01 0 0)
    ∧ (n < 4096 → ¬ s.holdsPslot n → Raises (exec i s) s .S 0x09 0 0)
    ∧ (n < 4096 → s.holdsPslot n → (s.pslot n).role = 7 → (∀ d f, i ≠ .govrd d a f) → (∀ b, i ≠ .govwr 24 a b) → Raises (exec i s) s .S 0x01 0 0))
  ∧ (∀ (s : State) (d a f : BitVec 6), s.issues (.govrd d a f) = true →
    let n := (s.g a.toNat).toNat
    n < 4096 → s.holdsPslot n → (s.pslot n).level.toNat ≤ 5 →
    Completes (exec (.govrd d a f) s) .S (s.withResult d (BitVec.ofNat 64 ((s.pslot n).fieldValue f.toNat)) 1))
  ∧ (∀ (s : State) (f a b : BitVec 6), s.issues (.govwr f a b) = true →
    let n := (s.g a.toNat).toNat
    let x := (s.g b.toNat).toNat
    let full := s.hub.dev.service == 2
    n < 4096 → s.holdsPslot n → ((s.pslot n).role ≠ 7 ∨ f = 24) →
    (govAllows full f.toNat x → Completes (exec (.govwr f a b) s) .S (s.modPslot n fun p => p.govWrite f.toNat x))
    ∧ (¬ govAllows full f.toNat x → (s.slot s.cur).stop = none → Raises (exec (.govwr f a b) s) s .S 0x01 0 0))
  ∧ (∀ (s : State) (a b : BitVec 6), s.issues (.govpin a b) = true →
    let n := (s.g a.toNat).toNat
    let x := (s.g b.toNat).toNat
    let p := s.pslot n
    let c := (s.slot s.cur).act.inctag.toNat / 64
    let level := if s.ladder then x ≤ 5 else x = 3 ∨ x = 5
    let pinned (p : PSlot) : PSlot := { p with pin := true, dscale := if 3 ≤ x then 0x7F else p.dscale }
    n < 4096 → s.holdsPslot n → p.role ≠ 7 →
    (x = 7 → Completes (exec (.govpin a b) s) .S (s.modPslot n fun p => { p with pin := false }))
    ∧ (level → p.level.toNat = x → Completes (exec (.govpin a b) s) .S (s.modPslot n pinned))
    ∧ (level → p.level.toNat ≠ x →
      let ep := (s.ctx c).epoch + 1
      let s₁ := (s.modPslot n fun p => { pinned p with prvlvl := p.level, level := BitVec.ofNat 3 x, chgep := ep }).modCtx c fun y =>
        { y with epoch := ep }
      Completes (exec (.govpin a b) s) .S (s₁.writeEvent (s.levelEvent c n p.level.toNat x 3 0)))
    ∧ (¬ level → x ≠ 7 → (s.slot s.cur).stop = none → Raises (exec (.govpin a b) s) s .S 0x01 0 0))
  ∧ ∀ (s : State) (before after : List VFlight) (f : VFlight) (p : Probe), (s.slot s.cur).vec.fly = before ++ f :: after →
    (∀ x ∈ before, x.probe = none ∨ x.written = false) → f.probe = some p → f.written = true →
    let old := s.pslot p.pslot
    ∃ t, exec .probeAccept s = .next t ∧ (t.slot s.cur).vec.fly = before ++ after ∧ t.mem = s.mem
      ∧ (∀ n, n ≠ p.pslot → t.pslot n = s.pslot n)
      ∧ (s.live p.tag = false ∨ old.role = 7 → t.pslot p.pslot = old)
      ∧ (s.live p.tag = false → (s.ctx (p.tag.toNat / 64)).phase ≠ .free →
          (t.ctx (p.tag.toNat / 64)).stale.toNat = min (2 ^ 32 - 1) ((s.ctx (p.tag.toNat / 64)).stale.toNat + 1))
      ∧ (s.live p.tag = true → old.role ≠ 7 →
          let new := t.pslot p.pslot
          new = { old with qe := new.qe, qs := new.qs, gn := new.gn, gns := new.gns, ovc := new.ovc, tch := true }
          ∧ (p.kind = .ov → new.ovc.toNat = min (2 ^ 32 - 1) (old.ovc.toNat + p.s0))
          ∧ (p.kind ≠ .ov → new.ovc = old.ovc) ∧ (p.kind ≠ .qe → new.qe = old.qe ∧ new.qs = old.qs)
          ∧ (p.kind ≠ .gn → new.gn = old.gn) ∧ (p.kind ≠ .gnsum → new.gns = old.gns)
          ∧ ∀ (sum : PSlot → Val) (code : Nat),
              (p.kind = .qe ∧ sum = PSlot.qe ∧ code = p.s0) ∨ (p.kind = .qe ∧ sum = PSlot.qs ∧ code = p.s1)
                ∨ (p.kind = .gn ∧ sum = PSlot.gn ∧ code = p.s0) ∨ (p.kind = .gnsum ∧ sum = PSlot.gns ∧ code = p.s0) →
              ∀ x y, (sum old).rat = some x → (ofF32 code).rat = some y → (sum new).rat = some (x + y))

/-- Before the vector engine has left every earlier position and completed its words there GOVSTEP changes nothing. Then a step number
above 32 bits raises ILLEGAL. Else it completes: each slot of the context's range that is assigned and touched, whose thresholds have a
clear sign and whose maximum is a finite magnitude, moves as R284 says, by its pin, its overflow count and the exact ratio of its sums
against its thresholds, takes its delayed scale, and clears its sums, counts and TCH; a slot whose level changed notes the old level, the
new epoch and the step. Every other slot stays. The result is the number of slots whose level changed, and the epoch advances if there is
one. -/
def Obligations.GovernorStep : Prop :=
  ∀ (s : State) (d a : BitVec 6), s.issues (.govstep d a) = true →
    let step := (s.g a.toNat).toNat
    let sl := s.slot s.cur
    let c := sl.act.inctag.toNat / 64
    let img := (s.ctx c).image
    let range := rangeFrom img.bfirst.toNat img.bcount.toNat
    let ep := (s.ctx c).epoch + 1
    (¬ sl.engineQuiet .V sl.seq.pc.pos → exec (.govstep d a) s = .next s)
    ∧ (2 ^ 32 ≤ step → sl.engineQuiet .V sl.seq.pc.pos → sl.stop = none → Raises (exec (.govstep d a) s) s .S 0x01 0 0)
    ∧ (step < 2 ^ 32 → sl.engineQuiet .V sl.seq.pc.pos →
      ∃ s₁ : State, Completes (exec (.govstep d a) s) .S s₁ ∧ (∀ n, n ≠ s.cur → s₁.slot n = s.slot n)
      ∧ (let n := (range.filter fun k => (s₁.pslot k).level != (s.pslot k).level).length
         s₁.slot s.cur = (s.withResult d (BitVec.ofNat 64 n) 1).slot s.cur
         ∧ (s₁.ctx c).epoch = if n = 0 then (s.ctx c).epoch else ep)
      ∧ (∀ k, k ∉ range ∨ (s.pslot k).role = 7 ∨ (s.pslot k).tch = false → s₁.pslot k = s.pslot k)
      ∧ ∀ k, k ∈ range → (s.pslot k).role ≠ 7 → (s.pslot k).tch = true → (s.pslot k).loth.toNat < 2 ^ 31 → (s.pslot k).hith.toNat < 2 ^ 31 →
          (s.pslot k).amax.toNat < 0x7F800000 → (s.pslot k).level.toNat ≤ 5 →
        let p := s.pslot k
        let q := s₁.pslot k
        p.steps s.ladder q.level.toNat q.run.toNat ∧ p.scaled q.level.toNat q.dscale.toNat
        ∧ q = { p with
            level := q.level, run := q.run, dscale := q.dscale, qe := .zero, qs := .zero, gn := .zero, gns := .zero, amax := 0, ovc := 0,
            ufc := 0, tch := false, prvlvl := if q.level = p.level then p.prvlvl else p.level,
            chgep := if q.level = p.level then p.chgep else ep, lcs := if q.level = p.level then p.lcs else BitVec.ofNat 32 step })

/-- While the elastic buffer holds eight words, a word of the matrix engine changes nothing. With room, MPRI and KSIG.M, and KWAIT.M of a
number up to its token's ceiling, enter it and complete; KWAIT.M of more raises ILLEGAL. A timed word reads its shape register, swapped if
it says so. Of its checks the first that fails raises its fault: formats, block lengths, a stamp offset outside a region, extents, slices
and tile names raise ILLEGAL, a byte outside the slot's range SPBOUND, and addresses ALIGN. If all pass and the range checker has room, it
enters the buffer with its operation, its shape and its target stamp, and completes. (Readings of the model, where it rests on one: logs
14 and 27.) -/
def Obligations.MatrixIssue : Prop :=
  (∀ (s : State) (i : Instr), (matrixRule i).isSome = true ∨ (matrixPlain i).isSome = true → i.wellFormed = true →
    8 ≤ (s.slot s.cur).mat.buf.length → exec i s = .next s)
  ∧ (∀ (s : State) (i : Instr) (op : MOp), matrixPlain i = some op → i.wellFormed = true →
    let sl := s.slot s.cur
    sl.mat.buf.length < 8 →
    ((∀ tok n, op = .kwait tok n → n ≤ (sl.regs.getK tok).ceiling.toNat) →
      ∃ x : MEntry, x.op = op ∧ x.word = sl.mat.pc.word ∧ x.pos = sl.mat.pc.pos ∧ x.timed = none ∧ x.reads = [] ∧ x.writes = []
        ∧ Completes (exec i s) .M (s.modMat s.cur fun m => { m with buf := m.buf ++ [x] }))
    ∧ (∀ tok n, op = .kwait tok n → (sl.regs.getK tok).ceiling.toNat < n → sl.stop = none → Raises (exec i s) s .M 0x01 (wordOf i) 0))
  ∧ ∀ (s : State) (i : Instr) (reg : BitVec 2) (sw : BitVec 1) (stoff : BitVec 12) (op : MOp), matrixRule i = some (reg, sw, stoff, op) →
    let sl := s.slot s.cur
    let h := sl.matrixShape reg.toNat sw.toNat
    let out (r : Nat × Nat) : Prop := 0 < r.2 ∧ (r.1 < sl.act.spbase.toNat ∨ sl.act.splimit.toNat < r.1 + r.2)
    let legal := h.legal op ∧ h.m ≤ 64 ∧ h.n ≤ 128 ∧ (stoff = 0 ∨ sl.mat.region ≠ none)
    sl.mat.buf.length < 8 →
    (¬ legal → sl.stop = none → Raises (exec i s) s .M 0x01 (wordOf i) 0)
    ∧ (legal → (∃ r ∈ h.touchedBy op, out r) → sl.stop = none → ∃ a, Raises (exec i s) s .M 0x03 (wordOf i) a)
    ∧ (legal → (∀ r ∈ h.touchedBy op, ¬ out r) → ¬ h.aligned op → sl.stop = none → ∃ a, Raises (exec i s) s .M 0x04 (wordOf i) a)
    ∧ (legal → (∀ r ∈ h.touchedBy op, sl.act.spbase.toNat ≤ r.1 ∧ r.1 + r.2 ≤ sl.act.splimit.toNat) → h.aligned op → sl.presented.length < 32 →
      ∃ x : MEntry, x.holdsWord sl i op h stoff.toNat
        ∧ Completes (exec i s) .M ((s.modRegs s.cur fun r => if sw = 1 then r.swapShape 1 reg.toNat else r).modMat s.cur fun m =>
            { m with buf := m.buf ++ [x] }))

/-- M_WORD_COMPLETE changes nothing while the oldest running word of the slot still makes k-steps or made its last one fewer than eight
cycles ago. Then it ends that word with its effect, on the operand bytes that its k-steps have read. The elements i < M and j < N of its
accumulator, and no other, take the value of R191 to R195: for MMA and MMA.T the cell sums of the groups of products added in order, for
MZERO and a clearing MDRAIN zero, for MINIT the exact value of the row's element, for MZP the sum with its correction. MLDB copies codes
and scales into the slices of its columns, and no other bit of the B-store changes. MDRAIN writes the rounded codes to its rows, and no
other byte of the scratchpad changes. MDRAINV copies the elements into the words of the tiles that its rotated names give, and no other
bit of a tile changes. A word with an extent of zero changes nothing. (Readings of the model, where it rests on one: logs 28 and 48.) -/
def Obligations.MatrixResults : Prop :=
  (∀ s : State, (s.slot s.cur).mat.run = [] → exec .mWordComplete s = .next s)
  ∧ (∀ (s : State) (r : MRun) (rest : List MRun), (s.slot s.cur).mat.run = r :: rest → r.done < r.steps ∨ s.now < r.last + 8 →
    exec .mWordComplete s = .next s)
  ∧ ∀ (s : State) (r : MRun) (rest : List MRun), (s.slot s.cur).mat.run = r :: rest → r.steps ≤ r.done → r.last + 8 ≤ s.now →
    let h := r.entry.shape
    let op := r.entry.op
    let sl := s.slot s.cur
    let c := s.core (s.cur / 2)
    let k := c.asSeen r
    h.m ≤ 64 → h.n ≤ 128 → (∀ a, op = .mmaT a → h.k ≤ 128) → h.legal op → h.aligned op →
    ∃ t, exec .mWordComplete s = .next t ∧ t.mem = s.mem ∧ t.hub = s.hub ∧ (∀ n, n ≠ s.cur → t.slot n = s.slot n)
      ∧ (∀ n, n ≠ s.cur / 2 → t.core n = s.core n) ∧ (t.slot s.cur).mat = { sl.mat with run := rest }
      ∧ (∀ g, (t.slot s.cur).regs.getG g = sl.regs.getG g)
      ∧ (h.empties op = true → (t.slot s.cur).regs = sl.regs ∧ t.core (s.cur / 2) = c)
      ∧ (h.empties op = false →
        (∀ a i j, a < 8 → i < 64 → j < 128 → (t.slot s.cur).regs.getAcc a i j
          = if op.accumulator = some a ∧ i < h.m ∧ j < h.n then
              ((h.accValue k s.cur op i j (sl.regs.getAcc a i j).toNat).map (BitVec.ofNat 32)).getD (sl.regs.getAcc a i j)
            else sl.regs.getAcc a i j)
        ∧ ((∀ col, op ≠ .mldb col) → (t.core (s.cur / 2)).bstore = c.bstore ∧ (t.core (s.cur / 2)).raced = c.raced)
        ∧ ((∀ a tr clr sat mode, op ≠ .mdrain a tr clr sat mode) → (t.core (s.cur / 2)).scratch = c.scratch)
        ∧ ((∀ a v, op ≠ .mdrainv a v) → ∀ n, (t.slot s.cur).regs.getV n = sl.regs.getV n)
        ∧ (∀ col, op = .mldb col →
          let w := widthOf h.bfmt
          let b := h.blockOf h.bfmt
          let pay := 8 * ((h.k * w + 63) / 64)
          let seen := c.scratch.overlay r.seen
          let new := (t.core (s.cur / 2)).bstore.read
          (∀ j k, j < h.n → k < h.k → codeAt new (h.slice s.cur j) k w
            = if col then codeAt seen.read (h.aaddr + j * h.astr) k w else codeAt seen.read (h.aaddr + k * h.astr) j w)
          ∧ (b ≠ 0 → ∀ j q, j < h.n → q < h.k / b → new (h.slice s.cur j + pay + q) = seen.read (h.scaddr + q * h.n + j))
          ∧ ∀ x y, y < 8 → (∀ j, j < h.n → 8 * x + y < 8 * h.slice s.cur j ∨ 8 * h.slice s.cur j + w * h.k ≤ 8 * x + y) →
              (b ≠ 0 → ∀ j, j < h.n → x < h.slice s.cur j + pay ∨ h.slice s.cur j + pay + h.k / b ≤ x) →
              (new x).getLsbD y = (c.bstore.read x).getLsbD y)
        ∧ (∀ a tr clr sat mode, op = .mdrain a tr clr sat mode →
          let z := widthOf h.afmt / 8
          let rows := if tr then h.n else h.m
          let cols := if tr then h.m else h.n
          let new := (t.core (s.cur / 2)).scratch.read
          (z * cols ≤ h.astr ∨ rows = 1 → ∀ row pos b, row < rows → pos < cols → b < z →
            new (h.aaddr + row * h.astr + z * pos + b) = BitVec.ofNat 8 (h.drainCode sl.regs a tr sat mode row pos / 256 ^ b))
          ∧ ∀ x, (∀ row, row < rows → x < h.aaddr + row * h.astr ∨ h.aaddr + row * h.astr + z * cols ≤ x) → new x = c.scratch.read x)
        ∧ ∀ a v, op = .mdrainv a v →
          let tile (i j : Nat) : Nat :=
            let n := v + 4 * (i / 32) + j / 32
            if 32 ≤ n ∧ n < 32 + r.entry.rotcfg then 32 + (n - 32 + r.entry.rrb) % r.entry.rotcfg else n
          ∀ n b, b < 32768 → ((t.slot s.cur).regs.getV n).getLsbD b
            = match (rangeFrom 0 h.m).findSome? (fun i => (rangeFrom 0 h.n).findSome? fun j =>
                if tile i j = n ∧ 1024 * (i % 32) + 32 * (j % 32) ≤ b ∧ b < 1024 * (i % 32) + 32 * (j % 32) + 32 then some (i, j) else none) with
              | some p => (sl.regs.getAcc a p.1 p.2).getLsbD (b % 32)
              | none => (sl.regs.getV n).getLsbD b)

/-- At the head of the elastic buffer MPRI is taken and sets the matrix priority, KSIG.M leaves its signal to be made, and KWAIT.M stays;
after a KSIG.M has raised TOKENCEIL, and until that stop is final, the buffer is held. A timed word stays before its target stamp; from
then on it starts, once the other conditions of R183 hold, with the first of the k-steps that R183 counts, which reads its operand bytes
as they stand (a byte of the B-store that the other slot writes may read as an earlier value, R176), and where it starts past the slack of
a region that is not strict its slip event holds its lateness. When the slack of a buffered word has run out, PC_S is held, or, in a
strict region, SCHEDMISS is raised and the word and all later ones leave the buffer. A shared band whose holder has no word that needs it
passes to the other slot. The end of the zeroing of a band leaves its columns zero and free for use, and that of a bank leaves it free for
use. (Readings of the model, where it rests on one: logs 40 and 77.) -/
def Obligations.MatrixTiming : Prop :=
  (∀ (s : State) (x : MEntry) (rest : List MEntry), (s.slot s.cur).mat.buf = x :: rest →
    let m := (s.slot s.cur).mat
    let held := (s.slot s.cur).bufferHeld
    (held = true → exec .mWordStart s = .next s)
    ∧ (∀ p, x.op = .mpri p → held = false → exec .mWordStart s = .next (s.modMat s.cur fun m => { m with buf := rest, mp := p }))
    ∧ (∀ tok n, x.op = .ksig tok n → held = false → exec .mWordStart s = .next ((s.modMat s.cur fun m => { m with buf := rest }).modSlot s.cur fun sl =>
        { sl with signals := sl.signals ++ [⟨.M, x.pos, x.word, tok, n, []⟩] }))
    ∧ (∀ tok n, x.op = .kwait tok n → exec .mWordStart s = .next s)
    ∧ (∀ target slack strict, x.op.steps = true → x.timed = some (target, slack, strict) → s.now < target →
        exec .mWordStart s = .next s)
    ∧ (x.op.steps = true → held = false → s.startReady x →
        (∀ target slack strict, x.timed = some (target, slack, strict) → target ≤ s.now
          ∧ (strict = true → s.now ≤ target + slack)) →
        ∃ t, exec .mWordStart s = .next t ∧ (∀ n, n ≠ s.cur → t.slot n = s.slot n)
          ∧ (∃ r : MRun, r.entry = x ∧ r.steps = x.kSteps ∧ r.done = 1 ∧ r.last = s.now ∧ r.mp = m.mp
              ∧ (∀ e ∈ r.seen, e.2 = (s.core (s.cur / 2)).scratch.read e.1)
              ∧ (∀ e ∈ r.seenB, e.2 = (s.core (s.cur / 2)).bstore.read e.1 ∨ e.2 ∈ (Tab.get default (s.core (s.cur / 2)).raced e.1).olds)
              ∧ t.slot s.cur = { s.slot s.cur with mat := { m with buf := rest, run := m.run ++ [r] } })
          ∧ (∀ p, x.touches s.cur p → (s.slot (if s.cur % 2 = 0 then s.cur + 1 else s.cur - 1)).act.bands.getLsbD p = true →
              Tab.find (t.core (s.cur / 2)).bandHolder p = some (s.cur % 2))
          ∧ ((∀ target slack strict, x.timed = some (target, slack, strict) → s.now ≤ target + slack) → t.hub = s.hub)
          ∧ ∀ target slack, x.timed = some (target, slack, false) → target + slack < s.now →
              t.hub = (s.writeEvent (s.slipRecord x (s.now - target))).hub))
  ∧ (∀ (s : State) (x : MEntry) (target slack : Nat), x ∈ (s.slot s.cur).mat.buf → x.timed = some (target, slack, false) →
    target + slack < s.now → (∀ y ∈ (s.slot s.cur).mat.buf, y.overdue s.now true = false) →
    exec .regionSlackExpiry s = .next (s.modMat s.cur fun m => { m with late := true }))
  ∧ (∀ (s : State) (before after : List MEntry) (x : MEntry) (target slack : Nat),
    (s.slot s.cur).mat.buf = before ++ x :: after → (∀ y ∈ before, y.overdue s.now true = false ∧ y.pos ≠ x.pos) →
    x.timed = some (target, slack, true) → target + slack < s.now → (s.slot s.cur).stop = none →
    ∃ u y, State.Trapped s.cur .M y none s u ∧ y.code = 0x07 ∧ y.widxM = x.word ∧ y.status = x.raw.toNat + (slack + 1) * 2 ^ 32
        ∧ exec .regionSlackExpiry s = .next (u.modMat s.cur fun m =>
            { m with buf := before, late := m.late || (before ++ x :: after).any fun y => y.overdue s.now false }))
  ∧ (∀ s : State, (∀ x ∈ (s.slot s.cur).mat.buf, ∀ target slack strict, x.timed = some (target, slack, strict) →
      s.now ≤ target + slack) → exec .regionSlackExpiry s = .next s)
  ∧ (∀ (s : State) (band side : Nat), Tab.find (s.core s.cur).bandHolder band = some side → side < 2 →
    (s.slot (2 * s.cur)).act.bands.getLsbD band = true → (s.slot (2 * s.cur + 1)).act.bands.getLsbD band = true →
    (s.slot (2 * s.cur + side)).mat.run = [] → (s.slot (2 * s.cur + side)).mat.buf = [] →
    exec (.bandHandover band) s = .next (s.modCore s.cur fun c => { c with bandHolder := c.bandHolder.put band (1 - side) }))
  ∧ (∀ (s : State) (band : Nat), (∃ z ∈ (s.core s.cur).bandZeroing, z.part = band) → ∃ t, exec (.bstoreZeroingDone band) s = .next t
    ∧ t = s.modCore s.cur (fun c => { c with bstore := (t.core s.cur).bstore, bandZeroing := (t.core s.cur).bandZeroing })
    ∧ (∀ z, z ∈ (t.core s.cur).bandZeroing ↔ z ∈ (s.core s.cur).bandZeroing ∧ z.part ≠ band)
    ∧ ∀ x, (t.core s.cur).bstore.read x = if 16 * band ≤ x / 32768 ∧ x / 32768 < 16 * band + 16 then 0 else (s.core s.cur).bstore.read x)
  ∧ ∀ (s : State) (before after : List Zeroing) (z : Zeroing), (s.core s.cur).bankZeroing = before ++ z :: after →
    (∀ y ∈ before, y.part ≠ z.part) → exec (.scratchpadZeroingDone z.part) s
    = .next (s.modCore s.cur fun c => { c with bankZeroing := before ++ after })

/-- A stream command whose operands or shape break a limit raises ILLEGAL, so does one of a run of zero, or a load that leaves the range
of its open channel; then a scratchpad byte outside the slot's range raises SPBOUND, and then a misaligned operand ALIGN. A command with
an extent of zero, and an SMCAST to no core, completes at once and pushes nothing. A command that passes waits, changing nothing, while
its engine's queue holds sixteen commands of the slot; else, with room in the range checker, it completes: it stands last in its engine's
queue with its operands, its shape, its class and its slack, and the swap, if it names one, is made; its graph has a command to finish,
and its open channel has had a load. (Readings of the model, where it rests on one: logs 37 and 87.) -/
def Obligations.StreamPushes : Prop :=
  ∀ (s : State) (i : Instr) (w : StreamWord), streamRule i = some w →
    let sl := s.slot s.cur
    let h := sl.streamShape w.shape.toNat w.swap.toNat
    let p := (s.copiedOf .A w.ga.toNat w.gb.toNat).1
    let b := (s.copiedOf .A w.ga.toNat w.gb.toNat).2
    let chan := if w.kind = .sload ∨ w.kind = .sgath ∨ w.kind = .swin then Tab.find sl.asy.chans w.chan else none
    let swapped (s : State) : State := (s.modRegs s.cur fun r => if w.swap = 1 then r.swapShape 2 w.shape.toNat else r).modAsy s.cur fun a =>
      match chan with
      | some c => { a with chans := a.chans.put w.chan { c with fresh := false } }
      | none => a
    let fits := h.run ≠ 0 ∧ (w.loads = true → w.kind ≠ .smcast → ∀ c, Tab.find sl.asy.chans w.chan = some c →
      ∀ n, n < h.count → (c.base : Int) ≤ h.saOf n ∧ h.saOf n + h.run ≤ c.limit)
    let inside := w.within h b.toNat sl.act.spbase.toNat sl.act.splimit.toNat
    let queue := if w.loads then sl.asy.loads else sl.asy.stores
    let work := h.count ≠ 0 ∧ (w.kind = .smcast → b ≠ 0)
    (¬ w.allowed s h p.toNat b.toNat → sl.stop = none → Raises (exec i s) s .A 0x01 0 0)
    ∧ (w.allowed s h p.toNat b.toNat → ¬ work → Completes (exec i s) .A ((swapped s).progress sl.act.graph))
    ∧ (w.allowed s h p.toNat b.toNat → work → ¬ fits → sl.stop = none → Raises (exec i s) s .A 0x01 0 0)
    ∧ (w.allowed s h p.toNat b.toNat → work → fits → ¬ inside → sl.stop = none → ∃ a, Raises (exec i s) s .A 0x03 0 a)
    ∧ (w.allowed s h p.toNat b.toNat → work → fits → inside → ¬ w.alignedFor h p.toNat b.toNat → sl.stop = none →
        ∃ a, Raises (exec i s) s .A 0x04 0 a)
    ∧ (w.allowed s h p.toNat b.toNat → work → fits → inside → w.alignedFor h p.toNat b.toNat → 16 ≤ queue.length → exec i s = .next s)
    ∧ (w.allowed s h p.toNat b.toNat → work → fits → inside → w.alignedFor h p.toNat b.toNat → queue.length < 16 → sl.presented.length < 32 →
        ∃ c : StreamCmd, c.pushedBy w sl h p b ∧ Completes (exec i s) .A (((swapped s).modAsy s.cur fun a =>
          if w.loads then { a with loads := a.loads ++ [c], cmdNum := a.cmdNum + 1 }
          else { a with stores := a.stores ++ [c], cmdNum := a.cmdNum + 1 }).graphBusy sl.act.graph))

/-- SCUR.OPEN of an open channel raises ILLEGAL; of a range that is empty or leaves the slot's range SPBOUND; of bounds that 64 does not
divide ALIGN; else it completes and the channel has the range, and no load yet. SCUR.CLOSE completes and leaves the channel closed.
SCUR.REPORT checks the bounds and then the alignment of its 16 bytes; with room in the range checker it completes and its report stands to
be written. (Readings of the model, where it rests on one: logs 37 and 87.) -/
def Obligations.ChannelWords : Prop :=
  (∀ (s : State) (a b : BitVec 6) (c : BitVec 3),
    let i := Instr.scurOpen a b c
    let sl := s.slot s.cur
    let lo := (s.copiedOf .A a.toNat b.toNat).1.toNat
    let hi := (s.copiedOf .A a.toNat b.toNat).2.toNat
    let free := Tab.find sl.asy.chans c.toNat = none
    let inside := sl.act.spbase.toNat ≤ lo ∧ lo < hi ∧ hi ≤ sl.act.splimit.toNat
    (¬ free → sl.stop = none → Raises (exec i s) s .A 0x01 0 0)
    ∧ (free → ¬ inside → sl.stop = none → ∃ x, Raises (exec i s) s .A 0x03 0 x)
    ∧ (free → inside → lo % 64 ≠ 0 ∨ hi % 64 ≠ 0 → sl.stop = none → ∃ x, Raises (exec i s) s .A 0x04 0 x)
    ∧ (free → inside → lo % 64 = 0 → hi % 64 = 0 →
        Completes (exec i s) .A (s.modAsy s.cur fun x => { x with chans := x.chans.put c.toNat ⟨lo, hi, true⟩ })))
  ∧ (∀ (s : State) (c : BitVec 3), ∃ s₁ : State, Completes (exec (.scurClose c) s) .A s₁
    ∧ s₁ = s.modAsy s.cur (fun x => { x with chans := (s₁.slot s.cur).asy.chans })
    ∧ ∀ n, Tab.find (s₁.slot s.cur).asy.chans n = if n = c.toNat then none else Tab.find (s.slot s.cur).asy.chans n)
  ∧ ∀ (s : State) (a : BitVec 6) (c : BitVec 3),
    let i := Instr.scurReport a c
    let sl := s.slot s.cur
    let x := (s.copiedOf .A a.toNat 0).1.toNat
    let inside := sl.act.spbase.toNat ≤ x ∧ x + 16 ≤ sl.act.splimit.toNat
    (¬ inside → sl.stop = none → Raises (exec i s) s .A 0x03 0 x)
    ∧ (inside → x % 16 ≠ 0 → sl.stop = none → Raises (exec i s) s .A 0x04 0 x)
    ∧ (inside → x % 16 = 0 → sl.presented.length < 32 → Completes (exec i s) .A (s.modAsy s.cur fun y =>
        { y with reports := y.reports ++ [⟨c.toNat, x, sl.asy.pc.pos, sl.asy.cmdNum⟩], cmdNum := y.cmdNum + 1 }))

/-- STREAM_BURST_START starts no burst in a cycle in which the engine has started one, nor while no command is ready; else it starts the
next burst of the ready command with strictly the least slack. But for the second part of an SPAIR, it runs to the end of its copy or of
the 256-byte block of its global address, which the index list gives for SGATH and SSCAT and the window for SWIN; a copy that is skipped,
padded or an SPUT's needs no walk, and one that is loaded holds the pad pattern. The bytes of a store burst are those that its scratchpad
holds. Its walk serves a load burst on a plain page whose home the die reaches with the bytes that its class reads on the die, and lets
the die accept a store burst. STREAM_BURST_COMPLETE of a served load burst that may write puts its bytes into the scratchpad, an SMCAST's
into those of all its targets, here where all take it; of a store burst to HBM that may be acknowledged it writes its bytes to memory, of
a skipped one none, and of an SPUT's into its target's scratchpad; no other byte of these changes. With its last byte the command leaves
its engine, and an SMCAST or SPUT signals its targets. STREAM_BURST_FAULT does nothing while no burst has faulted. A burst past the
address space or whose walk faults, and one of an SPUT that its target does not take, stops the slot at the cursor, with its code, status
and address, and the command at the burst; after a stop that is final, the command leaves its engine, and the signals behind it are not
made. (Readings of the model, where it rests on one: logs 13, 24, 38 and 39.) -/
def Obligations.StreamBursts : Prop :=
  (∀ (s : State) (store : Bool), let c := s.core s.cur
    (s.now < (if store then c.storeCycle else c.loadCycle) → exec (.streamBurstStart store) s = .next s)
    ∧ ((∀ n, n = 2 * s.cur ∨ n = 2 * s.cur + 1 → ∀ x ∈ (s.slot n).commands store, s.cmdReady n x = false) →
        exec (.streamBurstStart store) s = .next s)
    ∧ ∀ (n : Nat) (before after : List StreamCmd) (x : StreamCmd), (if store then c.storeCycle else c.loadCycle) ≤ s.now →
      n / 2 = s.cur → (s.slot n).commands store = before ++ x :: after → s.cmdReady n x = true → x.kind.isLoad = !store →
      (∀ y ∈ before ++ after, s.cmdReady n y = true → x.slack < y.slack) →
      (∀ o, o / 2 = s.cur → o ≠ n → ∀ y ∈ (s.slot o).commands store, s.cmdReady o y = true → x.slack < y.slack) →
      (∀ y ∈ before ++ after, y.num ≠ x.num) →
      ∃ b : Burst, b.off = x.next
        ∧ exec (.streamBurstStart store) s = .next ((s.withCommands n store
            (before ++ { x with next := x.next + b.len, flying := x.flying ++ [b] } :: after)).modCore s.cur fun k =>
              if store then { k with storeCycle := s.now + 1 } else { k with loadCycle := s.now + 1 })
        ∧ (x.kind ≠ .spair ∨ x.next < x.shape.count * x.shape.run → s.burstOf n x x.next b
            ∧ (store = true → b.data.length = b.len
                ∧ ∀ j, j < b.len → b.data[j]? = some ((s.core s.cur).scratch.read (x.placeOf x.next + j)))
            ∧ (store = false → b.local_ = true → x.shape.padFits → b.data.length = b.len
                ∧ ∀ j, j < b.len → b.data[j]? = some (x.shape.patternByte (x.next % x.shape.run + j)))))
  ∧ (∀ (s : State) (slot k : Nat) (store : Bool) (c : StreamCmd) (b : Burst) (va : Nat) (e at_ : Nat),
    let tag := (s.slot slot).act.inctag
    let die := slot / 80
    let pa := e / 2 ^ 24 % 2 ^ 24 * 65536 + va % 65536
    (s.slot slot).asy.nthFlying store k = some (c, b) → b.stage = .walk → b.va = va → va < 2 ^ 56 → s.live tag = true →
    (s.slot slot).asy.mayPerform c = true → (store = true → c.blocked b = false) → s.walksAfresh (slot / 2) tag va →
    s.walk (tag.toNat / 64) (some (if store then .write else .read)) va = .leaf e at_ → plainPage e → va % 256 + b.len ≤ 256 → 0 < b.len →
    (store = false → s.reaches die pa = true) →
    ∃ u b', exec (.walkDone (.stream slot store) k) s = .next u ∧ b' = { b with stage := .served, pa := pa, data := b'.data }
      ∧ (u.slot slot).commands store = ((s.slot slot).commands store).map (fun x =>
          if x.num = c.num then { x with flying := x.flying.map fun y => if y.off = b.off then b' else y } else x)
      ∧ (∀ n, n ≠ slot → u.slot n = s.slot n)
      ∧ (store = false → b'.data.length = b.len ∧ ∀ j, j < b.len → b'.data[j]? = some (u.seenAt die c.cls (pa + j)))
      ∧ (store = true → b'.data = b.data
          ∧ (u.die die).accepted = (s.die die).accepted ++ [⟨slot, true, c.num, b.off, pa, b.data, tag, c.cls⟩]))
  ∧ (∀ (s : State) (k : Nat) (store : Bool) (c : StreamCmd) (b : Burst),
    (s.slot s.cur).asy.nthFlying store k = some (c, b) → b.stage = .served → 0 < c.shape.run →
    (∀ x ∈ (s.slot s.cur).commands store, x.num = c.num → x = c) →
    let go := exec (.streamBurstComplete store k) s
    let tag := (s.slot s.cur).act.inctag
    let cs := landed ((s.slot s.cur).commands store) c.num b.off
    let all_ := c.total ≤ c.next ∧ ∀ y ∈ c.flying, y.off = b.off
    let left (u : State) : Prop := (all_ → c.stopped = none → (u.slot s.cur).commands store = cs.filter fun x => x.num != c.num)
      ∧ (¬ all_ → (u.slot s.cur).commands store = cs)
      ∧ (all_ → c.stopped ≠ none → (∀ x ∈ (s.slot s.cur).stop, x.final = false) → (u.slot s.cur).commands store = cs)
    let signalled (u : State) (t : Nat) : Prop := c.signalled = 0 → c.stopped = none → all_ → (u.slot t).remote = (s.slot t).remote ++ [⟨c.tok, s.cur⟩]
    let old (n : Nat) : Nat → Byte := (s.core n).scratch.read
    (store = false → c.kind ≠ .smcast → c.kind ≠ .sput → c.laterThan b = false → (s.slot s.cur).mayStart .A ((s.slot s.cur).presentCmd c) = true →
      s.zeroingAt s.cur (c.placeOf b.off) b.len = false → ∃ u, go = .next u ∧ left u ∧ u.mem = s.mem
        ∧ (∀ n, n ≠ s.cur → u.slot n = s.slot n)
        ∧ ∀ n a, (u.core n).scratch.read a = if n = s.cur / 2 then overlaid (old n) (c.placeOf b.off) b.data a else old n a)
    ∧ (store = false → c.kind = .smcast → c.laterThan b = false → c.failed = 0 →
      let rel : Int := c.shape.saOf (b.off / c.shape.run) + (b.off % c.shape.run : Nat) - (s.slot s.cur).act.spbase.toNat
      let target (n : Nat) : Nat := 2 * (40 * (s.cur / 80) + n) + if c.flag then 1 else 0
      (∀ n, n < 40 → c.gb.toNat.testBit n = true → s.takesIn (target n) tag rel b.len
        ∧ s.zeroingAt (target n) (s.placeIn (target n) rel).toNat b.len = false) →
      ∃ u, go = .next u ∧ left u ∧ u.mem = s.mem
        ∧ (∀ n, n < 40 → c.gb.toNat.testBit n = true → signalled u (target n)
            ∧ ∀ a, (u.core (target n / 2)).scratch.read a = overlaid (old (target n / 2)) (s.placeIn (target n) rel).toNat b.data a)
        ∧ ∀ m, (∀ n, n < 40 → c.gb.toNat.testBit n = true → m ≠ target n / 2) → (u.core m).scratch = (s.core m).scratch)
    ∧ (store = true → c.kind = .sput →
      let t := c.gb.toNat
      c.laterThan b = false → (s.slot s.cur).asy.mayPerform c = true → s.takesIn t tag b.va b.len → s.zeroingAt t (s.placeIn t b.va).toNat b.len = false →
      ∃ u, go = .next u ∧ left u ∧ u.mem = s.mem ∧ (c.stopped = none → all_ → (u.slot t).remote = (s.slot t).remote ++ [⟨c.tok, s.cur⟩])
        ∧ ∀ n a, (u.core n).scratch.read a = if n = t / 2 then overlaid (old n) (s.placeIn t b.va).toNat b.data a else old n a)
    ∧ (store = true → c.kind ≠ .smcast → c.kind ≠ .sput → b.local_ = true → ∃ u, go = .next u ∧ left u ∧ u.mem = s.mem ∧ u.dies = s.dies
        ∧ ∀ n, n ≠ s.cur → u.slot n = s.slot n)
    ∧ ∀ j e, store = true → c.kind ≠ .smcast → c.kind ≠ .sput → b.local_ = false → (s.die (s.cur / 80)).acceptedBurst s.cur c b = some j →
      (s.die (s.cur / 80)).accepted[j]? = some e → (∀ x ∈ (s.die (s.cur / 80)).accepted.take j,
        (x.pa + x.bytes.length ≤ e.pa ∨ e.pa + e.bytes.length ≤ x.pa)
        ∧ ¬ (x.slot = e.slot ∧ x.burst = true ∧ x.cls = e.cls ∧ x.num ≠ e.num)) → e.pa = b.pa →
      s.reaches (s.cur / 80) b.pa = true → b.pa < s.hbmEnd → b.pa + b.data.length ≤ s.hbmEnd → ∃ u, go = .next u ∧ left u
        ∧ (∀ a, u.mem.read a = overlaid s.mem.read b.pa b.data a)
        ∧ (u.die (s.cur / 80)).accepted = (s.die (s.cur / 80)).accepted.eraseIdx j ∧ ∀ n, n ≠ s.cur → u.slot n = s.slot n)
  ∧ (∀ (s : State) (store : Bool), (∀ c ∈ (s.slot s.cur).commands store, ∀ b ∈ c.flying, b.stage ≠ .faulted) →
    exec (.streamBurstFault store) s = .next s)
  ∧ ∀ (s : State) (store : Bool) (before after : List StreamCmd) (c : StreamCmd) (b : Burst) (code status addr : Nat) (key : Option WalkKey),
    (s.slot s.cur).commands store = before ++ c :: after → (∀ x ∈ before, ∀ y ∈ x.flying, y.stage ≠ .faulted) →
    c.flying.find? (fun y => y.stage == .faulted) = some b → s.burstMeets s.cur c b code status addr key →
    (store = true → ∀ y ∈ c.flying, b.off < y.off → y.stage ≠ .served) → (∀ x ∈ before ++ after, x.num ≠ c.num) →
    ((s.slot s.cur).stop = none → ∃ u x, exec (.streamBurstFault store) s = .next u
      ∧ (u.slot s.cur).stop = some ⟨s.hub.traps.nextId, .A, code, false⟩
      ∧ u.hub.traps.table = s.hub.traps.table ++ [x] ∧ x.body.code = code ∧ x.body.status = status ∧ x.body.addr = addr ∧ x.body.cursor = b.off
      ∧ x.body.widxA = c.word ∧ x.walk = key ∧ u.hub.traps.walks = s.hub.traps.walks ++ key.toList ∧ u.mem = s.mem
      ∧ ∃ c', (u.slot s.cur).commands store = before ++ c' :: after ∧ c' = { c with stopped := some b.off, next := b.off, flying := c'.flying }
        ∧ ∀ y ∈ c'.flying, y.off < b.off ∨ y.stage = .served)
    ∧ ∀ x, (s.slot s.cur).stop = some x →
      (x.final = false → exec (.streamBurstFault store) s = .next s)
      ∧ (x.final = true → ∃ u, exec (.streamBurstFault store) s = .next u ∧ (u.slot s.cur).commands store = before ++ after ∧ u.hub = s.hub
          ∧ (u.slot s.cur).signals = (s.slot s.cur).signals.filter fun g => !(g.eng == .A && decide (c.pos < g.pos)))

/-- CQPUSH of a command outside the slot's range raises SPBOUND at its first byte outside, of an address that 64 does not divide ALIGN,
and with the queue disabled PERMISSION. It waits, changing nothing, while the core's queue holds 32 commands or the slot owes 16
completions. Else, when the range checker lets it read, it completes: the 64 bytes stand last in the core's queue with the class and the
activation, and one completion more is owed. CQPOP with PC_A past every position before it and too few pushes raises ILLEGAL; with no
element it waits; else it takes the oldest element, writes its two words to g[D] and g[D+1], and one completion fewer is owed. (Readings
of the model, where it rests on one: log 8.) -/
def Obligations.CommunicationQueues : Prop :=
  (∀ (s : State) (g : BitVec 6) (cl : BitVec 4),
    let i := Instr.cqpush g cl
    let sl := s.slot s.cur
    let core := s.core (s.cur / 2)
    let at_ := (s.copiedOf .A g.toNat 0).1.toNat
    let lo := sl.act.spbase.toNat
    let hi := sl.act.splimit.toNat
    let inside := lo ≤ at_ ∧ at_ + 64 ≤ hi
    let free := sl.rangeRoom ⟨sl.asy.pc.pos, [(at_, 64)], [], false⟩ = true ∧ sl.mayStart .A ⟨sl.asy.pc.pos, [(at_, 64)], [], false⟩ = true
      ∧ sl.channelsReady sl.asy.pc.pos [(at_, 64)] = true ∧ s.zeroingAt s.cur at_ 64 = false
    (¬ inside → sl.stop = none → Raises (exec i s) s .A 0x03 0 (if at_ < lo then at_ else max at_ hi))
    ∧ (inside → at_ % 64 ≠ 0 → sl.stop = none → Raises (exec i s) s .A 0x04 0 at_)
    ∧ (inside → at_ % 64 = 0 → core.cqEn = false → sl.stop = none → Raises (exec i s) s .A 0x09 0 0)
    ∧ (inside → at_ % 64 = 0 → core.cqEn = true → 32 ≤ core.commq.length ∨ 16 ≤ sl.asy.cqOwed → exec i s = .next s)
    ∧ (inside → at_ % 64 = 0 → core.cqEn = true → core.commq.length < 32 → sl.asy.cqOwed < 16 → free →
        ∃ c : CommCmd, c.slot = s.cur ∧ c.tag = sl.act.inctag ∧ c.cls = cl.toNat ∧ c.word = sl.asy.pc.word ∧ c.graph = sl.act.graph
          ∧ c.node = sl.act.node ∧ c.started = sl.started ∧ c.relCmd = sl.asy.cmdNum
          ∧ (∀ r ∈ sl.seq.reqs, r.pos < sl.asy.pc.pos → r.num < c.relReq)
          ∧ (∀ j, j < 64 → BitVec.ofNat 8 (c.bytes.toNat / 2 ^ (8 * j)) = core.scratch.read (at_ + j))
          ∧ Completes (exec i s) .A (((s.modCore (s.cur / 2) fun k => { k with commq := k.commq ++ [c] }).modAsy s.cur fun a =>
              { a with cqPushed := a.cqPushed + 1, cqOwed := a.cqOwed + 1 }).nodeCommand sl.act.graph sl.act.node)))
  ∧ ∀ (s : State) (d : BitVec 6), s.issues (.cqpop d) = true →
    let sl := s.slot s.cur
    let short := sl.asy.cqPushed < sl.asy.cqPopped + 1 ∧ sl.seq.pc.pos ≤ sl.asy.pc.pos
    (short → sl.stop = none → Raises (exec (.cqpop d) s) s .S 0x01 0 0)
    ∧ (¬ short → sl.asy.cq = [] →
        exec (.cqpop d) s = .next (s.modSeq s.cur fun q => { q with waitFrom := some (q.waitFrom.getD s.now) }))
    ∧ ∀ (e : BitVec 128) (rest : List (BitVec 128)), ¬ short → sl.asy.cq = e :: rest →
        Completes (exec (.cqpop d) s) .S (((((s.modAsy s.cur fun a =>
          { a with cq := rest, cqPopped := a.cqPopped + 1, cqOwed := a.cqOwed - 1 }).withResult d (e.extractLsb' 0 64) 1).withResult
            (d + 1) (e.extractLsb' 64 64) 1).modSeq s.cur fun q => { q with waitFrom := none }).progress sl.act.graph)

/-- TETHER_COMMAND_START does nothing while a command runs in its stream or none stands ready. The one command that stands ready, a node's
or the oldest of a core's queue, starts: if it passes the checks of R388 it is numbered and, where it need not wait, sends its check to
each peer that awaits it and goes on as TETHER_COMMAND_COMPLETE does; if not, it ends by that fault with a record and an element.
TRIGGER_FIRE does so on the trigger lane with the due parked command of least TIME of a resident context. TETHER_WAIT_SATISFIED lets a
command whose semaphore has reached its target send its checks and go on; PEER_CHECK_ARRIVAL, a data packet of a context that holds a
check, takes it for the command of its tag and number that awaits it, which goes on if it agrees, or else faults next.
TETHER_COMMAND_COMPLETE leaves a command that still waits as it is; a local SEMOP changes its semaphore and leaves; a RECV, a broadcast, a
gather or a reduction whose codes have come writes the code of each element at DST and no other byte; one whose packets need
acknowledgement may stay until they have it; then it leaves, and the peers that got data of it are sent a release. TETHER_FAULT ends a
command whose check differs by ILLEGAL, and one whose wait is refused by PERMISSION. (Readings of the model, where it rests on one: logs
8, 9, 67, 68 and 69.) -/
def Obligations.TetherCommands : Prop :=
  (∀ (s : State) (n : Nat), s.cur = n → n < 16 →
    let x := s.stream n
    let bare (l : Tab CoreState) : Prop := ∀ p ∈ l, p.2.cqStream.toNat = n → p.2.commq = []
    (x.run ≠ none → exec .tetherCommandStart s = .next s) ∧ (x.queue = [] → bare s.cores → exec .tetherCommandStart s = .next s)
    ∧ ∀ (d : TCmd) (rest : List TCmd) (before after : Tab CoreState) (k : Nat) (y : CoreState) (c : CommCmd) (cs : List CommCmd),
      let fromNode := x.queue = d :: rest ∧ bare s.cores
      let fromCore := x.queue = [] ∧ rest = [] ∧ s.cores = before ++ (k, y) :: after ∧ bare (before ++ after) ∧ (∀ p ∈ before, p.1 < k)
        ∧ y.cqStream.toNat = n ∧ y.commq = c :: cs ∧ (s.slot c.slot).releasedBefore c.cls c.relReq c.relCmd = true
        ∧ d = { num := 0, bytes := c.bytes, tag := c.tag, cls := c.cls, pusher := some (.slot c.slot c.word c.graph c.node),
                started := c.started, relReq := c.relReq, relCmd := c.relCmd }
      let drawn (w : State) : Prop := fromNode ∧ w.cores = s.cores ∨ fromCore ∧ w.cores = s.cores.put k { y with commq := cs }
      x.run = none → fromNode ∨ fromCore → s.live d.tag = true →
      (s.tetherCheck d = none → s.staysOut d → ∃ w, s.Started w n false d rest ∧ drawn w
        ∧ exec .tetherCommandStart s = exec (.tetherCommandComplete false) w)
      ∧ (d.kind = 0 ∨ 9 < d.kind → s.tetherCheck d = some (0x01, 0))
      ∧ ∀ code addr, s.tetherCheck d = some (code, addr) → ∃ w u, drawn w ∧ exec .tetherCommandStart s = .next u
          ∧ (w.stream n).queue = rest ∧ w.slots = s.slots ∧ w.hub.traps = s.hub.traps
          ∧ w.CommandFaults u n false d code (d.bytes.toNat / 2 ^ 16 % 2 ^ 16) addr)
  ∧ (∀ (s : State) (n : Nat), s.cur = n → n < 16 →
    let x := s.stream n
    let ready (p : Parked) : Prop := p.time ≤ s.wallTime ∧ s.resident p.cmd.ctx = true
    (x.lane ≠ none ∨ (∀ p ∈ x.parked, ¬ ready p) → exec .triggerFire s = .next s)
    ∧ ∀ (before after : List Parked) (p : Parked), x.lane = none → x.parked = before ++ p :: after → ready p → p ∉ before →
      (∀ q ∈ before, ready q → p.time < q.time) → (∀ q ∈ after, ready q → p.time ≤ q.time) → (s.wallTime - p.time).toNat ≤ 1024 →
      s.live p.cmd.tag = true → s.tetherCheck p.cmd = none → s.staysOut p.cmd →
      ∃ w, s.Started w n true p.cmd x.queue ∧ (w.stream n).parked = before ++ after ∧ (w.stream n).late = x.late
        ∧ exec .triggerFire s = exec (.tetherCommandComplete true) w)
  ∧ (∀ (s : State) (n : Nat) (lane : Bool) (r : TRun), s.cur = n → n < 16 →
    (if lane then (s.stream n).lane else (s.stream n).run) = some r →
    let d := r.cmd
    let x := s.stream n
    let to_ (r' : TRun) : State := s.modStream n fun x => if lane then { x with lane := some r' } else { x with run := some r' }
    let owned := (s.sem d.wsem).en = true ∧ (s.sem d.wsem).ctx.toNat = d.tag.toNat / 64
    let reached := ((s.sem d.wsem).value - BitVec.ofNat 32 d.wval).toNat < 2 ^ 31
    (r.waited = false → owned → reached → ∃ w, (to_ { r with waited := true }).Announced w n d r.nth
      ∧ exec (.tetherWaitSatisfied lane) s = exec (.tetherCommandComplete lane) w)
    ∧ (r.waited = true ∨ ¬ owned ∨ ¬ reached → exec (.tetherWaitSatisfied lane) s = .next s)
    ∧ (r.source = none → r.waited = false → exec (.tetherCommandComplete lane) s = .next s)
    ∧ (r.source ≠ none → r.written = false → 0 < d.kind → d.kind < 8 → ∀ k ∈ d.awaits, Tab.find r.checks k = none → exec (.tetherCommandComplete lane) s = .next s)
    ∧ (r.source ≠ none → r.checks = [] → d.kind = 9 → d.peerIdx = 255 → (s.sem d.ssem).en = true → (s.sem d.ssem).ctx.toNat = d.tag.toNat / 64 →
      (s.sem d.ssem).mirror = 0 → s.live d.tag = true →
      let v := if d.op = 1 then BitVec.ofNat 32 d.argx else (s.sem d.ssem).value + BitVec.ofNat 32 d.argx
      ∃ u, exec (.tetherCommandComplete lane) s = .next u ∧ s.CommandLeft u n lane d 0 v.toNat
        ∧ u.sem d.ssem = { s.sem d.ssem with value := if d.setEn then v + 1 else v, owed := false } ∧ ∀ m, m ≠ d.ssem → u.sem m = s.sem m)
    ∧ (∀ (codes : List Nat) (pa : Nat), r.source ≠ none → r.written = false → (∀ p ∈ r.checks, checksAgree (s.ownCheck d) p.2 = true) →
      (∀ k ∈ d.awaits, Tab.find r.checks k ≠ none) → d.dense → codes.length = d.count → (∀ e v, codes[e]? = some v → s.writesCode r e v) →
      d.width ∈ [1, 2, 4, 8] → s.hubPage d.tag .write d.dst (d.count * d.width) pa →
      (d.kind = 1 ∨ d.kind = 3 → d.src + d.count * d.width ≤ d.dst ∨ d.dst + d.count * d.width ≤ d.src) → s.staysOut d →
      d.setEn = false → s.nodeGoesOn d →
      ∃ u, exec (.tetherCommandComplete lane) s = .next u
        ∧ (∀ a, u.mem.read a = overlaid s.mem.read pa (codes.flatMap (bytesOf d.width)) a)
        ∧ (s.Settled u n lane r ∨ s.owes n d ∧ u.laneRun n lane = some { r with written := true } ∧ u.hub.sent = s.hub.sent
            ∧ (u.stream n).done = x.done ∧ u.slots = s.slots))
    ∧ (r.source ≠ none → r.written = true → 0 < d.kind → d.kind < 8 → (∀ p ∈ r.checks, checksAgree (s.ownCheck d) p.2 = true) → d.setEn = false →
        s.nodeGoesOn d → ∃ u, exec (.tetherCommandComplete lane) s = .next u ∧ u.mem = s.mem
          ∧ (s.Settled u n lane r ∨ s.owes n d ∧ u = { s with free := u.free }))
    ∧ ((∃ p ∈ r.checks, checksAgree (s.ownCheck d) p.2 = false) →
      ∃ u, exec (.tetherFault lane) s = .next u ∧ s.CommandFaults u n lane d 0x01 (d.bytes.toNat / 2 ^ 16 % 2 ^ 16) 0)
    ∧ (r.checks = [] → r.source = none → r.waited = false →
        (¬ owned → ∃ u, exec (.tetherFault lane) s = .next u ∧ s.CommandFaults u n lane d 0x09 (d.bytes.toNat / 2 ^ 16 % 2 ^ 16) 0)
        ∧ (owned → exec (.tetherFault lane) s = .next s)))
  ∧ (∀ (s : State) (p : Arrival) (c : Nat), s.arrives p 0 c →
    (numberIn p 6 2 / 2 % 2 = 0 → exec (checkEvent p) s = .next s)
    ∧ ∀ check : PeerCheck, checkFits check → bodyOf p = checkBytesOf check → numberIn p 6 2 / 2 % 2 = 1 →
      ((∀ n lane r, ¬ s.awaitsFrom p check.kind c n lane r) → exec (checkEvent p) s = .next s)
      ∧ ∀ n lane r, s.awaitsFrom p check.kind c n lane r → (∀ m k q, s.awaitsFrom p check.kind c m k q → m = n ∧ k = lane) →
        let peer := partOf p 64 8
        let t := s.onLane n lane { r with checks := Tab.put r.checks peer check }
        (peer ∉ r.cmd.awaits ∨ Tab.find r.checks peer ≠ none → exec (checkEvent p) s = .next s)
        ∧ (peer ∈ r.cmd.awaits → Tab.find r.checks peer = none →
            exec (checkEvent p) s = .next (if checksAgree (s.ownCheck r.cmd) check then t.tetherAdvance n lane
              else { t with agenda := .event n (.tetherFault lane) :: t.agenda })))
  ∧ ∀ (d : TCmd) (n e : Nat) (x : Nat → Nat), d.fmt = 0x14 ∨ d.fmt = 0x1C → d.op = 0 → 0 < n → (∀ p, x p < 2 ^ 32) → e < d.count →
    d.reduce n e x = ((List.range n).map x).sum % 2 ^ 32

/-- A winch word with selector 6, or whose shape or operand breaks a limit, raises ILLEGAL, and so does WOFF or WRET without the second-
tier feature. Then a block outside the slot's range raises SPBOUND, a block address that 64 does not divide ALIGN, a block with a reserved
field or a broken limit ILLEGAL, a misaligned address of the block ALIGN, and WNVME without the storage feature PERMISSION. A word that
passes waits, changing nothing, while the winch's queue holds 64 commands. Else, when the range checker lets it read its block, it
completes: the command stands last in the queue of the selected winch of its die, with its 64 bytes as they were, its operand, its shape,
the slot's tag, and the key words and the step that PC_A sees; the swap, if it names one, is made. (Readings of the model, where it rests
on one: logs 43 and 44.) -/
def Obligations.WinchPushes : Prop :=
  ∀ (s : State) (i : Instr) (w : WinchWord), winchRule i = some w →
    let sl := s.slot s.cur
    let h := match w.shape with
      | some (r, x) => sl.streamShape r.toNat x.toNat
      | none => SShape.none
    let swapped (s : State) : State := match w.shape with
      | some (r, x) => s.modRegs s.cur fun q => if x = 1 then q.swapShape 2 r.toNat else q
      | none => s
    let at_ := (s.copiedOf .A w.ga.toNat w.gb.toNat).1.toNat
    let b := (s.copiedOf .A w.ga.toNat w.gb.toNat).2
    let lo := sl.act.spbase.toNat
    let hi := sl.act.splimit.toNat
    let inside := lo ≤ at_ ∧ at_ + 64 ≤ hi
    let free := sl.rangeRoom ⟨sl.asy.pc.pos, [(at_, 64)], [], false⟩ = true ∧ sl.mayStart .A ⟨sl.asy.pc.pos, [(at_, 64)], [], false⟩ = true
      ∧ sl.channelsReady sl.asy.pc.pos [(at_, 64)] = true ∧ s.zeroingAt s.cur at_ 64 = false
    let legal := w.sel ≠ 6 ∧ w.allowed s h b.toNat
    (¬ legal → sl.stop = none → Raises (exec i s) s .A 0x01 0 0)
    ∧ (legal → ¬ inside → sl.stop = none → Raises (exec i s) s .A 0x03 0 (if at_ < lo then at_ else max at_ hi))
    ∧ (legal → inside → at_ % 64 ≠ 0 → sl.stop = none → Raises (exec i s) s .A 0x04 0 at_)
    ∧ ∀ k : BitVec 512, (∀ j, j < 64 → BitVec.ofNat 8 (k.toNat / 2 ^ (8 * j)) = (s.core (s.cur / 2)).scratch.read (at_ + j)) →
      legal → inside → at_ % 64 = 0 → free →
      (¬ w.blockFits k.toNat → sl.stop = none → Raises (exec i s) s .A 0x01 0 0)
      ∧ (w.blockFits k.toNat → ∀ a, w.skew k.toNat b.toNat = some a → sl.stop = none → Raises (exec i s) s .A 0x04 0 a)
      ∧ (w.blockFits k.toNat → w.skew k.toNat b.toNat = none →
        (w.kind = .wnvme → s.hub.dev.agreed.getLsbD 5 = false → sl.stop = none → Raises (exec i s) s .A 0x09 0 0)
        ∧ ((w.kind = .wnvme → s.hub.dev.agreed.getLsbD 5 = true) → ∀ v, s.picksWinch (s.cur / 80) w.sel.toNat v →
          (64 ≤ (s.winch v).queue.length → exec i s = .next s)
          ∧ ((s.winch v).queue.length < 64 → ∃ c : WCmd, c.pushedBy w s v h k b ∧
              Completes (exec i s) .A (((swapped s).modWinch v fun x =>
                { x with queue := x.queue ++ [c], pushes := x.pushes + 1 }).nodeCommand sl.act.graph sl.act.node))))

/-- WINCH_COMMAND_START does nothing while a command runs; else it starts the oldest command whose context is resident and whose releases
have performed, unless an older one of its context stands before it. WINCH_BURST_COMPLETE on plain pages whose homes the die reaches
writes for a WFILL the pattern bytes up to the next block of 256, for a WCOPY the bytes that its source holds up to the next block of
either side, where no copy writes them, for a WLAYOUT the elements that its word maps, for a WDEC what its input decodes to, for a WCSUM
at its end the complement of the remainder; passes a page over that a WENC need not change; takes the next page of a WOFF or WRET into
transit, with its new state and no buffered translation, and moves its next 256 bytes; and each time the cursor or the mark moves on.
OUTBOUND_DONE and INBOUND_DONE give a page that has landed whole its new state. WINCH_COMMAND_COMPLETE ends a command that has moved every
byte, and adds 1 to its semaphore if it names one. WINCH_FAULT holds a command at its cursor with a record: TRANSLATION past the address
space, PERMISSION where the semaphore refuses. (Readings of the model, where it rests on one: logs 41, 43, 44, 45, 46 and 47.) -/
def Obligations.WinchSteps : Prop :=
  (∀ (s : State) (w : Nat), s.cur = w →
    let ready (c : WCmd) : Prop := (c.stage = .queued ∨ c.stage = .resumed) ∧ (s.ctx (c.tag.toNat / 64)).phase = .resident ∧ s.live c.tag = true
      ∧ ∀ n x g k, c.pusher = .slot n x g k → (s.slot n).releasedBefore c.cls c.relReq c.relCmd = true
    ((∃ c ∈ (s.winch w).queue, (c.stage = .running ∨ c.stage = .polling) ∧ (s.ctx (c.tag.toNat / 64)).phase = .resident) →
      exec .winchCommandStart s = .next s)
    ∧ ((∀ c ∈ (s.winch w).queue, ¬ ready c ∧ c.stage ≠ .running ∧ c.stage ≠ .polling) → exec .winchCommandStart s = .next s)
    ∧ ∀ (before after : List WCmd) (c : WCmd), (s.winch w).queue = before ++ c :: after →
      (∀ d ∈ before ++ after, d.stage ≠ .running ∧ d.stage ≠ .polling ∧ d.num ≠ c.num) → ready c →
      (∀ d ∈ before, ¬ ready d ∧ d.tag.toNat / 64 ≠ c.tag.toNat / 64) →
      exec .winchCommandStart s = .next (s.modWinch w fun x => { x with queue := before ++ { c with stage := .running } :: after }))
  ∧ (∀ (s : State) (w : Nat) (c : WCmd), s.cur = w → s.winchAt w c .running →
    let k := c.block.toNat
    let daddr := k % 2 ^ 56
    let opa := k / 2 ^ 64 % 2 ^ 64
    let opb := k / 2 ^ 128 % 2 ^ 64
    let tag := c.tag
    let dst := daddr + c.cursor
    (c.kind = .wfill → c.page = none → c.cursor < opa → ∀ pa,
      let len := min (opa - c.cursor) (256 - dst % 256)
      s.diePage (w / 6) tag .write dst len pa →
      ∃ u, exec .winchBurstComplete s = .next u ∧ s.WinchStepped u w c.num (fun x => { x with cursor := x.cursor + len })
        ∧ ∀ a, u.mem.read a = overlaid s.mem.read pa ((List.range len).map fun j =>
            BitVec.ofNat 8 (c.gb.toNat / 2 ^ (8 * ((c.cursor + j) % 8)))) a)
    ∧ (c.kind = .wcopy → c.page = none → c.shape.ext.length = 6 → 0 < c.shape.run → c.cursor < c.shape.count * c.shape.run → ∀ src to_ pa qa : Nat,
      let n := c.cursor / c.shape.run
      let o := c.cursor % c.shape.run
      let step (l : Nat) : Int := signedOf 48 (k / 2 ^ (208 + 48 * l) % 2 ^ 48)
      let place (n : Nat) : Int := daddr + c.shape.level n 0 * c.shape.run + c.shape.level n 1 * step 1 + c.shape.level n 2 * step 2
        + c.shape.level n 3 * step 3 + c.shape.level n 4 * step 4
      (src : Int) = c.shape.gaOf n + o → (to_ : Int) = place n + o →
      let len := min (c.shape.run - o) (min (256 - src % 256) (256 - to_ % 256))
      (∀ m, m < c.shape.count → place m + c.shape.run ≤ src ∨ (src : Int) + len ≤ place m) →
      s.diePage (w / 6) tag .read src len pa → s.diePage (w / 6) tag .write to_ len qa →
      ∃ u olds, exec .winchBurstComplete s = .next u
        ∧ s.WinchStepped u w c.num (fun x => { x with cursor := x.cursor + len, olds := olds ++ x.olds })
        ∧ (∀ e ∈ olds, ∃ j < len, e = ((to_ : Int) + j, s.homeSeen (w / 6) (qa + j)))
        ∧ ∀ a, u.mem.read a = overlaid s.mem.read qa ((List.range len).map fun j => s.homeSeen (w / 6) (pa + j)) a)
    ∧ (c.kind = .wcsum → c.page = none → (c.cursor ≠ 0 → c.acc.length = 4) →
      let crc := if c.cursor = 0 then 2 ^ 32 - 1 - c.gb.toNat % 2 ^ 32 else numberAt (fun j => (c.acc[j]?).getD 0) 4
      (c.cursor < opb → ∀ pa,
        let len := min (opb - c.cursor) (256 - (opa + c.cursor) % 256)
        s.diePage (w / 6) tag .read (opa + c.cursor) len pa →
        ∃ u, exec .winchBurstComplete s = .next u ∧ u.mem = s.mem ∧ s.WinchStepped u w c.num (fun x => { x with
          cursor := x.cursor + len, acc := bytesOf 4 (crcOver ((List.range len).map fun j => s.homeSeen (w / 6) (pa + j)) crc) }))
      ∧ (c.cursor = opb → ∀ pa, s.diePage (w / 6) tag .write daddr 4 pa → pa % 256 ≤ 252 →
        ∃ u, exec .winchBurstComplete s = .next u ∧ s.WinchStepped u w c.num (fun x => { x with cursor := x.cursor + 4 })
          ∧ ∀ a, u.mem.read a = overlaid s.mem.read pa (bytesOf 4 (2 ^ 32 - 1 - crc)) a))
    ∧ (c.kind = .wlayout → c.page = none → c.shape.moveWidth ≠ 4 → c.cursor < c.layoutBytes → ∀ (src pa : Nat → Nat) (qa : Nat),
      let mw := c.shape.moveWidth
      let len := min (c.layoutBytes - c.cursor) (256 - dst % 256)
      (∀ j, j < len → (src j : Int) = c.shape.sourceBit c.gb.toNat (8 * (c.cursor + j) / mw) / 8 + ((c.cursor + j) % (mw / 8) : Nat)) →
      (∀ j, j < len → s.diePage (w / 6) tag .read (src j) 1 (pa j)) → s.diePage (w / 6) tag .write dst len qa →
      ∃ u, exec .winchBurstComplete s = .next u ∧ s.WinchStepped u w c.num (fun x => { x with cursor := x.cursor + len })
        ∧ ∀ a, u.mem.read a = overlaid s.mem.read qa ((List.range len).map fun j => s.homeSeen (w / 6) (pa j)) a)
    ∧ (c.kind = .wdec → c.page = none → ∀ pa,
      let out := (lzDecode opb (k / 2 ^ 192 % 2 ^ 64) c.acc).1
      let len := min (out.length - c.cursor) (256 - dst % 256)
      c.cursor < out.length → s.diePage (w / 6) tag .write dst len pa →
      ∃ u, exec .winchBurstComplete s = .next u ∧ s.WinchStepped u w c.num (fun x => { x with cursor := x.cursor + len })
        ∧ ∀ a, u.mem.read a = overlaid s.mem.read pa ((out.drop c.cursor).take len) a)
    ∧ (c.kind = .wenc → c.page = none → c.cursor < opa → ∀ pa, s.diePage (w / 6) tag .read dst 1 pa →
      ∃ u, exec .winchBurstComplete s = .next u ∧ u.mem = s.mem
        ∧ s.WinchStepped u w c.num (fun x => { x with cursor := x.cursor + 0x10000 }))
    ∧ (c.kind = .woff ∨ c.kind = .wret →
      let off : Bool := c.kind == .woff
      (∀ e at_, c.page = none → c.cursor < opa → dst < 2 ^ 56 → (⟨tag, dst / 65536⟩ : WalkKey) ∉ s.hub.traps.walks →
        s.walk (tag.toNat / 64) none dst = .leaf e at_ →
        let n := if e / 2 ^ 9 % 2 = 1 then 0x200000 else 0x10000
        let st := e / 2 ^ 2 % 8
        dst % n = 0 → c.cursor + n ≤ opa →
        (st ≠ (if off then 0 else 2) → exec .winchBurstComplete s = .next (s.modWinch w fun x => x.changed c.num fun x =>
          { x with cursor := x.cursor + n }))
        ∧ (st = (if off then 0 else 2) → (∀ d ∈ s.dies, d.2.accepted = []) → ∃ u, exec .winchBurstComplete s = .next u
            ∧ s.EntryPut u at_ 4 2 (if off then 1 else 3) ∧ u.winch w = (s.winch w).changed c.num (fun x => { x with page := some at_, landed := 0 })
            ∧ (∀ d, ∀ t ∈ (u.die d).tlb, t.at_ ≠ at_) ∧ (∀ d, ∀ t ∈ (u.core d).tlb, t.at_ ≠ at_) ∧ u.slots = s.slots ∧ u.hub = s.hub))
      ∧ ∀ at_, c.page = some at_ →
        let e := s.memNat at_ 16
        let n := if e / 2 ^ 9 % 2 = 1 then 0x200000 else 0x10000
        let hbm := e / 2 ^ 24 % 2 ^ 24 * 65536
        let tier := 0x10000000000 + e / 2 ^ 64 % 2 ^ 24 * 65536
        (c.landed < n → hbm + n ≤ s.hbmEnd → tier + n ≤ 0x20000000000 → ∃ u, exec .winchBurstComplete s = .next u
          ∧ s.WinchStepped u w c.num (fun x => { x with landed := x.landed + 256 })
          ∧ ∀ a, u.mem.read a = overlaid s.mem.read ((if off then tier else hbm) + c.landed)
              (s.bytesAt ((if off then hbm else tier) + c.landed) 256) a)
        ∧ (n ≤ c.landed → ∃ u, exec (if off then .outboundDone else .inboundDone) s = .next u ∧ s.EntryPut u at_ 4 2 (if off then 2 else 0)
            ∧ s.WinchStepped u w c.num (fun x => { x with page := none, landed := 0, cursor := x.cursor + n }))
        ∧ (c.landed < n → exec (if off then .outboundDone else .inboundDone) s = .next s))
    ∧ (c.finished = false → exec .winchCommandComplete s = .next s)
    ∧ (c.finished = true → c.semen = false → ∃ u, exec .winchCommandComplete s = .next u
        ∧ (u.winch w).queue = (s.winch w).queue.filter (·.num != c.num) ∧ u.slots = s.slots ∧ ∀ m, u.sem m = s.sem m)
    ∧ (c.finished = true → c.semen = true → s.live tag = true →
        let m := k / 2 ^ 448 % 2 ^ 12
        let x := s.sem m
        let owned := x.en = true ∧ x.ctx.toNat = tag.toNat / 64
        (owned → x.mirror = 0 → ∃ u, exec .winchCommandComplete s = .next u ∧ u.sem m = { x with value := x.value + 1, owed := false }
          ∧ (∀ j, j ≠ m → u.sem j = s.sem j) ∧ (u.winch w).queue = (s.winch w).queue.filter (·.num != c.num) ∧ u.slots = s.slots)
        ∧ (¬ owned → exec .winchCommandComplete s = .next s ∧ s.CommandHeld w c 0x09 0))
    ∧ (c.kind = .wfill → c.page = none → c.cursor < opa → 2 ^ 56 ≤ dst → s.CommandHeld w c 0x08 dst))
  ∧ crcOver [0x31#8, 0x32#8, 0x33#8, 0x34#8, 0x35#8, 0x36#8, 0x37#8, 0x38#8, 0x39#8] (2 ^ 32 - 1) ^^^ (2 ^ 32 - 1) = 0xE3069283

/-- REENCODE_TAKE reads the page of the oldest request of a winch that has none at hand, once no store of a die is on its way to the page.
REENCODE_WRITTEN writes the page at hand in its new encoding, gives the entry its level and the state it had, and the request is gone; no
other byte changes. NVME_COMPLETION_OBSERVED finds no entry of the expected phase and identifier and does nothing; one that it finds moves
the head, the phase and the drive's submission head in the descriptor, and no other byte, and the command goes on with the entry's status.
(Readings of the model, where it rests on one: logs 45 and 49.) -/
def Obligations.PagesAndDrives : Prop :=
  (∀ (s : State) (w : Nat), s.cur = w →
    ((s.winch w).reenc = [] ∨ (∃ r ∈ (s.winch w).reenc, r.taken = true) → exec .reencodeTake s = .next s)
    ∧ ((∀ r ∈ (s.winch w).reenc.head?, r.taken = false) → exec .reencodeWritten s = .next s)
    ∧ ∀ (r : Reencode) (rest : List Reencode), (s.winch w).reenc = r :: rest →
      let e := s.memNat r.at_ 16
      let frame := if r.prior = 2 then 0x10000000000 + e / 2 ^ 64 % 2 ^ 24 * 65536 else e / 2 ^ 24 % 2 ^ 24 * 65536
      r.prior = 2 ∨ frame + 65536 ≤ s.hbmEnd →
      ((∀ x ∈ (s.winch w).reenc, x.taken = false) → (∀ d ∈ s.dies, d.2.accepted = []) →
        exec .reencodeTake s = .next (s.modWinch w fun x => { x with reenc := { r with taken := true, page := s.bytesAt frame 65536 } :: rest }))
      ∧ (r.taken = true → r.level < 8 → r.prior < 8 → ∃ u, exec .reencodeWritten s = .next u ∧ u.winch w = { s.winch w with reenc := rest }
        ∧ (∀ v, v ≠ w → u.winch v = s.winch v) ∧ u.slots = s.slots ∧ u.cores = s.cores ∧ u.dies = s.dies
        ∧ (∀ a, (a < frame ∨ frame + 65536 ≤ a) → (a < r.at_ ∨ r.at_ + 8 ≤ a) → u.mem.read a = s.mem.read a)
        ∧ (∀ j, j < 65536 → (frame + j < r.at_ ∨ r.at_ + 8 ≤ frame + j) →
            u.mem.read (frame + j) = ((reencode e r.level r.key.toNat r.step.toNat r.page).1[j]?).getD 0)
        ∧ u.memNat r.at_ 8 / 2 ^ 49 % 8 = r.level ∧ u.memNat r.at_ 8 / 2 ^ 2 % 8 = r.prior))
  ∧ ∀ (s : State) (w : Nat) (c : WCmd) (pa qa : Nat), s.cur = w → s.winchAt w c .polling →
    let die := w / 6
    let opa := c.block.toNat / 2 ^ 64 % 2 ^ 64
    let d := numberAt (fun j => s.homeSeen die (pa + j)) 64
    let depth := d / 2 ^ 464 % 2 ^ 16
    let head := d / 2 ^ 432 % 2 ^ 16
    let x := numberAt (fun j => s.homeSeen die (qa + j)) 16
    let found := x / 2 ^ 112 % 2 = d / 2 ^ 400 % 2 ∧ x / 2 ^ 96 % 2 ^ 16 = c.cid
    s.diePage die c.tag .read opa 64 pa → s.diePage die c.tag .write opa 64 pa →
    s.diePage die c.tag .read (d / 2 ^ 64 % 2 ^ 64 + 16 * head) 16 qa →
    ∃ u, exec .nvmeCompletionObserved s = .next u
      ∧ (¬ found → u.mem = s.mem ∧ s.WinchStepped u w c.num id)
      ∧ (found → s.WinchStepped u w c.num (fun y => { y with acc := bytesOf 2 (x / 2 ^ 113 % 2 ^ 15), stage := .running })
          ∧ (∀ a, a < pa ∨ pa + 64 ≤ a → u.mem.read a = s.mem.read a)
          ∧ let d' := numberAt (fun j => u.mem.read (pa + j)) 64
            d' / 2 ^ 448 % 2 ^ 16 = x / 2 ^ 64 % 2 ^ 16 ∧ d' / 2 ^ 432 % 2 ^ 16 = (if depth ≤ head + 1 then 0 else head + 1)
            ∧ d' / 2 ^ 400 % 2 = (if depth ≤ head + 1 then 1 - d / 2 ^ 400 % 2 else d / 2 ^ 400 % 2)
            ∧ ∀ i, i < 512 → ¬ (432 ≤ i ∧ i < 464) → i ≠ 400 → d'.testBit i = d.testBit i)

/-- A queue word of a queue number of 256 or more raises ILLEGAL; of an unbound queue, one of another context, or WQPOP of a graph queue
PERMISSION; WQPUSH to a queue that is not active QUEUEFULL with reason 2, and beyond the node's reservation with reason 1. WQPUSH waits
for the releases of its class, and then completes: the record of its four registers stands at QTAIL, QTAIL advances, and the reservation
counts it. WQPOP takes the record at QHEAD into four registers, or sleeps; WQPOP_WAKE gives the record to the word that slept first, of
those that still sleep at that queue. WQROOM completes with the entries present, the room and the state. A doorbell of n records that fits
is accepted, another counts as refused; BIND, RESUME and UNBIND move the queue as R293 says. NOP and ICODE records finish when they are
taken, ICODE after its lines and kernel entries are gone; a malformed record finishes with ILLEGAL. (Readings of the model, where it rests
on one: logs 50 and 52.) -/
def Obligations.WorkQueues : Prop :=
  (∀ (s : State) (i : Instr) (b : BitVec 6) (pop : Bool),
    ((∃ a, i = .wqpush a b) ∧ pop = false) ∨ ((∃ d, i = .wqpop d b) ∧ pop = true) ∨ ((∃ d, i = .wqroom d b) ∧ pop = false) →
    s.issues i = true → (s.slot s.cur).stop = none →
    let q := (s.g b.toNat).toNat
    let x := s.queue q
    let own := x.phase ≠ .unbound ∧ x.ctx.toNat = (s.slot s.cur).act.inctag.toNat / 64 ∧ (pop = true → x.feed = true)
    (256 ≤ q → Raises (exec i s) s .S 0x01 0 0) ∧ (q < 256 → ¬ own → Raises (exec i s) s .S 0x09 0 0))
  ∧ (∀ (s : State) (a b : BitVec 6), s.issues (.wqpush a b) = true →
    let q := (s.g b.toNat).toNat
    let x := s.queue q
    let sl := s.slot s.cur
    let mine (r : Reservation) : Bool := r.graph == sl.act.graph && r.node == sl.act.node
    let room := ∃ r ∈ x.resv, mine r = true ∧ r.occ < r.res
    q < 256 → x.phase ≠ .unbound → x.ctx.toNat = sl.act.inctag.toNat / 64 →
    (x.phase = .halted → sl.stop = none → Raises (exec (.wqpush a b) s) s .S 0x0C (q + 512) 0)
    ∧ (x.phase = .active → ¬ room → sl.stop = none → Raises (exec (.wqpush a b) s) s .S 0x0C (q + 256) 0)
    ∧ (x.phase = .active → room → ¬ sl.released x.cls.toNat → exec (.wqpush a b) s = .next s)
    ∧ ∀ pa, x.phase = .active → room → sl.released x.cls.toNat → s.hubPage (s.ringTag x) .write (x.placeOf x.tail) 32 pa →
      ∃ m : Bytes, (∀ y, m.read y = overlaid s.mem.read pa ((List.range 4).flatMap fun k => bytesOf 8 (s.g (a.toNat + k)).toNat) y)
        ∧ Completes (exec (.wqpush a b) s) .S { s.modQueue q fun x => { x with
            tail := x.tail + 1, owners := x.owners ++ [some (sl.act.graph, sl.act.node)]
            resv := mapFirst mine (fun r => { r with occ := r.occ + 1 }) x.resv } with mem := m })
  ∧ (∀ (s : State) (d b : BitVec 6), s.issues (.wqpop d b) = true →
    let q := (s.g b.toNat).toNat
    let x := s.queue q
    let sl := s.slot s.cur
    q < 256 → x.phase ≠ .unbound → x.ctx.toNat = sl.act.inctag.toNat / 64 → x.feed = true →
    (x.sleepers ≠ [] ∨ x.phase = .halted ∨ x.tail = x.head → exec (.wqpop d b) s
      = .next ((s.modQueue q fun y => { y with sleepers := y.sleepers ++ [s.cur] }).modSeq s.cur fun y =>
          { y with sleep := some (.wqpop q d.toNat), waitFrom := some (y.waitFrom.getD s.now) }))
    ∧ ∀ pa, x.sleepers = [] → x.phase = .active → x.tail ≠ x.head → s.recordAt x pa →
      Completes (exec (.wqpop d b) s) .S (((s.modQueue q WorkQueue.popped).modRegs s.cur fun r => r.takes d.toNat (s.recordWord pa)).progress
        sl.act.graph))
  ∧ (∀ (s : State) (d b : BitVec 6), s.issues (.wqroom d b) = true →
    let q := (s.g b.toNat).toNat
    let x := s.queue q
    q < 256 → x.phase ≠ .unbound → x.ctx.toNat = (s.slot s.cur).act.inctag.toNat / 64 →
    Completes (exec (.wqroom d b) s) .S (s.withResult d (BitVec.ofNat 64 ((x.tail - x.head).toNat % 2 ^ 17
      + (2 ^ x.log2sz.toNat - x.commit.toNat) * 2 ^ 32 + (if x.phase = .active then 1 else 2) * 2 ^ 61)) 1))
  ∧ (∀ (s : State) (q : Nat), s.cur = q →
    let x := s.queue q
    let awake (n : Nat) : Prop := (s.slot n).stop = none ∧ (s.slot n).mat.late = false
    ((∀ n ∈ x.sleepers, ¬ awake n) → exec .wqpopWake s = .next s)
    ∧ ∀ (n : Nat) (before after : List Nat), x.sleepers = before ++ n :: after → (∀ m ∈ before, ¬ awake m) → awake n →
      ((∀ reg, (s.slot n).seq.sleep ≠ some (.wqpop q reg)) →
        exec .wqpopWake s = .next (s.modQueue q fun y => { y with sleepers := y.sleepers.filter (· != n) }))
      ∧ ∀ reg pa, (s.slot n).seq.sleep = some (.wqpop q reg) → x.phase = .active → x.tail ≠ x.head → s.recordAt x pa →
      ∃ u, exec .wqpopWake s = .next u ∧ State.Left n .S (((((s.modQueue q fun y => { y.popped with
          sleepers := y.sleepers.filter (· != n) }).modRegs n fun r => r.takes reg (s.recordWord pa)).modSeq n fun y =>
            { y with sleep := none, waitFrom := none }).modCounter n .S fun c => c.atCycle s.now).progress (s.slot n).act.graph) u)
  ∧ (∀ (s : State) (q k : Nat), s.cur = q →
    let x := s.queue q
    let fits := x.phase = .active ∧ 1 ≤ k ∧ x.commit.toNat + k ≤ 2 ^ x.log2sz.toNat
    let refused := s.modQueue q fun x => { x with refused := BitVec.ofNat 32 (min (2 ^ 32 - 1) (x.refused.toNat + 1)) }
    (fits → exec (.queueDoorbell k) s = .next (s.modQueue q fun x => { x with
        tail := x.tail + BitVec.ofNat 32 k, commit := x.commit + BitVec.ofNat 17 k
        owners := x.owners ++ List.replicate k none }))
    ∧ (¬ fits → exec (.queueDoorbell k) s = .next refused)
    ∧ (x.phase = .halted → exec .queueResume s = .next (s.modQueue q fun x => { x with phase := .active, wdogCnt := 0 }))
    ∧ (x.phase ≠ .halted → exec .queueResume s = .next s)
    ∧ (let legal := 1 ≤ x.log2sz.toNat ∧ x.log2sz.toNat ≤ 16 ∧ 4096 ∣ x.qbase.toNat ∧ 32 * 2 ^ x.log2sz.toNat ∣ x.qbase.toNat
          ∧ (s.ctx x.ctx.toNat).phase ≠ .free ∧ s.hub.dev.negotiated = true
      let idle := x.running = none ∧ x.resv = [] ∧ x.sleepers = []
      let area := (s.ctx x.ctx.toNat).cimg.toNat + 32
      let masked (u : State) (y : WorkQueue) (on : Bool) : Prop := u.queue q = y ∧ (∀ n, n ≠ q → u.queue n = s.queue n)
        ∧ (∀ n, n < 256 → (u.ctx x.ctx.toNat).qmask.getLsbD n = if n = q then on else (s.ctx x.ctx.toNat).qmask.getLsbD n)
        ∧ ∀ a, u.mem.read a = overlaid s.mem.read area (bytesOf 32 (u.ctx x.ctx.toNat).qmask.toNat) a
      (x.phase ≠ .unbound → exec .queueBind s = .next s)
      ∧ (x.phase = .unbound → ¬ legal → exec .queueBind s = .next refused)
      ∧ (x.phase = .unbound → legal → q < 256 → area < s.hbmEnd → ∃ u, exec .queueBind s = .next u
          ∧ masked u { x with phase := .active, head := 0, tail := 0, commit := 0, wdogCnt := 0, owners := [], resv := [] } true)
      ∧ (x.phase = .unbound ∨ ¬ idle → exec .queueUnbind s = .next s)
      ∧ (x.phase ≠ .unbound → idle → q < 256 → area < s.hbmEnd → ∃ u, exec .queueUnbind s = .next u
          ∧ masked u { x with phase := .unbound, head := x.tail, owners := []
                              drops := BitVec.ofNat 32 (min (2 ^ 32 - 1) (x.drops.toNat + (x.tail - x.head).toNat)) } false)))
  ∧ ∀ (s : State) (q : Nat), s.cur = q →
    let x := s.queue q
    (¬ s.mayTake x → exec .queueRecordNop s = .next s ∧ exec .queueRecordIcode s = .next s ∧ exec .queueRecordLaunch s = .next s)
    ∧ ∀ pa, s.mayTake x → s.recordAt x pa →
      let word (k : Nat) : Nat := (s.recordWord pa k).toNat
      let kind := word 0 % 256
      (malformed word → ∀ ev ∈ [Instr.queueRecordNop, .queueRecordIcode, .queueRecordLaunch], ∃ u y, exec ev s = .next u
          ∧ u.queue q = { x.popped with running := none } ∧ u.hub.traps.table = s.hub.traps.table ++ [y] ∧ y.body.code = 0x01
          ∧ y.body.who = .hub ∧ y.body.tag = some (s.ringTag x) ∧ y.body.addr = x.placeOf x.head ∧ u.slots = s.slots ∧ u.mem = s.mem)
      ∧ (¬ malformed word → kind = 0 → exec .queueRecordNop s = .next (s.finished q (word 0)) ∧ exec .queueRecordIcode s = .next s
          ∧ exec .queueRecordLaunch s = .next s)
      ∧ (¬ malformed word → kind = 2 →
          let lo := word 1
          let hi := lo + 64 * word 2
          let c := x.ctx.toNat
          let drop (l : CodeLine) : Bool := decide (l.tag.toNat / 64 = c) && decide (l.va < hi) && decide (lo < l.va + 64)
          let hit (k : KEntry) : Bool := decide (k.tag.toNat / 64 = c) && decide (k.base + k.header.textOff < hi)
            && decide (lo < k.base + k.header.textOff + 4 * k.header.textWords)
          exec .queueRecordIcode s = .next ((({ s with cores := s.cores.map fun (n, k) =>
              (n, { k with icache := k.icache.filter fun l => !drop l }) } : State).modSpool fun p =>
                { p with kernels := (p.kernels.filter fun k => !(hit k.2 && k.2.count == 0)).map fun k =>
                    if hit k.2 then (k.1, { k.2 with stale := true }) else k }).finished q (word 0)))

/-- QUEUE_RECORD_LAUNCH reads and checks the graph of its record, and the graph stands with its nodes Waiting, Due or Ready. A Ready empty
node completes, and its edges fire; a Due node is Ready at its tick. A Ready kernel node begins to dispatch under its kernel entry, with
its group chosen, its tiles shared and its queue entries reserved, fails with QUEUEFULL where a queue refuses, and without an entry waits
for validation, which adds the entry or fails at the header's first failing byte. A copy node's block enters its winch's queue and a
collective node's command its stream, and the node is issued. A control node reads its condition: it completes, or its child is launched;
at depth 4 it fails with ILLEGAL. A child that has ended completes, halts or fails its node, or has a loop node evaluated again.
GRAPH_COMPLETION_WRITE of a root graph that has ended writes the value and the outcome, and its record finishes. (Readings of the model,
where it rests on one: logs 53, 54, 55 and 56.) -/
def Obligations.Graphs : Prop :=
  (∀ (s : State) (q pa : Nat) (nodes edges : List Nat), s.cur = q →
    let x := s.queue q
    let word (k : Nat) : Nat := (s.recordWord pa k).toNat
    s.mayTake x → s.recordAt x pa → ¬ malformed word → word 0 % 256 = 1 → s.graphRoom → s.graphAt (s.ringTag x) (word 1) nodes edges →
    ∃ u, exec .queueRecordLaunch s = .next u ∧ s.Launched u (s.ringTag x) (word 1) (some q) none 0 nodes edges
      ∧ u.queue q = { x with running := some s.hub.spool.nextId, taken := BitVec.ofNat 256 (s.number pa 32) })
  ∧ (∀ (s : State) (g n : Nat) (x : Graph) (y : Node), s.cur = g → s.graph g = some x → x.nodes[n]? = some y →
    (s.takes g n 0 x y → ∃ u, exec (.emptyNodeTaken n) s = .next u ∧ s.NodeCompletes u g n)
    ∧ (¬ s.takes g n 0 x y → exec (.emptyNodeTaken n) s = .next s)
    ∧ (y.phase = .due → ((y.raw.toNat / 2 ^ 320 % 2 ^ 50 : Nat) : Int) ≤ (s.now / 2 ^ 14 : Nat) - (s.ctx (x.tag.toNat / 64)).foff.toNat →
        exec (.timedNodeDue n) s = .next (s.nodeSet g n { y with phase := .ready }))
    ∧ (y.phase ≠ .due → exec (.timedNodeDue n) s = .next s)
    ∧ (s.takes g n 1 x y →
      let base := argOf y.raw.toNat 0
      let known (p : Nat × KEntry) : Prop := p.2.tag = x.tag ∧ p.2.base = base ∧ p.2.stale = false
      ((∀ p ∈ s.hub.spool.kernels, ¬ known p) → exec (.kernelNodeDispatch n) s = .next (s.nodeSet g n { y with phase := .validating }))
      ∧ ∀ (before after : List (Nat × KEntry)) (id : Nat) (e : KEntry), s.hub.spool.kernels = before ++ (id, e) :: after →
        (∀ p ∈ before, ¬ known p) → known (id, e) → y.tiles = 0 → (e.header.levels.map (·.1)).prod ≠ 0 →
        (∃ d < 4, s.diePresent d = true) →
        let opens (d : Nat × Nat) : Prop := (s.queue d.1).phase = .active ∧ (s.queue d.1).commit.toNat + d.2 ≤ 2 ^ (s.queue d.1).log2sz.toNat
        ((∀ d ∈ e.header.qdecl, opens d) → (e.header.qdecl.map (·.1)).Nodup → ∃ u, exec (.kernelNodeDispatch n) s = .next u
            ∧ (∃ z, u.graph g = some { x with nodes := x.nodes.set n z } ∧ s.begun y id e z) ∧ u.slots = s.slots ∧ u.mem = s.mem
            ∧ (∀ d ∈ e.header.qdecl, u.queue d.1 = { s.queue d.1 with
                commit := (s.queue d.1).commit + BitVec.ofNat 17 d.2
                resv := (s.queue d.1).resv.filter (fun r => !(r.graph == g && r.node == n)) ++ [⟨g, n, d.2, 0⟩] })
            ∧ ∀ q, (∀ d ∈ e.header.qdecl, d.1 ≠ q) → u.queue q = s.queue q)
        ∧ ∀ (early late : List (Nat × Nat)) (d : Nat × Nat), e.header.qdecl = early ++ d :: late → (∀ c ∈ early, opens c) → ¬ opens d →
            ∃ u, exec (.kernelNodeDispatch n) s = .next u ∧ s.NodeFails u g n 0x0C d.1 0
              ∧ (u.queue d.1).refused = BitVec.ofNat 32 (min (2 ^ 32 - 1) ((s.queue d.1).refused.toNat + 1)))
    ∧ (y.phase = .validating → ∀ pa,
      let base := argOf y.raw.toNat 0
      let h := s.number pa 256
      let bound (q : Nat) : Bool := (s.queue q).phase != .unbound && (s.queue q).ctx.toNat == x.tag.toNat / 64
      (∀ p ∈ s.hub.spool.kernels, ¬ (p.2.tag = x.tag ∧ p.2.base = base ∧ p.2.stale = false)) → s.hub.spool.kernels.length < 1024 →
      s.hub.spool.waiting = [] ∨ s.hub.spool.waiting.head? = some (g, n) → s.hubPage x.tag .read base 256 pa →
      (∀ b, kernelHeaderBad h bound = some b → ∃ u, exec (.kernelValidation n) s = .next u ∧ s.NodeFails u g n 0x01 0 (base + b))
      ∧ (kernelHeaderBad h bound = none → y.tiles = 0 → (Header.ofNat h).qdecl = [] → (Header.ofNat h).tileCount ≠ 0 →
          (∃ d < 4, s.diePresent d = true) →
          let id := s.hub.spool.nextId
          let e : KEntry := { id := 0, base := base, tag := x.tag, header := Header.ofNat h, count := 0, stale := false,
                              used := s.hub.spool.dispatches }
          ∃ u, exec (.kernelValidation n) s = .next u ∧ u.hub.spool.kernels = s.hub.spool.kernels.put id e ∧ u.hub.spool.nextId = id + 1
            ∧ (∀ p ∈ u.hub.spool.waiting, p ≠ (g, n)) ∧ (∃ z, u.graph g = some { x with nodes := x.nodes.set n z } ∧ s.begun y id e z)
            ∧ u.slots = s.slots ∧ u.mem = s.mem))
    ∧ (s.takes g n 2 x y → ∀ (kind : WinchKind) (h : SShape) (bpa ipa v : Nat),
      let r := y.raw.toNat
      let sel := argOf r 2 / 2 ^ 8 % 8
      let die := argOf r 2 / 2 ^ 12 % 4
      let gb : Reg := BitVec.ofNat 64 (argOf r 1)
      let w : WinchWord := ⟨kind, 0, 0, none, BitVec.ofNat 3 sel⟩
      let shaped := kind = .wcopy ∨ kind = .wlayout
      winchKindOf (argOf r 2 % 64) = some kind → s.hubPage x.tag .read (argOf r 0) 64 bpa →
      (shaped → s.hubPage x.tag .read (argOf r 3) 184 ipa ∧ imageShape (s.bytesAt ipa 184) = some h) → (¬ shaped → h = SShape.none) →
      let k := s.number bpa 64
      (sel = 6 ∨ s.diePresent die = false ∨ ¬ w.allowed s h gb.toNat ∨ ¬ w.blockFits k →
        ∃ u, exec (.copyNodePush n) s = .next u ∧ s.NodeFails u g n 0x01 0 0)
      ∧ (sel ≠ 6 → s.diePresent die = true → w.allowed s h gb.toNat → w.blockFits k → ∀ a, w.skew k gb.toNat = some a →
        ∃ u, exec (.copyNodePush n) s = .next u ∧ s.NodeFails u g n 0x04 0 a)
      ∧ (sel ≠ 6 → s.diePresent die = true → w.allowed s h gb.toNat → w.blockFits k → w.skew k gb.toNat = none →
        (kind = .wnvme → s.hub.dev.agreed.getLsbD 5 = true) → s.picksWinch die sel v → (s.winch v).queue.length < 64 →
        ∃ (c : WCmd) (u : State), exec (.copyNodePush n) s = .next u ∧ u = ((s.modWinch v fun z =>
            { z with queue := z.queue ++ [c], pushes := z.pushes + 1 }).nodeSet g n { y with phase := .issued }).graphBusy g
          ∧ c.kind = kind ∧ c.num = (s.winch v).pushes ∧ c.tag = x.tag ∧ c.pusher = .node g n ∧ c.block.toNat = k ∧ c.gb = gb ∧ c.shape = h
          ∧ c.key = (s.ctx (x.tag.toNat / 64)).image.key ∧ c.step = (s.ctx (x.tag.toNat / 64)).image.stepno ∧ c.cursor = 0
          ∧ c.stage = .queued))
    ∧ (s.takes g n 3 x y → ∀ pa, s.hubPage x.tag .read (argOf y.raw.toNat 0) 64 pa →
      let a := argOf y.raw.toNat 1
      let d : TCmd := { num := 0, bytes := BitVec.ofNat 512 (s.number pa 64), tag := x.tag, cls := a / 2 ^ 4 % 16, pusher := some (.node g n),
                        started := 0, relReq := 0, relCmd := 0 }
      exec (.collectiveNodePush n) s
        = .next (((s.modStream (a % 16) fun z => { z with queue := z.queue ++ [d] }).nodeSet g n { y with phase := .issued }).graphBusy g)))
  ∧ (∀ (s : State) (g n kind : Nat) (x : Graph) (y : Node) (pa : Nat), s.cur = g → s.graph g = some x → x.nodes[n]? = some y →
    let r := y.raw.toNat
    let v := s.number pa 8
    r % 256 = kind → y.phase = .evaluating ∨ (4 ≤ kind ∧ s.takes g n kind x y) → s.hubPage x.tag .read (argOf r 0) 8 pa →
    let again := kind = 4 ∧ v ≠ 0 ∨ kind = 5 ∧ v ≠ 0 ∧ (argOf r 3 % 2 ^ 32 = 0 ∨ y.iter < argOf r 3 % 2 ^ 32)
    let cases_ := argOf r 2 / 2 ^ 8 % 2 ^ 13
    let done := (kind = 4 ∨ kind = 5) ∧ ¬ again ∨ kind = 6 ∧ cases_ ≤ v ∧ argOf r 2 / 2 ^ 21 % 2 = 0
    (done → ∃ u, exec (.controlNodeEvaluate n) s = .next u ∧ s.NodeCompletes u g n)
    ∧ ∀ (root ca : Nat),
      (again ∧ root = argOf r 1
        ∨ kind = 6 ∧ ¬ done ∧ s.hubPage x.tag .read (argOf r 1 + 8 * min v cases_) 8 ca ∧ root = s.number ca 8) →
      (4 ≤ x.depth → ∃ u, exec (.controlNodeEvaluate n) s = .next u ∧ s.NodeFails u g n 0x01 0 0)
      ∧ (x.depth < 4 → s.graphRoom → g ≠ s.hub.spool.nextId → ∀ nodes edges, s.graphAt x.tag root nodes edges →
        ∃ u, exec (.controlNodeEvaluate n) s = .next u ∧ s.Launched u x.tag root none (some (g, n)) (x.depth + 1) nodes edges
          ∧ u.graph g = some { x with progress := true, nodes := x.nodes.set n { y with phase := .child s.hub.spool.nextId } }))
  ∧ (∀ (s : State) (g n c o code : Nat) (x k : Graph) (y : Node), s.cur = g → s.graph g = some x → x.nodes[n]? = some y →
    y.phase = .child c → s.graph c = some k → c ≠ g →
    (k.result = none → exec (.childGraphEnd n) s = .next s)
    ∧ (k.endedAs o code → o ≤ 2 → ∃ u, exec (.childGraphEnd n) s = .next u ∧ u.graph c = none ∧ u.slots = s.slots ∧ ∃ x', u.graph g = some x'
        ∧ (o = 0 → y.raw.toNat % 256 = 5 → x'.nodes = x.nodes.set n { y with iter := y.iter + 1, phase := .evaluating })
        ∧ (o = 0 → y.raw.toNat % 256 ≠ 5 → (x'.nodes[n]?).map (·.phase) = some .complete ∧ x'.edges = x.edges.map (fun e =>
            if e.src = n then { e with fired := true } else e))
        ∧ (o = 1 → (x'.nodes[n]?).map (·.phase) = some (.halted code) ∧ (x.firstBad = none → x'.firstBad = some ⟨false, code, s.now, n⟩))
        ∧ (o = 2 → (x'.nodes[n]?).map (·.phase) = some (.failed code) ∧ (x.firstBad = none → x'.firstBad = some ⟨true, code, s.now, n⟩))))
  ∧ ∀ (s : State) (g q o code pa : Nat) (x : Graph), s.cur = g → s.graph g = some x → x.parent = none → x.queue = some q →
    let r := (s.queue q).taken.toNat
    let at_ := r / 2 ^ 128 % 2 ^ 64
    let out := bytesOf 8 (r / 2 ^ 192) ++ bytesOf 8 (o + if o = 0 then 0 else code * 2 ^ 16)
    (x.result = none → exec .graphCompletionWrite s = .next s)
    ∧ (x.endedAs o code → at_ = 0 → exec .graphCompletionWrite s
        = .next ((s.modSpool fun p => { p with graphs := p.graphs.del g }).finished q (r % 2 ^ 64)))
    ∧ (x.endedAs o code → at_ ≠ 0 → s.hubPage x.tag .write at_ 16 pa → ∃ u, exec .graphCompletionWrite s = .next u
        ∧ (∀ a, u.mem.read a = overlaid s.mem.read pa out a) ∧ u.slots = s.slots
        ∧ u.hub = ((s.modSpool fun p => { p with graphs := p.graphs.del g }).finished q (r % 2 ^ 64)).hub)

/-- GRPID writes GRPID, the tile count or the die's static share; BANDQ writes the state of a slot; PHASE sets the phase and writes the
one before; a number past 16 bits is ILLEGAL. TILE_DISPATCH starts the next tile of a die in the lowest slot that can take it, with
everything that R60 to R65 load, after the die's lines of the listed regions are gone where it is the node's first on the die, and a tile
that no slot can take waits. TILE_STEAL moves the upper half of the largest, nearest, lowest range. BAND_EXTRA_GRANT lends the next band
to a slot that wants it; BAND_WITHDRAW takes back the highest bands above the demand that no word touches. ACTIVATION_END frees the slot,
and the last one of a draining node ends the node. (Readings of the model, where it rests on one: logs 13, 58 and 59.) -/
def Obligations.Groups : Prop :=
  (∀ (s : State) (d b : BitVec 6), s.issues (.grpid d b) = true →
    let a := (s.slot s.cur).act
    CompletesWith (exec (.grpid d b) s) s d fun v =>
      (b = 0 → v = a.grpid.setWidth 64)
      ∧ ∀ x y, s.graph a.graph = some x → x.nodes[a.node]? = some y →
        (b = 1 → v = BitVec.ofNat 64 y.tiles)
        ∧ ∀ lo hi, (y.shares.map (·.1)).Nodup → (s.cur / 80, lo, hi) ∈ y.shares → lo < 2 ^ 32 → hi < 2 ^ 32 → b = 2 →
          v.toNat % 2 ^ 32 = lo ∧ v.toNat / 2 ^ 32 = hi)
  ∧ (∀ (s : State) (d b : BitVec 6), s.issues (.bandq d b) = true →
    let x := s.cur
    let sl := s.slot (if b = 0 then x else beside x)
    CompletesWith (exec (.bandq d b) s) s d fun v =>
      (sl.busy = false → v = 0)
      ∧ (sl.busy = true → sl.grant < 16 → sl.demand < 16 →
        let f (lo n : Nat) : Nat := v.toNat / 2 ^ lo % 2 ^ n
        f 0 12 = sl.act.bands.toNat ∧ f 12 4 = sl.grant ∧ f 16 4 = sl.demand ∧ f 20 4 = 0
        ∧ (∀ p < 8, v.getLsbD (24 + p) = ((s.slot (2 * (x / 2))).act.bands.getLsbD p && (s.slot (2 * (x / 2) + 1)).act.bands.getLsbD p))
        ∧ f 32 1 = 1 ∧ v.getLsbD 33 = sl.comm ∧ f 34 4 = sl.act.prio.toNat ∧ f 38 26 = 0))
  ∧ (∀ (s : State) (d a b : BitVec 6), s.issues (.phase d a b) = true →
    let x := (s.g a.toNat).toNat
    let sl := s.slot s.cur
    (2 ^ 16 ≤ x → sl.stop = none → Raises (exec (.phase d a b) s) s .S 0x01 0 0)
    ∧ (x < 2 ^ 16 → Completes (exec (.phase d a b) s) .S ((s.modSlot s.cur fun sl =>
        { sl with phase := BitVec.ofNat 16 x, comm := decide (b = 1) }).withResult d
          (BitVec.ofNat 64 (sl.phase.toNat + if sl.comm then 2 ^ 16 else 0)) 1)))
  ∧ (∀ (s : State) (d b : BitVec 6), 3 ≤ b.toNat → (s.slot s.cur).stop = none → Raises (exec (.grpid d b) s) s .S 0x01 0 0)
  ∧ (∀ (s : State) (d b : BitVec 6), 2 ≤ b.toNat → (s.slot s.cur).stop = none → Raises (exec (.bandq d b) s) s .S 0x01 0 0)
  ∧ (∀ (s : State) (g n d : Nat) (x : Graph) (y : Node) (e : KEntry), s.cur = g → s.handsOut g n x y e → s.diePresent d = true →
    let c := x.tag.toNat / 64
    (∀ lo hi, (d, lo, hi) ∈ y.ranges → hi ≤ lo → exec (.tileDispatch n d) s = .next s)
    ∧ (∀ lo hi, (d, lo, hi) ∈ y.ranges → lo < hi → (∀ z, y.groupHas d z → s.fitsTile c y.header.spBytes z = false) →
      ∃ u, exec (.tileDispatch n d) s = .next u ∧ u.mem = s.mem ∧ u.cores = s.cores ∧ (∀ k, u.graph k = s.graph k)
        ∧ ∀ m, u.slot m = { s.slot m with withdraw := (u.slot m).withdraw })
    ∧ ∀ lo hi z, (d, lo, hi) ∈ y.ranges → lo < hi → s.nextSlot c y d z → y.header.spBytes ≤ 0x600000 →
      ∃ u, exec (.tileDispatch n d) s = .next u ∧ s.TileStarted u z g n lo x y e
        ∧ let ranges := y.ranges.map fun r => if r.1 = d then (d, lo + 1, hi) else r
          u.graph g = some { x with
            progress := true,
            nodes := x.nodes.set n { y with
              ranges := ranges, active := y.active + 1, cleared := if d ∈ y.cleared then y.cleared else d :: y.cleared,
              phase := if ∀ r ∈ ranges, r.2.2 ≤ r.2.1 then .draining else .dispatching } })
  ∧ (∀ (s : State) (g n : Nat) (x : Graph) (y : Node), s.cur = g → s.graph g = some x → x.nodes[n]? = some y → y.phase ≠ .dispatching →
    ∀ d, exec (.tileDispatch n d) s = .next s ∧ exec (.tileSteal n d) s = .next s)
  ∧ (∀ (s : State) (g n d lo hi z : Nat) (x : Graph) (y : Node) (e : KEntry), s.cur = g → s.handsOut g n x y e → (d, lo, hi) ∈ y.ranges →
    (lo < hi → exec (.tileSteal n d) s = .next s)
    ∧ (hi ≤ lo → (∀ r ∈ y.ranges, r.1 ≠ d → r.2.2 < r.2.1 + 2) → exec (.tileSteal n d) s = .next s)
    ∧ ∀ v a b, hi ≤ lo → s.nextSlot (x.tag.toNat / 64) y d z → (v, a, b) ∈ y.ranges → v ≠ d → a + 2 ≤ b →
      (∀ r ∈ y.ranges, r.1 ≠ d → r.2.2 - r.2.1 < b - a ∨ r.2.2 - r.2.1 = b - a
        ∧ (dieDistance d v < dieDistance d r.1 ∨ dieDistance d v = dieDistance d r.1 ∧ v ≤ r.1)) →
      let m := a + (b - a + 1) / 2
      exec (.tileSteal n d) s = .next (s.nodeSet g n { y with
        ranges := y.ranges.map fun r => if r.1 = d then (d, m, b) else if r.1 = v then (v, a, m) else r }))
  ∧ (∀ (s : State) (x n : Nat), s.cur = x → s.bandCeiling x n →
    let sl := s.slot x
    let held := sl.act.bands.toNat / 2 ^ 8
    let p := if x % 2 = 0 then held else 7 - held
    let c := sl.act.inctag.toNat / 64
    let wants (x : Nat) : Prop := (s.slot x).busy = true ∧ ∃ n, s.bandCeiling x n ∧ (s.slot x).act.bands.toNat / 2 ^ 8 < n
      ∧ (let h := (s.slot x).act.bands.toNat / 2 ^ 8; (if x % 2 = 0 then h else 7 - h) ∈ s.openBands (x / 2))
    (sl.busy = false ∨ n ≤ held ∨ ¬ p ∈ s.openBands (x / 2) → exec .bandExtraGrant s = .next s)
    ∧ (held < 8 → wants x → ¬ wants (beside x) → exec .bandExtraGrant s = .next ((s.modSlot x fun sl =>
        { sl with extra := sl.extra + 1, act := { sl.act with bands := heldBands (x % 2) (held + 1) } }).modCore (x / 2) fun k =>
          { k with
            bandCtx := k.bandCtx.put p c,
            raced := k.raced.filter fun e => e.1 / 524288 != p,
            bandZeroing := match Tab.find k.bandCtx p with
              | none => k.bandZeroing
              | some z => if z = c ∨ (∃ w ∈ k.bandZeroing, w.part = p) then k.bandZeroing else k.bandZeroing ++ [⟨x % 2, p, s.now⟩] }))
    ∧ (held < 8 → wants x → wants (beside x) → s.winner (x / 2) 3 ≠ x % 2 → exec .bandExtraGrant s = .next s)
    ∧ (held < 8 → wants x → wants (beside x) → s.winner (x / 2) 3 = x % 2 → ∃ u, exec .bandExtraGrant s = .next u
        ∧ (u.slot x).act.bands = heldBands (x % 2) (held + 1) ∧ (u.slot x).extra = sl.extra + 1
        ∧ (u.slot (beside x)).act.bands = (s.slot (beside x)).act.bands ∧ u.mem = s.mem))
  ∧ (∀ (s : State) (x n : Nat), s.cur = x →
    let sl := s.slot x
    let held := sl.act.bands.toNat / 2 ^ 8
    (sl.busy = false → exec .bandWithdraw s = .next s)
    ∧ (sl.busy = true → s.bandCeiling x n → held = sl.grant + sl.extra → held ≤ 8 → sl.act.bands = heldBands (x % 2) held →
      let left := min held (max n sl.bandsTouched)
      exec .bandWithdraw s = .next (s.modSlot x fun sl =>
        { sl with extra := left - sl.grant, act := { sl.act with bands := heldBands (x % 2) left } })))
  ∧ ∀ (s : State) (z g n : Nat) (x : Graph) (y : Node), s.cur = z → s.graph g = some x → x.nodes[n]? = some y →
    let sl := s.slot z
    let plain := sl.stop = none ∧ sl.atEnd
    let over_ := plain ∨ ∃ f, sl.stop = some f ∧ f.final = true
    (sl.busy = false ∨ ¬ sl.completed ∨ ¬ over_ → exec .activationEnd s = .next s)
    ∧ (sl.busy = true → sl.completed → over_ → sl.act.graph = g → sl.act.node = n → (sl.stop = none → sl.halt ≠ none → y.halt = none) →
      (∀ p ∈ s.hub.spool.kernels, p.2.stale = false) →
      let halts := sl.stop = none ∧ sl.halt ≠ none
      let halt := if y.halt = none ∧ sl.stop = none then sl.halt.map (·.toNat) else y.halt
      let draining := y.phase = .draining ∨ y.phase = .dispatching ∧ (halt ≠ none ∨ y.fail ≠ none)
      let ends := draining ∧ y.active ≤ 1 ∧ y.cmds = 0
      ∃ u x', exec .activationEnd s = .next u ∧ (u.slot z).busy = false ∧ (u.slot z).act.bands = 0 ∧ (u.slot z).mailbox = sl.mailbox
        ∧ (∀ m, m ≠ z → u.slot m = s.slot m)
        ∧ u.hub.spool.kernels = s.hub.spool.kernels.map (fun p => if p.1 = y.kentry then (p.1, { p.2 with count := p.2.count - 1 }) else p)
        ∧ (∀ b, (u.barrier b).members = (s.barrier b).members.filter (· ≠ z)) ∧ u.graph g = some x' ∧ x'.progress = true
        ∧ (ends → ∃ w, x'.nodes[n]? = some w ∧ w.active = 0 ∧ w.halt = halt ∧ (∀ f, y.fail = some f → w.phase = .failed f)
            ∧ (∀ h, y.fail = none → halt = some h → w.phase = .halted h)
            ∧ (y.fail = none → halt = none → w.phase = .complete ∧ ∀ e ∈ x'.edges, e.src = n → e.fired = true))
        ∧ (¬ ends → u.mem = s.mem ∧ x'.edges = x.edges ∧ x'.nodes = x.nodes.set n { y with
            active := y.active - 1, halt := halt, haltAt := if halts then (s.now, z) else y.haltAt,
            phase := if draining then .draining else y.phase }))

/-- A barrier word raises ILLEGAL for a number that names no barrier, PERMISSION for a barrier that is unbound, of another context or
beyond the slot's reach, and BARRIERBROKEN for a broken one. BARR arrives once the slot's releases have performed and it has not yet
arrived in the generation, writes the generation, and its last arrival ends the generation: GEN advances and the counter grows by one, or
at system level the done reports go out. BARW writes GEN when the generation has completed, else it sleeps; BARS arrives and then waits;
BARRIER_WAKE ends a wait whose generation has completed, with its add, and raises BARRIERBROKEN where the barrier broke while the slot was
stopped. BIND, RESET, UNBIND and BREAK, the timeout and the reports of peers move the barrier as R335 and R340 say. WAITC completes when
the counter has reached its target, else it sleeps, and WAITC_COMPLETE looks again. (Readings of the model, where it rests on one: log
60.) -/
def Obligations.Barriers : Prop :=
  (∀ (s : State) (i : Instr) (b : BitVec 6) (big : Prop), s.issues i = true → (s.slot s.cur).stop = none →
    (∃ d, i = .barr d b ∧ big = False) ∨ (∃ d, i = .bars d b ∧ big = False) ∨ (∃ d a, i = .barw d a b ∧ big = (2 ^ 32 ≤ (s.g a.toNat).toNat)) →
    let n := (s.g b.toNat).toNat
    let x := s.barrier n
    let own := x.phase ≠ .unbound ∧ x.ctx.toNat = (s.slot s.cur).act.inctag.toNat / 64 ∧ x.reaches s.cur
    (256 ≤ n ∨ big → Raises (exec i s) s .S 0x01 0 0)
    ∧ (n < 256 → ¬ big → ¬ own → Raises (exec i s) s .S 0x09 0 0)
    ∧ (n < 256 → ¬ big → own → x.phase = .broken →
        Raises (exec i s) s .S 0x0D (n + x.cause.toNat * 2 ^ 8 + x.gen.toNat * 2 ^ 32) 0))
  ∧ (∀ (s : State) (d b : BitVec 6), s.issues (.barr d b) = true →
    let n := (s.g b.toNat).toNat
    let x := s.barrier n
    let v : Reg := BitVec.ofNat 64 x.gen.toNat
    s.barrierOpen n →
    (¬ s.releases n → exec (.barr d b) s = .next (s.joined n))
    ∧ (s.releases n → ¬ s.mayArrive n → exec (.barr d b) s = .next ((s.joined n).modSeq s.cur fun q => { q with stalledArrival := true }))
    ∧ (s.mayArrive n → x.arr + 1 ≠ x.expect → Completes (exec (.barr d b) s) .S ((s.arrivedIn n).withResult d v 1))
    ∧ (s.mayArrive n → x.arr + 1 = x.expect → x.heardAll → ∀ pa, s.counterAtPa n pa →
        ∃ u, ((s.arrivedIn n).told n).GenerationEnded u n pa ∧ Completes (exec (.barr d b) s) .S (u.withResult d v 1))
    ∧ (s.mayArrive n → x.arr + 1 = x.expect → ¬ x.heardAll →
        Completes (exec (.barr d b) s) .S (((s.arrivedIn n).told n).withResult d v 1))
    ∧ (s.mayArrive n → x.arr + 1 = x.expect → x.level ≠ 3 → ∀ code level, x.caddr ≠ 0 → x.caddr.toNat + 4 ≤ 2 ^ 56 →
        (⟨s.ctxTag x.ctx.toNat, x.caddr.toNat / 65536⟩ : WalkKey) ∉ s.hub.traps.walks →
        s.walk x.ctx.toNat (some .atomic) x.caddr.toNat = .fault code level →
        ∃ u, exec (.barr d b) s = .next u ∧ (u.barrier n).phase = .broken ∧ (u.barrier n).cause = 5 ∧ u.mem = s.mem
          ∧ ∃ r ∈ u.hub.traps.table, r.body.who = .hub ∧ r.body.code = code ∧ r.body.addr = x.caddr.toNat))
  ∧ (∀ (s : State) (d a b : BitVec 6), s.issues (.barw d a b) = true →
    let n := (s.g b.toNat).toNat
    let t := (s.g a.toNat).toNat
    let x := s.barrier n
    s.barrierOpen n → t < 2 ^ 32 → s.reqsNumbered →
    (x.passed t → Completes (exec (.barw d a b) s) .S ((s.joined n).barrierPassed n d x.gen.toNat))
    ∧ (¬ x.passed t → exec (.barw d a b) s = .next ((s.joined n).sleeping (.barrier n t d.toNat false))))
  ∧ (∀ (s : State) (d b : BitVec 6), s.issues (.bars d b) = true →
    let n := (s.g b.toNat).toNat
    let x := s.barrier n
    s.barrierOpen n →
    (¬ s.releases n → exec (.bars d b) s = .next (s.joined n))
    ∧ (s.releases n → ¬ s.mayArrive n → exec (.bars d b) s = .next ((s.joined n).modSeq s.cur fun q => { q with stalledArrival := true }))
    ∧ (s.mayArrive n → x.arr + 1 ≠ x.expect →
        exec (.bars d b) s = .next ((s.arrivedIn n).sleeping (.barrier n x.gen.toNat d.toNat true)))
    ∧ (s.mayArrive n → x.arr + 1 = x.expect → ¬ x.heardAll →
        exec (.bars d b) s = .next (((s.arrivedIn n).told n).sleeping (.barrier n x.gen.toNat d.toNat true)))
    ∧ (s.mayArrive n → x.arr + 1 = x.expect → x.heardAll → s.reqsNumbered → ∀ pa, s.counterAtPa n pa →
        ∃ u, ((s.arrivedIn n).told n).GenerationEnded u n pa ∧ Completes (exec (.bars d b) s) .S (u.barrierPassed n d x.gen.toNat)))
  ∧ (∀ (s : State) (b g : Nat) (d : BitVec 6) (own : Bool), (s.slot s.cur).seq.sleep = some (.barrier b g d.toNat own) →
    let x := s.barrier b
    let wakes := x.adds = 0 ∧ x.passed g ∧ (s.slot s.cur).stop = none ∧ (s.slot s.cur).mat.late = false
    (¬ wakes → exec .barrierWake s = .next s)
    ∧ (wakes → s.reqsNumbered → Completes (exec .barrierWake s) .S (((s.modSeq s.cur fun q => { q with sleep := none }).modCounter s.cur .S
        fun c => c.atCycle s.now).barrierPassed b d (if own then g else x.gen.toNat))))
  ∧ (∀ (s : State) (status : Nat), (s.slot s.cur).seq.sleep = some (.broken status) →
    ((s.slot s.cur).stop ≠ none → exec .barrierWake s = .next s)
    ∧ ((s.slot s.cur).stop = none → (s.slot s.cur).mat.late = false → ∃ u, exec .barrierWake s = .next u
        ∧ State.Trapped s.cur .S (s.fatalRecord s.cur .S 0x0D status 0) none (s.modSeq s.cur fun q => { q with sleep := none }) u))
  ∧ (∀ (s : State) (b : Nat), s.cur = b →
    let x := s.barrier b
    let legal := (s.ctx x.ctx.toNat).phase ≠ .free ∧ 1 ≤ x.expect.toNat ∧ x.expect.toNat ≤ 320 ∧ (x.level = 0 → x.expect.toNat ≤ 16)
      ∧ (x.level = 1 → x.expect.toNat ≤ 80) ∧ 4 ∣ x.caddr.toNat ∧ (x.level = 0 → x.team.toNat < 20 ∧ x.team.toNat / 5 = x.die.toNat)
      ∧ (x.level = 0 ∨ x.level = 1 → s.diePresent x.die.toNat = true) ∧ (x.peermask ≠ 0 ↔ x.level = 3)
    let refused := s.modBarrier b fun x => { x with refused := BitVec.ofNat 32 (min (2 ^ 32 - 1) (x.refused.toNat + 1)) }
    let asleep := ∃ n < 320, (s.slot n).atBarrier b
    (x.phase ≠ .unbound → exec .barrierBind s = .next s)
    ∧ (x.phase = .unbound → legal → exec .barrierBind s = .next (s.modBarrier b fun x => { x with
        phase := .armed, gen := 0, arr := 0, arrived := [], cause := 0, localDone := false, reports := 0, ahead := 0, adds := 0,
        frames := 0 }))
    ∧ (x.phase = .unbound → ¬ legal → exec .barrierBind s = .next refused)
    ∧ (x.phase = .broken → exec .barrierReset s = .next (s.modBarrier b fun x => { x with
        phase := .armed, arr := 0, arrived := [], localDone := false, reports := 0, ahead := 0, frames := 0 }))
    ∧ (x.phase ≠ .broken → exec .barrierReset s = .next s)
    ∧ (x.phase = .unbound → exec .barrierUnbind s = .next s)
    ∧ (x.phase ≠ .unbound → ¬ asleep → exec .barrierUnbind s = .next (s.modBarrier b fun x => { x with phase := .unbound }))
    ∧ (x.phase ≠ .unbound → asleep → exec .barrierUnbind s = .next refused)
    ∧ (x.phase ≠ .armed → exec .barrierBreakCmd s = .next s)
    ∧ (x.phase = .armed → ∃ u, exec .barrierBreakCmd s = .next u ∧ s.Broken u b 5)
    ∧ (let due := x.phase = .armed ∧ x.level = 3 ∧ x.localDone = true ∧ x.tmo ≠ 0 ∧ x.tmo.toNat ≤ x.frames
       let seen := s.modBarrier b fun x => { x with overdue := false }
       (¬ due → exec .barrierTimeout s = .next seen) ∧ (due → ∃ u, exec .barrierTimeout s = .next u ∧ seen.Broken u b 4)))
  ∧ (∀ (s : State) (p : Arrival) (c : Nat),
    let b := partOf p 32 8
    let g := partOf p 0 32
    let x := s.barrier b
    let peer := partOf p 64 8
    let bit : BitVec 64 := BitVec.ofNat 64 (2 ^ peer)
    let heard := s.modBarrier b fun x => { x with reports := x.reports ||| bit }
    (s.arrives p 4 c → x.listens c peer →
      (g = x.gen.toNat → ¬ (x.localDone = true ∧ x.peermask &&& ~~~(x.reports ||| bit) = 0) → exec (.barrierDoneReport p) s = .next heard)
      ∧ (g = x.gen.toNat → x.localDone = true → x.peermask &&& ~~~(x.reports ||| bit) = 0 → ∀ pa, s.counterAtPa b pa →
          ∃ u, exec (.barrierDoneReport p) s = .next u ∧ heard.GenerationEnded u b pa)
      ∧ (g = (x.gen.toNat + 1) % 2 ^ 32 → exec (.barrierDoneReport p) s = .next (s.modBarrier b fun x => { x with ahead := x.ahead ||| bit })))
    ∧ (s.arrives p 5 c → x.listens c peer → ∃ u, exec (.barrierBreakReport p) s = .next u ∧ s.Broken u b 3)
    ∧ (s.arrives p 4 c → ¬ x.listens c peer → exec (.barrierDoneReport p) s = .next s)
    ∧ (s.arrives p 5 c → ¬ x.listens c peer → exec (.barrierBreakReport p) s = .next s))
  ∧ (∀ (s : State) (c : BitVec 4) (a b : BitVec 6), s.issues (.waitc c a b) = true → (s.slot s.cur).stop = none →
    let va := (s.g a.toNat).toNat
    let t := (s.g b.toNat).toNat
    (2 ^ 32 ≤ t → Raises (exec (.waitc c a b) s) s .S 0x01 0 0)
    ∧ (t < 2 ^ 32 → 2 ^ 56 ≤ va → Raises (exec (.waitc c a b) s) s .S 0x08 0 va)
    ∧ (t < 2 ^ 32 → va < 2 ^ 56 → va % 4 ≠ 0 → Raises (exec (.waitc c a b) s) s .S 0x04 0 va))
  ∧ ∀ (s : State) (i : Instr) (va t : Nat) (c : BitVec 4), (s.slot s.cur).stop = none →
    (∃ a b, i = .waitc c a b ∧ s.issues i = true ∧ va = (s.g a.toNat).toNat ∧ t = (s.g b.toNat).toNat)
      ∨ (i = .waitcComplete ∧ (s.slot s.cur).mat.late = false ∧ (s.slot s.cur).seq.sleep = some (.waitc va t c.toNat)) →
    va < 2 ^ 56 → va % 4 = 0 → t < 2 ^ 32 →
    let tag := (s.slot s.cur).act.inctag
    s.walksAfresh (s.cur / 2) tag va → s.reqsNumbered →
    let s₀ := if i = .waitcComplete then s.modCounter s.cur .S fun k => k.atCycle s.now else s
    (∀ e at_, s.walk (tag.toNat / 64) (some .read) va = .leaf e at_ → plainPage e → e / 2 ^ 11 % 2 = 1 →
      let pa := e / 2 ^ 24 % 2 ^ 24 * 65536 + va % 65536
      let reached := (s.number pa 4 + 2 ^ 32 - t) % 2 ^ 32 < 2 ^ 31
      let comes := s.reaches (s.cur / 80) pa = true
      (comes → reached → ∃ u, (s₀.modSeq s.cur fun q => { q with sleep := none, waitFrom := none }).Looked u
        ∧ Completes (exec i s) .S (u.acquiresMask (2 ^ c.toNat)))
      ∧ (¬ (comes ∧ reached) → ∃ u, (s₀.sleeping (.waitc va t c.toNat)).Looked u ∧ exec i s = .next u))
    ∧ ∀ code level, s.walk (tag.toNat / 64) (some .read) va = .fault code level →
      ∃ u r, exec i s = .next u ∧ (u.slot s.cur).stop = some ⟨s.hub.traps.nextId, .S, code, false⟩ ∧ (u.slot s.cur).seq.sleep = none
        ∧ u.hub.traps.table = s.hub.traps.table ++ [r] ∧ r.body.code = code ∧ r.body.status = level ∧ r.body.addr = va ∧ u.mem = s.mem
        ∧ ∀ n, n ≠ s.cur → u.slot n = s.slot n

/-- RCLF and INCQRY of a context that the word may not name raise ILLEGAL or PERMISSION. RCLF starts a fence, joins the one of its
incarnation or waits for the next, and sleeps; INCQRY writes CSTAT, CCNT, CMEAS or a word of the own image; YIELD sets YIELDREQ and writes
the frames left. CREATE reads a legal image and clears what the hub keeps in it, and refuses another; DESTROY frees an idle context that
nothing holds. CONTEXT_LOAD_START takes the runnable Idle context of highest PRIO; LOAD_DONE, SAVE_START and SAVE_DONE move it on, with
its words and its winch entries in memory. KILL frees every part of the package from the context, or holds it at the 64th uncovered kill;
INCARNATION_INSTALLED removes what older incarnations filled. A second kill of a context in one cycle is the same kill. RCLF_COMPLETE
answers 1 once every endpoint and peer has confirmed, 2 when a peer never will, and wakes the words. (Readings of the model, where it
rests on one: logs 50, 61, 62, 63 and 64.) -/
def Obligations.Contexts : Prop :=
  (∀ (s : State) (i : Instr) (a : BitVec 6), (∃ d, i = .rclf d a) ∨ (∃ d b, i = .incqry d a b ∧ b.toNat ≤ 2) → s.issues i = true →
    (s.slot s.cur).stop = none →
    let c := (s.g a.toNat).toNat
    let own := (s.slot s.cur).act.inctag.toNat / 64
    let allowed := c = own ∨ (s.ctx own).priv = true
    (2 ^ 12 ≤ c ∨ allowed ∧ (s.ctx c).phase = .free → Raises (exec i s) s .S 0x01 0 0)
    ∧ (c < 2 ^ 12 → ¬ allowed → Raises (exec i s) s .S 0x09 0 0))
  ∧ (∀ (s : State) (d a : BitVec 6), s.issues (.rclf d a) = true →
    let c := (s.g a.toNat).toNat
    let x := s.ctx c
    s.mayName c →
    (x.rclf = none → ∃ t, s.FenceStarted t c ∧ t.cur = s.cur ∧ exec (.rclf d a) s = .next (t.sleeping (.rclf c d.toNat x.inc.toNat)))
    ∧ ∀ f, x.rclf = some f →
      (f.inc = x.inc → exec (.rclf d a) s = .next (s.sleeping (.rclf c d.toNat f.inc.toNat)))
      ∧ (f.inc ≠ x.inc → exec (.rclf d a) s = .next ((s.modCtxWork c fun w => { w with fenceNext := true }).sleeping (.rclf c d.toNat 64))))
  ∧ (∀ (s : State) (d a b : BitVec 6), s.issues (.incqry d a b) = true →
    let c := (s.g a.toNat).toNat
    let x := s.ctx c
    let bit (p : Bool) : Nat := if p then 1 else 0
    let own := (s.slot s.cur).act.inctag.toNat / 64
    let k := s.ctx own
    let n := b.toNat
    (s.mayName c → n ≤ 2 → CompletesWith (exec (.incqry d a b) s) s d fun v =>
      (n = 0 → v.toNat = x.inc.toNat + x.outst.toNat * 2 ^ 8 + stateNumber x.phase * 2 ^ 24 + bit x.yieldreq * 2 ^ 32
        + bit x.rclf.isSome * 2 ^ 33 + x.rclfres.toNat * 2 ^ 34)
      ∧ (n = 1 → v.toNat = x.stale.toNat * 2 ^ 32 + x.orphan.toNat) ∧ (n = 2 → v.toNat = x.refused.toNat * 2 ^ 32 + x.swcost.toNat))
    ∧ (16 ≤ n → CompletesWith (exec (.incqry d a b) s) s d fun v =>
      (n = 16 → v = k.foff) ∧ (n = 17 → v.toNat = k.cw1.toNat * 2 ^ 32 + k.extcnt.toNat)
      ∧ (n = 18 → v.toNat = k.killFrame.toNat * 2 ^ 32 + k.kinc.toNat * 2 ^ 8 + k.kcause.toNat) ∧ (n = 19 → v = 0)
      ∧ (20 ≤ n → v.toNat = (Tab.get 0 s.hub.ctx.soft own).toNat / 2 ^ (64 * (n - 20)) % 2 ^ 64)))
  ∧ (∀ (s : State) (d : BitVec 6), s.issues (.yield d) = true →
    let c := (s.slot s.cur).act.inctag.toNat / 64
    let x := s.ctx c
    let n := if x.image.slice = 0 then 0 else max x.image.slice.toNat ((x.swcost.toNat + 16383) / 16384) - x.cw1.toNat
    Completes (exec (.yield d) s) .S ((s.modCtx c fun x => { x with yieldreq := true }).withResult d (BitVec.ofNat 64 n) 1))
  ∧ (∀ (s : State) (c : Nat), s.cur = c →
    let x := s.ctx c
    let at_ := x.cimg.toNat
    let i := s.imageIn at_
    let refused := s.modCtx c fun x => { x with refused := BitVec.ofNat 32 (min (2 ^ 32 - 1) (x.refused.toNat + 1)) }
    let bare := x.phase = .idle ∧ x.qmask = 0 ∧ (∀ p ∈ s.hub.barriers, p.2.phase ≠ .unbound → p.2.ctx.toNat ≠ c) ∧ x.outst = 0
      ∧ x.rclf = none ∧ (s.ctxWork c).broadcasting = 0
    (x.phase ≠ .free → exec .contextCreate s = .next s)
    ∧ (x.phase = .free → ¬ (s.hub.dev.negotiated = true ∧ s.imageLegal c) → exec .contextCreate s = .next refused)
    ∧ (x.phase = .free → s.hub.dev.negotiated = true → s.imageLegal c → ∃ u, exec .contextCreate s = .next u
        ∧ u.ctx c = { x with
            image := i, phase := .idle, foff := 0, cw1 := 0, extcnt := 0, killFrame := 0, kinc := 0, kcause := 0, qmask := 0, epoch := 0 }
        ∧ (∀ k, k ≠ c → u.ctx k = s.ctx k) ∧ u.slots = s.slots
        ∧ (∀ k, u.pslot k = if i.bfirst.toNat ≤ k ∧ k < i.bfirst.toNat + i.bcount.toNat then { PSlot.reset with layer := (s.pslot k).layer }
            else s.pslot k)
        ∧ (Tab.get [] u.hub.ctx.peers c) = (List.range i.npeer.toNat).map (fun n => peerOf (s.number (i.peertab.toNat + 16 * n) 16))
        ∧ (Tab.get 0 u.hub.ctx.soft c).toNat = s.number (at_ + 0xA0) 96
        ∧ s.sameMemBut u [(at_, 8), (at_ + 0x20, 32), (at_ + 0x80, 32), (at_ + 0x1000, 0x3000)]
        ∧ u.number at_ 8 = s.number at_ 8 / 2 ^ 18 * 2 ^ 18 + (s.ctxTag c).toNat
        ∧ ∀ a, at_ + 0x20 ≤ a ∧ a < at_ + 0x40 ∨ at_ + 0x80 ≤ a ∧ a < at_ + 0xA0 ∨ at_ + 0x1000 ≤ a ∧ a < at_ + 0x4000 → u.mem.read a = 0)
    ∧ (x.phase = .free → exec .contextDestroy s = .next s) ∧ (bare → exec .contextDestroy s = .next (s.modCtx c fun x => { x with phase := .free }))
    ∧ (x.phase ≠ .free → ¬ bare → exec .contextDestroy s = .next refused)
    ∧ (x.phase = .free → exec .rclfCommand s = .next refused ∧ exec .kill s = .next refused)
    ∧ (x.phase ≠ .free → x.rclf = none → ∃ u, exec .rclfCommand s = .next u ∧ s.FenceStarted u c)
    ∧ (∀ f, x.phase ≠ .free → x.rclf = some f → f.inc = x.inc → exec .rclfCommand s = .next s)
    ∧ ∀ f, x.phase ≠ .free → x.rclf = some f → f.inc ≠ x.inc →
        exec .rclfCommand s = .next (s.modCtxWork c fun w => { w with fenceNext := true }))
  ∧ (∀ (s : State) (c : Nat) (x : Ctx),
    let full := 64 ≤ (s.hub.ctx.regs.filter fun p => decide (p.2.phase = .resident ∨ p.2.phase = .loading)).length
      ∨ s.hub.dev.stage ∉ [4, 5, 7]
    let i := s.imageIn x.cimg.toNat
    let entry (n : Nat) : Nat := s.number (i.peertab.toNat + 16 * n) 16
    ((∀ p ∈ s.hub.ctx.regs, ¬ s.wantsPlace p.1 p.2) ∨ full → exec .contextLoadStart s = .next s)
    ∧ (s.loadsNext c x → (∀ p ∈ s.hub.ctx.regs, p.1 = c → p.2 = x) → ¬ full → (∀ n < i.npeer.toNat, s.peerLegal (entry n)) →
      ∃ u, exec .contextLoadStart s = .next u ∧ u.ctx c = { x with image := i, phase := .loading }
        ∧ (u.ctxWork c) = { s.ctxWork c with since := s.now } ∧ u.mem = s.mem ∧ u.slots = s.slots
        ∧ Tab.get [] u.hub.ctx.peers c = (List.range i.npeer.toNat).map (fun n => peerOf (entry n)) ∧ ∀ k, k ≠ c → u.ctx k = s.ctx k)
    ∧ (s.loadsNext c x → (∀ p ∈ s.hub.ctx.regs, p.1 = c → p.2 = x) → ¬ full → (s.ctxWork c).killAt ≠ s.now + 1 → ∀ n < i.npeer.toNat, ¬ s.peerLegal (entry n) →
      (∀ m < n, s.peerLegal (entry m)) → ∃ u r, exec .contextLoadStart s = .next u
        ∧ (x.outst.toNat < 63 → (u.ctxWork c).broadcasting = 1) ∧ (u.ctx c).kcause = 3 ∧ r ∈ u.hub.traps.table ∧ r.body.code = 0x01 ∧ r.body.who = .hub
        ∧ r.body.tag = some (s.ctxTag c) ∧ r.body.addr = i.peertab.toNat + 16 * n))
  ∧ (∀ (s : State) (c : Nat), s.cur = c →
    let x := s.ctx c
    let w := s.ctxWork c
    (x.phase ≠ .loading ∨ w.broadcasting ≠ 0 → exec .contextLoadDone s = .next s)
    ∧ (x.phase = .loading → w.broadcasting = 0 → (∀ v, ∀ d ∈ (s.winch v).queue, d.tag.toNat / 64 = c → d.stage ≠ .aborting) →
      exec .contextLoadDone s = .next ((s.modCtx c fun x => { x with
          phase := .resident, cw1 := 0, swcost := BitVec.ofNat 32 (min (2 ^ 32 - 1) (w.saveCost + (s.now - w.since))) }).modCtxWork c
        fun w => { w with loads := w.loads + 1, leaving := false, nodeDone := false, wasResident := true, extended := false }))
    ∧ (x.phase ≠ .resident ∨ w.leaving = false ∨ w.broadcasting ≠ 0 ∨ ¬ s.restsAt c → exec .contextSaveStart s = .next s)
    ∧ (x.phase = .resident → w.leaving = true → w.broadcasting = 0 → s.restsAt c → ∃ u, exec .contextSaveStart s = .next u
        ∧ u = { (s.modCtx c fun x => { x with phase := .saving }).modCtxWork c (fun w => { w with since := s.now }) with
          winches := u.winches }
        ∧ ∀ v, u.winch v = { s.winch v with queue := (s.winch v).queue.map fun d =>
            if d.tag.toNat / 64 = c ∧ d.stage = .running then { d with stage := .resumed } else d })
    ∧ (x.phase ≠ .saving ∨ w.broadcasting ≠ 0 → exec .contextSaveDone s = .next s)
    ∧ (x.phase = .saving → w.broadcasting = 0 → x.cimg.toNat + 16384 ≤ s.hbmEnd →
      let at_ := x.cimg.toNat
      let cost := s.now - w.since
      ∃ u, exec .contextSaveDone s = .next u
        ∧ u = { (s.modCtx c fun x => { x with
            phase := .idle, yieldreq := false, swcost := BitVec.ofNat 32 (min (2 ^ 32 - 1) (x.swcost.toNat - w.saveCost + cost)) }).modCtxWork c
              (fun w => { w with leaving := false, saveCost := cost }) with mem := u.mem }
        ∧ s.sameMemBut u [(at_ + 0x80, 24), (at_ + 0x1000, 0x3000)]
        ∧ u.number (at_ + 0x80) 8 = x.foff.toNat ∧ u.number (at_ + 0x88) 8 = x.cw1.toNat * 2 ^ 32 + x.extcnt.toNat
        ∧ u.number (at_ + 0x90) 8 = x.killFrame.toNat * 2 ^ 32 + x.kinc.toNat * 2 ^ 8 + x.kcause.toNat
        ∧ ∀ v < 24,
          let e := at_ + 0x1000 + 0x200 * v
          ((∀ d ∈ (s.winch v).queue, d.tag.toNat / 64 = c → d.stage = .queued) → ∀ j < 512, u.mem.read (e + j) = 0)
          ∧ ∀ before d after, (s.winch v).queue = before ++ d :: after → d.tag.toNat / 64 = c → d.stage ≠ .queued → d.cursor < 2 ^ 64 →
              (∀ k ∈ before, k.tag.toNat / 64 = c → k.stage = .queued) →
              u.number e 64 = d.block.toNat ∧ u.number (e + 64) 8 = d.gb.toNat ∧ u.number (e + 72) 8 = d.cursor
              ∧ u.number (e + 80) 8 = 1 + (if d.stage = .held then 2 else 0) + d.kind.major * 2 ^ 8 + d.pusher.word % 2 ^ 24 * 2 ^ 32
              ∧ (d.shape.gaddr < 2 ^ 64 → u.number (e + 128) 8 = d.shape.gaddr) ∧ (d.shape.run < 2 ^ 64 → u.number (e + 144) 8 = d.shape.run)
              ∧ (∀ j < 6, d.shape.ext.getD j 0 < 2 ^ 64 → u.number (e + 152 + 8 * j) 8 = d.shape.ext.getD j 0)
              ∧ ∀ j, 88 ≤ j ∧ j < 128 ∨ 312 ≤ j ∧ j < 512 → u.mem.read (e + j) = 0))
  ∧ (∀ (s : State) (c : Nat), s.cur = c → (s.ctx c).phase ≠ .free →
    let x := s.ctx c
    let mine (t : BitVec 18) : Prop := t.toNat / 64 = c
    let w := s.ctxWork c
    (w.killAt = s.now + 1 → exec .kill s = .next s)
    ∧ (w.killAt ≠ s.now + 1 → x.phase = .held → x.cimg.toNat + 16384 ≤ s.hbmEnd → ∃ u, exec .kill s = .next u
      ∧ u = { (s.modCtx c fun x => { x with
          killFrame := BitVec.ofNat 32 (s.now / 2 ^ 14), kinc := x.inc + BitVec.ofNat 6 w.broadcasting, kcause := 1 }).modCtxWork c
            (fun w => { w with killAt := s.now + 1, leaving := false }) with mem := u.mem }
      ∧ s.sameMemBut u [(x.cimg.toNat + 0x80, 24)])
    ∧ (w.killAt ≠ s.now + 1 → x.phase ≠ .held → ∃ u, exec .kill s = .next u
      ∧ (u.ctx c).kcause = 1 ∧ (u.ctx c).killFrame = BitVec.ofNat 32 (s.now / 2 ^ 14)
      ∧ (u.ctx c).kinc = x.inc + BitVec.ofNat 6 w.broadcasting ∧ (u.ctx c).inc = x.inc ∧ (u.ctx c).foff = x.foff
      ∧ (u.ctxWork c).leaving = false ∧ (u.ctxWork c).killAt = s.now + 1
      ∧ (∀ m, (s.sem m).ctx.toNat = c → (u.sem m).owed = false)
      ∧ (x.outst.toNat + w.broadcasting < 63 → (u.ctx c).phase = x.phase ∧ (u.ctxWork c).broadcasting = w.broadcasting + 1)
      ∧ (63 ≤ x.outst.toNat + w.broadcasting → (u.ctx c).phase = .held ∧ (u.ctx c).rclf.isSome = true
          ∧ (u.ctxWork c).broadcasting = w.broadcasting)
      ∧ (∀ n, (∃ sl, (n, sl) ∈ s.slots ∧ sl.busy = true ∧ mine sl.act.inctag) → (u.slot n).busy = false ∧ (u.slot n).act.bands = 0)
      ∧ (∀ n, (∀ sl, (n, sl) ∈ s.slots → sl.busy = true → ¬ mine sl.act.inctag) →
          ((∀ reg, (s.slot n).seq.sleep ≠ some (.rclf c reg 64)) →
            u.slot n = { s.slot n with mailbox := (s.slot n).mailbox.filter fun m => decide (m.tag.toNat / 64 ≠ c) }))
      ∧ (∀ n, ∀ m ∈ (u.slot n).mailbox, ¬ mine m.tag) ∧ (∀ n, ∀ o ∈ (u.core n).sendBuf, ¬ mine o.msg.tag)
      ∧ (∀ n, ∀ d ∈ (u.core n).commq, ¬ mine d.tag)
      ∧ (∀ n, (u.stream n).queue = (s.stream n).queue.filter fun d => decide (d.tag.toNat / 64 ≠ c))
      ∧ (∀ k y, u.graph k = some y → ¬ mine y.tag)
      ∧ u.hub.spool.kernels = s.hub.spool.kernels.filter (fun p => decide (p.2.tag.toNat / 64 ≠ c))
      ∧ (∀ q, (s.queue q).phase = .active → (s.queue q).ctx.toNat = c → (u.queue q).phase = .halted)
      ∧ (∀ q, (∀ y, (q, y) ∈ s.hub.queues → y.phase = .active → y.ctx.toNat ≠ c) →
          u.queue q = { s.queue q with sleepers := (u.queue q).sleepers })
      ∧ (∀ q n sl, (n, sl) ∈ s.slots → sl.busy = true → mine sl.act.inctag → n ∉ (u.queue q).sleepers)
      ∧ (∀ b, (s.barrier b).phase = .armed → (s.barrier b).ctx.toNat = c → (u.barrier b).phase = .broken ∧ (u.barrier b).cause = 1)
      ∧ (∀ v < 24, (u.winch v).queue = (s.winch v).queue.filter fun d => decide (d.tag.toNat / 64 ≠ c))
      ∧ (∀ f ∈ u.hub.traps.table, ∀ t, f.body.tag = some t → mine t → f.resolved = true ∧ f.seq = none)
      ∧ (x.cimg.toNat + 16384 ≤ s.hbmEnd → u.number (x.cimg.toNat + 0x90) 8
          = (u.ctx c).killFrame.toNat * 2 ^ 32 + (u.ctx c).kinc.toNat * 2 ^ 8 + 1)
      ∧ ∀ k, k ≠ c → (u.ctx k).phase = (s.ctx k).phase ∧ (u.ctx k).inc = (s.ctx k).inc ∧ (u.ctx k).image = (s.ctx k).image))
  ∧ (∀ (s : State) (c : Nat), s.cur = c →
    let x := s.ctx c
    let w := s.ctxWork c
    let mine (t : BitVec 18) : Prop := t.toNat / 64 = c
    (w.broadcasting = 0 → exec .incarnationInstalled s = .next s)
    ∧ (0 < w.broadcasting → x.cimg.toNat + 16384 ≤ s.hbmEnd → ∃ u, exec .incarnationInstalled s = .next u
      ∧ u.ctx c = { x with
          inc := x.inc + 1, outst := x.outst + 1, phase := if x.phase = .held then .held else .idle, stale := (u.ctx c).stale }
      ∧ (u.ctxWork c).broadcasting = w.broadcasting - 1 ∧ u.slots = s.slots ∧ s.sameMemBut u [(x.cimg.toNat, 8)]
      ∧ u.number x.cimg.toNat 8 = s.number x.cimg.toNat 8 / 2 ^ 18 * 2 ^ 18 + (64 * c + (x.inc + 1).toNat) % 2 ^ 18
      ∧ (∀ k, k ≠ c → u.ctx k = s.ctx k)
      ∧ (∀ n, (∀ t ∈ (u.core n).tlb, ¬ mine t.tag) ∧ ∀ l ∈ (u.core n).icache, ¬ mine l.tag)
      ∧ (∀ d, (∀ t ∈ (u.die d).tlb, ¬ mine t.tag) ∧ (∀ l ∈ (u.die d).lines, ¬ mine l.tag) ∧ (u.die d).accepted = (s.die d).accepted)
      ∧ ∀ p ∈ u.hub.sent, p.ctx = c → p.kind = .fenceReq ∨ p.kind = .fenceConfirm))
  ∧ ∀ (s : State) (c : Nat), s.cur = c →
    let x := s.ctx c
    let w := s.ctxWork c
    (x.rclf = none → exec .rclfComplete s = .next s)
    ∧ ∀ f, x.rclf = some f →
      let lost := f.lostPeer = true ∨ ∃ n ∈ f.waiting, s.cutOff c n
      let whole := f.waiting = [] ∧ s.fenceSeen c f.inc.toNat
      (¬ lost → ¬ whole → exec .rclfComplete s = .next s)
      ∧ (lost ∨ whole → x.cimg.toNat + 16384 ≤ s.hbmEnd → ∃ (u : State) (res : Nat), exec .rclfComplete s = .next u
        ∧ (lost → res = 2) ∧ (¬ lost → res = 1)
        ∧ let leaves := ¬ lost ∧ x.phase = .held ∧ f.inc = x.inc ∧ w.broadcasting = 0
          (u.ctx c).rclfres = BitVec.ofNat 2 res ∧ (w.fenceNext = false → (u.ctx c).rclf = none)
          ∧ (w.fenceNext = true → (u.ctx c).rclf.isSome = true) ∧ (u.ctxWork c).fenceNext = false
          ∧ (lost → (u.ctx c).outst = x.outst ∧ (u.ctx c).phase = x.phase ∧ (u.ctx c).inc = x.inc)
          ∧ (leaves → (u.ctx c).outst = 0 ∧ (u.ctx c).phase = .idle ∧ (u.ctx c).inc = x.inc + 1)
          ∧ (¬ lost → ¬ leaves → (u.ctx c).outst = BitVec.ofNat 6 (x.outst.toNat - f.base) ∧ (u.ctx c).phase = x.phase ∧ (u.ctx c).inc = x.inc)
          ∧ ∀ n < 320, ∀ reg, (s.slot n).seq.sleep = some (.rclf c reg f.inc.toNat) →
              ((s.slot n).stop ≠ none ∨ (s.slot n).mat.late = true →
                (u.slot n).seq.sleep = some (.fenced reg (res + f.inc.toNat * 2 ^ 8)))
              ∧ ((s.slot n).stop = none → (s.slot n).mat.late = false → (u.slot n).seq.sleep = none ∧ (s.slot n).seq.pc.pos < (u.slot n).seq.pc.pos
              ∧ (u.slot n).regs.getG reg = if reg = 0 then 0 else BitVec.ofNat 64 (res + f.inc.toNat * 2 ^ 8)))

/-- FAULT_TABLE_RECORD_WRITE does nothing while no record waits or the trap ring is off or full; else the first waiting record is written
as the 64 bytes of R408 at its ring position, TRTAIL advances, INTR raises the vector, and the record stays in the table under its SEQ
while it is pending, or leaves it; the command of a winch whose record is final leaves its winch. A write of FRES that names no pending
record does nothing. RESUME of a resumable record takes the record and its walk out of the table, and every slot and winch command that it
stops goes on: faulted accesses are walked again, stopped stream commands go on, and after a BRK the slot goes on past the word. ABORT,
and RESUME of a final record, make the stop of the record's own slot final: its waiting matrix words, stopped commands and faulted
accesses are gone, its node fails, and the Armed barriers of which it is a member break with cause 2; with KILLF its context is killed
with cause 3; its own winch command ends, or ends at the next switch-in; the slots that joined the fault go on. A write of a ring's
control changes EN alone while the ring is on, is ignored while LOG2N or the base is out of its limits, and else sets the fields, KILLF
for the trap ring alone. A trigger that is met writes a TRIG entry, with the stamp in full mode, and starts the count of POST; at its end
the buffer freezes with a TRACEFREEZE event. DUMP writes the 65,536 bytes of the buffer to TBADDR and changes nothing else, and REARM
empties the buffer. (The engine, the word and the trace mode of a TRIG entry are those of the slot's sequencer by the model's choice, log
18.) (Readings of the model, where it rests on one: logs 24, 25 and 76.) -/
def Obligations.TrapsAndTrace : Prop :=
  (∀ s : State,
    let t := s.hub.traps
    (∀ f ∈ t.table, f.seq.isSome = true → ¬ f.settles) →
    ((∀ f ∈ t.table.take 256, f.seq.isSome = true) → exec .faultTableRecordWrite s = .next s)
    ∧ (¬ t.trap.takes → exec .faultTableRecordWrite s = .next s)
    ∧ ∀ before f after, t.table = before ++ f :: after → before.length < 256 → (∀ g ∈ before, g.seq.isSome = true ∧ g.id ≠ f.id) → f.seq = none →
        t.trap.takes → t.trap.nextAt + 64 ≤ s.hbmEnd →
        let pend := f.body.pending && !f.resolved
        ∃ u, exec .faultTableRecordWrite s = .next u
        ∧ (¬ f.settles → s.RecordPut u true f.body pend ∧ u.winches = s.winches
          ∧ u.hub.traps.table = before ++ (if pend then [{ f with seq := some (t.trap.tail.toNat % 2 ^ 16) }] else []) ++ after)
        ∧ (f.settles → (∀ n e, f.body.who ≠ .slot n e) → (∀ g ∈ u.hub.traps.table, g.id ≠ f.id)
          ∧ u.hub.traps.walks = t.walks.filter (fun k => f.walk != some k) ∧ ∀ w num, f.winchCmd = some (w, num) → s.CommandCut u f w num))
  ∧ (∀ (s : State) (seq : BitVec 16), (∀ f ∈ s.hub.traps.table, ¬ f.awaits seq) →
      exec (.fresResume seq) s = .next s ∧ exec (.fresAbort seq) s = .next s)
  ∧ (∀ (s : State) (seq : BitVec 16) (before after : List FaultEntry) (f : FaultEntry), s.hub.traps.table = before ++ f :: after →
      (∀ g ∈ before, ¬ g.awaits seq) → f.awaits seq → (s.slots.map Prod.fst).Pairwise (· < ·) →
      (f.resumable → ∃ u, exec (.fresResume seq) s = .next u ∧ s.WentOn u f.id (fun _ => False) ∧ u.mem = s.mem
        ∧ u.hub.traps.table = (s.hub.traps.table.filter fun g => g.id != f.id)
        ∧ u.hub.traps.walks = s.hub.traps.walks.filter fun k => f.walk != some k)
      ∧ ∃ u, exec (.fresAbort seq) s = .next u ∧ (¬ f.resumable → exec (.fresResume seq) s = .next u)
        ∧ (∀ g ∈ u.hub.traps.table, g.id ≠ f.id)
        ∧ (∀ n e t, f.body.who = .slot n e → f.winchCmd = none → (s.slot n).stop = some t → t.id = f.id → t.final = false →
          let a := (s.slot n).act
          (s.hub.traps.trap.killf = false → (s.slot n).StoppedForGood (u.slot n) t ∧ (∀ q, n ∉ (u.queue q).sleepers)
            ∧ (∀ b, (∃ x, (b, x) ∈ s.hub.barriers ∧ n ∈ x.members) → (s.barrier b).phase = .armed →
                (u.barrier b).phase = .broken ∧ (u.barrier b).cause = 2)
            ∧ (∀ y, s.nodeAt a.graph a.node = some y → u.nodeAt a.graph a.node = some { y with
                fail := some (y.fail.getD t.code), phase := if y.phase = .dispatching then .draining else y.phase })
            ∧ ((∀ p ∈ s.hub.barriers, n ∉ p.2.members) → s.WentOn u f.id fun m => m = n))
          ∧ (s.hub.traps.trap.killf = true → (s.ctx (a.inctag.toNat / 64)).phase ≠ .free →
              (s.ctxWork (a.inctag.toNat / 64)).killAt ≠ s.now + 1 → (u.ctx (a.inctag.toNat / 64)).kcause = 3))
        ∧ ∀ w num, f.winchCmd = some (w, num) → (∀ n e, f.body.who ≠ .slot n e) → s.CommandCut u f w num)
  ∧ (∀ (s : State) (event : Bool) (v : BitVec 64),
      let r := if event then s.hub.traps.event else s.hub.traps.trap
      let part (lo n : Nat) : Nat := v.toNat / 2 ^ lo % 2 ^ n
      let legal := 6 ≤ part 16 5 ∧ part 16 5 ≤ 16 ∧ (v.getLsbD 0 = true → 4096 ∣ r.base.toNat ∧ 64 * 2 ^ part 16 5 ∣ r.base.toNat)
      (r.en = true → exec (.trapRingControlWrite event v) s = .next (s.withRing event { r with en := v.getLsbD 0 }))
      ∧ (r.en = false → ¬ legal → exec (.trapRingControlWrite event v) s = .next s)
      ∧ (r.en = false → legal → exec (.trapRingControlWrite event v) s = .next (s.withRing event { r with
          vector := BitVec.ofNat 11 (part 32 11), log2n := BitVec.ofNat 5 (part 16 5), killf := !event && v.getLsbD 2, intr := v.getLsbD 1
          en := v.getLsbD 0 })))
  ∧ ∀ (s : State) (core : Nat), s.cur = core →
    let t := (s.core core).trace
    let here (u : State) : Trace := (u.core core).trace
    (∀ side < 2, let met := t.hit = some side ∧ t.frozen = false ∧ t.post = none
      let c := (s.slot (2 * core + side)).seq.pc
      let n := if c.view.tracemode = 1 then 2 else 1
      (¬ met → exec (.traceTrigger side) s = .next s)
      ∧ (met → ∃ u, exec (.traceTrigger side) s = .next u ∧ u = s.modCore core (fun k => { k with trace := here u })
        ∧ Tab.get 0 (here u).words t.ptr = entryWord 12 side 0 c.word t.tkind.toNat
        ∧ (c.view.tracemode = 1 → Tab.get 0 (here u).words ((t.ptr + 1) % 8192) = s.stamp)
        ∧ (∀ i, i ≠ t.ptr → (c.view.tracemode = 1 → i ≠ (t.ptr + 1) % 8192) → Tab.get 0 (here u).words i = Tab.get 0 t.words i)
        ∧ here u = { t with
            words := (here u).words, ptr := (t.ptr + n) % 8192, hit := none
            post := some ⟨2 * core + side, t.tkind.toNat, (s.slot (2 * core + side)).act.inctag, t.postCfg.toNat⟩ }))
    ∧ ((∀ r, t.post = some r → t.frozen = true ∨ r.left ≠ 0) → exec .tracefreeze s = .next s)
    ∧ (∀ r, t.post = some r → r.left = 0 → t.frozen = false →
      ∃ u, exec .tracefreeze s = .next u
      ∧ (s.modCore core fun k => { k with trace := { t with frozen := true, post := none } }).EventMade u
          { code := 0x8A, who := .slot r.slot .S, tag := some r.tag, warn := false, pending := false, status := r.kind + core % 256 * 2 ^ 8
            addr := 0, cursor := t.ptr, stamp := s.now, mode := 0, widxS := 2 ^ 24 - 1, widxV := 2 ^ 24 - 1, widxM := 2 ^ 24 - 1
            widxA := 2 ^ 24 - 1 })
    ∧ (t.tbaddr.toNat + 65536 ≤ s.hbmEnd → ∃ u, exec .traceDump s = .next u ∧ u = { s with mem := u.mem }
      ∧ ∀ a, u.mem.read a
          = overlaid s.mem.read t.tbaddr.toNat ((List.range 8192).flatMap fun i => bytesOf 8 (Tab.get 0 t.words i).toNat) a)
    ∧ exec .traceRearm s = .next (s.modCore core fun k => { k with trace := { t with
        words := [], ptr := 0, frozen := false, hit := none, post := none } })

/-- A packet at a link that carries nothing does nothing. One whose authentication fails, or that comes plain from a peer with encryption,
counts in UNCORR; one with a reserved field or kind, of a job that no context has or from outside the peer table counts in NOJOB; one of a
later incarnation is left to its sender's retry; one of an older incarnation, or of a Held context unless a fence's, counts in STALE. A
data packet gives its whole elements to the one command of its tag and number that awaits them, which then goes on as
TETHER_COMMAND_COMPLETE does (while a check of a peer is awaited, no further); with no such command, or outside its elements, it does
nothing; one that holds a check is a PEER_CHECK_ARRIVAL. A release with a semaphore operation waits while data of its sender, stream and
class are not yet written; then it adds to or sets the semaphore of the context, with the mirror's four bytes, or counts in SEMREF of the
stream named; any other release does nothing. A fence request is confirmed once no request of the job with another incarnation is left,
and at once without a context of the job. A confirmation takes its peer from those that the fence waits for. A packet's retries end after
1,024 frames or when no port of its peer carries traffic: the packet goes, and a running command ends by LINK whose status names a port of
the peer, any other unit writes LINK, and a fence loses its peer as well. (Where a packet holds the offset, tag, number and the semaphore
operation is the model's choice, log 9.) (Readings of the model, where it rests on one: logs 66 and 70.) -/
def Obligations.Packets : Prop :=
  (∀ (s : State) (p : Arrival) (kind : Nat) (i : Instr), (kind, i) ∈ packetEvent p →
    let l := 9 + p.port
    let job := partOf p 96 32
    let peer := partOf p 64 8
    let sound := p.port < 8 ∧ s.carries l ∧ (p.encrypted = true → p.authentic = true)
    let plain := sound ∧ partOf p 84 6 = 0 ∧ partOf p 72 4 = kind
    (¬ (p.port < 8 ∧ s.carries l) → exec i s = .next s)
    ∧ (p.port < 8 → s.carries l → p.encrypted = true → p.authentic = false → exec i s = .next (s.uncorrAt p.port))
    ∧ (sound → partOf p 84 6 ≠ 0 ∨ 6 ≤ partOf p 72 4 → exec i s = .next (s.noJobAt p.port))
    ∧ (plain → kind ≠ 2 → (∀ x ∈ s.hub.ctx.regs, ¬ x.2.ofJob job) → exec i s = .next (s.noJobAt p.port))
    ∧ ∀ before c x after, plain → s.hub.ctx.regs = before ++ (c, x) :: after → x.ofJob job → (∀ y ∈ before, ¬ y.2.ofJob job) →
        let ahead := (partOf p 90 6 + 64 - (s.ctx c).inc.toNat) % 64
        ((Tab.get [] s.hub.ctx.peers c)[peer]? = none → exec i s = .next (s.noJobAt p.port))
        ∧ ∀ e, (Tab.get [] s.hub.ctx.peers c)[peer]? = some e →
            (e.enc = true → p.encrypted = false → exec i s = .next (s.uncorrAt p.port))
            ∧ ((e.enc = true → p.encrypted = true) → 1 ≤ ahead → ahead ≤ 31 → exec i s = .next s)
            ∧ ((e.enc = true → p.encrypted = true) → 32 ≤ ahead ∨ (ahead = 0 ∧ (s.ctx c).phase = .held ∧ kind ≠ 2 ∧ kind ≠ 3) → (s.ctx c).phase ≠ .free →
                exec i s = .next (s.staleAt c)))
  ∧ (∀ (s : State) (p : Arrival) (c : Nat), s.arrives p 0 c → c < 4096 →
    let flags := numberIn p 6 2
    let kind := if flags % 2 = 1 then 5 else 1
    (flags / 2 % 2 = 1 → exec (.packetData p) s = exec (checkEvent p) s)
    ∧ (flags / 2 % 2 = 0 → (∀ n lane r, ¬ s.awaitsFrom p kind c n lane r) → exec (.packetData p) s = .next s)
    ∧ ∀ n lane r, flags / 2 % 2 = 0 → s.awaitsFrom p kind c n lane r → (∀ m k q, s.awaitsFrom p kind c m k q → m = n ∧ k = lane) →
      0 < r.cmd.width →
        let w := r.cmd.width
        let off := partOf p 0 64
        let len := (bodyOf p).length
        let fits := w ∣ off ∧ w ∣ len ∧ off + len ≤ r.cmd.count * w
        (¬ fits → exec (.packetData p) s = .next s)
        ∧ (fits → ∃ v, r.Took v p ∧ exec (.packetData p) s = .next ((s.onLane n lane v).tetherAdvance n lane)
          ∧ (r.source ≠ none → r.written = false → 0 < r.cmd.kind → r.cmd.kind < 8 → (∃ k ∈ r.cmd.awaits, Tab.find r.checks k = none) →
              exec (.packetData p) s = .next (s.onLane n lane v))))
  ∧ (∀ (s : State) (p : Arrival) (c : Nat), s.arrives p 1 c → c < 4096 →
    let m := partOf p 0 12
    let x := BitVec.ofNat 32 (partOf p 32 32)
    let own := (s.sem m).en = true ∧ (s.sem m).ctx.toNat = c
    let v := if partOf p 12 1 = 1 then x else (s.sem m).value + x
    (partOf p 13 1 = 0 ∨ s.holdsData p c → exec (.packetRelease p) s = .next s)
    ∧ (partOf p 13 1 = 1 → ¬ s.holdsData p c →
      (¬ own → exec (.packetRelease p) s = .next (s.modStream (partOf p 76 4) fun x =>
        { x with semref := BitVec.ofNat 32 (min (2 ^ 32 - 1) (x.semref.toNat + 1)) }))
      ∧ (own → (s.sem m).mirror = 0 → exec (.packetRelease p) s = .next (s.modSem m fun x => { x with value := v, owed := false }))
      ∧ (own → (s.sem m).mirror ≠ 0 → ∀ pa, s.hubPage (s.ctxTag c) .write (s.sem m).mirror.toNat 4 pa →
          ∃ u, exec (.packetRelease p) s = .next u ∧ u.sem m = { s.sem m with value := v, owed := false } ∧ (∀ k, k ≠ m → u.sem k = s.sem k)
          ∧ ∀ a, u.mem.read a = overlaid s.mem.read pa (bytesOf 4 v.toNat) a)
      ∧ (own → ∃ u, exec (.packetRelease p) s = .next u ∧ (u.sem m).value = v)))
  ∧ (∀ (s : State) (p : Arrival),
    let arg := partOf p 0 64
    let peer := partOf p 64 8
    (∀ c, s.arrives p 2 c → c < 4096 →
      (s.fenceSeen c (arg % 64) → exec (.fenceRequestPacket p) s
          = .next (s.confirms c peer (s.ctx c).image.job (s.ctx c).inc arg))
      ∧ (¬ s.fenceSeen c (arg % 64) → exec (.fenceRequestPacket p) s = .next s))
    ∧ (p.port < 8 → s.carries (9 + p.port) → (p.encrypted = true → p.authentic = true) → partOf p 84 6 = 0 → partOf p 72 4 = 2 →
        (∀ x ∈ s.hub.ctx.regs, ¬ x.2.ofJob (partOf p 96 32)) →
        exec (.fenceRequestPacket p) s
          = .next ((s.noJobAt p.port).confirms 4096 peer (BitVec.ofNat 32 (partOf p 96 32)) (BitVec.ofNat 6 arg) arg))
    ∧ ∀ c, s.arrives p 3 c →
      ((s.ctx c).rclf = none → exec (.fenceConfirmPacket p) s = .next s)
      ∧ ∀ f, (s.ctx c).rclf = some f →
        (f.inc.toNat ≠ arg → exec (.fenceConfirmPacket p) s = .next s)
        ∧ (f.inc.toNat = arg → exec (.fenceConfirmPacket p) s = .next ((s.modCtx c fun x =>
            { x with rclf := some { f with waiting := f.waiting.filter (· ≠ peer) } }).modHub fun h => { h with
              sent := h.sent.filter fun q => decide ¬ (q.ctx = c ∧ q.kind = .fenceReq ∧ q.peer = peer) })))
  ∧ ∀ (s : State) (k : Nat),
    (s.hub.sent[k]? = none → exec (.packetRetryExpiry k) s = .next s)
    ∧ ∀ p, s.hub.sent[k]? = some p →
      let due := 1024 ≤ p.frames ∨ s.cutOff p.ctx p.peer
      let names (st : Nat) : Prop := ∀ e, (Tab.get [] s.hub.ctx.peers p.ctx)[p.peer]? = some e → e.portmask ≠ 0 →
        ∃ i < 8, e.portmask.getLsbD i = true ∧ st = 9 + i + 3 * 2 ^ 8 + p.peer * 2 ^ 16
      let mine (r : TRun) : Prop := r.cmd.num = p.cmd
      (¬ due → exec (.packetRetryExpiry k) s = .next s)
      ∧ (due → ∃ u, exec (.packetRetryExpiry k) s = .next u
        ∧ (∀ q ∈ u.hub.sent, q ∈ s.hub.sent ∧ ¬ (q.ctx = p.ctx ∧ q.peer = p.peer ∧ q.stream = p.stream
            ∧ (q.kind = p.kind ∨ q.kind = .data ∧ p.kind = .release ∨ q.kind = .release ∧ p.kind = .data)))
        ∧ (p.kind = .fenceReq → (u.ctx p.ctx).rclf = (s.ctx p.ctx).rclf.map (fun f => { f with lostPeer := true })
            ∧ ∃ st, names st ∧ s.HubFaulted u .hub (64 * p.ctx + p.inc.toNat) 0x0F st)
        ∧ (p.kind = .fenceConfirm → 4096 ≤ p.ctx → u.hub.traps = s.hub.traps ∧ u.hub.ctx = s.hub.ctx)
        ∧ (p.kind = .barrierDone ∨ p.kind = .barrierBreak ∨ (p.kind = .fenceConfirm ∧ p.ctx < 4096) →
            u.hub.ctx = s.hub.ctx ∧ ∃ st, names st ∧ s.HubFaulted u .hub (64 * p.ctx + p.inc.toNat) 0x0F st)
        ∧ (p.kind = .data ∨ p.kind = .release →
          (∀ r lane, s.laneRun p.stream lane = some r → mine r → (∀ q, s.laneRun p.stream (!lane) = some q → ¬ mine q) → p.stream < 16 →
            ∃ st, names st ∧ s.CommandFaults u p.stream lane r.cmd 0x0F st 0)
          ∧ ((∀ lane r, s.laneRun p.stream lane = some r → ¬ mine r) →
            u.hub.ctx = s.hub.ctx ∧ ∃ st, names st ∧ s.HubFaulted u (.tether p.stream) (64 * p.ctx + p.inc.toNat) 0x0F st)))

/-- A link in Training that ends it with its full width goes Up, with half or more Degraded, with a LINKUP event; a first and a second
failed attempt count, and the third makes it Failed with a LINKDOWN event. DISABLE holds a link Down, with the event, and its end sends a
Down link into Training. A correctable error counts in CORR; an uncorrectable error, or a RETRAIN written, sends an Up or Degraded link
into Training and counts in RETRAIN, in the link's lifetime counter and, for the error, in UNCORR; a RETRAIN sends a Failed link that is
not disabled into Training. A link that goes down or fails loses each compute die that no route then joins to the hub: each context on it
writes LINK with the link and cause 1 and is killed with cause fatal trap. The delay that a port measures is its PDELAY. A host request
does nothing while link 8 carries nothing; through a disabled window, or not from the root port to one without PEER, it is answered with
Unsupported Request; else a write stores its bytes and a read answers with the bytes at the window's physical address. WTIME takes a write
while the counter is Stopped, which enters Free; a synchronisation of the port while EN locks the counter, steps it forward by more than 1
ms and else sets a rate correction of at most 10^5 parts in 10^9; the loss of synchronisation enters Holdover. The time never decreases.
(That a link in Training still joins its dies, and that LANES reads 0 in Training, are the model's readings, log 71; the rate is a free
value, log 2.) -/
def Obligations.LinksAndClock : Prop :=
  (∀ (s : State) (l : Nat), s.cur = l → l < 17 →
    let x := s.link l
    let to_ (y : Link) : State := s.modLink l fun _ => y
    (∀ lanes,
      let fits := x.phase = .training ∧ laneCount l / 2 ≤ lanes ∧ lanes ≤ laneCount l
      (¬ fits → exec (.linkTrainingDone lanes) s = .next s)
      ∧ (fits → ∃ u, exec (.linkTrainingDone lanes) s = .next u
        ∧ (to_ { x with phase := if lanes = laneCount l then .up else .degraded, lanes := BitVec.ofNat 8 lanes, attempts := 0 }).EventMade u
            (s.linkRecord 0x88 l lanes)))
    ∧ (x.phase ≠ .training → exec .linkTrainingFailed s = .next s)
    ∧ (x.phase = .training → x.attempts < 2 → exec .linkTrainingFailed s = .next (to_ { x with attempts := x.attempts + 1 }))
    ∧ (x.phase = .training → 2 ≤ x.attempts → l ≠ 0 ∨ s.hub.dev.stage = 0 ∨ 3 < s.hub.dev.stage →
        ∃ u, exec .linkTrainingFailed s = .next u ∧ (to_ { x with phase := .failed, attempts := 0, lanes := 0 }).WentDown u l)
    ∧ (x.phase = .training → 2 ≤ x.attempts → l = 0 → s.hub.dev.stage ≠ 0 → s.hub.dev.stage ≤ 3 →
        ∃ u, exec .linkTrainingFailed s = .next u ∧ (u.link 0).phase = .failed ∧ u.hub.dev.stage = 15 ∧ u.hub.dev.keelerr = 5)
    ∧ (∃ u, exec (.linkDisableWrite true) s = .next u ∧ (to_ { x with disable := true, phase := .down, lanes := 0, attempts := 0 }).WentDown u l)
    ∧ exec (.linkDisableWrite false) s
        = .next (to_ { x with disable := false, phase := if x.phase = .down then .training else x.phase })
    ∧ (let retrained (n : BitVec 32) : State :=
        (to_ { x with phase := .training, lanes := 0, attempts := 0, retrain := upTo32 x.retrain, uncorr := n }).lifeUp (32 + l)
      (s.carries l → exec .linkCorrectableError s = .next (to_ { x with corr := upTo32 x.corr })
        ∧ exec .linkUncorrectableError s = .next (retrained (upTo32 x.uncorr)) ∧ exec .linkRetrain s = .next (retrained x.uncorr))
      ∧ (¬ s.carries l → exec .linkCorrectableError s = .next s ∧ exec .linkUncorrectableError s = .next s
        ∧ (x.phase = .failed → x.disable = false → exec .linkRetrain s = .next (to_ { x with phase := .training, attempts := 0 }))
        ∧ (x.phase ≠ .failed ∨ x.disable = true → exec .linkRetrain s = .next s))))
  ∧ (∀ (s : State) (delay : BitVec 32), s.cur < 8 →
    (s.carries (9 + s.cur) → exec (.peerDelayExchange delay) s = .next (s.modLink (9 + s.cur) fun x => { x with pdelay := delay }))
    ∧ (¬ s.carries (9 + s.cur) → exec (.peerDelayExchange delay) s = .next s))
  ∧ (∀ (s : State) (r : HostReq),
    let w := Tab.get Window.reset s.hub.ep.windows (r.off / 2 ^ 30)
    let pa := w.phys.toNat * 2 ^ 30 + r.off % 2 ^ 30
    let answered (a : Option (List Byte)) : State := s.modHub fun h => { h with ep := { h.ep with answer := a } }
    let admits := r.off < 2 ^ 36 ∧ w.en = true ∧ (w.peer = true ∨ r.root = true)
    (¬ s.carries 8 → exec (.hostRequest r) s = .next s)
    ∧ (s.carries 8 → ¬ admits → exec (.hostRequest r) s = .next (answered none))
    ∧ (s.carries 8 → admits → pa < s.hbmEnd →
        (r.data = none → exec (.hostRequest r) s = .next (answered (some (s.bytesAt pa r.len))))
        ∧ ∀ bs, r.data = some bs → ∃ u, exec (.hostRequest r) s = .next u ∧ u = { s with mem := u.mem }
            ∧ ∀ a, u.mem.read a = overlaid s.mem.read pa bs a))
  ∧ ∀ s : State,
    let w := s.hub.wall
    let to_ (v : Wall) : State := s.modHub fun h => { h with wall := v }
    let now : BitVec 64 := if w.phase = .stopped then 0 else w.time
    (∀ v, (w.phase = .stopped → exec (.wtimeWrite v) s = .next (to_ { w with phase := .free, time := v, frac := 0 }))
      ∧ (w.phase ≠ .stopped → exec (.wtimeWrite v) s = .next s))
    ∧ (w.phase = .locked → exec .ptpSyncLoss s = .next (to_ { w with phase := .holdover }))
    ∧ (w.phase ≠ .locked → exec .ptpSyncLoss s = .next s)
    ∧ ∀ time, let hears := w.en = true ∧ w.port.toNat = s.cur ∧ s.carries (9 + s.cur)
      (¬ hears → exec (.ptpSync time) s = .next s)
      ∧ (hears → now.toNat + 1000000 < time.toNat →
          exec (.ptpSync time) s = .next (to_ { w with phase := .locked, time := time, adj := 0, frac := 0 }))
      ∧ (hears → time.toNat ≤ now.toNat + 1000000 → ∃ adj : BitVec 32,
          exec (.ptpSync time) s = .next { to_ { w with phase := .locked, time := now, adj := adj } with free := s.free + 1 }
          ∧ -100000 ≤ adj.toInt ∧ adj.toInt ≤ 100000 ∧ (now ≤ time → 0 ≤ adj.toInt) ∧ (time < now → adj.toInt ≤ 0))

/-- FRAME_BOUNDARY does nothing until the stamp counter has passed a frame that has not been counted. It counts the watchdog of each queue
as R310 says, and marks each queue that reaches its limit as expired, whose WATCHDOG comes among the kills of the cycle. It adds 1 to CW1
of every resident context and to FOFF of a context that holds a Waiting timed node of a tick that the ended frame had reached; a timed
node whose tick the new frame equals is due at this cycle. With 64 contexts resident and a runnable Idle context waiting, the first of
those that may yield, by YIELDREQ, the lower PRIO, the greater CW1 and the lower number, is chosen for switch-out, and no other; in stage
6 every resident context is. Yield requests are cleared when no context waits. The stale and orphan items of the frame are written as
events. Unacknowledged packets, and barriers that wait for peers, have waited one frame more, and a barrier that has waited its TMO frames
times out among the faults of the cycle. Past a current of 3000 A k-steps are withheld. The counter of powered time grows every 2^13
frames, and the lifetime counters are saved every 2^20. WATCHDOG, at an expired Active queue, writes for each expired queue of its
context, in their order, a record that names the queue, its limit, the graph's root and the lowest running slot or the hub, and kills the
context with cause 2. (That a packet past its 1,024 frames counts as acknowledged unless it carries data is the model's, log 68.)
(Readings of the model, where it rests on one: log 62.) -/
def Obligations.FramesAndWatchdogs : Prop :=
  (∀ s : State, s.now / 2 ^ 14 ≤ s.hub.frame → exec .frameBoundary s = .next s)
  ∧ (∀ s : State, s.hub.frame < s.now / 2 ^ 14 → ∃ u, exec .frameBoundary s = .next u
    ∧ u.hub.frame = s.hub.frame + 1 ∧ u.stamp = s.stamp ∧ u.slots = s.slots ∧ u.cores = s.cores ∧ u.dies = s.dies ∧ u.winches = s.winches
    ∧ (∀ q x, Tab.find s.hub.queues q = some x → s.CountsTo x (u.queue q).wdogCnt
      ∧ ((u.queue q).expired = true ↔
          x.phase = .active ∧ x.running ≠ none ∧ x.feed = false ∧ x.wdogLim ≠ 0 ∧ x.wdogLim ≤ (u.queue q).wdogCnt)
      ∧ u.queue q = { x with wdogCnt := (u.queue q).wdogCnt, expired := (u.queue q).expired })
    ∧ u.agenda = (if (s.hub.frame + 1) % 2 ^ 20 = 0 then [.event 0 .lifetimeCounterSave] else []) ++ s.agenda
    ∧ u.hub.dev = { s.hub.dev with
        current := u.hub.dev.current, power := u.hub.dev.power
        withhold := s.hub.dev.withhold || decide (3000 < u.hub.dev.current.toNat) }
    ∧ (∀ c, (u.ctx c).cw1 = if (s.ctx c).phase = .resident then upTo32 (s.ctx c).cw1 else (s.ctx c).cw1)
    ∧ (∀ c, let waits := (s.ctx c).phase ≠ .free ∧ ∃ p ∈ s.hub.spool.graphs, p.2.tag.toNat / 64 = c ∧
          ∃ y ∈ p.2.nodes, y.phase = .waiting ∧ y.timed = true ∧ (y.tick : Int) ≤ s.frameOf c - 1
        (waits → (u.ctx c).foff = (s.ctx c).foff + 1) ∧ (¬ waits → (u.ctx c).foff = (s.ctx c).foff))
    ∧ (∀ g n y x, s.graph g = some x → s.nodeAt g n = some y → u.nodeAt g n = some { y with
        dueAt := if y.timed ∧ y.dueAt = none ∧ (y.tick : Int) = u.frameOf (x.tag.toNat / 64) then some s.now else y.dueAt })
    ∧ (let cw1 (c : Nat) : Nat := (u.ctx c).cw1.toNat
       let full := 64 ≤ (s.hub.ctx.regs.filter fun p => p.2.phase == .resident).length
       (s.hub.dev.stage = 6 → ∀ c x, (c, x) ∈ s.hub.ctx.regs → x.phase = .resident → (u.ctxWork c).leaving = true)
       ∧ (s.hub.dev.stage ≠ 6 → (∀ p ∈ s.hub.ctx.regs, ¬ s.wantsPlace p.1 p.2) ∨ ¬ full →
          ∀ c, (u.ctxWork c).leaving = (s.ctxWork c).leaving)
       ∧ (s.hub.dev.stage ≠ 6 → full → ∀ w x, s.loadsNext w x → ∀ c, (c, s.ctx c) ∈ s.hub.ctx.regs →
          let chosen := s.yields cw1 c w ∧ ∀ d, (d, s.ctx d) ∈ s.hub.ctx.regs → s.yields cw1 d w → d ≠ c → s.before cw1 c d
          (chosen → (u.ctxWork c).leaving = true)
          ∧ (¬ chosen → (u.ctxWork c).leaving = (s.ctxWork c).leaving)))
    ∧ (∀ c, (u.ctx c).yieldreq = true ↔ (s.ctx c).yieldreq = true ∧ ∃ p ∈ s.hub.ctx.regs, s.wantsPlace p.1 p.2)
    ∧ u.hub.sent = (s.hub.sent.filter fun p => p.kind == .data || decide (p.frames < 1024)).map (fun p => { p with frames := p.frames + 1 })
    ∧ (∀ b x, Tab.find s.hub.barriers b = some x →
        let waits := x.phase = .armed ∧ x.localDone = true
        u.barrier b = { x with
          frames := if waits then x.frames + 1 else x.frames
          overdue := if waits then decide (x.level = 3 ∧ x.tmo ≠ 0 ∧ x.tmo.toNat ≤ x.frames + 1) else x.overdue })
    ∧ u.hub.life = (if (s.hub.frame + 1) % 2 ^ 13 = 0 then (s.lifeUp 0).hub.life else s.hub.life)
    ∧ ((∀ c, (s.ctxWork c).newStale = 0 ∧ (s.ctxWork c).newOrphan = 0) → u.mem = s.mem ∧ u.hub.traps = s.hub.traps)
    ∧ ∀ c k, (c, k) ∈ s.hub.ctx.work → (∀ d, d ≠ c → (s.ctxWork d).newStale = 0 ∧ (s.ctxWork d).newOrphan = 0) →
        ∀ code n, 0 < n → (code = 0x82 ∧ (s.ctxWork c).newOrphan = n ∧ (s.ctxWork c).newStale = 0)
          ∨ (code = 0x83 ∧ (s.ctxWork c).newStale = n ∧ (s.ctxWork c).newOrphan = 0) →
        (u.ctxWork c).newStale = 0 ∧ (u.ctxWork c).newOrphan = 0
        ∧ ∃ v w : State, v.mem = s.mem ∧ v.hub.traps = s.hub.traps ∧ v.EventMade w (s.hubRecord code c n) ∧ w.mem = u.mem
          ∧ w.hub.traps = u.hub.traps)
  ∧ ∀ (s : State) (q : Nat), s.cur = q →
    let x := s.queue q
    let c := x.ctx.toNat
    let all := s.hub.queues.filter fun p => p.2.expired && p.2.phase == .active && p.2.ctx == x.ctx
    (x.expired = false ∨ x.phase ≠ .active → exec .watchdog s = .next (s.modQueue q fun x => { x with expired := false }))
    ∧ (x.expired = true → x.phase = .active → (∀ p ∈ s.hub.queues, p.2 = s.queue p.1) → ∃ u old rs, exec .watchdog s = .next u
      ∧ ((s.ctx c).phase ≠ .free → (u.ctx c).kcause = 2) ∧ u.hub.traps.table = old ++ rs ∧ old.length ≤ s.hub.traps.table.length
      ∧ rs.map (fun r => r.body.status) = all.map (fun p => p.1 + p.2.wdogLim.toNat * 2 ^ 32)
      ∧ (∀ r ∈ rs, r.seq = none ∧ r.body.code = 0x0E)
      ∧ ∀ (i : Nat) (p : Nat × WorkQueue) (r : FaultEntry), all[i]? = some p → rs[i]? = some r →
          (∀ g y, p.2.running = some g → s.graph g = some y → r.body.addr = y.root)
          ∧ ∀ g, p.2.running = some g →
            (∀ n, s.lowestOf g n → r.body.who = .slot n .S ∧ r.body.widxS = (s.slot n).seq.pc.word)
            ∧ ((∀ n, ¬ s.lowestOf g n) → r.body.who = .hub ∧ r.body.widxS = 2 ^ 24 - 1))

/-- A package reset, and that of a junction at 125 degrees, set every part to its reset state but the non-volatile store and the lifetime
counters; a loss of power restores the counters stored. The release of the reset starts stage 1 at stamp zero, counts, and sends the links
that are Down and not disabled into Training. In stage 15 Keel restarts at stage 1 with the host's image. In stages 1 and 2 the check of
an image ends with stage 15 and the code of the first check that fails, or loads it and goes to stage 2, or to stage 3 with links 0 to 3
and 8 training. CD0 with link 0 leads to stage 4, reduced service and DEVFEAT 0x7C, or in its failure to stage 15 with code 5; each other
die that has trained with its links has its bit in DIESOK, and all three lead to stage 5 with bit 0 offered. DCMD FULL is taken in stage 5
with AGREED bit 0 alone and chooses every resident context for switch-out; once none is Resident, Loading or Saving, stage 7 gives full
service, DEVFEAT 0x7F, and raises MINSEQ to the SEQ of images with COMMIT. DCMD RECOVER kills every context with cause 1 and leads to
stage 15. A write of DRVFEAT while every context is Free sets it and AGREED, and slots above the ladder lose their level; any other
changes bit 0 alone. An attestation request is taken with the nonce that stands, is ignored while one is being answered, and is answered
later with nonce, stage, features, leaf, digests and SEQ values, or refused without a leaf. THROTTLE begins the withholding of k-steps,
and ends it while the current is at most 3000 A and the junction below 105 degrees; at 125 degrees the package is reset; temperatures,
soft errors and droops count in their lifetime counters, which are stored every 2^20 frames and at an orderly shutdown. (Readings of the
model, where it rests on one: logs 10, 31, 50, 65, 73 and 74.) -/
def Obligations.BringUp : Prop :=
  ∀ s : State,
  let d := s.hub.dev
  let stays (i : Instr) : Prop := exec i s = .next s
  exec .packageReset s = .next (s.resetWith s.hub.life) ∧ (125 ≤ d.junction → exec .junctionOvertempReset s = .next (s.resetWith s.hub.life))
  ∧ (d.junction < 125 → stays .junctionOvertempReset)
  ∧ exec .powerLoss s = .next (s.resetWith s.hub.nv.counters)
  ∧ (d.stage ≠ 0 → stays .packageResetRelease)
  ∧ (d.stage = 0 → ∃ u, exec .packageResetRelease s = .next u ∧ u.stamp = 0 ∧ u.hub.frame = 0 ∧ u.hub.dev = { d with stage := 1 }
    ∧ s.Trains u (List.range 17) ∧ u.hub.life = (s.lifeUp 1).hub.life ∧ u.mem = s.mem ∧ u.slots = s.slots)
  ∧ (∀ image,
    let f (lo n : Nat) : Nat := (s.imageOf image).1 / 2 ^ lo % 2 ^ n
    let failed (e : Nat) : State := s.withDev { d with stage := 15, keelerr := BitVec.ofNat 8 e, fromHost := false }
    (d.stage ≠ 1 → d.stage ≠ 2 → d.stage ≠ 15 → stays (.keelImageCheck image))
    ∧ (d.stage = 15 → exec (.keelImageCheck image) s = .next (s.withDev { d with stage := 1, fromHost := true }))
    ∧ (d.stage = 1 → exec (.keelImageCheck image) s = .next (match s.imageFaults image 0 with
      | e :: _ => failed e
      | [] => s.withDev { d with
          stage := 2, keelerr := 0, fwDigest := BitVec.ofNat 256 (f 352 256), fwSeq := BitVec.ofNat 16 (f 48 16)
          fwCommit := decide (f 40 1 = 1), fromHost := false }))
    ∧ (d.stage = 2 → ∃ u, exec (.keelImageCheck image) s = .next u ∧ match s.imageFaults image 1 with
      | e :: _ => u = failed e
      | [] => u.hub.dev = { d with
          stage := 3, bsDigest := BitVec.ofNat 256 (f 352 256), bsSeq := BitVec.ofNat 16 (f 48 16), bsCommit := decide (f 40 1 = 1) }
        ∧ s.Trains u [0, 1, 2, 3, 8] ∧ u.mem = s.mem ∧ u.slots = s.slots))
  ∧ (d.stage ≠ 3 ∨ ¬ s.carries 0 → stays (.cd0Trained true)) ∧ (d.stage ≠ 3 → stays (.cd0Trained false))
  ∧ (d.stage = 3 → exec (.cd0Trained false) s = .next (s.withDev { d with stage := 15, keelerr := 5 }))
  ∧ (d.stage = 3 → s.carries 0 → ∃ e, exec (.cd0Trained true) s = .next (s.withDev e)
    ∧ ({ d with stage := 4, service := 1, diesok := 0x11 } : DeviceCtl).Offers e 0x7C)
  ∧ (∀ ok : BitVec 5, (d.stage ≠ 4 → stays (.allDiesTrained ok))
    ∧ (d.stage = 4 →
      let trained (i : Nat) : Prop := ok.getLsbD i = true ∧ s.carries i ∧ s.carries (4 + i) ∧ s.carries (4 + (i + 3) % 4)
      let all := trained 1 ∧ trained 2 ∧ trained 3
      (¬ all → ∃ m : BitVec 5, exec (.allDiesTrained ok) s = .next (s.withDev { d with diesok := d.diesok ||| m })
        ∧ ∀ i, m.getLsbD i = true ↔ 1 ≤ i ∧ i ≤ 3 ∧ trained i)
      ∧ (all → ∃ e, exec (.allDiesTrained ok) s = .next (s.withDev e)
        ∧ ({ d with stage := 5, diesok := d.diesok ||| 0x0E } : DeviceCtl).Offers e (d.devfeat ||| 1))))
  ∧ (∀ v, let free := ∀ p ∈ s.hub.ctx.regs, p.2.phase = .free
    let t := s.withDev { d with drvfeat := v, agreed := v &&& d.devfeat, negotiated := true }
    (free → exec (.drvfeatWrite v) s = .next (t.modHub fun h => { h with
      ballast := if s.hub.dev.service = 2 ∧ (v &&& d.devfeat).getLsbD 1 = true then h.ballast
        else h.ballast.map fun p => (p.1, if p.2.level = 3 ∨ p.2.level = 5 then p.2 else p.2.init 7) }))
    ∧ (¬ free → ∃ e, exec (.drvfeatWrite v) s = .next (s.withDev e)
      ∧ (∀ i, e.drvfeat.getLsbD i = if i = 0 then v.getLsbD 0 else d.drvfeat.getLsbD i)
      ∧ (∀ i, e.agreed.getLsbD i = if i = 0 then v.getLsbD 0 && d.devfeat.getLsbD 0 else d.agreed.getLsbD i)
      ∧ e = { d with drvfeat := e.drvfeat, agreed := e.agreed }))
  ∧ (¬ (d.stage = 5 ∧ d.agreed.getLsbD 0 = true) → stays .dcmdFull)
  ∧ (d.stage = 5 → d.agreed.getLsbD 0 = true → ∃ u, exec .dcmdFull s = .next u ∧ u.hub.dev = { d with stage := 6 } ∧ u.slots = s.slots
    ∧ (∀ c x, (c, x) ∈ s.hub.ctx.regs → x.phase = .resident → (u.ctxWork c).leaving = true) ∧ u.hub.ctx.regs = s.hub.ctx.regs)
  ∧ (let busy := ∃ p ∈ s.hub.ctx.regs, p.2.phase = .resident ∨ p.2.phase = .loading ∨ p.2.phase = .saving
    let raised (commit : Bool) (old new : BitVec 16) : BitVec 16 := if commit = true ∧ old < new then new else old
    (d.stage ≠ 6 ∨ busy → stays .switchingDone)
    ∧ (d.stage = 6 → ¬ busy → ∃ u, exec .switchingDone s = .next u
      ∧ ({ d with stage := 7, service := 2 } : DeviceCtl).Offers u.hub.dev 0x7F
      ∧ u = { s with hub := { s.hub with
          dev := u.hub.dev
          nv := { s.hub.nv with
            minFw := raised d.fwCommit s.hub.nv.minFw d.fwSeq, minBs := raised d.bsCommit s.hub.nv.minBs d.bsSeq } } }))
  ∧ (∃ u, exec .dcmdRecover s = .next u ∧ u.hub.dev = { d with stage := 15 }
    ∧ ∀ c x, (c, x) ∈ s.hub.ctx.regs → x.phase ≠ .free → (s.ctx c).phase ≠ .free → (s.ctxWork c).killAt ≠ s.now + 1 →
      (u.ctx c).kcause = 1)
  ∧ (let asks (n : BitVec 256) : State := s.modHub fun h => { h with attest := { h.attest with asked := some n } }
    let v := Config.freeNat s.free
    let later : State := { s with free := s.free + 1 }
    (∀ n, s.hub.attest.asked = some n → exec .attestationRequest s = .next (asks n))
    ∧ (s.hub.attest.asked = none → exec .attestationRequest s = .next (asks s.hub.attest.nonce) ∧ s.keelAnswers = s)
    ∧ ∀ n, s.hub.attest.asked = some n →
      (v % 2 = 0 → s.keelAnswers = later)
      ∧ (v % 2 = 1 → 2 ^ 15 ≤ s.hub.nv.leaf.toNat →
          s.keelAnswers = later.modHub fun h => { h with attest := { h.attest with refused := true, asked := none } })
      ∧ (v % 2 = 1 → s.hub.nv.leaf.toNat < 2 ^ 15 → s.keelAnswers = later.modHub fun h => { h with
          nv := { h.nv with leaf := h.nv.leaf + 1 }
          attest := { nonce := h.attest.nonce, asked := none, answered := true, refused := false, ansNonce := n, ansStage := d.stage
                      ansAgreed := d.agreed, ansLeaf := h.nv.leaf, ansDigests := d.fwDigest ++ d.bsDigest, ansSeqs := d.fwSeq ++ d.bsSeq
                      sigNum := h.nv.leaf.toNat } }))
  ∧ (∀ on, exec (.throttle on) s = .next (s.withDev { d with withhold := on || (d.withhold && (decide (3000 < d.current.toNat) || decide (105 ≤ d.junction))) }))
  ∧ (∀ t : Int,
    let hot : State := { s.withDev { d with junction := t.toNat, withhold := d.withhold || decide (105 ≤ t) } with
      agenda := if 125 ≤ t then .event 0 .junctionOvertempReset :: s.agenda else s.agenda }
    (s.now / 2 ^ 27 ≤ s.hub.samples → exec (.temperatureSample t) s = .next hot)
    ∧ (s.hub.samples < s.now / 2 ^ 27 →
        exec (.temperatureSample t) s = .next ((hot.modHub fun h => { h with samples := h.samples + 1 }).lifeUp (tempIndex t).toNat)))
  ∧ (∀ i, (softCounter i → exec (.softErrorCorrection i) s = .next (s.lifeUp i)) ∧ (¬ softCounter i → stays (.softErrorCorrection i)))
  ∧ exec .coreRailDroop s = .next (s.lifeUp 18)
  ∧ (let saved := s.modHub fun h => { h with nv := { h.nv with counters := h.life } }
    exec .orderlyShutdown s = .next saved ∧ (2 ^ 20 ∣ s.hub.frame → exec .lifetimeCounterSave s = .next saved)
    ∧ (¬ 2 ^ 20 ∣ s.hub.frame → stays .lifetimeCounterSave))

/-- While link 8 carries nothing, no read or write of a register does anything. Else a read of a register answers with its value, with
zeros in reserved and write-only fields, and then clears its RC fields and nothing else; and a write sets the RW fields of the register,
ignores every other field, is ignored or counted in REFUSED while the unit does not take it, or takes the action that the register names,
which is the action of the package step of that name at that unit. So for device control, and for each queue, barrier, context, stream,
semaphore, link, ring, trace, window and the wall counter. An offset below the first queue that no register uses reads as zero and takes
no write. The steps of the hub's commands do at their unit what the registers name. (Readings of the model, where it rests on one: log
75.) -/
def Obligations.Registers : Prop :=
  (∀ (s : State) (off : Nat) (v : BitVec 64), ¬ s.carries 8 → exec (.readClear off) s = .next s ∧ exec (.registerWrite off v) s = .next s)
  ∧ (∀ (s : State) (q b c n m l : Nat), s.carries 8 → q < 256 → b < 256 → c < 4096 → n < 16 → m < 4096 → l < 17 →
    ∀ r ∈ s.readRows q b c n m l, exec (.readClear r.1) s = .next ((r.2.2 s).answered (some (bytesOf 8 r.2.1))))
  ∧ (∀ (s : State) (q b c n m l core : Nat) (v : BitVec 64), s.carries 8 → q < 256 → b < 256 → c < 4096 → n < 16 → m < 4096 → l < 17 →
    core < 160 → ∀ r ∈ s.writeRows q b c n m l core v, exec (.registerWrite r.1 v) s = .next r.2)
  ∧ (∀ (s : State) (off : Nat) (v : BitVec 64), s.carries 8 → 0x60 ≤ off → off < 0x40000 →
    exec (.readClear off) s = .next (s.answered (some (bytesOf 8 0))) ∧ exec (.registerWrite off v) s = .next s)
  ∧ (∀ (s : State) (v : BitVec 64), s.carries 8 →
    exec (.registerWrite 0xF0008 v) s = exec (.trapRingControlWrite false v) s
    ∧ exec (.registerWrite 0xF0048 v) s = exec (.trapRingControlWrite true v) s
    ∧ exec (.registerWrite 0x120008 v) s = exec (.wtimeWrite v) s)
  ∧ ∀ s : State, let c := s.cur
    exec .dcmdFull s = .next s.commandFull ∧ exec .dcmdRecover s = .next s.commandRecover ∧ exec .attestationRequest s = .next s.attest
    ∧ exec .queueBind s = .next (s.queueBind c) ∧ exec .queueResume s = .next (s.queueResume c) ∧ exec .queueUnbind s = .next (s.queueUnbind c)
    ∧ (∀ n, exec (.queueDoorbell n) s = .next (s.doorbell c n))
    ∧ exec .barrierBind s = .next (s.barrierBind c) ∧ exec .barrierReset s = .next (s.barrierReset c)
    ∧ exec .barrierUnbind s = .next (s.barrierUnbind c) ∧ exec .barrierBreakCmd s = .next (s.barrierCommandBreak c)
    ∧ exec .contextCreate s = .next (s.createCtx c) ∧ exec .contextDestroy s = .next (s.destroyCtx c) ∧ exec .kill s = .next (s.commandKill c)
    ∧ exec .rclfCommand s = .next (s.commandFence c)
    ∧ (∀ seq, exec (.fresResume seq) s = .next (s.resolveSeq seq true) ∧ exec (.fresAbort seq) s = .next (s.resolveSeq seq false))
    ∧ (∀ v, exec (.drvfeatWrite v) s = .next (s.acceptFeatures v) ∧ (c < 17 → ∀ on, exec (.linkDisableWrite on) s = .next (s.linkDisable c on)))
    ∧ exec .linkRetrain s = .next (s.retrain c)
end

