-- ==== Sys2Proof/Laws/Memory.lean ====
section
/-!
SUPPORT. Sys2Proof/Laws/Memory.lean: the laws of sparse tables and byte memories: what a read finds after a write, and the canonical
form.
-/

namespace Sys2Proof.Machine

variable {α : Type}

/-! ### Reads after writes of a table -/

theorem Tab.get_put_same (d : α) (m : Tab α) (k : Nat) (v : α) : Tab.get d (Tab.put m k v) k = v := by
  induction m with
  | nil => simp [Tab.put, Tab.get]
  | cons e t ih =>
    obtain ⟨k', v'⟩ := e
    simp only [Tab.put]
    split
    · simp [Tab.get]
    · split
      · simp [Tab.get]
      · next h => simp [Tab.get, h, ih]

theorem Tab.get_put_other (d : α) (m : Tab α) {j k : Nat} (v : α) (h : j ≠ k) : Tab.get d (Tab.put m k v) j = Tab.get d m j := by
  induction m with
  | nil => simp [Tab.put, Tab.get, h]
  | cons e t ih =>
    obtain ⟨k', v'⟩ := e
    simp only [Tab.put]
    split
    · simp [Tab.get, h]
    · split
      · next hk => subst hk; simp [Tab.get, h]
      · simp [Tab.get, ih]

theorem Tab.get_put (d : α) (m : Tab α) (j k : Nat) (v : α) : Tab.get d (Tab.put m k v) j = if j = k then v else Tab.get d m j := by
  by_cases h : j = k
  · subst h; simp [Tab.get_put_same]
  · simp [Tab.get_put_other d m v h, h]

theorem Tab.get_del (d : α) (m : Tab α) (j k : Nat) : Tab.get d (Tab.del m k) j = if j = k then d else Tab.get d m j := by
  induction m with
  | nil => simp [Tab.del, Tab.get]
  | cons e t ih =>
    obtain ⟨k', v'⟩ := e
    rw [Tab.del] at ih
    by_cases hk : k' = k
    · subst hk
      simp only [Tab.del, bne_self_eq_false, Bool.false_eq_true, not_false_eq_true, List.filter_cons_of_neg, ih, Tab.get]
      split <;> rfl
    · simp only [Tab.del, List.filter_cons, bne_iff_ne, ne_eq, hk, not_false_eq_true, if_true, Tab.get, ih]
      by_cases hj : j = k'
      · subst hj; simp [hk]
      · simp [hj]

/-! ### Entries that are listed -/

theorem Tab.find_put (m : Tab α) (j k : Nat) (v : α) : Tab.find (Tab.put m k v) j = if j = k then some v else Tab.find m j := by
  induction m with
  | nil => simp only [Tab.put, Tab.find]
  | cons e t ih =>
    obtain ⟨k', v'⟩ := e
    simp only [Tab.put]
    split
    · simp only [Tab.find]
    · split
      · next h => subst h; simp only [Tab.find]; split <;> rfl
      · next h =>
        simp only [Tab.find, ih]
        by_cases hj : j = k'
        · subst hj; rw [if_pos rfl, if_pos rfl, if_neg (by omega)]
        · rw [if_neg hj, if_neg hj]

theorem Tab.find_del (m : Tab α) (j k : Nat) : Tab.find (Tab.del m k) j = if j = k then none else Tab.find m j := by
  induction m with
  | nil => simp [Tab.del, Tab.find]
  | cons e t ih =>
    obtain ⟨k', v'⟩ := e
    rw [Tab.del] at ih
    by_cases hk : k' = k
    · subst hk
      simp only [Tab.del, bne_self_eq_false, Bool.false_eq_true, not_false_eq_true, List.filter_cons_of_neg, ih, Tab.find]
      split <;> rfl
    · simp only [Tab.del, List.filter_cons, bne_iff_ne, ne_eq, hk, not_false_eq_true, if_true, Tab.find, ih]
      by_cases hj : j = k'
      · subst hj; simp [hk]
      · simp [hj]

/-! ### The canonical form -/

theorem Tab.rising_put {m : Tab α} {lo k : Nat} (v : α) (hm : Tab.risingFrom lo m = true) (hk : lo ≤ k) :
    Tab.risingFrom lo (Tab.put m k v) = true := by
  induction m generalizing lo with
  | nil => simp [Tab.put, Tab.risingFrom, hk]
  | cons e t ih =>
    obtain ⟨k', v'⟩ := e
    simp only [Tab.risingFrom, Bool.and_eq_true, decide_eq_true_eq] at hm
    simp only [Tab.put]
    split
    · simp only [Tab.risingFrom, Bool.and_eq_true, decide_eq_true_eq]
      exact ⟨hk, by omega, hm.2⟩
    · split
      · next h => subst h; simp [Tab.risingFrom, hk, hm.2]
      · simp only [Tab.risingFrom, Bool.and_eq_true, decide_eq_true_eq]
        exact ⟨hm.1, ih hm.2 (by omega)⟩

theorem Tab.rising_mono {m : Tab α} {lo lo' : Nat} (hm : Tab.risingFrom lo m = true) (h : lo' ≤ lo) : Tab.risingFrom lo' m = true := by
  cases m with
  | nil => rfl
  | cons e t =>
    obtain ⟨k', v'⟩ := e
    simp only [Tab.risingFrom, Bool.and_eq_true, decide_eq_true_eq] at hm ⊢
    exact ⟨by omega, hm.2⟩

theorem Tab.rising_filter {m : Tab α} {lo : Nat} (p : Nat × α → Bool) (hm : Tab.risingFrom lo m = true) :
    Tab.risingFrom lo (m.filter p) = true := by
  induction m generalizing lo with
  | nil => rfl
  | cons e t ih =>
    obtain ⟨k', v'⟩ := e
    simp only [Tab.risingFrom, Bool.and_eq_true, decide_eq_true_eq] at hm
    rw [List.filter_cons]
    split
    · simp only [Tab.risingFrom, Bool.and_eq_true, decide_eq_true_eq]
      exact ⟨hm.1, ih hm.2⟩
    · exact Tab.rising_mono (ih hm.2) (by omega)

theorem Tab.mem_put {m : Tab α} {k : Nat} {v : α} {e : Nat × α} (h : e ∈ Tab.put m k v) : e = (k, v) ∨ e ∈ m := by
  induction m with
  | nil => simpa [Tab.put] using h
  | cons x t ih =>
    obtain ⟨k', v'⟩ := x
    simp only [Tab.put] at h
    split at h
    · simpa using h
    · split at h
      · rcases List.mem_cons.mp h with h | h
        · exact .inl h
        · exact .inr (List.mem_cons_of_mem _ h)
      · rcases List.mem_cons.mp h with h | h
        · exact .inr (h ▸ List.mem_cons_self)
        · exact (ih h).imp_right (List.mem_cons_of_mem _)

theorem Tab.rising_del {m : Tab α} {lo : Nat} (k : Nat) (hm : Tab.risingFrom lo m = true) : Tab.risingFrom lo (Tab.del m k) = true :=
  Tab.rising_filter _ hm

theorem Tab.mem_del {m : Tab α} {k : Nat} {e : Nat × α} (h : e ∈ Tab.del m k) : e ∈ m := (List.mem_filter.mp h).1

section
variable [DecidableEq α] {d : α} {m : Tab α}

theorem Tab.canonical_iff : Tab.canonical d m = true ↔ Tab.risingFrom 0 m = true ∧ ∀ e ∈ m, e.2 ≠ d := by
  simp [Tab.canonical]

theorem Tab.canonical_set (k : Nat) (v : α) (hm : Tab.canonical d m = true) : Tab.canonical d (Tab.set d m k v) = true := by
  rw [Tab.canonical_iff] at hm ⊢
  simp only [Tab.set]
  split
  · exact ⟨Tab.rising_del k hm.1, fun e he => hm.2 e (Tab.mem_del he)⟩
  · next h =>
    refine ⟨Tab.rising_put v hm.1 (Nat.zero_le k), fun e he => ?_⟩
    rcases Tab.mem_put he with rfl | he
    · exact h
    · exact hm.2 e he

theorem Tab.canonical_filter (p : Nat × α → Bool) (hm : Tab.canonical d m = true) : Tab.canonical d (m.filter p) = true := by
  rw [Tab.canonical_iff] at hm ⊢
  exact ⟨Tab.rising_filter p hm.1, fun e he => hm.2 e (List.mem_filter.mp he).1⟩

end

/-! ### Byte memories -/

theorem Memory.wf_nil : Memory.wf [] = true := rfl

theorem Memory.wf_write {m : Bytes} (a : Nat) (b : Byte) (hm : Memory.wf m = true) : Memory.wf (m.write a b) = true :=
  Tab.canonical_set a b hm

theorem Memory.wf_writeN {m : Bytes} (a : Nat) (bs : List Byte) (hm : Memory.wf m = true) : Memory.wf (m.writeN a bs) = true := by
  induction bs generalizing m a with
  | nil => exact hm
  | cons b t ih => exact ih (a + 1) (Memory.wf_write a b hm)

theorem Memory.wf_filter {m : Bytes} (p : Nat × Byte → Bool) (hm : Memory.wf m = true) : Memory.wf (m.filter p) = true :=
  Tab.canonical_filter p hm

theorem Bytes.read_write (m : Bytes) (a j : Nat) (b : Byte) : (m.write a b).read j = if j = a then b else m.read j := by
  unfold Bytes.write Bytes.read Tab.set
  split
  · next h => rw [Tab.get_del, h]
  · exact Tab.get_put _ _ _ _ _

theorem Bytes.read_write_other (m : Bytes) {a j : Nat} (b : Byte) (h : j ≠ a) : (m.write a b).read j = m.read j := by
  rw [Bytes.read_write, if_neg h]

/-- A write of several bytes leaves every byte outside them. -/
theorem Bytes.read_writeN_other (m : Bytes) {a j : Nat} (bs : List Byte) (h : j < a ∨ a + bs.length ≤ j) :
    (m.writeN a bs).read j = m.read j := by
  induction bs generalizing m a with
  | nil => rfl
  | cons b t ih =>
    simp only [List.length_cons] at h
    rw [Bytes.writeN, ih (m.write a b) (by omega)]
    exact Bytes.read_write_other m b (by omega)

/-- A write of several bytes is read back byte by byte. -/
theorem Bytes.read_writeN_same (m : Bytes) {a i : Nat} {bs : List Byte} {b : Byte} (h : bs[i]? = some b) :
    (m.writeN a bs).read (a + i) = b := by
  induction bs generalizing m a i with
  | nil => simp at h
  | cons x t ih =>
    cases i with
    | zero =>
      simp only [List.getElem?_cons_zero, Option.some.injEq] at h
      rw [Bytes.writeN, Bytes.read_writeN_other _ _ (by omega), Nat.add_zero, Bytes.read_write, if_pos rfl, h]
    | succ i =>
      simp only [List.getElem?_cons_succ] at h
      rw [Bytes.writeN, show a + (i + 1) = (a + 1) + i by omega]
      exact ih (m.write a x) h

/-- What a byte reads after a write of several bytes. -/
theorem Bytes.read_writeN (m : Bytes) (a j : Nat) (bs : List Byte) :
    (m.writeN a bs).read j = if a ≤ j ∧ j < a + bs.length then bs[j - a]! else m.read j := by
  split
  · next h =>
    have hj : j - a < bs.length := by omega
    have h2 := Bytes.read_writeN_same m (a := a) (List.getElem?_eq_getElem hj)
    rw [show a + (j - a) = j by omega] at h2
    rw [h2, getElem!_pos bs (j - a) hj]
  · exact Bytes.read_writeN_other m bs (by omega)

theorem Bytes.readN_length (m : Bytes) (a n : Nat) : (m.readN a n).length = n := by
  induction n generalizing a with
  | zero => rfl
  | succ n ih => simp [Bytes.readN, ih]

end Sys2Proof.Machine
end

