-- ==== Sys2Proof/Laws/PerInstr.lean ====
section
/-!
SUPPORT. Sys2Proof/Laws/PerInstr.lean: for each constructor, the decoder reads the instruction back from its own word.
-/

namespace Sys2Proof.Laws

open Sys2Proof.Machine (field)

/-- The word of the instruction, if it has one, decodes to it. -/
def RoundTrip.Statement (i : Instr) : Prop := ∀ w, encode i = some w → decode w = some i

/-! ### Helpers -/

theorem RoundTrip.of_word {i : Instr} {n : Nat} (he : encode i = some (BitVec.ofNat 32 n))
    (hd : ∀ m, n = m → decode (BitVec.ofNat 32 m) = some i) : RoundTrip.Statement i := by
  intro w hw
  rw [he] at hw
  exact Option.some.inj hw ▸ hd n rfl

theorem RoundTrip.of_none {i : Instr} (he : encode i = none) : RoundTrip.Statement i := by
  intro w hw
  rw [he] at hw
  exact nomatch hw

theorem RoundTrip.fld_eq {n lo w : Nat} {x : BitVec n} (h : w / 2 ^ lo % 2 ^ n = x.toNat) : fld n lo w = x := by
  apply BitVec.eq_of_toNat_eq
  simp [fld, h]

theorem RoundTrip.none_or (x : Option Instr) : ((none : Option Instr) <|> x) = x := rfl

theorem RoundTrip.some_or (i : Instr) (x : Option Instr) : (some i <|> x) = some i := rfl

theorem RoundTrip.decode_S {n m : Nat} (hn : n < 2 ^ 32) (ht : n / 2 ^ 30 % 2 ^ 2 = 0) (hm : n / 2 ^ 24 % 2 ^ 6 = m) :
    decode (BitVec.ofNat 32 n) = decodeTagS m n := by
  unfold decode
  rw [BitVec.toNat_ofNat, Nat.mod_eq_of_lt hn]
  rw [show field n 31 30 = 0 from ht, show field n 29 24 = m from hm]
  rfl

theorem RoundTrip.decode_V {n m : Nat} (hn : n < 2 ^ 32) (ht : n / 2 ^ 30 % 2 ^ 2 = 1) (hm : n / 2 ^ 24 % 2 ^ 6 = m) :
    decode (BitVec.ofNat 32 n) = decodeTagV m n := by
  unfold decode
  rw [BitVec.toNat_ofNat, Nat.mod_eq_of_lt hn]
  rw [show field n 31 30 = 1 from ht, show field n 29 24 = m from hm]
  rfl

theorem RoundTrip.decode_M {n m : Nat} (hn : n < 2 ^ 32) (ht : n / 2 ^ 30 % 2 ^ 2 = 2) (hm : n / 2 ^ 24 % 2 ^ 6 = m) :
    decode (BitVec.ofNat 32 n) = decodeTagM m n := by
  unfold decode
  rw [BitVec.toNat_ofNat, Nat.mod_eq_of_lt hn]
  rw [show field n 31 30 = 2 from ht, show field n 29 24 = m from hm]
  rfl

theorem RoundTrip.decode_A {n m : Nat} (hn : n < 2 ^ 32) (ht : n / 2 ^ 30 % 2 ^ 2 = 3) (hm : n / 2 ^ 24 % 2 ^ 6 = m) :
    decode (BitVec.ofNat 32 n) = decodeTagA m n := by
  unfold decode
  rw [BitVec.toNat_ofNat, Nat.mod_eq_of_lt hn]
  rw [show field n 31 30 = 3 from ht, show field n 29 24 = m from hm]
  rfl

/-! ### The rows of the opcode map that hold one instruction -/

theorem RoundTrip.tagS_00 (w : Nat) :
    decodeTagS 0x00 w =
      (fixed w 23 0 0x0 (some .nop)) := rfl
theorem RoundTrip.tagS_01 (w : Nat) :
    decodeTagS 0x01 w =
      (fixed w 20 18 0x0 (some (.bprep (fld 3 21 w) (fld 18 0 w)))) := rfl
theorem RoundTrip.tagS_02 (w : Nat) :
    decodeTagS 0x02 w =
      (some (.bprepg (fld 6 18 w) (fld 6 12 w) (fld 12 0 w))) := rfl
theorem RoundTrip.tagS_03 (w : Nat) :
    decodeTagS 0x03 w =
      (fixed w 17 0 0x0 (some (.blink (fld 3 21 w) (fld 3 18 w)))) := rfl
theorem RoundTrip.tagS_04 (w : Nat) :
    decodeTagS 0x04 w =
      (fixed w 17 0 0x0 (some (.bgo (fld 1 24 w) (fld 3 21 w) (fld 3 18 w)))) := rfl
theorem RoundTrip.tagS_05 (w : Nat) :
    decodeTagS 0x05 w =
      (fixed w 17 0 0x0 (some (.bgo (fld 1 24 w) (fld 3 21 w) (fld 3 18 w)))) := rfl
theorem RoundTrip.tagS_06 (w : Nat) :
    decodeTagS 0x06 w =
      (some (.lset (fld 3 21 w) (fld 3 18 w) (fld 6 12 w) (fld 12 0 w))) := rfl
theorem RoundTrip.tagS_07 (w : Nat) :
    decodeTagS 0x07 w =
      (some (.lstep (fld 6 18 w) (fld 6 12 w) (fld 12 0 w))) := rfl
theorem RoundTrip.tagS_09 (w : Nat) :
    decodeTagS 0x09 w =
      (fixed w 23 12 0x0 (some (.rotset (fld 12 0 w)))) := rfl
theorem RoundTrip.tagS_0A (w : Nat) :
    decodeTagS 0x0A w =
      (fixed w 23 19 0x0 (some (.rgn (fld 1 18 w) (fld 6 12 w) (fld 12 0 w)))) := rfl
theorem RoundTrip.tagS_0B (w : Nat) :
    decodeTagS 0x0B w =
      (fixed w 23 0 0x0 (some .rgnend)) := rfl
theorem RoundTrip.tagS_0C (w : Nat) :
    decodeTagS 0x0C w =
      (fixed w 23 0 0x0 (some .endActivation)) := rfl
theorem RoundTrip.tagS_0D (w : Nat) :
    decodeTagS 0x0D w =
      (fixed w 23 18 0x0 <| fixed w 11 0 0x0 (some (.halt (fld 6 12 w)))) := rfl
theorem RoundTrip.tagS_0E (w : Nat) :
    decodeTagS 0x0E w =
      (some (.icinv (fld 6 18 w) (fld 6 12 w) (fld 12 0 w))) := rfl
theorem RoundTrip.tagS_11 (w : Nat) :
    decodeTagS 0x11 w =
      (fixed w 5 0 0x0 (some (.cmp (fld 3 21 w) (fld 3 18 w) (fld 6 12 w) (fld 6 6 w)))) := rfl
theorem RoundTrip.tagS_12 (w : Nat) :
    decodeTagS 0x12 w =
      (some (.cmpi (fld 3 21 w) (fld 3 18 w) (fld 6 12 w) (fld 12 0 w))) := rfl
theorem RoundTrip.tagS_13 (w : Nat) :
    decodeTagS 0x13 w =
      (some (.addi (fld 6 18 w) (fld 6 12 w) (fld 12 0 w))) := rfl
theorem RoundTrip.tagS_14 (w : Nat) :
    decodeTagS 0x14 w =
      (some (.andi (fld 6 18 w) (fld 6 12 w) (fld 12 0 w))) := rfl
theorem RoundTrip.tagS_15 (w : Nat) :
    decodeTagS 0x15 w =
      (some (.ori (fld 6 18 w) (fld 6 12 w) (fld 12 0 w))) := rfl
theorem RoundTrip.tagS_16 (w : Nat) :
    decodeTagS 0x16 w =
      (some (.xori (fld 6 18 w) (fld 6 12 w) (fld 12 0 w))) := rfl
theorem RoundTrip.tagS_17 (w : Nat) :
    decodeTagS 0x17 w =
      (some (.shli (fld 6 18 w) (fld 6 12 w) (fld 12 0 w))) := rfl
theorem RoundTrip.tagS_18 (w : Nat) :
    decodeTagS 0x18 w =
      (some (.shri (fld 6 18 w) (fld 6 12 w) (fld 12 0 w))) := rfl
theorem RoundTrip.tagS_19 (w : Nat) :
    decodeTagS 0x19 w =
      (some (.sari (fld 6 18 w) (fld 6 12 w) (fld 12 0 w))) := rfl
theorem RoundTrip.tagS_1A (w : Nat) :
    decodeTagS 0x1A w =
      (some (.muli (fld 6 18 w) (fld 6 12 w) (fld 12 0 w))) := rfl
theorem RoundTrip.tagS_1B (w : Nat) :
    decodeTagS 0x1B w =
      (some (.lui (fld 6 18 w) (fld 18 0 w))) := rfl
theorem RoundTrip.tagS_1C (w : Nat) :
    decodeTagS 0x1C w =
      (some (.lds (fld 6 18 w) (fld 6 12 w) (fld 3 9 w) (fld 9 0 w))) := rfl
theorem RoundTrip.tagS_1D (w : Nat) :
    decodeTagS 0x1D w =
      (some (.sts (fld 6 18 w) (fld 6 12 w) (fld 3 9 w) (fld 9 0 w))) := rfl
theorem RoundTrip.tagS_1E (w : Nat) :
    decodeTagS 0x1E w =
      (fixed w 11 10 0x0 <| fixed w 5 3 0x0 (some (.gld (fld 6 18 w) (fld 6 12 w) (fld 4 6 w) (fld 3 0 w)))) := rfl
theorem RoundTrip.tagS_1F (w : Nat) :
    decodeTagS 0x1F w =
      (fixed w 11 10 0x0 <| fixed w 5 3 0x0 (some (.gst (fld 6 18 w) (fld 6 12 w) (fld 4 6 w) (fld 3 0 w)))) := rfl
theorem RoundTrip.tagS_20 (w : Nat) :
    decodeTagS 0x20 w =
      (fixed w 11 10 0x0 <| fixed w 5 5 0x0 (some (.gatom (fld 6 18 w) (fld 6 12 w) (fld 4 6 w) (fld 1 4 w) (fld 4 0 w)))) := rfl
theorem RoundTrip.tagS_21 (w : Nat) :
    decodeTagS 0x21 w =
      (fixed w 17 12 0x0 (some (.mfc (fld 6 18 w) (fld 12 0 w)))) := rfl
theorem RoundTrip.tagS_22 (w : Nat) :
    decodeTagS 0x22 w =
      (fixed w 23 18 0x0 (some (.mtc (fld 6 12 w) (fld 12 0 w)))) := rfl
theorem RoundTrip.tagS_23 (w : Nat) :
    decodeTagS 0x23 w =
      (fixed w 15 14 0x0 <| fixed w 11 5 0x0 (some (.shpw (fld 6 18 w) (fld 2 16 w) (fld 2 12 w) (fld 5 0 w)))) := rfl
theorem RoundTrip.tagS_24 (w : Nat) :
    decodeTagS 0x24 w =
      (fixed w 15 14 0x0 <| fixed w 11 6 0x0 (some (.shpr (fld 6 18 w) (fld 2 16 w) (fld 2 12 w) (fld 1 5 w) (fld 5 0 w)))) := rfl
theorem RoundTrip.tagS_25 (w : Nat) :
    decodeTagS 0x25 w =
      (fixed w 17 12 0x0 (some (.kwaitS (fld 6 18 w) (fld 12 0 w)))) := rfl
theorem RoundTrip.tagS_26 (w : Nat) :
    decodeTagS 0x26 w =
      (fixed w 17 12 0x0 (some (.ksigS (fld 6 18 w) (fld 12 0 w)))) := rfl
theorem RoundTrip.tagS_27 (w : Nat) :
    decodeTagS 0x27 w =
      (fixed w 11 0 0x0 (some (.kcfg (fld 6 18 w) (fld 6 12 w)))) := rfl
theorem RoundTrip.tagS_2B (w : Nat) :
    decodeTagS 0x2B w =
      (fixed w 23 3 0x0 (some (.fenceE (fld 3 0 w)))) := rfl
theorem RoundTrip.tagV_00 (w : Nat) :
    decodeTagV 0x00 w =
      (some (.vfma (fld 2 24 w) (fld 6 18 w) (fld 6 12 w) (fld 6 6 w) (fld 6 0 w))) := rfl
theorem RoundTrip.tagV_01 (w : Nat) :
    decodeTagV 0x01 w =
      (some (.vfma (fld 2 24 w) (fld 6 18 w) (fld 6 12 w) (fld 6 6 w) (fld 6 0 w))) := rfl
theorem RoundTrip.tagV_02 (w : Nat) :
    decodeTagV 0x02 w =
      (some (.vfma (fld 2 24 w) (fld 6 18 w) (fld 6 12 w) (fld 6 6 w) (fld 6 0 w))) := rfl
theorem RoundTrip.tagV_03 (w : Nat) :
    decodeTagV 0x03 w =
      (some (.vfma (fld 2 24 w) (fld 6 18 w) (fld 6 12 w) (fld 6 6 w) (fld 6 0 w))) := rfl
theorem RoundTrip.tagV_04 (w : Nat) :
    decodeTagV 0x04 w =
      (some (.vfms (fld 2 24 w) (fld 6 18 w) (fld 6 12 w) (fld 6 6 w) (fld 6 0 w))) := rfl
theorem RoundTrip.tagV_05 (w : Nat) :
    decodeTagV 0x05 w =
      (some (.vfms (fld 2 24 w) (fld 6 18 w) (fld 6 12 w) (fld 6 6 w) (fld 6 0 w))) := rfl
theorem RoundTrip.tagV_06 (w : Nat) :
    decodeTagV 0x06 w =
      (some (.vfms (fld 2 24 w) (fld 6 18 w) (fld 6 12 w) (fld 6 6 w) (fld 6 0 w))) := rfl
theorem RoundTrip.tagV_07 (w : Nat) :
    decodeTagV 0x07 w =
      (some (.vfms (fld 2 24 w) (fld 6 18 w) (fld 6 12 w) (fld 6 6 w) (fld 6 0 w))) := rfl
theorem RoundTrip.tagV_08 (w : Nat) :
    decodeTagV 0x08 w =
      (some (.vfnma (fld 2 24 w) (fld 6 18 w) (fld 6 12 w) (fld 6 6 w) (fld 6 0 w))) := rfl
theorem RoundTrip.tagV_09 (w : Nat) :
    decodeTagV 0x09 w =
      (some (.vfnma (fld 2 24 w) (fld 6 18 w) (fld 6 12 w) (fld 6 6 w) (fld 6 0 w))) := rfl
theorem RoundTrip.tagV_0A (w : Nat) :
    decodeTagV 0x0A w =
      (some (.vfnma (fld 2 24 w) (fld 6 18 w) (fld 6 12 w) (fld 6 6 w) (fld 6 0 w))) := rfl
theorem RoundTrip.tagV_0B (w : Nat) :
    decodeTagV 0x0B w =
      (some (.vfnma (fld 2 24 w) (fld 6 18 w) (fld 6 12 w) (fld 6 6 w) (fld 6 0 w))) := rfl
theorem RoundTrip.tagV_0C (w : Nat) :
    decodeTagV 0x0C w =
      (some (.vimad (fld 2 24 w) (fld 6 18 w) (fld 6 12 w) (fld 6 6 w) (fld 6 0 w))) := rfl
theorem RoundTrip.tagV_0D (w : Nat) :
    decodeTagV 0x0D w =
      (some (.vimad (fld 2 24 w) (fld 6 18 w) (fld 6 12 w) (fld 6 6 w) (fld 6 0 w))) := rfl
theorem RoundTrip.tagV_0E (w : Nat) :
    decodeTagV 0x0E w =
      (some (.vimad (fld 2 24 w) (fld 6 18 w) (fld 6 12 w) (fld 6 6 w) (fld 6 0 w))) := rfl
theorem RoundTrip.tagV_0F (w : Nat) :
    decodeTagV 0x0F w =
      (some (.vimad (fld 2 24 w) (fld 6 18 w) (fld 6 12 w) (fld 6 6 w) (fld 6 0 w))) := rfl
theorem RoundTrip.tagV_10 (w : Nat) :
    decodeTagV 0x10 w =
      (some (.vqnt (fld 2 24 w) (fld 6 18 w) (fld 6 12 w) (fld 6 6 w) (fld 6 0 w))) := rfl
theorem RoundTrip.tagV_11 (w : Nat) :
    decodeTagV 0x11 w =
      (some (.vqnt (fld 2 24 w) (fld 6 18 w) (fld 6 12 w) (fld 6 6 w) (fld 6 0 w))) := rfl
theorem RoundTrip.tagV_12 (w : Nat) :
    decodeTagV 0x12 w =
      (some (.vqnt (fld 2 24 w) (fld 6 18 w) (fld 6 12 w) (fld 6 6 w) (fld 6 0 w))) := rfl
theorem RoundTrip.tagV_13 (w : Nat) :
    decodeTagV 0x13 w =
      (some (.vqnt (fld 2 24 w) (fld 6 18 w) (fld 6 12 w) (fld 6 6 w) (fld 6 0 w))) := rfl
theorem RoundTrip.tagV_14 (w : Nat) :
    decodeTagV 0x14 w =
      (fixed w 2 0 0x0 (some (.vadd (fld 6 18 w) (fld 6 12 w) (fld 6 6 w) (fld 2 4 w) (fld 1 3 w)))) := rfl
theorem RoundTrip.tagV_15 (w : Nat) :
    decodeTagV 0x15 w =
      (fixed w 2 0 0x0 (some (.vsub (fld 6 18 w) (fld 6 12 w) (fld 6 6 w) (fld 2 4 w) (fld 1 3 w)))) := rfl
theorem RoundTrip.tagV_16 (w : Nat) :
    decodeTagV 0x16 w =
      (fixed w 2 0 0x0 (some (.vmul (fld 6 18 w) (fld 6 12 w) (fld 6 6 w) (fld 2 4 w) (fld 1 3 w)))) := rfl
theorem RoundTrip.tagV_17 (w : Nat) :
    decodeTagV 0x17 w =
      (fixed w 2 0 0x0 (some (.vmin (fld 6 18 w) (fld 6 12 w) (fld 6 6 w) (fld 2 4 w) (fld 1 3 w)))) := rfl
theorem RoundTrip.tagV_18 (w : Nat) :
    decodeTagV 0x18 w =
      (fixed w 2 0 0x0 (some (.vmax (fld 6 18 w) (fld 6 12 w) (fld 6 6 w) (fld 2 4 w) (fld 1 3 w)))) := rfl
theorem RoundTrip.tagV_1A (w : Nat) :
    decodeTagV 0x1A w =
      (fixed w 2 1 0x0 (some (.viadd (fld 6 18 w) (fld 6 12 w) (fld 6 6 w) (fld 2 4 w) (fld 1 3 w) (fld 1 0 w)))) := rfl
theorem RoundTrip.tagV_1B (w : Nat) :
    decodeTagV 0x1B w =
      (fixed w 2 1 0x0 (some (.visub (fld 6 18 w) (fld 6 12 w) (fld 6 6 w) (fld 2 4 w) (fld 1 3 w) (fld 1 0 w)))) := rfl
theorem RoundTrip.tagV_1C (w : Nat) :
    decodeTagV 0x1C w =
      (fixed w 2 1 0x0 (some (.vimul (fld 6 18 w) (fld 6 12 w) (fld 6 6 w) (fld 2 4 w) (fld 1 3 w) (fld 1 0 w)))) := rfl
theorem RoundTrip.tagV_1D (w : Nat) :
    decodeTagV 0x1D w =
      (fixed w 2 0 0x0 (some (.vand (fld 6 18 w) (fld 6 12 w) (fld 6 6 w) (fld 2 4 w) (fld 1 3 w)))) := rfl
theorem RoundTrip.tagV_1E (w : Nat) :
    decodeTagV 0x1E w =
      (fixed w 2 0 0x0 (some (.vor (fld 6 18 w) (fld 6 12 w) (fld 6 6 w) (fld 2 4 w) (fld 1 3 w)))) := rfl
theorem RoundTrip.tagV_1F (w : Nat) :
    decodeTagV 0x1F w =
      (fixed w 2 0 0x0 (some (.vxor (fld 6 18 w) (fld 6 12 w) (fld 6 6 w) (fld 2 4 w) (fld 1 3 w)))) := rfl
theorem RoundTrip.tagV_20 (w : Nat) :
    decodeTagV 0x20 w =
      (fixed w 2 1 0x0 (some (.vshl (fld 6 18 w) (fld 6 12 w) (fld 6 6 w) (fld 2 4 w) (fld 1 3 w) (fld 1 0 w)))) := rfl
theorem RoundTrip.tagV_21 (w : Nat) :
    decodeTagV 0x21 w =
      (fixed w 2 1 0x0 (some (.vshr (fld 6 18 w) (fld 6 12 w) (fld 6 6 w) (fld 2 4 w) (fld 1 3 w) (fld 1 0 w)))) := rfl
theorem RoundTrip.tagV_22 (w : Nat) :
    decodeTagV 0x22 w =
      (fixed w 2 1 0x0 (some (.vsar (fld 6 18 w) (fld 6 12 w) (fld 6 6 w) (fld 2 4 w) (fld 1 3 w) (fld 1 0 w)))) := rfl
theorem RoundTrip.tagV_23 (w : Nat) :
    decodeTagV 0x23 w =
      (fixed w 23 18 0x0 (some (.vcmp (fld 6 12 w) (fld 6 6 w) (fld 2 4 w) (fld 1 3 w) (fld 3 0 w)))) := rfl
theorem RoundTrip.tagV_24 (w : Nat) :
    decodeTagV 0x24 w =
      (fixed w 23 0 0x0 (some .vmpop)) := rfl
theorem RoundTrip.tagV_25 (w : Nat) :
    decodeTagV 0x25 w =
      (fixed w 23 0 0x0 (some .vminv)) := rfl
theorem RoundTrip.tagV_26 (w : Nat) :
    decodeTagV 0x26 w =
      (fixed w 23 18 0x0 <| fixed w 11 6 0x0 <| fixed w 2 0 0x0 (some (.vmand (fld 6 12 w) (fld 2 4 w) (fld 1 3 w)))) := rfl
theorem RoundTrip.tagV_27 (w : Nat) :
    decodeTagV 0x27 w =
      (fixed w 2 0 0x0 (some (.vsel (fld 6 18 w) (fld 6 12 w) (fld 6 6 w) (fld 2 4 w) (fld 1 3 w)))) := rfl
theorem RoundTrip.tagV_28 (w : Nat) :
    decodeTagV 0x28 w =
      (fixed w 23 6 0x0 <| fixed w 2 0 0x0 (some (.vany (fld 2 4 w) (fld 1 3 w)))) := rfl
theorem RoundTrip.tagV_29 (w : Nat) :
    decodeTagV 0x29 w =
      (fixed w 23 6 0x0 <| fixed w 2 0 0x0 (some (.vall (fld 2 4 w) (fld 1 3 w)))) := rfl
theorem RoundTrip.tagV_2A (w : Nat) :
    decodeTagV 0x2A w =
      (fixed w 2 2 0x0 (some (.vcvtFlt (fld 6 18 w) (fld 6 12 w) (fld 6 6 w) (fld 2 4 w) (fld 1 3 w) (fld 2 0 w)))) := rfl
theorem RoundTrip.tagV_2B (w : Nat) :
    decodeTagV 0x2B w =
      (fixed w 2 2 0x0 (some (.vcvtInt (fld 6 18 w) (fld 6 12 w) (fld 6 6 w) (fld 2 4 w) (fld 1 3 w) (fld 2 0 w)))) := rfl
theorem RoundTrip.tagV_2C (w : Nat) :
    decodeTagV 0x2C w =
      (fixed w 2 0 0x0 (some (.vdq (fld 6 18 w) (fld 6 12 w) (fld 6 6 w) (fld 2 4 w) (fld 1 3 w)))) := rfl
theorem RoundTrip.tagV_2D (w : Nat) :
    decodeTagV 0x2D w =
      (fixed w 11 6 0x0 <| fixed w 2 1 0x0 (some (.vamax (fld 6 18 w) (fld 6 12 w) (fld 2 4 w) (fld 1 3 w) (fld 1 0 w)))) := rfl
theorem RoundTrip.tagV_2E (w : Nat) :
    decodeTagV 0x2E w =
      (fixed w 2 1 0x0 (some (.vscl (fld 6 18 w) (fld 6 12 w) (fld 6 6 w) (fld 2 4 w) (fld 1 3 w) (fld 1 0 w)))) := rfl
theorem RoundTrip.tagV_2F (w : Nat) :
    decodeTagV 0x2F w =
      (fixed w 11 6 0x0 <| fixed w 2 1 0x0 (some (.vrsum (fld 6 18 w) (fld 6 12 w) (fld 2 4 w) (fld 1 3 w) (fld 1 0 w)))) := rfl
theorem RoundTrip.tagV_30 (w : Nat) :
    decodeTagV 0x30 w =
      (fixed w 11 6 0x0 <| fixed w 2 1 0x0 (some (.vrmax (fld 6 18 w) (fld 6 12 w) (fld 2 4 w) (fld 1 3 w) (fld 1 0 w)))) := rfl
theorem RoundTrip.tagV_31 (w : Nat) :
    decodeTagV 0x31 w =
      (fixed w 11 6 0x0 <| fixed w 2 1 0x0 (some (.vrmin (fld 6 18 w) (fld 6 12 w) (fld 2 4 w) (fld 1 3 w) (fld 1 0 w)))) := rfl
theorem RoundTrip.tagV_32 (w : Nat) :
    decodeTagV 0x32 w =
      (fixed w 11 6 0x0 <| fixed w 2 0 0x0 (some (.vmov (fld 6 18 w) (fld 6 12 w) (fld 2 4 w) (fld 1 3 w)))) := rfl
theorem RoundTrip.tagV_33 (w : Nat) :
    decodeTagV 0x33 w =
      (fixed w 11 6 0x0 (some (.vbcast (fld 6 18 w) (fld 6 12 w) (fld 2 4 w) (fld 1 3 w) (fld 3 0 w)))) := rfl
theorem RoundTrip.tagV_34 (w : Nat) :
    decodeTagV 0x34 w =
      (fixed w 17 6 0x0 (some (.viota (fld 6 18 w) (fld 2 4 w) (fld 1 3 w) (fld 3 0 w)))) := rfl
theorem RoundTrip.tagV_35 (w : Nat) :
    decodeTagV 0x35 w =
      (fixed w 2 0 0x0 (some (.vld (fld 6 18 w) (fld 6 12 w) (fld 6 6 w) (fld 2 4 w) (fld 1 3 w)))) := rfl
theorem RoundTrip.tagV_36 (w : Nat) :
    decodeTagV 0x36 w =
      (fixed w 2 0 0x0 (some (.vst (fld 6 18 w) (fld 6 12 w) (fld 6 6 w) (fld 2 4 w) (fld 1 3 w)))) := rfl
theorem RoundTrip.tagV_37 (w : Nat) :
    decodeTagV 0x37 w =
      (fixed w 2 0 0x0 (some (.vldx (fld 6 18 w) (fld 6 12 w) (fld 6 6 w) (fld 2 4 w) (fld 1 3 w)))) := rfl
theorem RoundTrip.tagV_38 (w : Nat) :
    decodeTagV 0x38 w =
      (fixed w 2 0 0x0 (some (.vstx (fld 6 18 w) (fld 6 12 w) (fld 6 6 w) (fld 2 4 w) (fld 1 3 w)))) := rfl
theorem RoundTrip.tagV_39 (w : Nat) :
    decodeTagV 0x39 w =
      (fixed w 11 6 0x0 <| fixed w 2 0 0x0 (some (.vtrn (fld 6 18 w) (fld 6 12 w) (fld 2 4 w) (fld 1 3 w)))) := rfl
theorem RoundTrip.tagV_3A (w : Nat) :
    decodeTagV 0x3A w =
      (fixed w 2 0 0x0 (some (.vperm (fld 6 18 w) (fld 6 12 w) (fld 6 6 w) (fld 2 4 w) (fld 1 3 w)))) := rfl
theorem RoundTrip.tagV_3B (w : Nat) :
    decodeTagV 0x3B w =
      (fixed w 2 0 0x0 (some (.vrng (fld 6 18 w) (fld 6 12 w) (fld 6 6 w) (fld 2 4 w) (fld 1 3 w)))) := rfl
theorem RoundTrip.tagV_3D (w : Nat) :
    decodeTagV 0x3D w =
      (fixed w 5 0 0x0 (some (.kwaitV (fld 6 18 w) (fld 12 6 w)))) := rfl
theorem RoundTrip.tagV_3E (w : Nat) :
    decodeTagV 0x3E w =
      (fixed w 5 0 0x0 (some (.ksigV (fld 6 18 w) (fld 12 6 w)))) := rfl
theorem RoundTrip.tagM_00 (w : Nat) :
    decodeTagM 0x00 w =
      (fixed w 23 21 0x0 <| fixed w 17 16 0x0 <| fixed w 2 0 0x0 (some (.mldb (fld 2 19 w) (fld 1 18 w) (fld 1 15 w) (fld 12 3 w)))) := rfl
theorem RoundTrip.tagM_01 (w : Nat) :
    decodeTagM 0x01 w =
      (fixed w 17 15 0x0 <| fixed w 2 0 0x0 (some (.mma (fld 3 21 w) (fld 2 19 w) (fld 1 18 w) (fld 12 3 w)))) := rfl
theorem RoundTrip.tagM_02 (w : Nat) :
    decodeTagM 0x02 w =
      (fixed w 17 15 0x0 <| fixed w 2 0 0x0 (some (.mmaT (fld 3 21 w) (fld 2 19 w) (fld 1 18 w) (fld 12 3 w)))) := rfl
theorem RoundTrip.tagM_03 (w : Nat) :
    decodeTagM 0x03 w =
      (fixed w 17 15 0x0 <| fixed w 2 0 0x0 (some (.mzero (fld 3 21 w) (fld 2 19 w) (fld 1 18 w) (fld 12 3 w)))) := rfl
theorem RoundTrip.tagM_04 (w : Nat) :
    decodeTagM 0x04 w =
      (fixed w 17 16 0x0 <| fixed w 2 0 0x0 (some (.minit (fld 3 21 w) (fld 2 19 w) (fld 1 18 w) (fld 1 15 w) (fld 12 3 w)))) := rfl
theorem RoundTrip.tagM_05 (w : Nat) :
    decodeTagM 0x05 w =
      (fixed w 17 17 0x0 (some (.mdrain (fld 3 21 w) (fld 2 19 w) (fld 1 18 w) (fld 1 16 w) (fld 1 15 w) (fld 12 3 w) (fld 1 2 w) (fld 2 0 w)))) := rfl
theorem RoundTrip.tagM_06 (w : Nat) :
    decodeTagM 0x06 w =
      (some (.mdrainv (fld 3 21 w) (fld 2 19 w) (fld 1 18 w) (fld 3 15 w) (fld 12 3 w) (fld 3 0 w))) := rfl
theorem RoundTrip.tagM_07 (w : Nat) :
    decodeTagM 0x07 w =
      (fixed w 17 15 0x0 <| fixed w 2 0 0x0 (some (.mzp (fld 3 21 w) (fld 2 19 w) (fld 1 18 w) (fld 12 3 w)))) := rfl
theorem RoundTrip.tagM_08 (w : Nat) :
    decodeTagM 0x08 w =
      (fixed w 23 15 0x0 <| fixed w 2 0 0x0 (some (.mpri (fld 12 3 w)))) := rfl
theorem RoundTrip.tagM_09 (w : Nat) :
    decodeTagM 0x09 w =
      (fixed w 20 15 0x0 <| fixed w 2 1 0x0 (some (.kwaitM (fld 3 21 w) (fld 12 3 w) (fld 1 0 w)))) := rfl
theorem RoundTrip.tagM_0A (w : Nat) :
    decodeTagM 0x0A w =
      (fixed w 20 15 0x0 <| fixed w 2 1 0x0 (some (.ksigM (fld 3 21 w) (fld 12 3 w) (fld 1 0 w)))) := rfl
theorem RoundTrip.tagA_00 (w : Nat) :
    decodeTagA 0x00 w =
      (fixed w 17 12 0x0 <| fixed w 5 0 0x0 (some (.sload (fld 6 18 w) (fld 2 10 w) (fld 1 9 w) (fld 3 6 w)))) := rfl
theorem RoundTrip.tagA_01 (w : Nat) :
    decodeTagA 0x01 w =
      (fixed w 17 12 0x0 <| fixed w 8 0 0x0 (some (.sstore (fld 6 18 w) (fld 2 10 w) (fld 1 9 w)))) := rfl
theorem RoundTrip.tagA_02 (w : Nat) :
    decodeTagA 0x02 w =
      (fixed w 8 0 0x0 (some (.spair (fld 6 18 w) (fld 6 12 w) (fld 2 10 w) (fld 1 9 w)))) := rfl
theorem RoundTrip.tagA_03 (w : Nat) :
    decodeTagA 0x03 w =
      (fixed w 5 1 0x0 (some (.sgath (fld 6 18 w) (fld 6 12 w) (fld 2 10 w) (fld 1 9 w) (fld 3 6 w) (fld 1 0 w)))) := rfl
theorem RoundTrip.tagA_04 (w : Nat) :
    decodeTagA 0x04 w =
      (fixed w 8 1 0x0 (some (.sscat (fld 6 18 w) (fld 6 12 w) (fld 2 10 w) (fld 1 9 w) (fld 1 0 w)))) := rfl
theorem RoundTrip.tagA_05 (w : Nat) :
    decodeTagA 0x05 w =
      (fixed w 5 4 0x0 (some (.swin (fld 6 18 w) (fld 6 12 w) (fld 2 10 w) (fld 1 9 w) (fld 3 6 w) (fld 2 2 w) (fld 2 0 w)))) := rfl
theorem RoundTrip.tagA_06 (w : Nat) :
    decodeTagA 0x06 w =
      (fixed w 8 5 0x0 (some (.smcast (fld 6 18 w) (fld 6 12 w) (fld 2 10 w) (fld 1 9 w) (fld 1 4 w) (fld 4 0 w)))) := rfl
theorem RoundTrip.tagA_07 (w : Nat) :
    decodeTagA 0x07 w =
      (fixed w 8 4 0x0 (some (.sput (fld 6 18 w) (fld 6 12 w) (fld 2 10 w) (fld 1 9 w) (fld 4 0 w)))) := rfl
theorem RoundTrip.tagA_09 (w : Nat) :
    decodeTagA 0x09 w =
      (fixed w 11 6 0x0 (some (.kwaitA (fld 6 18 w) (fld 6 12 w) (fld 6 0 w)))) := rfl
theorem RoundTrip.tagA_0A (w : Nat) :
    decodeTagA 0x0A w =
      (fixed w 11 6 0x0 (some (.ksigA (fld 6 18 w) (fld 6 12 w) (fld 6 0 w)))) := rfl
theorem RoundTrip.tagA_0B (w : Nat) :
    decodeTagA 0x0B w =
      (fixed w 17 4 0x0 (some (.cqpush (fld 6 18 w) (fld 4 0 w)))) := rfl
theorem RoundTrip.tagA_10 (w : Nat) :
    decodeTagA 0x10 w =
      (fixed w 17 12 0x0 <| fixed w 8 3 0x0 (some (.wcopy (fld 6 18 w) (fld 2 10 w) (fld 1 9 w) (fld 3 0 w)))) := rfl
theorem RoundTrip.tagA_11 (w : Nat) :
    decodeTagA 0x11 w =
      (fixed w 8 3 0x0 (some (.wlayout (fld 6 18 w) (fld 6 12 w) (fld 2 10 w) (fld 1 9 w) (fld 3 0 w)))) := rfl
theorem RoundTrip.tagA_12 (w : Nat) :
    decodeTagA 0x12 w =
      (fixed w 17 3 0x0 (some (.woff (fld 6 18 w) (fld 3 0 w)))) := rfl
theorem RoundTrip.tagA_13 (w : Nat) :
    decodeTagA 0x13 w =
      (fixed w 17 3 0x0 (some (.wret (fld 6 18 w) (fld 3 0 w)))) := rfl
theorem RoundTrip.tagA_14 (w : Nat) :
    decodeTagA 0x14 w =
      (fixed w 17 3 0x0 (some (.wenc (fld 6 18 w) (fld 3 0 w)))) := rfl
theorem RoundTrip.tagA_15 (w : Nat) :
    decodeTagA 0x15 w =
      (fixed w 11 3 0x0 (some (.wcsum (fld 6 18 w) (fld 6 12 w) (fld 3 0 w)))) := rfl
theorem RoundTrip.tagA_16 (w : Nat) :
    decodeTagA 0x16 w =
      (fixed w 11 3 0x0 (some (.wdec (fld 6 18 w) (fld 6 12 w) (fld 3 0 w)))) := rfl
theorem RoundTrip.tagA_17 (w : Nat) :
    decodeTagA 0x17 w =
      (fixed w 11 3 0x0 (some (.wnvme (fld 6 18 w) (fld 6 12 w) (fld 3 0 w)))) := rfl
theorem RoundTrip.tagA_18 (w : Nat) :
    decodeTagA 0x18 w =
      (fixed w 11 3 0x0 (some (.wfill (fld 6 18 w) (fld 6 12 w) (fld 3 0 w)))) := rfl

/-! ### The constructors -/

theorem RoundTrip.bprep (t : BitVec 3) (o : BitVec 18) : RoundTrip.Statement (.bprep t o) := by
  have h0 := t.isLt; have h1 := o.isLt
  refine RoundTrip.of_word (n := 0x01000000 + place t 21 + place o 0) rfl (fun z hz => ?_)
  simp only [place] at hz
  rw [RoundTrip.decode_S (m := 0x01) (by omega) (by omega) (by omega)]
  have f0 : field z 20 18 = 0 := by unfold field; omega
  simp only [RoundTrip.tagS_01, fixed, f0, reduceIte]
  rw [RoundTrip.fld_eq (x := t) (by omega)]
  rw [RoundTrip.fld_eq (x := o) (by omega)]
theorem RoundTrip.bprepg (d : BitVec 6) (a : BitVec 6) (i : BitVec 12) : RoundTrip.Statement (.bprepg d a i) := by
  have h0 := d.isLt; have h1 := a.isLt; have h2 := i.isLt
  refine RoundTrip.of_word (n := 0x02000000 + place d 18 + place a 12 + place i 0) rfl (fun z hz => ?_)
  simp only [place] at hz
  rw [RoundTrip.decode_S (m := 0x02) (by omega) (by omega) (by omega)]
  simp only [RoundTrip.tagS_02]
  rw [RoundTrip.fld_eq (x := d) (by omega)]
  rw [RoundTrip.fld_eq (x := a) (by omega)]
  rw [RoundTrip.fld_eq (x := i) (by omega)]
theorem RoundTrip.blink (t : BitVec 3) (l : BitVec 3) : RoundTrip.Statement (.blink t l) := by
  have h0 := t.isLt; have h1 := l.isLt
  refine RoundTrip.of_word (n := 0x03000000 + place t 21 + place l 18) rfl (fun z hz => ?_)
  simp only [place] at hz
  rw [RoundTrip.decode_S (m := 0x03) (by omega) (by omega) (by omega)]
  have f0 : field z 17 0 = 0 := by unfold field; omega
  simp only [RoundTrip.tagS_03, fixed, f0, reduceIte]
  rw [RoundTrip.fld_eq (x := t) (by omega)]
  rw [RoundTrip.fld_eq (x := l) (by omega)]
theorem RoundTrip.bgo (p : BitVec 1) (t : BitVec 3) (f : BitVec 3) : RoundTrip.Statement (.bgo p t f) := by
  have h0 := p.isLt; have h1 := t.isLt; have h2 := f.isLt
  refine RoundTrip.of_word (n := 0x04000000 + place p 24 + place t 21 + place f 18) rfl (fun z hz => ?_)
  simp only [place] at hz
  rcases (by omega : p.toNat = 0 ∨ p.toNat = 1) with hp | hp
  · rw [RoundTrip.decode_S (m := 0x04) (by omega) (by omega) (by omega)]
    have f0 : field z 17 0 = 0 := by unfold field; omega
    simp only [RoundTrip.tagS_04, fixed, f0, reduceIte]
    rw [RoundTrip.fld_eq (x := p) (by omega)]
    rw [RoundTrip.fld_eq (x := t) (by omega)]
    rw [RoundTrip.fld_eq (x := f) (by omega)]
  · rw [RoundTrip.decode_S (m := 0x05) (by omega) (by omega) (by omega)]
    have f0 : field z 17 0 = 0 := by unfold field; omega
    simp only [RoundTrip.tagS_05, fixed, f0, reduceIte]
    rw [RoundTrip.fld_eq (x := p) (by omega)]
    rw [RoundTrip.fld_eq (x := t) (by omega)]
    rw [RoundTrip.fld_eq (x := f) (by omega)]
theorem RoundTrip.lset (s : BitVec 3) (l : BitVec 3) (a : BitVec 6) (i : BitVec 12) : RoundTrip.Statement (.lset s l a i) := by
  have h0 := s.isLt; have h1 := l.isLt; have h2 := a.isLt; have h3 := i.isLt
  refine RoundTrip.of_word (n := 0x06000000 + place s 21 + place l 18 + place a 12 + place i 0) rfl (fun z hz => ?_)
  simp only [place] at hz
  rw [RoundTrip.decode_S (m := 0x06) (by omega) (by omega) (by omega)]
  simp only [RoundTrip.tagS_06]
  rw [RoundTrip.fld_eq (x := s) (by omega)]
  rw [RoundTrip.fld_eq (x := l) (by omega)]
  rw [RoundTrip.fld_eq (x := a) (by omega)]
  rw [RoundTrip.fld_eq (x := i) (by omega)]
theorem RoundTrip.lstep (d : BitVec 6) (a : BitVec 6) (i : BitVec 12) : RoundTrip.Statement (.lstep d a i) := by
  have h0 := d.isLt; have h1 := a.isLt; have h2 := i.isLt
  refine RoundTrip.of_word (n := 0x07000000 + place d 18 + place a 12 + place i 0) rfl (fun z hz => ?_)
  simp only [place] at hz
  rw [RoundTrip.decode_S (m := 0x07) (by omega) (by omega) (by omega)]
  simp only [RoundTrip.tagS_07]
  rw [RoundTrip.fld_eq (x := d) (by omega)]
  rw [RoundTrip.fld_eq (x := a) (by omega)]
  rw [RoundTrip.fld_eq (x := i) (by omega)]
theorem RoundTrip.lonlyFirst (l : BitVec 3) (n : BitVec 12) : RoundTrip.Statement (.lonlyFirst l n) := by
  have h0 := l.isLt; have h1 := n.isLt
  refine RoundTrip.of_word (n := 0x08000000 + place l 18 + place n 0) rfl (fun z hz => ?_)
  simp only [place] at hz
  rw [RoundTrip.decode_S (m := 0x08) (by omega) (by omega) (by omega)]
  show decodeMajor08 _ = _
  have f0 : field z 23 21 = 0 := by unfold field; omega
  have f1 : field z 17 12 = 0 := by unfold field; omega
  simp only [decodeMajor08, fixed, f0, f1, reduceIte, Nat.reduceEqDiff, RoundTrip.none_or, RoundTrip.some_or]
  rw [RoundTrip.fld_eq (x := l) (by omega)]
  rw [RoundTrip.fld_eq (x := n) (by omega)]
theorem RoundTrip.lonlyLast (l : BitVec 3) (n : BitVec 12) : RoundTrip.Statement (.lonlyLast l n) := by
  have h0 := l.isLt; have h1 := n.isLt
  refine RoundTrip.of_word (n := 0x08200000 + place l 18 + place n 0) rfl (fun z hz => ?_)
  simp only [place] at hz
  rw [RoundTrip.decode_S (m := 0x08) (by omega) (by omega) (by omega)]
  show decodeMajor08 _ = _
  have f0 : field z 23 21 = 1 := by unfold field; omega
  have f1 : field z 17 12 = 0 := by unfold field; omega
  simp only [decodeMajor08, fixed, f0, f1, reduceIte, Nat.reduceEqDiff, RoundTrip.none_or, RoundTrip.some_or]
  rw [RoundTrip.fld_eq (x := l) (by omega)]
  rw [RoundTrip.fld_eq (x := n) (by omega)]
theorem RoundTrip.lonlyStage (l : BitVec 3) (s : BitVec 6) (n : BitVec 12) : RoundTrip.Statement (.lonlyStage l s n) := by
  have h0 := l.isLt; have h1 := s.isLt; have h2 := n.isLt
  refine RoundTrip.of_word (n := 0x08400000 + place l 18 + place s 12 + place n 0) rfl (fun z hz => ?_)
  simp only [place] at hz
  rw [RoundTrip.decode_S (m := 0x08) (by omega) (by omega) (by omega)]
  show decodeMajor08 _ = _
  have f0 : field z 23 21 = 2 := by unfold field; omega
  simp only [decodeMajor08, fixed, f0, reduceIte, Nat.reduceEqDiff, RoundTrip.none_or]
  rw [RoundTrip.fld_eq (x := l) (by omega)]
  rw [RoundTrip.fld_eq (x := s) (by omega)]
  rw [RoundTrip.fld_eq (x := n) (by omega)]
theorem RoundTrip.rotset (i : BitVec 12) : RoundTrip.Statement (.rotset i) := by
  have h0 := i.isLt
  refine RoundTrip.of_word (n := 0x09000000 + place i 0) rfl (fun z hz => ?_)
  simp only [place] at hz
  rw [RoundTrip.decode_S (m := 0x09) (by omega) (by omega) (by omega)]
  have f0 : field z 23 12 = 0 := by unfold field; omega
  simp only [RoundTrip.tagS_09, fixed, f0, reduceIte]
  rw [RoundTrip.fld_eq (x := i) (by omega)]
theorem RoundTrip.rgn (s : BitVec 1) (a : BitVec 6) (i : BitVec 12) : RoundTrip.Statement (.rgn s a i) := by
  have h0 := s.isLt; have h1 := a.isLt; have h2 := i.isLt
  refine RoundTrip.of_word (n := 0x0A000000 + place s 18 + place a 12 + place i 0) rfl (fun z hz => ?_)
  simp only [place] at hz
  rw [RoundTrip.decode_S (m := 0x0A) (by omega) (by omega) (by omega)]
  have f0 : field z 23 19 = 0 := by unfold field; omega
  simp only [RoundTrip.tagS_0A, fixed, f0, reduceIte]
  rw [RoundTrip.fld_eq (x := s) (by omega)]
  rw [RoundTrip.fld_eq (x := a) (by omega)]
  rw [RoundTrip.fld_eq (x := i) (by omega)]
theorem RoundTrip.halt (a : BitVec 6) : RoundTrip.Statement (.halt a) := by
  have h0 := a.isLt
  refine RoundTrip.of_word (n := 0x0D000000 + place a 12) rfl (fun z hz => ?_)
  simp only [place] at hz
  rw [RoundTrip.decode_S (m := 0x0D) (by omega) (by omega) (by omega)]
  have f0 : field z 23 18 = 0 := by unfold field; omega
  have f1 : field z 11 0 = 0 := by unfold field; omega
  simp only [RoundTrip.tagS_0D, fixed, f0, f1, reduceIte]
  rw [RoundTrip.fld_eq (x := a) (by omega)]
theorem RoundTrip.icinv (d : BitVec 6) (a : BitVec 6) (i : BitVec 12) : RoundTrip.Statement (.icinv d a i) := by
  have h0 := d.isLt; have h1 := a.isLt; have h2 := i.isLt
  refine RoundTrip.of_word (n := 0x0E000000 + place d 18 + place a 12 + place i 0) rfl (fun z hz => ?_)
  simp only [place] at hz
  rw [RoundTrip.decode_S (m := 0x0E) (by omega) (by omega) (by omega)]
  simp only [RoundTrip.tagS_0E]
  rw [RoundTrip.fld_eq (x := d) (by omega)]
  rw [RoundTrip.fld_eq (x := a) (by omega)]
  rw [RoundTrip.fld_eq (x := i) (by omega)]
theorem RoundTrip.add (d : BitVec 6) (a : BitVec 6) (b : BitVec 6) : RoundTrip.Statement (.add d a b) := by
  have h0 := d.isLt; have h1 := a.isLt; have h2 := b.isLt
  refine RoundTrip.of_word (n := 0x10000000 + place d 18 + place a 12 + place b 6) rfl (fun z hz => ?_)
  simp only [place] at hz
  rw [RoundTrip.decode_S (m := 0x10) (by omega) (by omega) (by omega)]
  show decodeMajor10 _ = _
  have f0 : field z 5 0 = 0 := by unfold field; omega
  simp only [decodeMajor10, fixed, f0, reduceIte, Nat.reduceEqDiff, RoundTrip.none_or, RoundTrip.some_or]
  rw [RoundTrip.fld_eq (x := d) (by omega)]
  rw [RoundTrip.fld_eq (x := a) (by omega)]
  rw [RoundTrip.fld_eq (x := b) (by omega)]
theorem RoundTrip.sub (d : BitVec 6) (a : BitVec 6) (b : BitVec 6) : RoundTrip.Statement (.sub d a b) := by
  have h0 := d.isLt; have h1 := a.isLt; have h2 := b.isLt
  refine RoundTrip.of_word (n := 0x10000001 + place d 18 + place a 12 + place b 6) rfl (fun z hz => ?_)
  simp only [place] at hz
  rw [RoundTrip.decode_S (m := 0x10) (by omega) (by omega) (by omega)]
  show decodeMajor10 _ = _
  have f0 : field z 5 0 = 1 := by unfold field; omega
  simp only [decodeMajor10, fixed, f0, reduceIte, Nat.reduceEqDiff, RoundTrip.none_or, RoundTrip.some_or]
  rw [RoundTrip.fld_eq (x := d) (by omega)]
  rw [RoundTrip.fld_eq (x := a) (by omega)]
  rw [RoundTrip.fld_eq (x := b) (by omega)]
theorem RoundTrip.and (d : BitVec 6) (a : BitVec 6) (b : BitVec 6) : RoundTrip.Statement (.and d a b) := by
  have h0 := d.isLt; have h1 := a.isLt; have h2 := b.isLt
  refine RoundTrip.of_word (n := 0x10000002 + place d 18 + place a 12 + place b 6) rfl (fun z hz => ?_)
  simp only [place] at hz
  rw [RoundTrip.decode_S (m := 0x10) (by omega) (by omega) (by omega)]
  show decodeMajor10 _ = _
  have f0 : field z 5 0 = 2 := by unfold field; omega
  simp only [decodeMajor10, fixed, f0, reduceIte, Nat.reduceEqDiff, RoundTrip.none_or, RoundTrip.some_or]
  rw [RoundTrip.fld_eq (x := d) (by omega)]
  rw [RoundTrip.fld_eq (x := a) (by omega)]
  rw [RoundTrip.fld_eq (x := b) (by omega)]
theorem RoundTrip.or (d : BitVec 6) (a : BitVec 6) (b : BitVec 6) : RoundTrip.Statement (.or d a b) := by
  have h0 := d.isLt; have h1 := a.isLt; have h2 := b.isLt
  refine RoundTrip.of_word (n := 0x10000003 + place d 18 + place a 12 + place b 6) rfl (fun z hz => ?_)
  simp only [place] at hz
  rw [RoundTrip.decode_S (m := 0x10) (by omega) (by omega) (by omega)]
  show decodeMajor10 _ = _
  have f0 : field z 5 0 = 3 := by unfold field; omega
  simp only [decodeMajor10, fixed, f0, reduceIte, Nat.reduceEqDiff, RoundTrip.none_or, RoundTrip.some_or]
  rw [RoundTrip.fld_eq (x := d) (by omega)]
  rw [RoundTrip.fld_eq (x := a) (by omega)]
  rw [RoundTrip.fld_eq (x := b) (by omega)]
theorem RoundTrip.xor (d : BitVec 6) (a : BitVec 6) (b : BitVec 6) : RoundTrip.Statement (.xor d a b) := by
  have h0 := d.isLt; have h1 := a.isLt; have h2 := b.isLt
  refine RoundTrip.of_word (n := 0x10000004 + place d 18 + place a 12 + place b 6) rfl (fun z hz => ?_)
  simp only [place] at hz
  rw [RoundTrip.decode_S (m := 0x10) (by omega) (by omega) (by omega)]
  show decodeMajor10 _ = _
  have f0 : field z 5 0 = 4 := by unfold field; omega
  simp only [decodeMajor10, fixed, f0, reduceIte, Nat.reduceEqDiff, RoundTrip.none_or, RoundTrip.some_or]
  rw [RoundTrip.fld_eq (x := d) (by omega)]
  rw [RoundTrip.fld_eq (x := a) (by omega)]
  rw [RoundTrip.fld_eq (x := b) (by omega)]
theorem RoundTrip.shl (d : BitVec 6) (a : BitVec 6) (b : BitVec 6) : RoundTrip.Statement (.shl d a b) := by
  have h0 := d.isLt; have h1 := a.isLt; have h2 := b.isLt
  refine RoundTrip.of_word (n := 0x10000005 + place d 18 + place a 12 + place b 6) rfl (fun z hz => ?_)
  simp only [place] at hz
  rw [RoundTrip.decode_S (m := 0x10) (by omega) (by omega) (by omega)]
  show decodeMajor10 _ = _
  have f0 : field z 5 0 = 5 := by unfold field; omega
  simp only [decodeMajor10, fixed, f0, reduceIte, Nat.reduceEqDiff, RoundTrip.none_or, RoundTrip.some_or]
  rw [RoundTrip.fld_eq (x := d) (by omega)]
  rw [RoundTrip.fld_eq (x := a) (by omega)]
  rw [RoundTrip.fld_eq (x := b) (by omega)]
theorem RoundTrip.shr (d : BitVec 6) (a : BitVec 6) (b : BitVec 6) : RoundTrip.Statement (.shr d a b) := by
  have h0 := d.isLt; have h1 := a.isLt; have h2 := b.isLt
  refine RoundTrip.of_word (n := 0x10000006 + place d 18 + place a 12 + place b 6) rfl (fun z hz => ?_)
  simp only [place] at hz
  rw [RoundTrip.decode_S (m := 0x10) (by omega) (by omega) (by omega)]
  show decodeMajor10 _ = _
  have f0 : field z 5 0 = 6 := by unfold field; omega
  simp only [decodeMajor10, fixed, f0, reduceIte, Nat.reduceEqDiff, RoundTrip.none_or, RoundTrip.some_or]
  rw [RoundTrip.fld_eq (x := d) (by omega)]
  rw [RoundTrip.fld_eq (x := a) (by omega)]
  rw [RoundTrip.fld_eq (x := b) (by omega)]
theorem RoundTrip.sar (d : BitVec 6) (a : BitVec 6) (b : BitVec 6) : RoundTrip.Statement (.sar d a b) := by
  have h0 := d.isLt; have h1 := a.isLt; have h2 := b.isLt
  refine RoundTrip.of_word (n := 0x10000007 + place d 18 + place a 12 + place b 6) rfl (fun z hz => ?_)
  simp only [place] at hz
  rw [RoundTrip.decode_S (m := 0x10) (by omega) (by omega) (by omega)]
  show decodeMajor10 _ = _
  have f0 : field z 5 0 = 7 := by unfold field; omega
  simp only [decodeMajor10, fixed, f0, reduceIte, Nat.reduceEqDiff, RoundTrip.none_or, RoundTrip.some_or]
  rw [RoundTrip.fld_eq (x := d) (by omega)]
  rw [RoundTrip.fld_eq (x := a) (by omega)]
  rw [RoundTrip.fld_eq (x := b) (by omega)]
theorem RoundTrip.mul (d : BitVec 6) (a : BitVec 6) (b : BitVec 6) : RoundTrip.Statement (.mul d a b) := by
  have h0 := d.isLt; have h1 := a.isLt; have h2 := b.isLt
  refine RoundTrip.of_word (n := 0x10000008 + place d 18 + place a 12 + place b 6) rfl (fun z hz => ?_)
  simp only [place] at hz
  rw [RoundTrip.decode_S (m := 0x10) (by omega) (by omega) (by omega)]
  show decodeMajor10 _ = _
  have f0 : field z 5 0 = 8 := by unfold field; omega
  simp only [decodeMajor10, fixed, f0, reduceIte, Nat.reduceEqDiff, RoundTrip.none_or, RoundTrip.some_or]
  rw [RoundTrip.fld_eq (x := d) (by omega)]
  rw [RoundTrip.fld_eq (x := a) (by omega)]
  rw [RoundTrip.fld_eq (x := b) (by omega)]
theorem RoundTrip.mulh (d : BitVec 6) (a : BitVec 6) (b : BitVec 6) : RoundTrip.Statement (.mulh d a b) := by
  have h0 := d.isLt; have h1 := a.isLt; have h2 := b.isLt
  refine RoundTrip.of_word (n := 0x10000009 + place d 18 + place a 12 + place b 6) rfl (fun z hz => ?_)
  simp only [place] at hz
  rw [RoundTrip.decode_S (m := 0x10) (by omega) (by omega) (by omega)]
  show decodeMajor10 _ = _
  have f0 : field z 5 0 = 9 := by unfold field; omega
  simp only [decodeMajor10, fixed, f0, reduceIte, Nat.reduceEqDiff, RoundTrip.none_or, RoundTrip.some_or]
  rw [RoundTrip.fld_eq (x := d) (by omega)]
  rw [RoundTrip.fld_eq (x := a) (by omega)]
  rw [RoundTrip.fld_eq (x := b) (by omega)]
theorem RoundTrip.mulhn (d : BitVec 6) (a : BitVec 6) (b : BitVec 6) : RoundTrip.Statement (.mulhn d a b) := by
  have h0 := d.isLt; have h1 := a.isLt; have h2 := b.isLt
  refine RoundTrip.of_word (n := 0x1000000A + place d 18 + place a 12 + place b 6) rfl (fun z hz => ?_)
  simp only [place] at hz
  rw [RoundTrip.decode_S (m := 0x10) (by omega) (by omega) (by omega)]
  show decodeMajor10 _ = _
  have f0 : field z 5 0 = 10 := by unfold field; omega
  simp only [decodeMajor10, fixed, f0, reduceIte, Nat.reduceEqDiff, RoundTrip.none_or, RoundTrip.some_or]
  rw [RoundTrip.fld_eq (x := d) (by omega)]
  rw [RoundTrip.fld_eq (x := a) (by omega)]
  rw [RoundTrip.fld_eq (x := b) (by omega)]
theorem RoundTrip.div (d : BitVec 6) (a : BitVec 6) (b : BitVec 6) : RoundTrip.Statement (.div d a b) := by
  have h0 := d.isLt; have h1 := a.isLt; have h2 := b.isLt
  refine RoundTrip.of_word (n := 0x1000000B + place d 18 + place a 12 + place b 6) rfl (fun z hz => ?_)
  simp only [place] at hz
  rw [RoundTrip.decode_S (m := 0x10) (by omega) (by omega) (by omega)]
  show decodeMajor10 _ = _
  have f0 : field z 5 0 = 11 := by unfold field; omega
  simp only [decodeMajor10, fixed, f0, reduceIte, Nat.reduceEqDiff, RoundTrip.none_or, RoundTrip.some_or]
  rw [RoundTrip.fld_eq (x := d) (by omega)]
  rw [RoundTrip.fld_eq (x := a) (by omega)]
  rw [RoundTrip.fld_eq (x := b) (by omega)]
theorem RoundTrip.divn (d : BitVec 6) (a : BitVec 6) (b : BitVec 6) : RoundTrip.Statement (.divn d a b) := by
  have h0 := d.isLt; have h1 := a.isLt; have h2 := b.isLt
  refine RoundTrip.of_word (n := 0x1000000C + place d 18 + place a 12 + place b 6) rfl (fun z hz => ?_)
  simp only [place] at hz
  rw [RoundTrip.decode_S (m := 0x10) (by omega) (by omega) (by omega)]
  show decodeMajor10 _ = _
  have f0 : field z 5 0 = 12 := by unfold field; omega
  simp only [decodeMajor10, fixed, f0, reduceIte, Nat.reduceEqDiff, RoundTrip.none_or, RoundTrip.some_or]
  rw [RoundTrip.fld_eq (x := d) (by omega)]
  rw [RoundTrip.fld_eq (x := a) (by omega)]
  rw [RoundTrip.fld_eq (x := b) (by omega)]
theorem RoundTrip.rem (d : BitVec 6) (a : BitVec 6) (b : BitVec 6) : RoundTrip.Statement (.rem d a b) := by
  have h0 := d.isLt; have h1 := a.isLt; have h2 := b.isLt
  refine RoundTrip.of_word (n := 0x1000000D + place d 18 + place a 12 + place b 6) rfl (fun z hz => ?_)
  simp only [place] at hz
  rw [RoundTrip.decode_S (m := 0x10) (by omega) (by omega) (by omega)]
  show decodeMajor10 _ = _
  have f0 : field z 5 0 = 13 := by unfold field; omega
  simp only [decodeMajor10, fixed, f0, reduceIte, Nat.reduceEqDiff, RoundTrip.none_or, RoundTrip.some_or]
  rw [RoundTrip.fld_eq (x := d) (by omega)]
  rw [RoundTrip.fld_eq (x := a) (by omega)]
  rw [RoundTrip.fld_eq (x := b) (by omega)]
theorem RoundTrip.remn (d : BitVec 6) (a : BitVec 6) (b : BitVec 6) : RoundTrip.Statement (.remn d a b) := by
  have h0 := d.isLt; have h1 := a.isLt; have h2 := b.isLt
  refine RoundTrip.of_word (n := 0x1000000E + place d 18 + place a 12 + place b 6) rfl (fun z hz => ?_)
  simp only [place] at hz
  rw [RoundTrip.decode_S (m := 0x10) (by omega) (by omega) (by omega)]
  show decodeMajor10 _ = _
  have f0 : field z 5 0 = 14 := by unfold field; omega
  simp only [decodeMajor10, fixed, f0, reduceIte, Nat.reduceEqDiff, RoundTrip.none_or, RoundTrip.some_or]
  rw [RoundTrip.fld_eq (x := d) (by omega)]
  rw [RoundTrip.fld_eq (x := a) (by omega)]
  rw [RoundTrip.fld_eq (x := b) (by omega)]
theorem RoundTrip.min (d : BitVec 6) (a : BitVec 6) (b : BitVec 6) : RoundTrip.Statement (.min d a b) := by
  have h0 := d.isLt; have h1 := a.isLt; have h2 := b.isLt
  refine RoundTrip.of_word (n := 0x1000000F + place d 18 + place a 12 + place b 6) rfl (fun z hz => ?_)
  simp only [place] at hz
  rw [RoundTrip.decode_S (m := 0x10) (by omega) (by omega) (by omega)]
  show decodeMajor10 _ = _
  have f0 : field z 5 0 = 15 := by unfold field; omega
  simp only [decodeMajor10, fixed, f0, reduceIte, Nat.reduceEqDiff, RoundTrip.none_or, RoundTrip.some_or]
  rw [RoundTrip.fld_eq (x := d) (by omega)]
  rw [RoundTrip.fld_eq (x := a) (by omega)]
  rw [RoundTrip.fld_eq (x := b) (by omega)]
theorem RoundTrip.max (d : BitVec 6) (a : BitVec 6) (b : BitVec 6) : RoundTrip.Statement (.max d a b) := by
  have h0 := d.isLt; have h1 := a.isLt; have h2 := b.isLt
  refine RoundTrip.of_word (n := 0x10000010 + place d 18 + place a 12 + place b 6) rfl (fun z hz => ?_)
  simp only [place] at hz
  rw [RoundTrip.decode_S (m := 0x10) (by omega) (by omega) (by omega)]
  show decodeMajor10 _ = _
  have f0 : field z 5 0 = 16 := by unfold field; omega
  simp only [decodeMajor10, fixed, f0, reduceIte, Nat.reduceEqDiff, RoundTrip.none_or, RoundTrip.some_or]
  rw [RoundTrip.fld_eq (x := d) (by omega)]
  rw [RoundTrip.fld_eq (x := a) (by omega)]
  rw [RoundTrip.fld_eq (x := b) (by omega)]
theorem RoundTrip.minn (d : BitVec 6) (a : BitVec 6) (b : BitVec 6) : RoundTrip.Statement (.minn d a b) := by
  have h0 := d.isLt; have h1 := a.isLt; have h2 := b.isLt
  refine RoundTrip.of_word (n := 0x10000011 + place d 18 + place a 12 + place b 6) rfl (fun z hz => ?_)
  simp only [place] at hz
  rw [RoundTrip.decode_S (m := 0x10) (by omega) (by omega) (by omega)]
  show decodeMajor10 _ = _
  have f0 : field z 5 0 = 17 := by unfold field; omega
  simp only [decodeMajor10, fixed, f0, reduceIte, Nat.reduceEqDiff, RoundTrip.none_or, RoundTrip.some_or]
  rw [RoundTrip.fld_eq (x := d) (by omega)]
  rw [RoundTrip.fld_eq (x := a) (by omega)]
  rw [RoundTrip.fld_eq (x := b) (by omega)]
theorem RoundTrip.maxn (d : BitVec 6) (a : BitVec 6) (b : BitVec 6) : RoundTrip.Statement (.maxn d a b) := by
  have h0 := d.isLt; have h1 := a.isLt; have h2 := b.isLt
  refine RoundTrip.of_word (n := 0x10000012 + place d 18 + place a 12 + place b 6) rfl (fun z hz => ?_)
  simp only [place] at hz
  rw [RoundTrip.decode_S (m := 0x10) (by omega) (by omega) (by omega)]
  show decodeMajor10 _ = _
  have f0 : field z 5 0 = 18 := by unfold field; omega
  simp only [decodeMajor10, fixed, f0, reduceIte, Nat.reduceEqDiff, RoundTrip.none_or, RoundTrip.some_or]
  rw [RoundTrip.fld_eq (x := d) (by omega)]
  rw [RoundTrip.fld_eq (x := a) (by omega)]
  rw [RoundTrip.fld_eq (x := b) (by omega)]
theorem RoundTrip.clz (d : BitVec 6) (a : BitVec 6) : RoundTrip.Statement (.clz d a) := by
  have h0 := d.isLt; have h1 := a.isLt
  refine RoundTrip.of_word (n := 0x10000013 + place d 18 + place a 12) rfl (fun z hz => ?_)
  simp only [place] at hz
  rw [RoundTrip.decode_S (m := 0x10) (by omega) (by omega) (by omega)]
  show decodeMajor10 _ = _
  have f0 : field z 5 0 = 19 := by unfold field; omega
  have f1 : field z 11 0 = 19 := by unfold field; omega
  simp only [decodeMajor10, fixed, f0, f1, reduceIte, Nat.reduceEqDiff, RoundTrip.none_or, RoundTrip.some_or]
  rw [RoundTrip.fld_eq (x := d) (by omega)]
  rw [RoundTrip.fld_eq (x := a) (by omega)]
theorem RoundTrip.ctz (d : BitVec 6) (a : BitVec 6) : RoundTrip.Statement (.ctz d a) := by
  have h0 := d.isLt; have h1 := a.isLt
  refine RoundTrip.of_word (n := 0x10000014 + place d 18 + place a 12) rfl (fun z hz => ?_)
  simp only [place] at hz
  rw [RoundTrip.decode_S (m := 0x10) (by omega) (by omega) (by omega)]
  show decodeMajor10 _ = _
  have f0 : field z 5 0 = 20 := by unfold field; omega
  have f1 : field z 11 0 = 20 := by unfold field; omega
  simp only [decodeMajor10, fixed, f0, f1, reduceIte, Nat.reduceEqDiff, RoundTrip.none_or, RoundTrip.some_or]
  rw [RoundTrip.fld_eq (x := d) (by omega)]
  rw [RoundTrip.fld_eq (x := a) (by omega)]
theorem RoundTrip.popc (d : BitVec 6) (a : BitVec 6) : RoundTrip.Statement (.popc d a) := by
  have h0 := d.isLt; have h1 := a.isLt
  refine RoundTrip.of_word (n := 0x10000015 + place d 18 + place a 12) rfl (fun z hz => ?_)
  simp only [place] at hz
  rw [RoundTrip.decode_S (m := 0x10) (by omega) (by omega) (by omega)]
  show decodeMajor10 _ = _
  have f0 : field z 5 0 = 21 := by unfold field; omega
  have f1 : field z 11 0 = 21 := by unfold field; omega
  simp only [decodeMajor10, fixed, f0, f1, reduceIte, Nat.reduceEqDiff, RoundTrip.none_or, RoundTrip.some_or]
  rw [RoundTrip.fld_eq (x := d) (by omega)]
  rw [RoundTrip.fld_eq (x := a) (by omega)]
theorem RoundTrip.selFunc16 (d : BitVec 6) (a : BitVec 6) (b : BitVec 6) : RoundTrip.Statement (.selFunc16 d a b) := by
  have h0 := d.isLt; have h1 := a.isLt; have h2 := b.isLt
  refine RoundTrip.of_word (n := 0x10000016 + place d 18 + place a 12 + place b 6) rfl (fun z hz => ?_)
  simp only [place] at hz
  rw [RoundTrip.decode_S (m := 0x10) (by omega) (by omega) (by omega)]
  show decodeMajor10 _ = _
  have f0 : field z 5 0 = 22 := by unfold field; omega
  have f1 : ¬ field z 11 0 = 0x13 := by unfold field; omega
  have f2 : ¬ field z 11 0 = 0x14 := by unfold field; omega
  have f3 : ¬ field z 11 0 = 0x15 := by unfold field; omega
  simp only [decodeMajor10, fixed, f0, f1, f2, f3, reduceIte, Nat.reduceEqDiff, RoundTrip.none_or, RoundTrip.some_or]
  rw [RoundTrip.fld_eq (x := d) (by omega)]
  rw [RoundTrip.fld_eq (x := a) (by omega)]
  rw [RoundTrip.fld_eq (x := b) (by omega)]
theorem RoundTrip.addx (d : BitVec 6) (a : BitVec 6) (b : BitVec 6) (s : BitVec 2) : RoundTrip.Statement (.addx d a b s) := by
  have h0 := d.isLt; have h1 := a.isLt; have h2 := b.isLt; have h3 := s.isLt
  refine RoundTrip.of_word (n := 0x10000018 + place d 18 + place a 12 + place b 6 + place s 0) rfl (fun z hz => ?_)
  simp only [place] at hz
  rw [RoundTrip.decode_S (m := 0x10) (by omega) (by omega) (by omega)]
  show decodeMajor10 _ = _
  have f0 : ¬ field z 5 0 = 0x0 := by unfold field; omega
  have f1 : ¬ field z 5 0 = 0x1 := by unfold field; omega
  have f2 : ¬ field z 5 0 = 0x2 := by unfold field; omega
  have f3 : ¬ field z 5 0 = 0x3 := by unfold field; omega
  have f4 : ¬ field z 5 0 = 0x4 := by unfold field; omega
  have f5 : ¬ field z 5 0 = 0x5 := by unfold field; omega
  have f6 : ¬ field z 5 0 = 0x6 := by unfold field; omega
  have f7 : ¬ field z 5 0 = 0x7 := by unfold field; omega
  have f8 : ¬ field z 5 0 = 0x8 := by unfold field; omega
  have f9 : ¬ field z 5 0 = 0x9 := by unfold field; omega
  have f10 : ¬ field z 5 0 = 0xA := by unfold field; omega
  have f11 : ¬ field z 5 0 = 0xB := by unfold field; omega
  have f12 : ¬ field z 5 0 = 0xC := by unfold field; omega
  have f13 : ¬ field z 5 0 = 0xD := by unfold field; omega
  have f14 : ¬ field z 5 0 = 0xE := by unfold field; omega
  have f15 : ¬ field z 5 0 = 0xF := by unfold field; omega
  have f16 : ¬ field z 5 0 = 0x10 := by unfold field; omega
  have f17 : ¬ field z 5 0 = 0x11 := by unfold field; omega
  have f18 : ¬ field z 5 0 = 0x12 := by unfold field; omega
  have f19 : ¬ field z 11 0 = 0x13 := by unfold field; omega
  have f20 : ¬ field z 11 0 = 0x14 := by unfold field; omega
  have f21 : ¬ field z 11 0 = 0x15 := by unfold field; omega
  have f22 : ¬ field z 5 0 = 0x16 := by unfold field; omega
  have f23 : field z 5 2 = 6 := by unfold field; omega
  simp only [decodeMajor10, fixed, f0, f1, f2, f3, f4, f5, f6, f7, f8, f9, f10, f11, f12, f13, f14, f15, f16, f17, f18, f19, f20, f21, f22, f23, reduceIte, RoundTrip.none_or, RoundTrip.some_or]
  rw [RoundTrip.fld_eq (x := d) (by omega)]
  rw [RoundTrip.fld_eq (x := a) (by omega)]
  rw [RoundTrip.fld_eq (x := b) (by omega)]
  rw [RoundTrip.fld_eq (x := s) (by omega)]
theorem RoundTrip.sel (d : BitVec 6) (a : BitVec 6) (b : BitVec 6) (f : BitVec 3) : RoundTrip.Statement (.sel d a b f) := by
  have h0 := d.isLt; have h1 := a.isLt; have h2 := b.isLt; have h3 := f.isLt
  refine RoundTrip.of_word (n := 0x10000020 + place d 18 + place a 12 + place b 6 + place f 0) rfl (fun z hz => ?_)
  simp only [place] at hz
  rw [RoundTrip.decode_S (m := 0x10) (by omega) (by omega) (by omega)]
  show decodeMajor10 _ = _
  have f0 : ¬ field z 5 0 = 0x0 := by unfold field; omega
  have f1 : ¬ field z 5 0 = 0x1 := by unfold field; omega
  have f2 : ¬ field z 5 0 = 0x2 := by unfold field; omega
  have f3 : ¬ field z 5 0 = 0x3 := by unfold field; omega
  have f4 : ¬ field z 5 0 = 0x4 := by unfold field; omega
  have f5 : ¬ field z 5 0 = 0x5 := by unfold field; omega
  have f6 : ¬ field z 5 0 = 0x6 := by unfold field; omega
  have f7 : ¬ field z 5 0 = 0x7 := by unfold field; omega
  have f8 : ¬ field z 5 0 = 0x8 := by unfold field; omega
  have f9 : ¬ field z 5 0 = 0x9 := by unfold field; omega
  have f10 : ¬ field z 5 0 = 0xA := by unfold field; omega
  have f11 : ¬ field z 5 0 = 0xB := by unfold field; omega
  have f12 : ¬ field z 5 0 = 0xC := by unfold field; omega
  have f13 : ¬ field z 5 0 = 0xD := by unfold field; omega
  have f14 : ¬ field z 5 0 = 0xE := by unfold field; omega
  have f15 : ¬ field z 5 0 = 0xF := by unfold field; omega
  have f16 : ¬ field z 5 0 = 0x10 := by unfold field; omega
  have f17 : ¬ field z 5 0 = 0x11 := by unfold field; omega
  have f18 : ¬ field z 5 0 = 0x12 := by unfold field; omega
  have f19 : ¬ field z 11 0 = 0x13 := by unfold field; omega
  have f20 : ¬ field z 11 0 = 0x14 := by unfold field; omega
  have f21 : ¬ field z 11 0 = 0x15 := by unfold field; omega
  have f22 : ¬ field z 5 0 = 0x16 := by unfold field; omega
  have f23 : ¬ field z 5 2 = 0x6 := by unfold field; omega
  have f24 : field z 5 3 = 4 := by unfold field; omega
  simp only [decodeMajor10, fixed, f0, f1, f2, f3, f4, f5, f6, f7, f8, f9, f10, f11, f12, f13, f14, f15, f16, f17, f18, f19, f20, f21, f22, f23, f24, reduceIte, RoundTrip.none_or]
  rw [RoundTrip.fld_eq (x := d) (by omega)]
  rw [RoundTrip.fld_eq (x := a) (by omega)]
  rw [RoundTrip.fld_eq (x := b) (by omega)]
  rw [RoundTrip.fld_eq (x := f) (by omega)]
theorem RoundTrip.cmp (c : BitVec 3) (f : BitVec 3) (a : BitVec 6) (b : BitVec 6) : RoundTrip.Statement (.cmp c f a b) := by
  have h0 := c.isLt; have h1 := f.isLt; have h2 := a.isLt; have h3 := b.isLt
  refine RoundTrip.of_word (n := 0x11000000 + place c 21 + place f 18 + place a 12 + place b 6) rfl (fun z hz => ?_)
  simp only [place] at hz
  rw [RoundTrip.decode_S (m := 0x11) (by omega) (by omega) (by omega)]
  have f0 : field z 5 0 = 0 := by unfold field; omega
  simp only [RoundTrip.tagS_11, fixed, f0, reduceIte]
  rw [RoundTrip.fld_eq (x := c) (by omega)]
  rw [RoundTrip.fld_eq (x := f) (by omega)]
  rw [RoundTrip.fld_eq (x := a) (by omega)]
  rw [RoundTrip.fld_eq (x := b) (by omega)]
theorem RoundTrip.cmpi (c : BitVec 3) (f : BitVec 3) (a : BitVec 6) (i : BitVec 12) : RoundTrip.Statement (.cmpi c f a i) := by
  have h0 := c.isLt; have h1 := f.isLt; have h2 := a.isLt; have h3 := i.isLt
  refine RoundTrip.of_word (n := 0x12000000 + place c 21 + place f 18 + place a 12 + place i 0) rfl (fun z hz => ?_)
  simp only [place] at hz
  rw [RoundTrip.decode_S (m := 0x12) (by omega) (by omega) (by omega)]
  simp only [RoundTrip.tagS_12]
  rw [RoundTrip.fld_eq (x := c) (by omega)]
  rw [RoundTrip.fld_eq (x := f) (by omega)]
  rw [RoundTrip.fld_eq (x := a) (by omega)]
  rw [RoundTrip.fld_eq (x := i) (by omega)]
theorem RoundTrip.addi (d : BitVec 6) (a : BitVec 6) (i : BitVec 12) : RoundTrip.Statement (.addi d a i) := by
  have h0 := d.isLt; have h1 := a.isLt; have h2 := i.isLt
  refine RoundTrip.of_word (n := 0x13000000 + place d 18 + place a 12 + place i 0) rfl (fun z hz => ?_)
  simp only [place] at hz
  rw [RoundTrip.decode_S (m := 0x13) (by omega) (by omega) (by omega)]
  simp only [RoundTrip.tagS_13]
  rw [RoundTrip.fld_eq (x := d) (by omega)]
  rw [RoundTrip.fld_eq (x := a) (by omega)]
  rw [RoundTrip.fld_eq (x := i) (by omega)]
theorem RoundTrip.andi (d : BitVec 6) (a : BitVec 6) (i : BitVec 12) : RoundTrip.Statement (.andi d a i) := by
  have h0 := d.isLt; have h1 := a.isLt; have h2 := i.isLt
  refine RoundTrip.of_word (n := 0x14000000 + place d 18 + place a 12 + place i 0) rfl (fun z hz => ?_)
  simp only [place] at hz
  rw [RoundTrip.decode_S (m := 0x14) (by omega) (by omega) (by omega)]
  simp only [RoundTrip.tagS_14]
  rw [RoundTrip.fld_eq (x := d) (by omega)]
  rw [RoundTrip.fld_eq (x := a) (by omega)]
  rw [RoundTrip.fld_eq (x := i) (by omega)]
theorem RoundTrip.ori (d : BitVec 6) (a : BitVec 6) (i : BitVec 12) : RoundTrip.Statement (.ori d a i) := by
  have h0 := d.isLt; have h1 := a.isLt; have h2 := i.isLt
  refine RoundTrip.of_word (n := 0x15000000 + place d 18 + place a 12 + place i 0) rfl (fun z hz => ?_)
  simp only [place] at hz
  rw [RoundTrip.decode_S (m := 0x15) (by omega) (by omega) (by omega)]
  simp only [RoundTrip.tagS_15]
  rw [RoundTrip.fld_eq (x := d) (by omega)]
  rw [RoundTrip.fld_eq (x := a) (by omega)]
  rw [RoundTrip.fld_eq (x := i) (by omega)]
theorem RoundTrip.xori (d : BitVec 6) (a : BitVec 6) (i : BitVec 12) : RoundTrip.Statement (.xori d a i) := by
  have h0 := d.isLt; have h1 := a.isLt; have h2 := i.isLt
  refine RoundTrip.of_word (n := 0x16000000 + place d 18 + place a 12 + place i 0) rfl (fun z hz => ?_)
  simp only [place] at hz
  rw [RoundTrip.decode_S (m := 0x16) (by omega) (by omega) (by omega)]
  simp only [RoundTrip.tagS_16]
  rw [RoundTrip.fld_eq (x := d) (by omega)]
  rw [RoundTrip.fld_eq (x := a) (by omega)]
  rw [RoundTrip.fld_eq (x := i) (by omega)]
theorem RoundTrip.shli (d : BitVec 6) (a : BitVec 6) (i : BitVec 12) : RoundTrip.Statement (.shli d a i) := by
  have h0 := d.isLt; have h1 := a.isLt; have h2 := i.isLt
  refine RoundTrip.of_word (n := 0x17000000 + place d 18 + place a 12 + place i 0) rfl (fun z hz => ?_)
  simp only [place] at hz
  rw [RoundTrip.decode_S (m := 0x17) (by omega) (by omega) (by omega)]
  simp only [RoundTrip.tagS_17]
  rw [RoundTrip.fld_eq (x := d) (by omega)]
  rw [RoundTrip.fld_eq (x := a) (by omega)]
  rw [RoundTrip.fld_eq (x := i) (by omega)]
theorem RoundTrip.shri (d : BitVec 6) (a : BitVec 6) (i : BitVec 12) : RoundTrip.Statement (.shri d a i) := by
  have h0 := d.isLt; have h1 := a.isLt; have h2 := i.isLt
  refine RoundTrip.of_word (n := 0x18000000 + place d 18 + place a 12 + place i 0) rfl (fun z hz => ?_)
  simp only [place] at hz
  rw [RoundTrip.decode_S (m := 0x18) (by omega) (by omega) (by omega)]
  simp only [RoundTrip.tagS_18]
  rw [RoundTrip.fld_eq (x := d) (by omega)]
  rw [RoundTrip.fld_eq (x := a) (by omega)]
  rw [RoundTrip.fld_eq (x := i) (by omega)]
theorem RoundTrip.sari (d : BitVec 6) (a : BitVec 6) (i : BitVec 12) : RoundTrip.Statement (.sari d a i) := by
  have h0 := d.isLt; have h1 := a.isLt; have h2 := i.isLt
  refine RoundTrip.of_word (n := 0x19000000 + place d 18 + place a 12 + place i 0) rfl (fun z hz => ?_)
  simp only [place] at hz
  rw [RoundTrip.decode_S (m := 0x19) (by omega) (by omega) (by omega)]
  simp only [RoundTrip.tagS_19]
  rw [RoundTrip.fld_eq (x := d) (by omega)]
  rw [RoundTrip.fld_eq (x := a) (by omega)]
  rw [RoundTrip.fld_eq (x := i) (by omega)]
theorem RoundTrip.muli (d : BitVec 6) (a : BitVec 6) (i : BitVec 12) : RoundTrip.Statement (.muli d a i) := by
  have h0 := d.isLt; have h1 := a.isLt; have h2 := i.isLt
  refine RoundTrip.of_word (n := 0x1A000000 + place d 18 + place a 12 + place i 0) rfl (fun z hz => ?_)
  simp only [place] at hz
  rw [RoundTrip.decode_S (m := 0x1A) (by omega) (by omega) (by omega)]
  simp only [RoundTrip.tagS_1A]
  rw [RoundTrip.fld_eq (x := d) (by omega)]
  rw [RoundTrip.fld_eq (x := a) (by omega)]
  rw [RoundTrip.fld_eq (x := i) (by omega)]
theorem RoundTrip.lui (d : BitVec 6) (i : BitVec 18) : RoundTrip.Statement (.lui d i) := by
  have h0 := d.isLt; have h1 := i.isLt
  refine RoundTrip.of_word (n := 0x1B000000 + place d 18 + place i 0) rfl (fun z hz => ?_)
  simp only [place] at hz
  rw [RoundTrip.decode_S (m := 0x1B) (by omega) (by omega) (by omega)]
  simp only [RoundTrip.tagS_1B]
  rw [RoundTrip.fld_eq (x := d) (by omega)]
  rw [RoundTrip.fld_eq (x := i) (by omega)]
theorem RoundTrip.lds (d : BitVec 6) (a : BitVec 6) (k : BitVec 3) (o : BitVec 9) : RoundTrip.Statement (.lds d a k o) := by
  have h0 := d.isLt; have h1 := a.isLt; have h2 := k.isLt; have h3 := o.isLt
  refine RoundTrip.of_word (n := 0x1C000000 + place d 18 + place a 12 + place k 9 + place o 0) rfl (fun z hz => ?_)
  simp only [place] at hz
  rw [RoundTrip.decode_S (m := 0x1C) (by omega) (by omega) (by omega)]
  simp only [RoundTrip.tagS_1C]
  rw [RoundTrip.fld_eq (x := d) (by omega)]
  rw [RoundTrip.fld_eq (x := a) (by omega)]
  rw [RoundTrip.fld_eq (x := k) (by omega)]
  rw [RoundTrip.fld_eq (x := o) (by omega)]
theorem RoundTrip.sts (d : BitVec 6) (a : BitVec 6) (k : BitVec 3) (o : BitVec 9) : RoundTrip.Statement (.sts d a k o) := by
  have h0 := d.isLt; have h1 := a.isLt; have h2 := k.isLt; have h3 := o.isLt
  refine RoundTrip.of_word (n := 0x1D000000 + place d 18 + place a 12 + place k 9 + place o 0) rfl (fun z hz => ?_)
  simp only [place] at hz
  rw [RoundTrip.decode_S (m := 0x1D) (by omega) (by omega) (by omega)]
  simp only [RoundTrip.tagS_1D]
  rw [RoundTrip.fld_eq (x := d) (by omega)]
  rw [RoundTrip.fld_eq (x := a) (by omega)]
  rw [RoundTrip.fld_eq (x := k) (by omega)]
  rw [RoundTrip.fld_eq (x := o) (by omega)]
theorem RoundTrip.gld (d : BitVec 6) (a : BitVec 6) (c : BitVec 4) (k : BitVec 3) : RoundTrip.Statement (.gld d a c k) := by
  have h0 := d.isLt; have h1 := a.isLt; have h2 := c.isLt; have h3 := k.isLt
  refine RoundTrip.of_word (n := 0x1E000000 + place d 18 + place a 12 + place c 6 + place k 0) rfl (fun z hz => ?_)
  simp only [place] at hz
  rw [RoundTrip.decode_S (m := 0x1E) (by omega) (by omega) (by omega)]
  have f0 : field z 11 10 = 0 := by unfold field; omega
  have f1 : field z 5 3 = 0 := by unfold field; omega
  simp only [RoundTrip.tagS_1E, fixed, f0, f1, reduceIte]
  rw [RoundTrip.fld_eq (x := d) (by omega)]
  rw [RoundTrip.fld_eq (x := a) (by omega)]
  rw [RoundTrip.fld_eq (x := c) (by omega)]
  rw [RoundTrip.fld_eq (x := k) (by omega)]
theorem RoundTrip.gst (d : BitVec 6) (a : BitVec 6) (c : BitVec 4) (k : BitVec 3) : RoundTrip.Statement (.gst d a c k) := by
  have h0 := d.isLt; have h1 := a.isLt; have h2 := c.isLt; have h3 := k.isLt
  refine RoundTrip.of_word (n := 0x1F000000 + place d 18 + place a 12 + place c 6 + place k 0) rfl (fun z hz => ?_)
  simp only [place] at hz
  rw [RoundTrip.decode_S (m := 0x1F) (by omega) (by omega) (by omega)]
  have f0 : field z 11 10 = 0 := by unfold field; omega
  have f1 : field z 5 3 = 0 := by unfold field; omega
  simp only [RoundTrip.tagS_1F, fixed, f0, f1, reduceIte]
  rw [RoundTrip.fld_eq (x := d) (by omega)]
  rw [RoundTrip.fld_eq (x := a) (by omega)]
  rw [RoundTrip.fld_eq (x := c) (by omega)]
  rw [RoundTrip.fld_eq (x := k) (by omega)]
theorem RoundTrip.gatom (d : BitVec 6) (a : BitVec 6) (c : BitVec 4) (s : BitVec 1) (o : BitVec 4) : RoundTrip.Statement (.gatom d a c s o) := by
  have h0 := d.isLt; have h1 := a.isLt; have h2 := c.isLt; have h3 := s.isLt; have h4 := o.isLt
  refine RoundTrip.of_word (n := 0x20000000 + place d 18 + place a 12 + place c 6 + place s 4 + place o 0) rfl (fun z hz => ?_)
  simp only [place] at hz
  rw [RoundTrip.decode_S (m := 0x20) (by omega) (by omega) (by omega)]
  have f0 : field z 11 10 = 0 := by unfold field; omega
  have f1 : field z 5 5 = 0 := by unfold field; omega
  simp only [RoundTrip.tagS_20, fixed, f0, f1, reduceIte]
  rw [RoundTrip.fld_eq (x := d) (by omega)]
  rw [RoundTrip.fld_eq (x := a) (by omega)]
  rw [RoundTrip.fld_eq (x := c) (by omega)]
  rw [RoundTrip.fld_eq (x := s) (by omega)]
  rw [RoundTrip.fld_eq (x := o) (by omega)]
theorem RoundTrip.mfc (d : BitVec 6) (i : BitVec 12) : RoundTrip.Statement (.mfc d i) := by
  have h0 := d.isLt; have h1 := i.isLt
  refine RoundTrip.of_word (n := 0x21000000 + place d 18 + place i 0) rfl (fun z hz => ?_)
  simp only [place] at hz
  rw [RoundTrip.decode_S (m := 0x21) (by omega) (by omega) (by omega)]
  have f0 : field z 17 12 = 0 := by unfold field; omega
  simp only [RoundTrip.tagS_21, fixed, f0, reduceIte]
  rw [RoundTrip.fld_eq (x := d) (by omega)]
  rw [RoundTrip.fld_eq (x := i) (by omega)]
theorem RoundTrip.mtc (a : BitVec 6) (i : BitVec 12) : RoundTrip.Statement (.mtc a i) := by
  have h0 := a.isLt; have h1 := i.isLt
  refine RoundTrip.of_word (n := 0x22000000 + place a 12 + place i 0) rfl (fun z hz => ?_)
  simp only [place] at hz
  rw [RoundTrip.decode_S (m := 0x22) (by omega) (by omega) (by omega)]
  have f0 : field z 23 18 = 0 := by unfold field; omega
  simp only [RoundTrip.tagS_22, fixed, f0, reduceIte]
  rw [RoundTrip.fld_eq (x := a) (by omega)]
  rw [RoundTrip.fld_eq (x := i) (by omega)]
theorem RoundTrip.shpw (d : BitVec 6) (k : BitVec 2) (r : BitVec 2) (f : BitVec 5) : RoundTrip.Statement (.shpw d k r f) := by
  have h0 := d.isLt; have h1 := k.isLt; have h2 := r.isLt; have h3 := f.isLt
  refine RoundTrip.of_word (n := 0x23000000 + place d 18 + place k 16 + place r 12 + place f 0) rfl (fun z hz => ?_)
  simp only [place] at hz
  rw [RoundTrip.decode_S (m := 0x23) (by omega) (by omega) (by omega)]
  have f0 : field z 15 14 = 0 := by unfold field; omega
  have f1 : field z 11 5 = 0 := by unfold field; omega
  simp only [RoundTrip.tagS_23, fixed, f0, f1, reduceIte]
  rw [RoundTrip.fld_eq (x := d) (by omega)]
  rw [RoundTrip.fld_eq (x := k) (by omega)]
  rw [RoundTrip.fld_eq (x := r) (by omega)]
  rw [RoundTrip.fld_eq (x := f) (by omega)]
theorem RoundTrip.shpr (d : BitVec 6) (k : BitVec 2) (r : BitVec 2) (c : BitVec 1) (f : BitVec 5) : RoundTrip.Statement (.shpr d k r c f) := by
  have h0 := d.isLt; have h1 := k.isLt; have h2 := r.isLt; have h3 := c.isLt; have h4 := f.isLt
  refine RoundTrip.of_word (n := 0x24000000 + place d 18 + place k 16 + place r 12 + place c 5 + place f 0) rfl (fun z hz => ?_)
  simp only [place] at hz
  rw [RoundTrip.decode_S (m := 0x24) (by omega) (by omega) (by omega)]
  have f0 : field z 15 14 = 0 := by unfold field; omega
  have f1 : field z 11 6 = 0 := by unfold field; omega
  simp only [RoundTrip.tagS_24, fixed, f0, f1, reduceIte]
  rw [RoundTrip.fld_eq (x := d) (by omega)]
  rw [RoundTrip.fld_eq (x := k) (by omega)]
  rw [RoundTrip.fld_eq (x := r) (by omega)]
  rw [RoundTrip.fld_eq (x := c) (by omega)]
  rw [RoundTrip.fld_eq (x := f) (by omega)]
theorem RoundTrip.kwaitS (d : BitVec 6) (i : BitVec 12) : RoundTrip.Statement (.kwaitS d i) := by
  have h0 := d.isLt; have h1 := i.isLt
  refine RoundTrip.of_word (n := 0x25000000 + place d 18 + place i 0) rfl (fun z hz => ?_)
  simp only [place] at hz
  rw [RoundTrip.decode_S (m := 0x25) (by omega) (by omega) (by omega)]
  have f0 : field z 17 12 = 0 := by unfold field; omega
  simp only [RoundTrip.tagS_25, fixed, f0, reduceIte]
  rw [RoundTrip.fld_eq (x := d) (by omega)]
  rw [RoundTrip.fld_eq (x := i) (by omega)]
theorem RoundTrip.ksigS (d : BitVec 6) (i : BitVec 12) : RoundTrip.Statement (.ksigS d i) := by
  have h0 := d.isLt; have h1 := i.isLt
  refine RoundTrip.of_word (n := 0x26000000 + place d 18 + place i 0) rfl (fun z hz => ?_)
  simp only [place] at hz
  rw [RoundTrip.decode_S (m := 0x26) (by omega) (by omega) (by omega)]
  have f0 : field z 17 12 = 0 := by unfold field; omega
  simp only [RoundTrip.tagS_26, fixed, f0, reduceIte]
  rw [RoundTrip.fld_eq (x := d) (by omega)]
  rw [RoundTrip.fld_eq (x := i) (by omega)]
theorem RoundTrip.kcfg (d : BitVec 6) (a : BitVec 6) : RoundTrip.Statement (.kcfg d a) := by
  have h0 := d.isLt; have h1 := a.isLt
  refine RoundTrip.of_word (n := 0x27000000 + place d 18 + place a 12) rfl (fun z hz => ?_)
  simp only [place] at hz
  rw [RoundTrip.decode_S (m := 0x27) (by omega) (by omega) (by omega)]
  have f0 : field z 11 0 = 0 := by unfold field; omega
  simp only [RoundTrip.tagS_27, fixed, f0, reduceIte]
  rw [RoundTrip.fld_eq (x := d) (by omega)]
  rw [RoundTrip.fld_eq (x := a) (by omega)]
theorem RoundTrip.stamp (d : BitVec 6) : RoundTrip.Statement (.stamp d) := by
  have h0 := d.isLt
  refine RoundTrip.of_word (n := 0x28000000 + place d 18) rfl (fun z hz => ?_)
  simp only [place] at hz
  rw [RoundTrip.decode_S (m := 0x28) (by omega) (by omega) (by omega)]
  show decodeMajor28 _ = _
  have f0 : field z 17 0 = 0 := by unfold field; omega
  simp only [decodeMajor28, fixed, f0, reduceIte, Nat.reduceEqDiff, RoundTrip.none_or, RoundTrip.some_or, ite_self]
  rw [RoundTrip.fld_eq (x := d) (by omega)]
theorem RoundTrip.wall (d : BitVec 6) : RoundTrip.Statement (.wall d) := by
  have h0 := d.isLt
  refine RoundTrip.of_word (n := 0x28000001 + place d 18) rfl (fun z hz => ?_)
  simp only [place] at hz
  rw [RoundTrip.decode_S (m := 0x28) (by omega) (by omega) (by omega)]
  show decodeMajor28 _ = _
  have f0 : field z 17 0 = 1 := by unfold field; omega
  simp only [decodeMajor28, fixed, f0, reduceIte, Nat.reduceEqDiff, RoundTrip.none_or, RoundTrip.some_or, ite_self]
  rw [RoundTrip.fld_eq (x := d) (by omega)]
theorem RoundTrip.vget (f : BitVec 3) : RoundTrip.Statement (.vget f) := by
  have h0 := f.isLt
  refine RoundTrip.of_word (n := 0x28000002 + place f 18) rfl (fun z hz => ?_)
  simp only [place] at hz
  rw [RoundTrip.decode_S (m := 0x28) (by omega) (by omega) (by omega)]
  show decodeMajor28 _ = _
  have f0 : field z 17 0 = 2 := by unfold field; omega
  have f1 : field z 23 21 = 0 := by unfold field; omega
  simp only [decodeMajor28, fixed, f0, f1, reduceIte, Nat.reduceEqDiff, RoundTrip.none_or]
  rw [RoundTrip.fld_eq (x := f) (by omega)]
theorem RoundTrip.msend (d : BitVec 6) (a : BitVec 6) (b : BitVec 6) : RoundTrip.Statement (.msend d a b) := by
  have h0 := d.isLt; have h1 := a.isLt; have h2 := b.isLt
  refine RoundTrip.of_word (n := 0x29000000 + place d 18 + place a 12 + place b 6) rfl (fun z hz => ?_)
  simp only [place] at hz
  rw [RoundTrip.decode_S (m := 0x29) (by omega) (by omega) (by omega)]
  show decodeMajor29 _ = _
  have f0 : field z 5 0 = 0 := by unfold field; omega
  simp only [decodeMajor29, fixed, f0, reduceIte, RoundTrip.some_or]
  rw [RoundTrip.fld_eq (x := d) (by omega)]
  rw [RoundTrip.fld_eq (x := a) (by omega)]
  rw [RoundTrip.fld_eq (x := b) (by omega)]
theorem RoundTrip.mrecv (d : BitVec 6) : RoundTrip.Statement (.mrecv d) := by
  have h0 := d.isLt
  refine RoundTrip.of_word (n := 0x29000001 + place d 18) rfl (fun z hz => ?_)
  simp only [place] at hz
  rw [RoundTrip.decode_S (m := 0x29) (by omega) (by omega) (by omega)]
  show decodeMajor29 _ = _
  have f0 : field z 5 0 = 1 := by unfold field; omega
  have f1 : field z 17 0 = 1 := by unfold field; omega
  simp only [decodeMajor29, fixed, f0, f1, reduceIte, Nat.reduceEqDiff, RoundTrip.none_or]
  rw [RoundTrip.fld_eq (x := d) (by omega)]
theorem RoundTrip.fenceRel (m : BitVec 4) (s : BitVec 2) (n : BitVec 12) : RoundTrip.Statement (.fenceRel m s n) := by
  have h0 := m.isLt; have h1 := s.isLt; have h2 := n.isLt
  refine RoundTrip.of_word (n := 0x2A004000 + place m 18 + place s 12 + place n 0) rfl (fun z hz => ?_)
  simp only [place] at hz
  rw [RoundTrip.decode_S (m := 0x2A) (by omega) (by omega) (by omega)]
  show decodeMajor2A _ = _
  have f0 : field z 23 22 = 0 := by unfold field; omega
  have f1 : field z 17 14 = 1 := by unfold field; omega
  simp only [decodeMajor2A, fixed, f0, f1, reduceIte, Nat.reduceEqDiff, RoundTrip.none_or, RoundTrip.some_or, ite_self]
  rw [RoundTrip.fld_eq (x := m) (by omega)]
  rw [RoundTrip.fld_eq (x := s) (by omega)]
  rw [RoundTrip.fld_eq (x := n) (by omega)]
theorem RoundTrip.fenceAcq (m : BitVec 4) (s : BitVec 2) (n : BitVec 12) : RoundTrip.Statement (.fenceAcq m s n) := by
  have h0 := m.isLt; have h1 := s.isLt; have h2 := n.isLt
  refine RoundTrip.of_word (n := 0x2A008000 + place m 18 + place s 12 + place n 0) rfl (fun z hz => ?_)
  simp only [place] at hz
  rw [RoundTrip.decode_S (m := 0x2A) (by omega) (by omega) (by omega)]
  show decodeMajor2A _ = _
  have f0 : field z 23 22 = 0 := by unfold field; omega
  have f1 : field z 17 14 = 2 := by unfold field; omega
  simp only [decodeMajor2A, fixed, f0, f1, reduceIte, Nat.reduceEqDiff, RoundTrip.none_or, RoundTrip.some_or, ite_self]
  rw [RoundTrip.fld_eq (x := m) (by omega)]
  rw [RoundTrip.fld_eq (x := s) (by omega)]
  rw [RoundTrip.fld_eq (x := n) (by omega)]
theorem RoundTrip.fenceAr (m : BitVec 4) (s : BitVec 2) (n : BitVec 12) : RoundTrip.Statement (.fenceAr m s n) := by
  have h0 := m.isLt; have h1 := s.isLt; have h2 := n.isLt
  refine RoundTrip.of_word (n := 0x2A00C000 + place m 18 + place s 12 + place n 0) rfl (fun z hz => ?_)
  simp only [place] at hz
  rw [RoundTrip.decode_S (m := 0x2A) (by omega) (by omega) (by omega)]
  show decodeMajor2A _ = _
  have f0 : field z 23 22 = 0 := by unfold field; omega
  have f1 : field z 17 14 = 3 := by unfold field; omega
  simp only [decodeMajor2A, fixed, f0, f1, reduceIte, Nat.reduceEqDiff, RoundTrip.none_or, ite_self]
  rw [RoundTrip.fld_eq (x := m) (by omega)]
  rw [RoundTrip.fld_eq (x := s) (by omega)]
  rw [RoundTrip.fld_eq (x := n) (by omega)]
theorem RoundTrip.fenceE (e : BitVec 3) : RoundTrip.Statement (.fenceE e) := by
  have h0 := e.isLt
  refine RoundTrip.of_word (n := 0x2B000000 + place e 0) rfl (fun z hz => ?_)
  simp only [place] at hz
  rw [RoundTrip.decode_S (m := 0x2B) (by omega) (by omega) (by omega)]
  have f0 : field z 23 3 = 0 := by unfold field; omega
  simp only [RoundTrip.tagS_2B, fixed, f0, reduceIte]
  rw [RoundTrip.fld_eq (x := e) (by omega)]
theorem RoundTrip.trap (i : BitVec 18) : RoundTrip.Statement (.trap i) := by
  have h0 := i.isLt
  refine RoundTrip.of_word (n := 0x2C000000 + place i 0) rfl (fun z hz => ?_)
  simp only [place] at hz
  rw [RoundTrip.decode_S (m := 0x2C) (by omega) (by omega) (by omega)]
  show decodeMajor2C _ = _
  have f0 : field z 23 18 = 0 := by unfold field; omega
  simp only [decodeMajor2C, fixed, f0, reduceIte, Nat.reduceEqDiff, RoundTrip.some_or]
  rw [RoundTrip.fld_eq (x := i) (by omega)]
theorem RoundTrip.trapWarn (i : BitVec 18) : RoundTrip.Statement (.trapWarn i) := by
  have h0 := i.isLt
  refine RoundTrip.of_word (n := 0x2C040000 + place i 0) rfl (fun z hz => ?_)
  simp only [place] at hz
  rw [RoundTrip.decode_S (m := 0x2C) (by omega) (by omega) (by omega)]
  show decodeMajor2C _ = _
  have f0 : field z 23 18 = 1 := by unfold field; omega
  simp only [decodeMajor2C, fixed, f0, reduceIte, Nat.reduceEqDiff, RoundTrip.none_or]
  rw [RoundTrip.fld_eq (x := i) (by omega)]
theorem RoundTrip.tlbinv (d : BitVec 6) (a : BitVec 6) (b : BitVec 6) : RoundTrip.Statement (.tlbinv d a b) := by
  have h0 := d.isLt; have h1 := a.isLt; have h2 := b.isLt
  refine RoundTrip.of_word (n := 0x2D000000 + place d 18 + place a 12 + place b 6) rfl (fun z hz => ?_)
  simp only [place] at hz
  rw [RoundTrip.decode_S (m := 0x2D) (by omega) (by omega) (by omega)]
  show decodeMajor2D _ = _
  have f0 : field z 5 0 = 0 := by unfold field; omega
  simp only [decodeMajor2D, fixed, f0, reduceIte, Nat.reduceEqDiff, RoundTrip.none_or, RoundTrip.some_or, ite_self]
  rw [RoundTrip.fld_eq (x := d) (by omega)]
  rw [RoundTrip.fld_eq (x := a) (by omega)]
  rw [RoundTrip.fld_eq (x := b) (by omega)]
theorem RoundTrip.pgqry (d : BitVec 6) (a : BitVec 6) : RoundTrip.Statement (.pgqry d a) := by
  have h0 := d.isLt; have h1 := a.isLt
  refine RoundTrip.of_word (n := 0x2D000001 + place d 18 + place a 12) rfl (fun z hz => ?_)
  simp only [place] at hz
  rw [RoundTrip.decode_S (m := 0x2D) (by omega) (by omega) (by omega)]
  show decodeMajor2D _ = _
  have f0 : field z 5 0 = 1 := by unfold field; omega
  have f1 : field z 11 0 = 1 := by unfold field; omega
  simp only [decodeMajor2D, fixed, f0, f1, reduceIte, Nat.reduceEqDiff, RoundTrip.none_or, RoundTrip.some_or, ite_self]
  rw [RoundTrip.fld_eq (x := d) (by omega)]
  rw [RoundTrip.fld_eq (x := a) (by omega)]
theorem RoundTrip.pghintTrans (a : BitVec 6) (b : BitVec 6) : RoundTrip.Statement (.pghintTrans a b) := by
  have h0 := a.isLt; have h1 := b.isLt
  refine RoundTrip.of_word (n := 0x2D000002 + place a 12 + place b 6) rfl (fun z hz => ?_)
  simp only [place] at hz
  rw [RoundTrip.decode_S (m := 0x2D) (by omega) (by omega) (by omega)]
  show decodeMajor2D _ = _
  have f0 : field z 5 0 = 2 := by unfold field; omega
  have f1 : ¬ field z 11 0 = 0x1 := by unfold field; omega
  have f2 : field z 23 18 = 0 := by unfold field; omega
  simp only [decodeMajor2D, fixed, f0, f1, f2, reduceIte, Nat.reduceEqDiff, RoundTrip.none_or, RoundTrip.some_or]
  rw [RoundTrip.fld_eq (x := a) (by omega)]
  rw [RoundTrip.fld_eq (x := b) (by omega)]
theorem RoundTrip.pghintEnc (a : BitVec 6) (b : BitVec 6) : RoundTrip.Statement (.pghintEnc a b) := by
  have h0 := a.isLt; have h1 := b.isLt
  refine RoundTrip.of_word (n := 0x2D040002 + place a 12 + place b 6) rfl (fun z hz => ?_)
  simp only [place] at hz
  rw [RoundTrip.decode_S (m := 0x2D) (by omega) (by omega) (by omega)]
  show decodeMajor2D _ = _
  have f0 : field z 5 0 = 2 := by unfold field; omega
  have f1 : ¬ field z 11 0 = 0x1 := by unfold field; omega
  have f2 : field z 23 18 = 1 := by unfold field; omega
  simp only [decodeMajor2D, fixed, f0, f1, f2, reduceIte, Nat.reduceEqDiff, RoundTrip.none_or]
  rw [RoundTrip.fld_eq (x := a) (by omega)]
  rw [RoundTrip.fld_eq (x := b) (by omega)]
theorem RoundTrip.govrd (d : BitVec 6) (a : BitVec 6) (f : BitVec 6) : RoundTrip.Statement (.govrd d a f) := by
  have h0 := d.isLt; have h1 := a.isLt; have h2 := f.isLt
  refine RoundTrip.of_word (n := 0x2E000000 + place d 18 + place a 12 + place f 6) rfl (fun z hz => ?_)
  simp only [place] at hz
  rw [RoundTrip.decode_S (m := 0x2E) (by omega) (by omega) (by omega)]
  show decodeMajor2E _ = _
  have f0 : field z 5 0 = 0 := by unfold field; omega
  simp only [decodeMajor2E, fixed, f0, reduceIte, Nat.reduceEqDiff, RoundTrip.none_or, RoundTrip.some_or, ite_self]
  rw [RoundTrip.fld_eq (x := d) (by omega)]
  rw [RoundTrip.fld_eq (x := a) (by omega)]
  rw [RoundTrip.fld_eq (x := f) (by omega)]
theorem RoundTrip.govwr (f : BitVec 6) (a : BitVec 6) (b : BitVec 6) : RoundTrip.Statement (.govwr f a b) := by
  have h0 := f.isLt; have h1 := a.isLt; have h2 := b.isLt
  refine RoundTrip.of_word (n := 0x2E000001 + place f 18 + place a 12 + place b 6) rfl (fun z hz => ?_)
  simp only [place] at hz
  rw [RoundTrip.decode_S (m := 0x2E) (by omega) (by omega) (by omega)]
  show decodeMajor2E _ = _
  have f0 : field z 5 0 = 1 := by unfold field; omega
  simp only [decodeMajor2E, fixed, f0, reduceIte, Nat.reduceEqDiff, RoundTrip.none_or, RoundTrip.some_or, ite_self]
  rw [RoundTrip.fld_eq (x := f) (by omega)]
  rw [RoundTrip.fld_eq (x := a) (by omega)]
  rw [RoundTrip.fld_eq (x := b) (by omega)]
theorem RoundTrip.govstep (d : BitVec 6) (a : BitVec 6) : RoundTrip.Statement (.govstep d a) := by
  have h0 := d.isLt; have h1 := a.isLt
  refine RoundTrip.of_word (n := 0x2E000002 + place d 18 + place a 12) rfl (fun z hz => ?_)
  simp only [place] at hz
  rw [RoundTrip.decode_S (m := 0x2E) (by omega) (by omega) (by omega)]
  show decodeMajor2E _ = _
  have f0 : field z 5 0 = 2 := by unfold field; omega
  have f1 : field z 11 0 = 2 := by unfold field; omega
  simp only [decodeMajor2E, fixed, f0, f1, reduceIte, Nat.reduceEqDiff, RoundTrip.none_or, RoundTrip.some_or, ite_self]
  rw [RoundTrip.fld_eq (x := d) (by omega)]
  rw [RoundTrip.fld_eq (x := a) (by omega)]
theorem RoundTrip.govpin (a : BitVec 6) (b : BitVec 6) : RoundTrip.Statement (.govpin a b) := by
  have h0 := a.isLt; have h1 := b.isLt
  refine RoundTrip.of_word (n := 0x2E000003 + place a 12 + place b 6) rfl (fun z hz => ?_)
  simp only [place] at hz
  rw [RoundTrip.decode_S (m := 0x2E) (by omega) (by omega) (by omega)]
  show decodeMajor2E _ = _
  have f0 : field z 5 0 = 3 := by unfold field; omega
  have f1 : ¬ field z 11 0 = 0x2 := by unfold field; omega
  have f2 : field z 23 18 = 0 := by unfold field; omega
  simp only [decodeMajor2E, fixed, f0, f1, f2, reduceIte, Nat.reduceEqDiff, RoundTrip.none_or]
  rw [RoundTrip.fld_eq (x := a) (by omega)]
  rw [RoundTrip.fld_eq (x := b) (by omega)]
theorem RoundTrip.wqpush (a : BitVec 6) (b : BitVec 6) : RoundTrip.Statement (.wqpush a b) := by
  have h0 := a.isLt; have h1 := b.isLt
  refine RoundTrip.of_word (n := 0x2F000000 + place a 12 + place b 6) rfl (fun z hz => ?_)
  simp only [place] at hz
  rw [RoundTrip.decode_S (m := 0x2F) (by omega) (by omega) (by omega)]
  show decodeMajor2F _ = _
  have f0 : field z 23 18 = 0 := by unfold field; omega
  have f1 : field z 5 0 = 0 := by unfold field; omega
  simp only [decodeMajor2F, fixed, f0, f1, reduceIte, Nat.reduceEqDiff, RoundTrip.none_or, RoundTrip.some_or, ite_self]
  rw [RoundTrip.fld_eq (x := a) (by omega)]
  rw [RoundTrip.fld_eq (x := b) (by omega)]
theorem RoundTrip.wqpop (d : BitVec 6) (b : BitVec 6) : RoundTrip.Statement (.wqpop d b) := by
  have h0 := d.isLt; have h1 := b.isLt
  refine RoundTrip.of_word (n := 0x2F000001 + place d 18 + place b 6) rfl (fun z hz => ?_)
  simp only [place] at hz
  rw [RoundTrip.decode_S (m := 0x2F) (by omega) (by omega) (by omega)]
  show decodeMajor2F _ = _
  have f0 : field z 5 0 = 1 := by unfold field; omega
  have f1 : field z 17 12 = 0 := by unfold field; omega
  simp only [decodeMajor2F, fixed, f0, f1, reduceIte, Nat.reduceEqDiff, RoundTrip.none_or, RoundTrip.some_or, ite_self]
  rw [RoundTrip.fld_eq (x := d) (by omega)]
  rw [RoundTrip.fld_eq (x := b) (by omega)]
theorem RoundTrip.wqroom (d : BitVec 6) (b : BitVec 6) : RoundTrip.Statement (.wqroom d b) := by
  have h0 := d.isLt; have h1 := b.isLt
  refine RoundTrip.of_word (n := 0x2F000002 + place d 18 + place b 6) rfl (fun z hz => ?_)
  simp only [place] at hz
  rw [RoundTrip.decode_S (m := 0x2F) (by omega) (by omega) (by omega)]
  show decodeMajor2F _ = _
  have f0 : field z 5 0 = 2 := by unfold field; omega
  have f1 : field z 17 12 = 0 := by unfold field; omega
  simp only [decodeMajor2F, fixed, f0, f1, reduceIte, Nat.reduceEqDiff, RoundTrip.none_or, RoundTrip.some_or, ite_self]
  rw [RoundTrip.fld_eq (x := d) (by omega)]
  rw [RoundTrip.fld_eq (x := b) (by omega)]
theorem RoundTrip.cqpop (d : BitVec 6) : RoundTrip.Statement (.cqpop d) := by
  have h0 := d.isLt
  refine RoundTrip.of_word (n := 0x2F000003 + place d 18) rfl (fun z hz => ?_)
  simp only [place] at hz
  rw [RoundTrip.decode_S (m := 0x2F) (by omega) (by omega) (by omega)]
  show decodeMajor2F _ = _
  have f0 : field z 5 0 = 3 := by unfold field; omega
  have f1 : field z 17 12 = 0 := by unfold field; omega
  have f2 : field z 17 0 = 3 := by unfold field; omega
  simp only [decodeMajor2F, fixed, f0, f1, f2, reduceIte, Nat.reduceEqDiff, RoundTrip.none_or, ite_self]
  rw [RoundTrip.fld_eq (x := d) (by omega)]
theorem RoundTrip.grpid (d : BitVec 6) (b : BitVec 6) : RoundTrip.Statement (.grpid d b) := by
  have h0 := d.isLt; have h1 := b.isLt
  refine RoundTrip.of_word (n := 0x30000000 + place d 18 + place b 6) rfl (fun z hz => ?_)
  simp only [place] at hz
  rw [RoundTrip.decode_S (m := 0x30) (by omega) (by omega) (by omega)]
  show decodeMajor30 _ = _
  have f0 : field z 17 12 = 0 := by unfold field; omega
  have f1 : field z 5 0 = 0 := by unfold field; omega
  simp only [decodeMajor30, fixed, f0, f1, reduceIte, Nat.reduceEqDiff, RoundTrip.none_or, RoundTrip.some_or, ite_self]
  rw [RoundTrip.fld_eq (x := d) (by omega)]
  rw [RoundTrip.fld_eq (x := b) (by omega)]
theorem RoundTrip.bandq (d : BitVec 6) (b : BitVec 6) : RoundTrip.Statement (.bandq d b) := by
  have h0 := d.isLt; have h1 := b.isLt
  refine RoundTrip.of_word (n := 0x30000001 + place d 18 + place b 6) rfl (fun z hz => ?_)
  simp only [place] at hz
  rw [RoundTrip.decode_S (m := 0x30) (by omega) (by omega) (by omega)]
  show decodeMajor30 _ = _
  have f0 : field z 17 12 = 0 := by unfold field; omega
  have f1 : field z 5 0 = 1 := by unfold field; omega
  simp only [decodeMajor30, fixed, f0, f1, reduceIte, Nat.reduceEqDiff, RoundTrip.none_or, RoundTrip.some_or, ite_self]
  rw [RoundTrip.fld_eq (x := d) (by omega)]
  rw [RoundTrip.fld_eq (x := b) (by omega)]
theorem RoundTrip.phase (d : BitVec 6) (a : BitVec 6) (b : BitVec 6) : RoundTrip.Statement (.phase d a b) := by
  have h0 := d.isLt; have h1 := a.isLt; have h2 := b.isLt
  refine RoundTrip.of_word (n := 0x30000002 + place d 18 + place a 12 + place b 6) rfl (fun z hz => ?_)
  simp only [place] at hz
  rw [RoundTrip.decode_S (m := 0x30) (by omega) (by omega) (by omega)]
  show decodeMajor30 _ = _
  have f0 : field z 5 0 = 2 := by unfold field; omega
  simp only [decodeMajor30, fixed, f0, reduceIte, Nat.reduceEqDiff, RoundTrip.none_or, ite_self]
  rw [RoundTrip.fld_eq (x := d) (by omega)]
  rw [RoundTrip.fld_eq (x := a) (by omega)]
  rw [RoundTrip.fld_eq (x := b) (by omega)]
theorem RoundTrip.barr (d : BitVec 6) (b : BitVec 6) : RoundTrip.Statement (.barr d b) := by
  have h0 := d.isLt; have h1 := b.isLt
  refine RoundTrip.of_word (n := 0x31000000 + place d 18 + place b 6) rfl (fun z hz => ?_)
  simp only [place] at hz
  rw [RoundTrip.decode_S (m := 0x31) (by omega) (by omega) (by omega)]
  show decodeMajor31 _ = _
  have f0 : field z 17 12 = 0 := by unfold field; omega
  have f1 : field z 5 0 = 0 := by unfold field; omega
  simp only [decodeMajor31, fixed, f0, f1, reduceIte, Nat.reduceEqDiff, RoundTrip.none_or, RoundTrip.some_or, ite_self]
  rw [RoundTrip.fld_eq (x := d) (by omega)]
  rw [RoundTrip.fld_eq (x := b) (by omega)]
theorem RoundTrip.barw (d : BitVec 6) (a : BitVec 6) (b : BitVec 6) : RoundTrip.Statement (.barw d a b) := by
  have h0 := d.isLt; have h1 := a.isLt; have h2 := b.isLt
  refine RoundTrip.of_word (n := 0x31000001 + place d 18 + place a 12 + place b 6) rfl (fun z hz => ?_)
  simp only [place] at hz
  rw [RoundTrip.decode_S (m := 0x31) (by omega) (by omega) (by omega)]
  show decodeMajor31 _ = _
  have f0 : field z 5 0 = 1 := by unfold field; omega
  simp only [decodeMajor31, fixed, f0, reduceIte, Nat.reduceEqDiff, RoundTrip.none_or, RoundTrip.some_or, ite_self]
  rw [RoundTrip.fld_eq (x := d) (by omega)]
  rw [RoundTrip.fld_eq (x := a) (by omega)]
  rw [RoundTrip.fld_eq (x := b) (by omega)]
theorem RoundTrip.bars (d : BitVec 6) (b : BitVec 6) : RoundTrip.Statement (.bars d b) := by
  have h0 := d.isLt; have h1 := b.isLt
  refine RoundTrip.of_word (n := 0x31000002 + place d 18 + place b 6) rfl (fun z hz => ?_)
  simp only [place] at hz
  rw [RoundTrip.decode_S (m := 0x31) (by omega) (by omega) (by omega)]
  show decodeMajor31 _ = _
  have f0 : field z 17 12 = 0 := by unfold field; omega
  have f1 : field z 5 0 = 2 := by unfold field; omega
  simp only [decodeMajor31, fixed, f0, f1, reduceIte, Nat.reduceEqDiff, RoundTrip.none_or, RoundTrip.some_or, ite_self]
  rw [RoundTrip.fld_eq (x := d) (by omega)]
  rw [RoundTrip.fld_eq (x := b) (by omega)]
theorem RoundTrip.waitc (c : BitVec 4) (a : BitVec 6) (b : BitVec 6) : RoundTrip.Statement (.waitc c a b) := by
  have h0 := c.isLt; have h1 := a.isLt; have h2 := b.isLt
  refine RoundTrip.of_word (n := 0x31000003 + place c 18 + place a 12 + place b 6) rfl (fun z hz => ?_)
  simp only [place] at hz
  rw [RoundTrip.decode_S (m := 0x31) (by omega) (by omega) (by omega)]
  show decodeMajor31 _ = _
  have f0 : field z 5 0 = 3 := by unfold field; omega
  have f1 : field z 23 22 = 0 := by unfold field; omega
  simp only [decodeMajor31, fixed, f0, f1, reduceIte, Nat.reduceEqDiff, RoundTrip.none_or, ite_self]
  rw [RoundTrip.fld_eq (x := c) (by omega)]
  rw [RoundTrip.fld_eq (x := a) (by omega)]
  rw [RoundTrip.fld_eq (x := b) (by omega)]
theorem RoundTrip.rclf (d : BitVec 6) (a : BitVec 6) : RoundTrip.Statement (.rclf d a) := by
  have h0 := d.isLt; have h1 := a.isLt
  refine RoundTrip.of_word (n := 0x32000000 + place d 18 + place a 12) rfl (fun z hz => ?_)
  simp only [place] at hz
  rw [RoundTrip.decode_S (m := 0x32) (by omega) (by omega) (by omega)]
  show decodeMajor32 _ = _
  have f0 : field z 11 0 = 0 := by unfold field; omega
  simp only [decodeMajor32, fixed, f0, reduceIte, RoundTrip.some_or]
  rw [RoundTrip.fld_eq (x := d) (by omega)]
  rw [RoundTrip.fld_eq (x := a) (by omega)]
theorem RoundTrip.incqry (d : BitVec 6) (a : BitVec 6) (b : BitVec 6) : RoundTrip.Statement (.incqry d a b) := by
  have h0 := d.isLt; have h1 := a.isLt; have h2 := b.isLt
  refine RoundTrip.of_word (n := 0x32000001 + place d 18 + place a 12 + place b 6) rfl (fun z hz => ?_)
  simp only [place] at hz
  rw [RoundTrip.decode_S (m := 0x32) (by omega) (by omega) (by omega)]
  show decodeMajor32 _ = _
  have f0 : ¬ field z 11 0 = 0x0 := by unfold field; omega
  have f1 : field z 5 0 = 1 := by unfold field; omega
  simp only [decodeMajor32, fixed, f0, f1, reduceIte, RoundTrip.none_or, RoundTrip.some_or]
  rw [RoundTrip.fld_eq (x := d) (by omega)]
  rw [RoundTrip.fld_eq (x := a) (by omega)]
  rw [RoundTrip.fld_eq (x := b) (by omega)]
theorem RoundTrip.yield (d : BitVec 6) : RoundTrip.Statement (.yield d) := by
  have h0 := d.isLt
  refine RoundTrip.of_word (n := 0x32000002 + place d 18) rfl (fun z hz => ?_)
  simp only [place] at hz
  rw [RoundTrip.decode_S (m := 0x32) (by omega) (by omega) (by omega)]
  show decodeMajor32 _ = _
  have f0 : field z 11 0 = 2 := by unfold field; omega
  have f1 : field z 5 0 = 2 := by unfold field; omega
  have f2 : field z 17 0 = 2 := by unfold field; omega
  simp only [decodeMajor32, fixed, f0, f1, f2, reduceIte, Nat.reduceEqDiff, RoundTrip.none_or]
  rw [RoundTrip.fld_eq (x := d) (by omega)]
theorem RoundTrip.brk (a : BitVec 6) : RoundTrip.Statement (.brk a) := by
  have h0 := a.isLt
  refine RoundTrip.of_word (n := 0x33000000 + place a 12) rfl (fun z hz => ?_)
  simp only [place] at hz
  rw [RoundTrip.decode_S (m := 0x33) (by omega) (by omega) (by omega)]
  show decodeMajor33 _ = _
  have f0 : field z 23 18 = 0 := by unfold field; omega
  have f1 : field z 11 0 = 0 := by unfold field; omega
  simp only [decodeMajor33, fixed, f0, f1, reduceIte, Nat.reduceEqDiff, RoundTrip.some_or, ite_self]
  rw [RoundTrip.fld_eq (x := a) (by omega)]
theorem RoundTrip.trcmark (a : BitVec 6) : RoundTrip.Statement (.trcmark a) := by
  have h0 := a.isLt
  refine RoundTrip.of_word (n := 0x33000001 + place a 12) rfl (fun z hz => ?_)
  simp only [place] at hz
  rw [RoundTrip.decode_S (m := 0x33) (by omega) (by omega) (by omega)]
  show decodeMajor33 _ = _
  have f0 : field z 23 18 = 0 := by unfold field; omega
  have f1 : field z 11 0 = 1 := by unfold field; omega
  simp only [decodeMajor33, fixed, f0, f1, reduceIte, Nat.reduceEqDiff, RoundTrip.none_or, ite_self]
  rw [RoundTrip.fld_eq (x := a) (by omega)]
theorem RoundTrip.vfma (p : BitVec 2) (d : BitVec 6) (a : BitVec 6) (b : BitVec 6) (c : BitVec 6) : RoundTrip.Statement (.vfma p d a b c) := by
  have h0 := p.isLt; have h1 := d.isLt; have h2 := a.isLt; have h3 := b.isLt; have h4 := c.isLt
  refine RoundTrip.of_word (n := 0x40000000 + place p 24 + place d 18 + place a 12 + place b 6 + place c 0) rfl (fun z hz => ?_)
  simp only [place] at hz
  rcases (by omega : p.toNat = 0 ∨ p.toNat = 1 ∨ p.toNat = 2 ∨ p.toNat = 3) with hp | hp | hp | hp
  · rw [RoundTrip.decode_V (m := 0x00) (by omega) (by omega) (by omega)]
    simp only [RoundTrip.tagV_00]
    rw [RoundTrip.fld_eq (x := p) (by omega)]
    rw [RoundTrip.fld_eq (x := d) (by omega)]
    rw [RoundTrip.fld_eq (x := a) (by omega)]
    rw [RoundTrip.fld_eq (x := b) (by omega)]
    rw [RoundTrip.fld_eq (x := c) (by omega)]
  · rw [RoundTrip.decode_V (m := 0x01) (by omega) (by omega) (by omega)]
    simp only [RoundTrip.tagV_01]
    rw [RoundTrip.fld_eq (x := p) (by omega)]
    rw [RoundTrip.fld_eq (x := d) (by omega)]
    rw [RoundTrip.fld_eq (x := a) (by omega)]
    rw [RoundTrip.fld_eq (x := b) (by omega)]
    rw [RoundTrip.fld_eq (x := c) (by omega)]
  · rw [RoundTrip.decode_V (m := 0x02) (by omega) (by omega) (by omega)]
    simp only [RoundTrip.tagV_02]
    rw [RoundTrip.fld_eq (x := p) (by omega)]
    rw [RoundTrip.fld_eq (x := d) (by omega)]
    rw [RoundTrip.fld_eq (x := a) (by omega)]
    rw [RoundTrip.fld_eq (x := b) (by omega)]
    rw [RoundTrip.fld_eq (x := c) (by omega)]
  · rw [RoundTrip.decode_V (m := 0x03) (by omega) (by omega) (by omega)]
    simp only [RoundTrip.tagV_03]
    rw [RoundTrip.fld_eq (x := p) (by omega)]
    rw [RoundTrip.fld_eq (x := d) (by omega)]
    rw [RoundTrip.fld_eq (x := a) (by omega)]
    rw [RoundTrip.fld_eq (x := b) (by omega)]
    rw [RoundTrip.fld_eq (x := c) (by omega)]
theorem RoundTrip.vfms (p : BitVec 2) (d : BitVec 6) (a : BitVec 6) (b : BitVec 6) (c : BitVec 6) : RoundTrip.Statement (.vfms p d a b c) := by
  have h0 := p.isLt; have h1 := d.isLt; have h2 := a.isLt; have h3 := b.isLt; have h4 := c.isLt
  refine RoundTrip.of_word (n := 0x44000000 + place p 24 + place d 18 + place a 12 + place b 6 + place c 0) rfl (fun z hz => ?_)
  simp only [place] at hz
  rcases (by omega : p.toNat = 0 ∨ p.toNat = 1 ∨ p.toNat = 2 ∨ p.toNat = 3) with hp | hp | hp | hp
  · rw [RoundTrip.decode_V (m := 0x04) (by omega) (by omega) (by omega)]
    simp only [RoundTrip.tagV_04]
    rw [RoundTrip.fld_eq (x := p) (by omega)]
    rw [RoundTrip.fld_eq (x := d) (by omega)]
    rw [RoundTrip.fld_eq (x := a) (by omega)]
    rw [RoundTrip.fld_eq (x := b) (by omega)]
    rw [RoundTrip.fld_eq (x := c) (by omega)]
  · rw [RoundTrip.decode_V (m := 0x05) (by omega) (by omega) (by omega)]
    simp only [RoundTrip.tagV_05]
    rw [RoundTrip.fld_eq (x := p) (by omega)]
    rw [RoundTrip.fld_eq (x := d) (by omega)]
    rw [RoundTrip.fld_eq (x := a) (by omega)]
    rw [RoundTrip.fld_eq (x := b) (by omega)]
    rw [RoundTrip.fld_eq (x := c) (by omega)]
  · rw [RoundTrip.decode_V (m := 0x06) (by omega) (by omega) (by omega)]
    simp only [RoundTrip.tagV_06]
    rw [RoundTrip.fld_eq (x := p) (by omega)]
    rw [RoundTrip.fld_eq (x := d) (by omega)]
    rw [RoundTrip.fld_eq (x := a) (by omega)]
    rw [RoundTrip.fld_eq (x := b) (by omega)]
    rw [RoundTrip.fld_eq (x := c) (by omega)]
  · rw [RoundTrip.decode_V (m := 0x07) (by omega) (by omega) (by omega)]
    simp only [RoundTrip.tagV_07]
    rw [RoundTrip.fld_eq (x := p) (by omega)]
    rw [RoundTrip.fld_eq (x := d) (by omega)]
    rw [RoundTrip.fld_eq (x := a) (by omega)]
    rw [RoundTrip.fld_eq (x := b) (by omega)]
    rw [RoundTrip.fld_eq (x := c) (by omega)]
theorem RoundTrip.vfnma (p : BitVec 2) (d : BitVec 6) (a : BitVec 6) (b : BitVec 6) (c : BitVec 6) : RoundTrip.Statement (.vfnma p d a b c) := by
  have h0 := p.isLt; have h1 := d.isLt; have h2 := a.isLt; have h3 := b.isLt; have h4 := c.isLt
  refine RoundTrip.of_word (n := 0x48000000 + place p 24 + place d 18 + place a 12 + place b 6 + place c 0) rfl (fun z hz => ?_)
  simp only [place] at hz
  rcases (by omega : p.toNat = 0 ∨ p.toNat = 1 ∨ p.toNat = 2 ∨ p.toNat = 3) with hp | hp | hp | hp
  · rw [RoundTrip.decode_V (m := 0x08) (by omega) (by omega) (by omega)]
    simp only [RoundTrip.tagV_08]
    rw [RoundTrip.fld_eq (x := p) (by omega)]
    rw [RoundTrip.fld_eq (x := d) (by omega)]
    rw [RoundTrip.fld_eq (x := a) (by omega)]
    rw [RoundTrip.fld_eq (x := b) (by omega)]
    rw [RoundTrip.fld_eq (x := c) (by omega)]
  · rw [RoundTrip.decode_V (m := 0x09) (by omega) (by omega) (by omega)]
    simp only [RoundTrip.tagV_09]
    rw [RoundTrip.fld_eq (x := p) (by omega)]
    rw [RoundTrip.fld_eq (x := d) (by omega)]
    rw [RoundTrip.fld_eq (x := a) (by omega)]
    rw [RoundTrip.fld_eq (x := b) (by omega)]
    rw [RoundTrip.fld_eq (x := c) (by omega)]
  · rw [RoundTrip.decode_V (m := 0x0A) (by omega) (by omega) (by omega)]
    simp only [RoundTrip.tagV_0A]
    rw [RoundTrip.fld_eq (x := p) (by omega)]
    rw [RoundTrip.fld_eq (x := d) (by omega)]
    rw [RoundTrip.fld_eq (x := a) (by omega)]
    rw [RoundTrip.fld_eq (x := b) (by omega)]
    rw [RoundTrip.fld_eq (x := c) (by omega)]
  · rw [RoundTrip.decode_V (m := 0x0B) (by omega) (by omega) (by omega)]
    simp only [RoundTrip.tagV_0B]
    rw [RoundTrip.fld_eq (x := p) (by omega)]
    rw [RoundTrip.fld_eq (x := d) (by omega)]
    rw [RoundTrip.fld_eq (x := a) (by omega)]
    rw [RoundTrip.fld_eq (x := b) (by omega)]
    rw [RoundTrip.fld_eq (x := c) (by omega)]
theorem RoundTrip.vimad (p : BitVec 2) (d : BitVec 6) (a : BitVec 6) (b : BitVec 6) (c : BitVec 6) : RoundTrip.Statement (.vimad p d a b c) := by
  have h0 := p.isLt; have h1 := d.isLt; have h2 := a.isLt; have h3 := b.isLt; have h4 := c.isLt
  refine RoundTrip.of_word (n := 0x4C000000 + place p 24 + place d 18 + place a 12 + place b 6 + place c 0) rfl (fun z hz => ?_)
  simp only [place] at hz
  rcases (by omega : p.toNat = 0 ∨ p.toNat = 1 ∨ p.toNat = 2 ∨ p.toNat = 3) with hp | hp | hp | hp
  · rw [RoundTrip.decode_V (m := 0x0C) (by omega) (by omega) (by omega)]
    simp only [RoundTrip.tagV_0C]
    rw [RoundTrip.fld_eq (x := p) (by omega)]
    rw [RoundTrip.fld_eq (x := d) (by omega)]
    rw [RoundTrip.fld_eq (x := a) (by omega)]
    rw [RoundTrip.fld_eq (x := b) (by omega)]
    rw [RoundTrip.fld_eq (x := c) (by omega)]
  · rw [RoundTrip.decode_V (m := 0x0D) (by omega) (by omega) (by omega)]
    simp only [RoundTrip.tagV_0D]
    rw [RoundTrip.fld_eq (x := p) (by omega)]
    rw [RoundTrip.fld_eq (x := d) (by omega)]
    rw [RoundTrip.fld_eq (x := a) (by omega)]
    rw [RoundTrip.fld_eq (x := b) (by omega)]
    rw [RoundTrip.fld_eq (x := c) (by omega)]
  · rw [RoundTrip.decode_V (m := 0x0E) (by omega) (by omega) (by omega)]
    simp only [RoundTrip.tagV_0E]
    rw [RoundTrip.fld_eq (x := p) (by omega)]
    rw [RoundTrip.fld_eq (x := d) (by omega)]
    rw [RoundTrip.fld_eq (x := a) (by omega)]
    rw [RoundTrip.fld_eq (x := b) (by omega)]
    rw [RoundTrip.fld_eq (x := c) (by omega)]
  · rw [RoundTrip.decode_V (m := 0x0F) (by omega) (by omega) (by omega)]
    simp only [RoundTrip.tagV_0F]
    rw [RoundTrip.fld_eq (x := p) (by omega)]
    rw [RoundTrip.fld_eq (x := d) (by omega)]
    rw [RoundTrip.fld_eq (x := a) (by omega)]
    rw [RoundTrip.fld_eq (x := b) (by omega)]
    rw [RoundTrip.fld_eq (x := c) (by omega)]
theorem RoundTrip.vqnt (p : BitVec 2) (d : BitVec 6) (a : BitVec 6) (b : BitVec 6) (c : BitVec 6) : RoundTrip.Statement (.vqnt p d a b c) := by
  have h0 := p.isLt; have h1 := d.isLt; have h2 := a.isLt; have h3 := b.isLt; have h4 := c.isLt
  refine RoundTrip.of_word (n := 0x50000000 + place p 24 + place d 18 + place a 12 + place b 6 + place c 0) rfl (fun z hz => ?_)
  simp only [place] at hz
  rcases (by omega : p.toNat = 0 ∨ p.toNat = 1 ∨ p.toNat = 2 ∨ p.toNat = 3) with hp | hp | hp | hp
  · rw [RoundTrip.decode_V (m := 0x10) (by omega) (by omega) (by omega)]
    simp only [RoundTrip.tagV_10]
    rw [RoundTrip.fld_eq (x := p) (by omega)]
    rw [RoundTrip.fld_eq (x := d) (by omega)]
    rw [RoundTrip.fld_eq (x := a) (by omega)]
    rw [RoundTrip.fld_eq (x := b) (by omega)]
    rw [RoundTrip.fld_eq (x := c) (by omega)]
  · rw [RoundTrip.decode_V (m := 0x11) (by omega) (by omega) (by omega)]
    simp only [RoundTrip.tagV_11]
    rw [RoundTrip.fld_eq (x := p) (by omega)]
    rw [RoundTrip.fld_eq (x := d) (by omega)]
    rw [RoundTrip.fld_eq (x := a) (by omega)]
    rw [RoundTrip.fld_eq (x := b) (by omega)]
    rw [RoundTrip.fld_eq (x := c) (by omega)]
  · rw [RoundTrip.decode_V (m := 0x12) (by omega) (by omega) (by omega)]
    simp only [RoundTrip.tagV_12]
    rw [RoundTrip.fld_eq (x := p) (by omega)]
    rw [RoundTrip.fld_eq (x := d) (by omega)]
    rw [RoundTrip.fld_eq (x := a) (by omega)]
    rw [RoundTrip.fld_eq (x := b) (by omega)]
    rw [RoundTrip.fld_eq (x := c) (by omega)]
  · rw [RoundTrip.decode_V (m := 0x13) (by omega) (by omega) (by omega)]
    simp only [RoundTrip.tagV_13]
    rw [RoundTrip.fld_eq (x := p) (by omega)]
    rw [RoundTrip.fld_eq (x := d) (by omega)]
    rw [RoundTrip.fld_eq (x := a) (by omega)]
    rw [RoundTrip.fld_eq (x := b) (by omega)]
    rw [RoundTrip.fld_eq (x := c) (by omega)]
theorem RoundTrip.vadd (d : BitVec 6) (a : BitVec 6) (b : BitVec 6) (s : BitVec 2) (w : BitVec 1) : RoundTrip.Statement (.vadd d a b s w) := by
  have h0 := d.isLt; have h1 := a.isLt; have h2 := b.isLt; have h3 := s.isLt; have h4 := w.isLt
  refine RoundTrip.of_word (n := 0x54000000 + place d 18 + place a 12 + place b 6 + place s 4 + place w 3) rfl (fun z hz => ?_)
  simp only [place] at hz
  rw [RoundTrip.decode_V (m := 0x14) (by omega) (by omega) (by omega)]
  have f0 : field z 2 0 = 0 := by unfold field; omega
  simp only [RoundTrip.tagV_14, fixed, f0, reduceIte]
  rw [RoundTrip.fld_eq (x := d) (by omega)]
  rw [RoundTrip.fld_eq (x := a) (by omega)]
  rw [RoundTrip.fld_eq (x := b) (by omega)]
  rw [RoundTrip.fld_eq (x := s) (by omega)]
  rw [RoundTrip.fld_eq (x := w) (by omega)]
theorem RoundTrip.vsub (d : BitVec 6) (a : BitVec 6) (b : BitVec 6) (s : BitVec 2) (w : BitVec 1) : RoundTrip.Statement (.vsub d a b s w) := by
  have h0 := d.isLt; have h1 := a.isLt; have h2 := b.isLt; have h3 := s.isLt; have h4 := w.isLt
  refine RoundTrip.of_word (n := 0x55000000 + place d 18 + place a 12 + place b 6 + place s 4 + place w 3) rfl (fun z hz => ?_)
  simp only [place] at hz
  rw [RoundTrip.decode_V (m := 0x15) (by omega) (by omega) (by omega)]
  have f0 : field z 2 0 = 0 := by unfold field; omega
  simp only [RoundTrip.tagV_15, fixed, f0, reduceIte]
  rw [RoundTrip.fld_eq (x := d) (by omega)]
  rw [RoundTrip.fld_eq (x := a) (by omega)]
  rw [RoundTrip.fld_eq (x := b) (by omega)]
  rw [RoundTrip.fld_eq (x := s) (by omega)]
  rw [RoundTrip.fld_eq (x := w) (by omega)]
theorem RoundTrip.vmul (d : BitVec 6) (a : BitVec 6) (b : BitVec 6) (s : BitVec 2) (w : BitVec 1) : RoundTrip.Statement (.vmul d a b s w) := by
  have h0 := d.isLt; have h1 := a.isLt; have h2 := b.isLt; have h3 := s.isLt; have h4 := w.isLt
  refine RoundTrip.of_word (n := 0x56000000 + place d 18 + place a 12 + place b 6 + place s 4 + place w 3) rfl (fun z hz => ?_)
  simp only [place] at hz
  rw [RoundTrip.decode_V (m := 0x16) (by omega) (by omega) (by omega)]
  have f0 : field z 2 0 = 0 := by unfold field; omega
  simp only [RoundTrip.tagV_16, fixed, f0, reduceIte]
  rw [RoundTrip.fld_eq (x := d) (by omega)]
  rw [RoundTrip.fld_eq (x := a) (by omega)]
  rw [RoundTrip.fld_eq (x := b) (by omega)]
  rw [RoundTrip.fld_eq (x := s) (by omega)]
  rw [RoundTrip.fld_eq (x := w) (by omega)]
theorem RoundTrip.vmin (d : BitVec 6) (a : BitVec 6) (b : BitVec 6) (s : BitVec 2) (w : BitVec 1) : RoundTrip.Statement (.vmin d a b s w) := by
  have h0 := d.isLt; have h1 := a.isLt; have h2 := b.isLt; have h3 := s.isLt; have h4 := w.isLt
  refine RoundTrip.of_word (n := 0x57000000 + place d 18 + place a 12 + place b 6 + place s 4 + place w 3) rfl (fun z hz => ?_)
  simp only [place] at hz
  rw [RoundTrip.decode_V (m := 0x17) (by omega) (by omega) (by omega)]
  have f0 : field z 2 0 = 0 := by unfold field; omega
  simp only [RoundTrip.tagV_17, fixed, f0, reduceIte]
  rw [RoundTrip.fld_eq (x := d) (by omega)]
  rw [RoundTrip.fld_eq (x := a) (by omega)]
  rw [RoundTrip.fld_eq (x := b) (by omega)]
  rw [RoundTrip.fld_eq (x := s) (by omega)]
  rw [RoundTrip.fld_eq (x := w) (by omega)]
theorem RoundTrip.vmax (d : BitVec 6) (a : BitVec 6) (b : BitVec 6) (s : BitVec 2) (w : BitVec 1) : RoundTrip.Statement (.vmax d a b s w) := by
  have h0 := d.isLt; have h1 := a.isLt; have h2 := b.isLt; have h3 := s.isLt; have h4 := w.isLt
  refine RoundTrip.of_word (n := 0x58000000 + place d 18 + place a 12 + place b 6 + place s 4 + place w 3) rfl (fun z hz => ?_)
  simp only [place] at hz
  rw [RoundTrip.decode_V (m := 0x18) (by omega) (by omega) (by omega)]
  have f0 : field z 2 0 = 0 := by unfold field; omega
  simp only [RoundTrip.tagV_18, fixed, f0, reduceIte]
  rw [RoundTrip.fld_eq (x := d) (by omega)]
  rw [RoundTrip.fld_eq (x := a) (by omega)]
  rw [RoundTrip.fld_eq (x := b) (by omega)]
  rw [RoundTrip.fld_eq (x := s) (by omega)]
  rw [RoundTrip.fld_eq (x := w) (by omega)]
theorem RoundTrip.vabs (d : BitVec 6) (a : BitVec 6) (s : BitVec 2) (w : BitVec 1) : RoundTrip.Statement (.vabs d a s w) := by
  have h0 := d.isLt; have h1 := a.isLt; have h2 := s.isLt; have h3 := w.isLt
  refine RoundTrip.of_word (n := 0x59000000 + place d 18 + place a 12 + place s 4 + place w 3) rfl (fun z hz => ?_)
  simp only [place] at hz
  rw [RoundTrip.decode_V (m := 0x19) (by omega) (by omega) (by omega)]
  show decodeMajor59 _ = _
  have f0 : field z 11 6 = 0 := by unfold field; omega
  have f1 : field z 2 0 = 0 := by unfold field; omega
  simp only [decodeMajor59, fixed, f0, f1, reduceIte, Nat.reduceEqDiff, RoundTrip.none_or, RoundTrip.some_or]
  rw [RoundTrip.fld_eq (x := d) (by omega)]
  rw [RoundTrip.fld_eq (x := a) (by omega)]
  rw [RoundTrip.fld_eq (x := s) (by omega)]
  rw [RoundTrip.fld_eq (x := w) (by omega)]
theorem RoundTrip.vneg (d : BitVec 6) (a : BitVec 6) (s : BitVec 2) (w : BitVec 1) : RoundTrip.Statement (.vneg d a s w) := by
  have h0 := d.isLt; have h1 := a.isLt; have h2 := s.isLt; have h3 := w.isLt
  refine RoundTrip.of_word (n := 0x59000040 + place d 18 + place a 12 + place s 4 + place w 3) rfl (fun z hz => ?_)
  simp only [place] at hz
  rw [RoundTrip.decode_V (m := 0x19) (by omega) (by omega) (by omega)]
  show decodeMajor59 _ = _
  have f0 : field z 11 6 = 1 := by unfold field; omega
  have f1 : field z 2 0 = 0 := by unfold field; omega
  simp only [decodeMajor59, fixed, f0, f1, reduceIte, Nat.reduceEqDiff, RoundTrip.none_or, RoundTrip.some_or]
  rw [RoundTrip.fld_eq (x := d) (by omega)]
  rw [RoundTrip.fld_eq (x := a) (by omega)]
  rw [RoundTrip.fld_eq (x := s) (by omega)]
  rw [RoundTrip.fld_eq (x := w) (by omega)]
theorem RoundTrip.vrcp (d : BitVec 6) (a : BitVec 6) (s : BitVec 2) (w : BitVec 1) : RoundTrip.Statement (.vrcp d a s w) := by
  have h0 := d.isLt; have h1 := a.isLt; have h2 := s.isLt; have h3 := w.isLt
  refine RoundTrip.of_word (n := 0x59000080 + place d 18 + place a 12 + place s 4 + place w 3) rfl (fun z hz => ?_)
  simp only [place] at hz
  rw [RoundTrip.decode_V (m := 0x19) (by omega) (by omega) (by omega)]
  show decodeMajor59 _ = _
  have f0 : field z 11 6 = 2 := by unfold field; omega
  have f1 : field z 2 0 = 0 := by unfold field; omega
  simp only [decodeMajor59, fixed, f0, f1, reduceIte, Nat.reduceEqDiff, RoundTrip.none_or, RoundTrip.some_or]
  rw [RoundTrip.fld_eq (x := d) (by omega)]
  rw [RoundTrip.fld_eq (x := a) (by omega)]
  rw [RoundTrip.fld_eq (x := s) (by omega)]
  rw [RoundTrip.fld_eq (x := w) (by omega)]
theorem RoundTrip.vrsq (d : BitVec 6) (a : BitVec 6) (s : BitVec 2) (w : BitVec 1) : RoundTrip.Statement (.vrsq d a s w) := by
  have h0 := d.isLt; have h1 := a.isLt; have h2 := s.isLt; have h3 := w.isLt
  refine RoundTrip.of_word (n := 0x590000C0 + place d 18 + place a 12 + place s 4 + place w 3) rfl (fun z hz => ?_)
  simp only [place] at hz
  rw [RoundTrip.decode_V (m := 0x19) (by omega) (by omega) (by omega)]
  show decodeMajor59 _ = _
  have f0 : field z 11 6 = 3 := by unfold field; omega
  have f1 : field z 2 0 = 0 := by unfold field; omega
  simp only [decodeMajor59, fixed, f0, f1, reduceIte, Nat.reduceEqDiff, RoundTrip.none_or, RoundTrip.some_or]
  rw [RoundTrip.fld_eq (x := d) (by omega)]
  rw [RoundTrip.fld_eq (x := a) (by omega)]
  rw [RoundTrip.fld_eq (x := s) (by omega)]
  rw [RoundTrip.fld_eq (x := w) (by omega)]
theorem RoundTrip.vsqrt (d : BitVec 6) (a : BitVec 6) (s : BitVec 2) (w : BitVec 1) : RoundTrip.Statement (.vsqrt d a s w) := by
  have h0 := d.isLt; have h1 := a.isLt; have h2 := s.isLt; have h3 := w.isLt
  refine RoundTrip.of_word (n := 0x59000100 + place d 18 + place a 12 + place s 4 + place w 3) rfl (fun z hz => ?_)
  simp only [place] at hz
  rw [RoundTrip.decode_V (m := 0x19) (by omega) (by omega) (by omega)]
  show decodeMajor59 _ = _
  have f0 : field z 11 6 = 4 := by unfold field; omega
  have f1 : field z 2 0 = 0 := by unfold field; omega
  simp only [decodeMajor59, fixed, f0, f1, reduceIte, Nat.reduceEqDiff, RoundTrip.none_or, RoundTrip.some_or]
  rw [RoundTrip.fld_eq (x := d) (by omega)]
  rw [RoundTrip.fld_eq (x := a) (by omega)]
  rw [RoundTrip.fld_eq (x := s) (by omega)]
  rw [RoundTrip.fld_eq (x := w) (by omega)]
theorem RoundTrip.vexp2 (d : BitVec 6) (a : BitVec 6) (s : BitVec 2) (w : BitVec 1) : RoundTrip.Statement (.vexp2 d a s w) := by
  have h0 := d.isLt; have h1 := a.isLt; have h2 := s.isLt; have h3 := w.isLt
  refine RoundTrip.of_word (n := 0x59000140 + place d 18 + place a 12 + place s 4 + place w 3) rfl (fun z hz => ?_)
  simp only [place] at hz
  rw [RoundTrip.decode_V (m := 0x19) (by omega) (by omega) (by omega)]
  show decodeMajor59 _ = _
  have f0 : field z 11 6 = 5 := by unfold field; omega
  have f1 : field z 2 0 = 0 := by unfold field; omega
  simp only [decodeMajor59, fixed, f0, f1, reduceIte, Nat.reduceEqDiff, RoundTrip.none_or, RoundTrip.some_or]
  rw [RoundTrip.fld_eq (x := d) (by omega)]
  rw [RoundTrip.fld_eq (x := a) (by omega)]
  rw [RoundTrip.fld_eq (x := s) (by omega)]
  rw [RoundTrip.fld_eq (x := w) (by omega)]
theorem RoundTrip.vlog2 (d : BitVec 6) (a : BitVec 6) (s : BitVec 2) (w : BitVec 1) : RoundTrip.Statement (.vlog2 d a s w) := by
  have h0 := d.isLt; have h1 := a.isLt; have h2 := s.isLt; have h3 := w.isLt
  refine RoundTrip.of_word (n := 0x59000180 + place d 18 + place a 12 + place s 4 + place w 3) rfl (fun z hz => ?_)
  simp only [place] at hz
  rw [RoundTrip.decode_V (m := 0x19) (by omega) (by omega) (by omega)]
  show decodeMajor59 _ = _
  have f0 : field z 11 6 = 6 := by unfold field; omega
  have f1 : field z 2 0 = 0 := by unfold field; omega
  simp only [decodeMajor59, fixed, f0, f1, reduceIte, Nat.reduceEqDiff, RoundTrip.none_or, RoundTrip.some_or]
  rw [RoundTrip.fld_eq (x := d) (by omega)]
  rw [RoundTrip.fld_eq (x := a) (by omega)]
  rw [RoundTrip.fld_eq (x := s) (by omega)]
  rw [RoundTrip.fld_eq (x := w) (by omega)]
theorem RoundTrip.vtanh (d : BitVec 6) (a : BitVec 6) (s : BitVec 2) (w : BitVec 1) : RoundTrip.Statement (.vtanh d a s w) := by
  have h0 := d.isLt; have h1 := a.isLt; have h2 := s.isLt; have h3 := w.isLt
  refine RoundTrip.of_word (n := 0x590001C0 + place d 18 + place a 12 + place s 4 + place w 3) rfl (fun z hz => ?_)
  simp only [place] at hz
  rw [RoundTrip.decode_V (m := 0x19) (by omega) (by omega) (by omega)]
  show decodeMajor59 _ = _
  have f0 : field z 11 6 = 7 := by unfold field; omega
  have f1 : field z 2 0 = 0 := by unfold field; omega
  simp only [decodeMajor59, fixed, f0, f1, reduceIte, Nat.reduceEqDiff, RoundTrip.none_or, RoundTrip.some_or]
  rw [RoundTrip.fld_eq (x := d) (by omega)]
  rw [RoundTrip.fld_eq (x := a) (by omega)]
  rw [RoundTrip.fld_eq (x := s) (by omega)]
  rw [RoundTrip.fld_eq (x := w) (by omega)]
theorem RoundTrip.vsigm (d : BitVec 6) (a : BitVec 6) (s : BitVec 2) (w : BitVec 1) : RoundTrip.Statement (.vsigm d a s w) := by
  have h0 := d.isLt; have h1 := a.isLt; have h2 := s.isLt; have h3 := w.isLt
  refine RoundTrip.of_word (n := 0x59000200 + place d 18 + place a 12 + place s 4 + place w 3) rfl (fun z hz => ?_)
  simp only [place] at hz
  rw [RoundTrip.decode_V (m := 0x19) (by omega) (by omega) (by omega)]
  show decodeMajor59 _ = _
  have f0 : field z 11 6 = 8 := by unfold field; omega
  have f1 : field z 2 0 = 0 := by unfold field; omega
  simp only [decodeMajor59, fixed, f0, f1, reduceIte, Nat.reduceEqDiff, RoundTrip.none_or]
  rw [RoundTrip.fld_eq (x := d) (by omega)]
  rw [RoundTrip.fld_eq (x := a) (by omega)]
  rw [RoundTrip.fld_eq (x := s) (by omega)]
  rw [RoundTrip.fld_eq (x := w) (by omega)]
theorem RoundTrip.viadd (d : BitVec 6) (a : BitVec 6) (b : BitVec 6) (s : BitVec 2) (w : BitVec 1) (t : BitVec 1) : RoundTrip.Statement (.viadd d a b s w t) := by
  have h0 := d.isLt; have h1 := a.isLt; have h2 := b.isLt; have h3 := s.isLt; have h4 := w.isLt; have h5 := t.isLt
  refine RoundTrip.of_word (n := 0x5A000000 + place d 18 + place a 12 + place b 6 + place s 4 + place w 3 + place t 0) rfl (fun z hz => ?_)
  simp only [place] at hz
  rw [RoundTrip.decode_V (m := 0x1A) (by omega) (by omega) (by omega)]
  have f0 : field z 2 1 = 0 := by unfold field; omega
  simp only [RoundTrip.tagV_1A, fixed, f0, reduceIte]
  rw [RoundTrip.fld_eq (x := d) (by omega)]
  rw [RoundTrip.fld_eq (x := a) (by omega)]
  rw [RoundTrip.fld_eq (x := b) (by omega)]
  rw [RoundTrip.fld_eq (x := s) (by omega)]
  rw [RoundTrip.fld_eq (x := w) (by omega)]
  rw [RoundTrip.fld_eq (x := t) (by omega)]
theorem RoundTrip.visub (d : BitVec 6) (a : BitVec 6) (b : BitVec 6) (s : BitVec 2) (w : BitVec 1) (t : BitVec 1) : RoundTrip.Statement (.visub d a b s w t) := by
  have h0 := d.isLt; have h1 := a.isLt; have h2 := b.isLt; have h3 := s.isLt; have h4 := w.isLt; have h5 := t.isLt
  refine RoundTrip.of_word (n := 0x5B000000 + place d 18 + place a 12 + place b 6 + place s 4 + place w 3 + place t 0) rfl (fun z hz => ?_)
  simp only [place] at hz
  rw [RoundTrip.decode_V (m := 0x1B) (by omega) (by omega) (by omega)]
  have f0 : field z 2 1 = 0 := by unfold field; omega
  simp only [RoundTrip.tagV_1B, fixed, f0, reduceIte]
  rw [RoundTrip.fld_eq (x := d) (by omega)]
  rw [RoundTrip.fld_eq (x := a) (by omega)]
  rw [RoundTrip.fld_eq (x := b) (by omega)]
  rw [RoundTrip.fld_eq (x := s) (by omega)]
  rw [RoundTrip.fld_eq (x := w) (by omega)]
  rw [RoundTrip.fld_eq (x := t) (by omega)]
theorem RoundTrip.vimul (d : BitVec 6) (a : BitVec 6) (b : BitVec 6) (s : BitVec 2) (w : BitVec 1) (t : BitVec 1) : RoundTrip.Statement (.vimul d a b s w t) := by
  have h0 := d.isLt; have h1 := a.isLt; have h2 := b.isLt; have h3 := s.isLt; have h4 := w.isLt; have h5 := t.isLt
  refine RoundTrip.of_word (n := 0x5C000000 + place d 18 + place a 12 + place b 6 + place s 4 + place w 3 + place t 0) rfl (fun z hz => ?_)
  simp only [place] at hz
  rw [RoundTrip.decode_V (m := 0x1C) (by omega) (by omega) (by omega)]
  have f0 : field z 2 1 = 0 := by unfold field; omega
  simp only [RoundTrip.tagV_1C, fixed, f0, reduceIte]
  rw [RoundTrip.fld_eq (x := d) (by omega)]
  rw [RoundTrip.fld_eq (x := a) (by omega)]
  rw [RoundTrip.fld_eq (x := b) (by omega)]
  rw [RoundTrip.fld_eq (x := s) (by omega)]
  rw [RoundTrip.fld_eq (x := w) (by omega)]
  rw [RoundTrip.fld_eq (x := t) (by omega)]
theorem RoundTrip.vand (d : BitVec 6) (a : BitVec 6) (b : BitVec 6) (s : BitVec 2) (w : BitVec 1) : RoundTrip.Statement (.vand d a b s w) := by
  have h0 := d.isLt; have h1 := a.isLt; have h2 := b.isLt; have h3 := s.isLt; have h4 := w.isLt
  refine RoundTrip.of_word (n := 0x5D000000 + place d 18 + place a 12 + place b 6 + place s 4 + place w 3) rfl (fun z hz => ?_)
  simp only [place] at hz
  rw [RoundTrip.decode_V (m := 0x1D) (by omega) (by omega) (by omega)]
  have f0 : field z 2 0 = 0 := by unfold field; omega
  simp only [RoundTrip.tagV_1D, fixed, f0, reduceIte]
  rw [RoundTrip.fld_eq (x := d) (by omega)]
  rw [RoundTrip.fld_eq (x := a) (by omega)]
  rw [RoundTrip.fld_eq (x := b) (by omega)]
  rw [RoundTrip.fld_eq (x := s) (by omega)]
  rw [RoundTrip.fld_eq (x := w) (by omega)]
theorem RoundTrip.vor (d : BitVec 6) (a : BitVec 6) (b : BitVec 6) (s : BitVec 2) (w : BitVec 1) : RoundTrip.Statement (.vor d a b s w) := by
  have h0 := d.isLt; have h1 := a.isLt; have h2 := b.isLt; have h3 := s.isLt; have h4 := w.isLt
  refine RoundTrip.of_word (n := 0x5E000000 + place d 18 + place a 12 + place b 6 + place s 4 + place w 3) rfl (fun z hz => ?_)
  simp only [place] at hz
  rw [RoundTrip.decode_V (m := 0x1E) (by omega) (by omega) (by omega)]
  have f0 : field z 2 0 = 0 := by unfold field; omega
  simp only [RoundTrip.tagV_1E, fixed, f0, reduceIte]
  rw [RoundTrip.fld_eq (x := d) (by omega)]
  rw [RoundTrip.fld_eq (x := a) (by omega)]
  rw [RoundTrip.fld_eq (x := b) (by omega)]
  rw [RoundTrip.fld_eq (x := s) (by omega)]
  rw [RoundTrip.fld_eq (x := w) (by omega)]
theorem RoundTrip.vxor (d : BitVec 6) (a : BitVec 6) (b : BitVec 6) (s : BitVec 2) (w : BitVec 1) : RoundTrip.Statement (.vxor d a b s w) := by
  have h0 := d.isLt; have h1 := a.isLt; have h2 := b.isLt; have h3 := s.isLt; have h4 := w.isLt
  refine RoundTrip.of_word (n := 0x5F000000 + place d 18 + place a 12 + place b 6 + place s 4 + place w 3) rfl (fun z hz => ?_)
  simp only [place] at hz
  rw [RoundTrip.decode_V (m := 0x1F) (by omega) (by omega) (by omega)]
  have f0 : field z 2 0 = 0 := by unfold field; omega
  simp only [RoundTrip.tagV_1F, fixed, f0, reduceIte]
  rw [RoundTrip.fld_eq (x := d) (by omega)]
  rw [RoundTrip.fld_eq (x := a) (by omega)]
  rw [RoundTrip.fld_eq (x := b) (by omega)]
  rw [RoundTrip.fld_eq (x := s) (by omega)]
  rw [RoundTrip.fld_eq (x := w) (by omega)]
theorem RoundTrip.vshl (d : BitVec 6) (a : BitVec 6) (b : BitVec 6) (s : BitVec 2) (w : BitVec 1) (i : BitVec 1) : RoundTrip.Statement (.vshl d a b s w i) := by
  have h0 := d.isLt; have h1 := a.isLt; have h2 := b.isLt; have h3 := s.isLt; have h4 := w.isLt; have h5 := i.isLt
  refine RoundTrip.of_word (n := 0x60000000 + place d 18 + place a 12 + place b 6 + place s 4 + place w 3 + place i 0) rfl (fun z hz => ?_)
  simp only [place] at hz
  rw [RoundTrip.decode_V (m := 0x20) (by omega) (by omega) (by omega)]
  have f0 : field z 2 1 = 0 := by unfold field; omega
  simp only [RoundTrip.tagV_20, fixed, f0, reduceIte]
  rw [RoundTrip.fld_eq (x := d) (by omega)]
  rw [RoundTrip.fld_eq (x := a) (by omega)]
  rw [RoundTrip.fld_eq (x := b) (by omega)]
  rw [RoundTrip.fld_eq (x := s) (by omega)]
  rw [RoundTrip.fld_eq (x := w) (by omega)]
  rw [RoundTrip.fld_eq (x := i) (by omega)]
theorem RoundTrip.vshr (d : BitVec 6) (a : BitVec 6) (b : BitVec 6) (s : BitVec 2) (w : BitVec 1) (i : BitVec 1) : RoundTrip.Statement (.vshr d a b s w i) := by
  have h0 := d.isLt; have h1 := a.isLt; have h2 := b.isLt; have h3 := s.isLt; have h4 := w.isLt; have h5 := i.isLt
  refine RoundTrip.of_word (n := 0x61000000 + place d 18 + place a 12 + place b 6 + place s 4 + place w 3 + place i 0) rfl (fun z hz => ?_)
  simp only [place] at hz
  rw [RoundTrip.decode_V (m := 0x21) (by omega) (by omega) (by omega)]
  have f0 : field z 2 1 = 0 := by unfold field; omega
  simp only [RoundTrip.tagV_21, fixed, f0, reduceIte]
  rw [RoundTrip.fld_eq (x := d) (by omega)]
  rw [RoundTrip.fld_eq (x := a) (by omega)]
  rw [RoundTrip.fld_eq (x := b) (by omega)]
  rw [RoundTrip.fld_eq (x := s) (by omega)]
  rw [RoundTrip.fld_eq (x := w) (by omega)]
  rw [RoundTrip.fld_eq (x := i) (by omega)]
theorem RoundTrip.vsar (d : BitVec 6) (a : BitVec 6) (b : BitVec 6) (s : BitVec 2) (w : BitVec 1) (i : BitVec 1) : RoundTrip.Statement (.vsar d a b s w i) := by
  have h0 := d.isLt; have h1 := a.isLt; have h2 := b.isLt; have h3 := s.isLt; have h4 := w.isLt; have h5 := i.isLt
  refine RoundTrip.of_word (n := 0x62000000 + place d 18 + place a 12 + place b 6 + place s 4 + place w 3 + place i 0) rfl (fun z hz => ?_)
  simp only [place] at hz
  rw [RoundTrip.decode_V (m := 0x22) (by omega) (by omega) (by omega)]
  have f0 : field z 2 1 = 0 := by unfold field; omega
  simp only [RoundTrip.tagV_22, fixed, f0, reduceIte]
  rw [RoundTrip.fld_eq (x := d) (by omega)]
  rw [RoundTrip.fld_eq (x := a) (by omega)]
  rw [RoundTrip.fld_eq (x := b) (by omega)]
  rw [RoundTrip.fld_eq (x := s) (by omega)]
  rw [RoundTrip.fld_eq (x := w) (by omega)]
  rw [RoundTrip.fld_eq (x := i) (by omega)]
theorem RoundTrip.vcmp (a : BitVec 6) (b : BitVec 6) (s : BitVec 2) (w : BitVec 1) (c : BitVec 3) : RoundTrip.Statement (.vcmp a b s w c) := by
  have h0 := a.isLt; have h1 := b.isLt; have h2 := s.isLt; have h3 := w.isLt; have h4 := c.isLt
  refine RoundTrip.of_word (n := 0x63000000 + place a 12 + place b 6 + place s 4 + place w 3 + place c 0) rfl (fun z hz => ?_)
  simp only [place] at hz
  rw [RoundTrip.decode_V (m := 0x23) (by omega) (by omega) (by omega)]
  have f0 : field z 23 18 = 0 := by unfold field; omega
  simp only [RoundTrip.tagV_23, fixed, f0, reduceIte]
  rw [RoundTrip.fld_eq (x := a) (by omega)]
  rw [RoundTrip.fld_eq (x := b) (by omega)]
  rw [RoundTrip.fld_eq (x := s) (by omega)]
  rw [RoundTrip.fld_eq (x := w) (by omega)]
  rw [RoundTrip.fld_eq (x := c) (by omega)]
theorem RoundTrip.vmand (a : BitVec 6) (s : BitVec 2) (w : BitVec 1) : RoundTrip.Statement (.vmand a s w) := by
  have h0 := a.isLt; have h1 := s.isLt; have h2 := w.isLt
  refine RoundTrip.of_word (n := 0x66000000 + place a 12 + place s 4 + place w 3) rfl (fun z hz => ?_)
  simp only [place] at hz
  rw [RoundTrip.decode_V (m := 0x26) (by omega) (by omega) (by omega)]
  have f0 : field z 23 18 = 0 := by unfold field; omega
  have f1 : field z 11 6 = 0 := by unfold field; omega
  have f2 : field z 2 0 = 0 := by unfold field; omega
  simp only [RoundTrip.tagV_26, fixed, f0, f1, f2, reduceIte]
  rw [RoundTrip.fld_eq (x := a) (by omega)]
  rw [RoundTrip.fld_eq (x := s) (by omega)]
  rw [RoundTrip.fld_eq (x := w) (by omega)]
theorem RoundTrip.vsel (d : BitVec 6) (a : BitVec 6) (b : BitVec 6) (s : BitVec 2) (w : BitVec 1) : RoundTrip.Statement (.vsel d a b s w) := by
  have h0 := d.isLt; have h1 := a.isLt; have h2 := b.isLt; have h3 := s.isLt; have h4 := w.isLt
  refine RoundTrip.of_word (n := 0x67000000 + place d 18 + place a 12 + place b 6 + place s 4 + place w 3) rfl (fun z hz => ?_)
  simp only [place] at hz
  rw [RoundTrip.decode_V (m := 0x27) (by omega) (by omega) (by omega)]
  have f0 : field z 2 0 = 0 := by unfold field; omega
  simp only [RoundTrip.tagV_27, fixed, f0, reduceIte]
  rw [RoundTrip.fld_eq (x := d) (by omega)]
  rw [RoundTrip.fld_eq (x := a) (by omega)]
  rw [RoundTrip.fld_eq (x := b) (by omega)]
  rw [RoundTrip.fld_eq (x := s) (by omega)]
  rw [RoundTrip.fld_eq (x := w) (by omega)]
theorem RoundTrip.vany (s : BitVec 2) (w : BitVec 1) : RoundTrip.Statement (.vany s w) := by
  have h0 := s.isLt; have h1 := w.isLt
  refine RoundTrip.of_word (n := 0x68000000 + place s 4 + place w 3) rfl (fun z hz => ?_)
  simp only [place] at hz
  rw [RoundTrip.decode_V (m := 0x28) (by omega) (by omega) (by omega)]
  have f0 : field z 23 6 = 0 := by unfold field; omega
  have f1 : field z 2 0 = 0 := by unfold field; omega
  simp only [RoundTrip.tagV_28, fixed, f0, f1, reduceIte]
  rw [RoundTrip.fld_eq (x := s) (by omega)]
  rw [RoundTrip.fld_eq (x := w) (by omega)]
theorem RoundTrip.vall (s : BitVec 2) (w : BitVec 1) : RoundTrip.Statement (.vall s w) := by
  have h0 := s.isLt; have h1 := w.isLt
  refine RoundTrip.of_word (n := 0x69000000 + place s 4 + place w 3) rfl (fun z hz => ?_)
  simp only [place] at hz
  rw [RoundTrip.decode_V (m := 0x29) (by omega) (by omega) (by omega)]
  have f0 : field z 23 6 = 0 := by unfold field; omega
  have f1 : field z 2 0 = 0 := by unfold field; omega
  simp only [RoundTrip.tagV_29, fixed, f0, f1, reduceIte]
  rw [RoundTrip.fld_eq (x := s) (by omega)]
  rw [RoundTrip.fld_eq (x := w) (by omega)]
theorem RoundTrip.vcvtFlt (d : BitVec 6) (a : BitVec 6) (r : BitVec 6) (s : BitVec 2) (w : BitVec 1) (t : BitVec 2) : RoundTrip.Statement (.vcvtFlt d a r s w t) := by
  have h0 := d.isLt; have h1 := a.isLt; have h2 := r.isLt; have h3 := s.isLt; have h4 := w.isLt; have h5 := t.isLt
  refine RoundTrip.of_word (n := 0x6A000000 + place d 18 + place a 12 + place r 6 + place s 4 + place w 3 + place t 0) rfl (fun z hz => ?_)
  simp only [place] at hz
  rw [RoundTrip.decode_V (m := 0x2A) (by omega) (by omega) (by omega)]
  have f0 : field z 2 2 = 0 := by unfold field; omega
  simp only [RoundTrip.tagV_2A, fixed, f0, reduceIte]
  rw [RoundTrip.fld_eq (x := d) (by omega)]
  rw [RoundTrip.fld_eq (x := a) (by omega)]
  rw [RoundTrip.fld_eq (x := r) (by omega)]
  rw [RoundTrip.fld_eq (x := s) (by omega)]
  rw [RoundTrip.fld_eq (x := w) (by omega)]
  rw [RoundTrip.fld_eq (x := t) (by omega)]
theorem RoundTrip.vcvtInt (d : BitVec 6) (a : BitVec 6) (r : BitVec 6) (s : BitVec 2) (w : BitVec 1) (t : BitVec 2) : RoundTrip.Statement (.vcvtInt d a r s w t) := by
  have h0 := d.isLt; have h1 := a.isLt; have h2 := r.isLt; have h3 := s.isLt; have h4 := w.isLt; have h5 := t.isLt
  refine RoundTrip.of_word (n := 0x6B000000 + place d 18 + place a 12 + place r 6 + place s 4 + place w 3 + place t 0) rfl (fun z hz => ?_)
  simp only [place] at hz
  rw [RoundTrip.decode_V (m := 0x2B) (by omega) (by omega) (by omega)]
  have f0 : field z 2 2 = 0 := by unfold field; omega
  simp only [RoundTrip.tagV_2B, fixed, f0, reduceIte]
  rw [RoundTrip.fld_eq (x := d) (by omega)]
  rw [RoundTrip.fld_eq (x := a) (by omega)]
  rw [RoundTrip.fld_eq (x := r) (by omega)]
  rw [RoundTrip.fld_eq (x := s) (by omega)]
  rw [RoundTrip.fld_eq (x := w) (by omega)]
  rw [RoundTrip.fld_eq (x := t) (by omega)]
theorem RoundTrip.vdq (d : BitVec 6) (a : BitVec 6) (b : BitVec 6) (s : BitVec 2) (w : BitVec 1) : RoundTrip.Statement (.vdq d a b s w) := by
  have h0 := d.isLt; have h1 := a.isLt; have h2 := b.isLt; have h3 := s.isLt; have h4 := w.isLt
  refine RoundTrip.of_word (n := 0x6C000000 + place d 18 + place a 12 + place b 6 + place s 4 + place w 3) rfl (fun z hz => ?_)
  simp only [place] at hz
  rw [RoundTrip.decode_V (m := 0x2C) (by omega) (by omega) (by omega)]
  have f0 : field z 2 0 = 0 := by unfold field; omega
  simp only [RoundTrip.tagV_2C, fixed, f0, reduceIte]
  rw [RoundTrip.fld_eq (x := d) (by omega)]
  rw [RoundTrip.fld_eq (x := a) (by omega)]
  rw [RoundTrip.fld_eq (x := b) (by omega)]
  rw [RoundTrip.fld_eq (x := s) (by omega)]
  rw [RoundTrip.fld_eq (x := w) (by omega)]
theorem RoundTrip.vamax (d : BitVec 6) (a : BitVec 6) (s : BitVec 2) (w : BitVec 1) (c : BitVec 1) : RoundTrip.Statement (.vamax d a s w c) := by
  have h0 := d.isLt; have h1 := a.isLt; have h2 := s.isLt; have h3 := w.isLt; have h4 := c.isLt
  refine RoundTrip.of_word (n := 0x6D000000 + place d 18 + place a 12 + place s 4 + place w 3 + place c 0) rfl (fun z hz => ?_)
  simp only [place] at hz
  rw [RoundTrip.decode_V (m := 0x2D) (by omega) (by omega) (by omega)]
  have f0 : field z 11 6 = 0 := by unfold field; omega
  have f1 : field z 2 1 = 0 := by unfold field; omega
  simp only [RoundTrip.tagV_2D, fixed, f0, f1, reduceIte]
  rw [RoundTrip.fld_eq (x := d) (by omega)]
  rw [RoundTrip.fld_eq (x := a) (by omega)]
  rw [RoundTrip.fld_eq (x := s) (by omega)]
  rw [RoundTrip.fld_eq (x := w) (by omega)]
  rw [RoundTrip.fld_eq (x := c) (by omega)]
theorem RoundTrip.vscl (d : BitVec 6) (a : BitVec 6) (b : BitVec 6) (s : BitVec 2) (w : BitVec 1) (n : BitVec 1) : RoundTrip.Statement (.vscl d a b s w n) := by
  have h0 := d.isLt; have h1 := a.isLt; have h2 := b.isLt; have h3 := s.isLt; have h4 := w.isLt; have h5 := n.isLt
  refine RoundTrip.of_word (n := 0x6E000000 + place d 18 + place a 12 + place b 6 + place s 4 + place w 3 + place n 0) rfl (fun z hz => ?_)
  simp only [place] at hz
  rw [RoundTrip.decode_V (m := 0x2E) (by omega) (by omega) (by omega)]
  have f0 : field z 2 1 = 0 := by unfold field; omega
  simp only [RoundTrip.tagV_2E, fixed, f0, reduceIte]
  rw [RoundTrip.fld_eq (x := d) (by omega)]
  rw [RoundTrip.fld_eq (x := a) (by omega)]
  rw [RoundTrip.fld_eq (x := b) (by omega)]
  rw [RoundTrip.fld_eq (x := s) (by omega)]
  rw [RoundTrip.fld_eq (x := w) (by omega)]
  rw [RoundTrip.fld_eq (x := n) (by omega)]
theorem RoundTrip.vrsum (d : BitVec 6) (a : BitVec 6) (s : BitVec 2) (w : BitVec 1) (r : BitVec 1) : RoundTrip.Statement (.vrsum d a s w r) := by
  have h0 := d.isLt; have h1 := a.isLt; have h2 := s.isLt; have h3 := w.isLt; have h4 := r.isLt
  refine RoundTrip.of_word (n := 0x6F000000 + place d 18 + place a 12 + place s 4 + place w 3 + place r 0) rfl (fun z hz => ?_)
  simp only [place] at hz
  rw [RoundTrip.decode_V (m := 0x2F) (by omega) (by omega) (by omega)]
  have f0 : field z 11 6 = 0 := by unfold field; omega
  have f1 : field z 2 1 = 0 := by unfold field; omega
  simp only [RoundTrip.tagV_2F, fixed, f0, f1, reduceIte]
  rw [RoundTrip.fld_eq (x := d) (by omega)]
  rw [RoundTrip.fld_eq (x := a) (by omega)]
  rw [RoundTrip.fld_eq (x := s) (by omega)]
  rw [RoundTrip.fld_eq (x := w) (by omega)]
  rw [RoundTrip.fld_eq (x := r) (by omega)]
theorem RoundTrip.vrmax (d : BitVec 6) (a : BitVec 6) (s : BitVec 2) (w : BitVec 1) (r : BitVec 1) : RoundTrip.Statement (.vrmax d a s w r) := by
  have h0 := d.isLt; have h1 := a.isLt; have h2 := s.isLt; have h3 := w.isLt; have h4 := r.isLt
  refine RoundTrip.of_word (n := 0x70000000 + place d 18 + place a 12 + place s 4 + place w 3 + place r 0) rfl (fun z hz => ?_)
  simp only [place] at hz
  rw [RoundTrip.decode_V (m := 0x30) (by omega) (by omega) (by omega)]
  have f0 : field z 11 6 = 0 := by unfold field; omega
  have f1 : field z 2 1 = 0 := by unfold field; omega
  simp only [RoundTrip.tagV_30, fixed, f0, f1, reduceIte]
  rw [RoundTrip.fld_eq (x := d) (by omega)]
  rw [RoundTrip.fld_eq (x := a) (by omega)]
  rw [RoundTrip.fld_eq (x := s) (by omega)]
  rw [RoundTrip.fld_eq (x := w) (by omega)]
  rw [RoundTrip.fld_eq (x := r) (by omega)]
theorem RoundTrip.vrmin (d : BitVec 6) (a : BitVec 6) (s : BitVec 2) (w : BitVec 1) (r : BitVec 1) : RoundTrip.Statement (.vrmin d a s w r) := by
  have h0 := d.isLt; have h1 := a.isLt; have h2 := s.isLt; have h3 := w.isLt; have h4 := r.isLt
  refine RoundTrip.of_word (n := 0x71000000 + place d 18 + place a 12 + place s 4 + place w 3 + place r 0) rfl (fun z hz => ?_)
  simp only [place] at hz
  rw [RoundTrip.decode_V (m := 0x31) (by omega) (by omega) (by omega)]
  have f0 : field z 11 6 = 0 := by unfold field; omega
  have f1 : field z 2 1 = 0 := by unfold field; omega
  simp only [RoundTrip.tagV_31, fixed, f0, f1, reduceIte]
  rw [RoundTrip.fld_eq (x := d) (by omega)]
  rw [RoundTrip.fld_eq (x := a) (by omega)]
  rw [RoundTrip.fld_eq (x := s) (by omega)]
  rw [RoundTrip.fld_eq (x := w) (by omega)]
  rw [RoundTrip.fld_eq (x := r) (by omega)]
theorem RoundTrip.vmov (d : BitVec 6) (a : BitVec 6) (s : BitVec 2) (w : BitVec 1) : RoundTrip.Statement (.vmov d a s w) := by
  have h0 := d.isLt; have h1 := a.isLt; have h2 := s.isLt; have h3 := w.isLt
  refine RoundTrip.of_word (n := 0x72000000 + place d 18 + place a 12 + place s 4 + place w 3) rfl (fun z hz => ?_)
  simp only [place] at hz
  rw [RoundTrip.decode_V (m := 0x32) (by omega) (by omega) (by omega)]
  have f0 : field z 11 6 = 0 := by unfold field; omega
  have f1 : field z 2 0 = 0 := by unfold field; omega
  simp only [RoundTrip.tagV_32, fixed, f0, f1, reduceIte]
  rw [RoundTrip.fld_eq (x := d) (by omega)]
  rw [RoundTrip.fld_eq (x := a) (by omega)]
  rw [RoundTrip.fld_eq (x := s) (by omega)]
  rw [RoundTrip.fld_eq (x := w) (by omega)]
theorem RoundTrip.vbcast (d : BitVec 6) (a : BitVec 6) (s : BitVec 2) (w : BitVec 1) (m : BitVec 3) : RoundTrip.Statement (.vbcast d a s w m) := by
  have h0 := d.isLt; have h1 := a.isLt; have h2 := s.isLt; have h3 := w.isLt; have h4 := m.isLt
  refine RoundTrip.of_word (n := 0x73000000 + place d 18 + place a 12 + place s 4 + place w 3 + place m 0) rfl (fun z hz => ?_)
  simp only [place] at hz
  rw [RoundTrip.decode_V (m := 0x33) (by omega) (by omega) (by omega)]
  have f0 : field z 11 6 = 0 := by unfold field; omega
  simp only [RoundTrip.tagV_33, fixed, f0, reduceIte]
  rw [RoundTrip.fld_eq (x := d) (by omega)]
  rw [RoundTrip.fld_eq (x := a) (by omega)]
  rw [RoundTrip.fld_eq (x := s) (by omega)]
  rw [RoundTrip.fld_eq (x := w) (by omega)]
  rw [RoundTrip.fld_eq (x := m) (by omega)]
theorem RoundTrip.viota (d : BitVec 6) (s : BitVec 2) (w : BitVec 1) (m : BitVec 3) : RoundTrip.Statement (.viota d s w m) := by
  have h0 := d.isLt; have h1 := s.isLt; have h2 := w.isLt; have h3 := m.isLt
  refine RoundTrip.of_word (n := 0x74000000 + place d 18 + place s 4 + place w 3 + place m 0) rfl (fun z hz => ?_)
  simp only [place] at hz
  rw [RoundTrip.decode_V (m := 0x34) (by omega) (by omega) (by omega)]
  have f0 : field z 17 6 = 0 := by unfold field; omega
  simp only [RoundTrip.tagV_34, fixed, f0, reduceIte]
  rw [RoundTrip.fld_eq (x := d) (by omega)]
  rw [RoundTrip.fld_eq (x := s) (by omega)]
  rw [RoundTrip.fld_eq (x := w) (by omega)]
  rw [RoundTrip.fld_eq (x := m) (by omega)]
theorem RoundTrip.vld (d : BitVec 6) (a : BitVec 6) (b : BitVec 6) (s : BitVec 2) (w : BitVec 1) : RoundTrip.Statement (.vld d a b s w) := by
  have h0 := d.isLt; have h1 := a.isLt; have h2 := b.isLt; have h3 := s.isLt; have h4 := w.isLt
  refine RoundTrip.of_word (n := 0x75000000 + place d 18 + place a 12 + place b 6 + place s 4 + place w 3) rfl (fun z hz => ?_)
  simp only [place] at hz
  rw [RoundTrip.decode_V (m := 0x35) (by omega) (by omega) (by omega)]
  have f0 : field z 2 0 = 0 := by unfold field; omega
  simp only [RoundTrip.tagV_35, fixed, f0, reduceIte]
  rw [RoundTrip.fld_eq (x := d) (by omega)]
  rw [RoundTrip.fld_eq (x := a) (by omega)]
  rw [RoundTrip.fld_eq (x := b) (by omega)]
  rw [RoundTrip.fld_eq (x := s) (by omega)]
  rw [RoundTrip.fld_eq (x := w) (by omega)]
theorem RoundTrip.vst (d : BitVec 6) (a : BitVec 6) (b : BitVec 6) (s : BitVec 2) (w : BitVec 1) : RoundTrip.Statement (.vst d a b s w) := by
  have h0 := d.isLt; have h1 := a.isLt; have h2 := b.isLt; have h3 := s.isLt; have h4 := w.isLt
  refine RoundTrip.of_word (n := 0x76000000 + place d 18 + place a 12 + place b 6 + place s 4 + place w 3) rfl (fun z hz => ?_)
  simp only [place] at hz
  rw [RoundTrip.decode_V (m := 0x36) (by omega) (by omega) (by omega)]
  have f0 : field z 2 0 = 0 := by unfold field; omega
  simp only [RoundTrip.tagV_36, fixed, f0, reduceIte]
  rw [RoundTrip.fld_eq (x := d) (by omega)]
  rw [RoundTrip.fld_eq (x := a) (by omega)]
  rw [RoundTrip.fld_eq (x := b) (by omega)]
  rw [RoundTrip.fld_eq (x := s) (by omega)]
  rw [RoundTrip.fld_eq (x := w) (by omega)]
theorem RoundTrip.vldx (d : BitVec 6) (a : BitVec 6) (b : BitVec 6) (s : BitVec 2) (w : BitVec 1) : RoundTrip.Statement (.vldx d a b s w) := by
  have h0 := d.isLt; have h1 := a.isLt; have h2 := b.isLt; have h3 := s.isLt; have h4 := w.isLt
  refine RoundTrip.of_word (n := 0x77000000 + place d 18 + place a 12 + place b 6 + place s 4 + place w 3) rfl (fun z hz => ?_)
  simp only [place] at hz
  rw [RoundTrip.decode_V (m := 0x37) (by omega) (by omega) (by omega)]
  have f0 : field z 2 0 = 0 := by unfold field; omega
  simp only [RoundTrip.tagV_37, fixed, f0, reduceIte]
  rw [RoundTrip.fld_eq (x := d) (by omega)]
  rw [RoundTrip.fld_eq (x := a) (by omega)]
  rw [RoundTrip.fld_eq (x := b) (by omega)]
  rw [RoundTrip.fld_eq (x := s) (by omega)]
  rw [RoundTrip.fld_eq (x := w) (by omega)]
theorem RoundTrip.vstx (d : BitVec 6) (a : BitVec 6) (b : BitVec 6) (s : BitVec 2) (w : BitVec 1) : RoundTrip.Statement (.vstx d a b s w) := by
  have h0 := d.isLt; have h1 := a.isLt; have h2 := b.isLt; have h3 := s.isLt; have h4 := w.isLt
  refine RoundTrip.of_word (n := 0x78000000 + place d 18 + place a 12 + place b 6 + place s 4 + place w 3) rfl (fun z hz => ?_)
  simp only [place] at hz
  rw [RoundTrip.decode_V (m := 0x38) (by omega) (by omega) (by omega)]
  have f0 : field z 2 0 = 0 := by unfold field; omega
  simp only [RoundTrip.tagV_38, fixed, f0, reduceIte]
  rw [RoundTrip.fld_eq (x := d) (by omega)]
  rw [RoundTrip.fld_eq (x := a) (by omega)]
  rw [RoundTrip.fld_eq (x := b) (by omega)]
  rw [RoundTrip.fld_eq (x := s) (by omega)]
  rw [RoundTrip.fld_eq (x := w) (by omega)]
theorem RoundTrip.vtrn (d : BitVec 6) (a : BitVec 6) (s : BitVec 2) (w : BitVec 1) : RoundTrip.Statement (.vtrn d a s w) := by
  have h0 := d.isLt; have h1 := a.isLt; have h2 := s.isLt; have h3 := w.isLt
  refine RoundTrip.of_word (n := 0x79000000 + place d 18 + place a 12 + place s 4 + place w 3) rfl (fun z hz => ?_)
  simp only [place] at hz
  rw [RoundTrip.decode_V (m := 0x39) (by omega) (by omega) (by omega)]
  have f0 : field z 11 6 = 0 := by unfold field; omega
  have f1 : field z 2 0 = 0 := by unfold field; omega
  simp only [RoundTrip.tagV_39, fixed, f0, f1, reduceIte]
  rw [RoundTrip.fld_eq (x := d) (by omega)]
  rw [RoundTrip.fld_eq (x := a) (by omega)]
  rw [RoundTrip.fld_eq (x := s) (by omega)]
  rw [RoundTrip.fld_eq (x := w) (by omega)]
theorem RoundTrip.vperm (d : BitVec 6) (a : BitVec 6) (b : BitVec 6) (s : BitVec 2) (w : BitVec 1) : RoundTrip.Statement (.vperm d a b s w) := by
  have h0 := d.isLt; have h1 := a.isLt; have h2 := b.isLt; have h3 := s.isLt; have h4 := w.isLt
  refine RoundTrip.of_word (n := 0x7A000000 + place d 18 + place a 12 + place b 6 + place s 4 + place w 3) rfl (fun z hz => ?_)
  simp only [place] at hz
  rw [RoundTrip.decode_V (m := 0x3A) (by omega) (by omega) (by omega)]
  have f0 : field z 2 0 = 0 := by unfold field; omega
  simp only [RoundTrip.tagV_3A, fixed, f0, reduceIte]
  rw [RoundTrip.fld_eq (x := d) (by omega)]
  rw [RoundTrip.fld_eq (x := a) (by omega)]
  rw [RoundTrip.fld_eq (x := b) (by omega)]
  rw [RoundTrip.fld_eq (x := s) (by omega)]
  rw [RoundTrip.fld_eq (x := w) (by omega)]
theorem RoundTrip.vrng (d : BitVec 6) (a : BitVec 6) (b : BitVec 6) (s : BitVec 2) (w : BitVec 1) : RoundTrip.Statement (.vrng d a b s w) := by
  have h0 := d.isLt; have h1 := a.isLt; have h2 := b.isLt; have h3 := s.isLt; have h4 := w.isLt
  refine RoundTrip.of_word (n := 0x7B000000 + place d 18 + place a 12 + place b 6 + place s 4 + place w 3) rfl (fun z hz => ?_)
  simp only [place] at hz
  rw [RoundTrip.decode_V (m := 0x3B) (by omega) (by omega) (by omega)]
  have f0 : field z 2 0 = 0 := by unfold field; omega
  simp only [RoundTrip.tagV_3B, fixed, f0, reduceIte]
  rw [RoundTrip.fld_eq (x := d) (by omega)]
  rw [RoundTrip.fld_eq (x := a) (by omega)]
  rw [RoundTrip.fld_eq (x := b) (by omega)]
  rw [RoundTrip.fld_eq (x := s) (by omega)]
  rw [RoundTrip.fld_eq (x := w) (by omega)]
theorem RoundTrip.vstatQe (d : BitVec 6) (a : BitVec 6) (b : BitVec 6) (s : BitVec 2) (w : BitVec 1) : RoundTrip.Statement (.vstatQe d a b s w) := by
  have h0 := d.isLt; have h1 := a.isLt; have h2 := b.isLt; have h3 := s.isLt; have h4 := w.isLt
  refine RoundTrip.of_word (n := 0x7C000000 + place d 18 + place a 12 + place b 6 + place s 4 + place w 3) rfl (fun z hz => ?_)
  simp only [place] at hz
  rw [RoundTrip.decode_V (m := 0x3C) (by omega) (by omega) (by omega)]
  show decodeMajor7C _ = _
  have f0 : field z 2 0 = 0 := by unfold field; omega
  simp only [decodeMajor7C, fixed, f0, reduceIte, Nat.reduceEqDiff, RoundTrip.none_or, RoundTrip.some_or, ite_self]
  rw [RoundTrip.fld_eq (x := d) (by omega)]
  rw [RoundTrip.fld_eq (x := a) (by omega)]
  rw [RoundTrip.fld_eq (x := b) (by omega)]
  rw [RoundTrip.fld_eq (x := s) (by omega)]
  rw [RoundTrip.fld_eq (x := w) (by omega)]
theorem RoundTrip.vstatGn (d : BitVec 6) (a : BitVec 6) (s : BitVec 2) (w : BitVec 1) : RoundTrip.Statement (.vstatGn d a s w) := by
  have h0 := d.isLt; have h1 := a.isLt; have h2 := s.isLt; have h3 := w.isLt
  refine RoundTrip.of_word (n := 0x7C000001 + place d 18 + place a 12 + place s 4 + place w 3) rfl (fun z hz => ?_)
  simp only [place] at hz
  rw [RoundTrip.decode_V (m := 0x3C) (by omega) (by omega) (by omega)]
  show decodeMajor7C _ = _
  have f0 : field z 2 0 = 1 := by unfold field; omega
  have f1 : field z 11 6 = 0 := by unfold field; omega
  simp only [decodeMajor7C, fixed, f0, f1, reduceIte, Nat.reduceEqDiff, RoundTrip.none_or, RoundTrip.some_or, ite_self]
  rw [RoundTrip.fld_eq (x := d) (by omega)]
  rw [RoundTrip.fld_eq (x := a) (by omega)]
  rw [RoundTrip.fld_eq (x := s) (by omega)]
  rw [RoundTrip.fld_eq (x := w) (by omega)]
theorem RoundTrip.vstatGnsum (d : BitVec 6) (a : BitVec 6) (s : BitVec 2) (w : BitVec 1) : RoundTrip.Statement (.vstatGnsum d a s w) := by
  have h0 := d.isLt; have h1 := a.isLt; have h2 := s.isLt; have h3 := w.isLt
  refine RoundTrip.of_word (n := 0x7C000002 + place d 18 + place a 12 + place s 4 + place w 3) rfl (fun z hz => ?_)
  simp only [place] at hz
  rw [RoundTrip.decode_V (m := 0x3C) (by omega) (by omega) (by omega)]
  show decodeMajor7C _ = _
  have f0 : field z 2 0 = 2 := by unfold field; omega
  have f1 : field z 11 6 = 0 := by unfold field; omega
  simp only [decodeMajor7C, fixed, f0, f1, reduceIte, Nat.reduceEqDiff, RoundTrip.none_or, RoundTrip.some_or, ite_self]
  rw [RoundTrip.fld_eq (x := d) (by omega)]
  rw [RoundTrip.fld_eq (x := a) (by omega)]
  rw [RoundTrip.fld_eq (x := s) (by omega)]
  rw [RoundTrip.fld_eq (x := w) (by omega)]
theorem RoundTrip.vstatOv (d : BitVec 6) (a : BitVec 6) (s : BitVec 2) (w : BitVec 1) : RoundTrip.Statement (.vstatOv d a s w) := by
  have h0 := d.isLt; have h1 := a.isLt; have h2 := s.isLt; have h3 := w.isLt
  refine RoundTrip.of_word (n := 0x7C000003 + place d 18 + place a 12 + place s 4 + place w 3) rfl (fun z hz => ?_)
  simp only [place] at hz
  rw [RoundTrip.decode_V (m := 0x3C) (by omega) (by omega) (by omega)]
  show decodeMajor7C _ = _
  have f0 : field z 2 0 = 3 := by unfold field; omega
  have f1 : field z 11 6 = 0 := by unfold field; omega
  simp only [decodeMajor7C, fixed, f0, f1, reduceIte, Nat.reduceEqDiff, RoundTrip.none_or, ite_self]
  rw [RoundTrip.fld_eq (x := d) (by omega)]
  rw [RoundTrip.fld_eq (x := a) (by omega)]
  rw [RoundTrip.fld_eq (x := s) (by omega)]
  rw [RoundTrip.fld_eq (x := w) (by omega)]
theorem RoundTrip.kwaitV (d : BitVec 6) (n : BitVec 12) : RoundTrip.Statement (.kwaitV d n) := by
  have h0 := d.isLt; have h1 := n.isLt
  refine RoundTrip.of_word (n := 0x7D000000 + place d 18 + place n 6) rfl (fun z hz => ?_)
  simp only [place] at hz
  rw [RoundTrip.decode_V (m := 0x3D) (by omega) (by omega) (by omega)]
  have f0 : field z 5 0 = 0 := by unfold field; omega
  simp only [RoundTrip.tagV_3D, fixed, f0, reduceIte]
  rw [RoundTrip.fld_eq (x := d) (by omega)]
  rw [RoundTrip.fld_eq (x := n) (by omega)]
theorem RoundTrip.ksigV (d : BitVec 6) (n : BitVec 12) : RoundTrip.Statement (.ksigV d n) := by
  have h0 := d.isLt; have h1 := n.isLt
  refine RoundTrip.of_word (n := 0x7E000000 + place d 18 + place n 6) rfl (fun z hz => ?_)
  simp only [place] at hz
  rw [RoundTrip.decode_V (m := 0x3E) (by omega) (by omega) (by omega)]
  have f0 : field z 5 0 = 0 := by unfold field; omega
  simp only [RoundTrip.tagV_3E, fixed, f0, reduceIte]
  rw [RoundTrip.fld_eq (x := d) (by omega)]
  rw [RoundTrip.fld_eq (x := n) (by omega)]
theorem RoundTrip.mldb (p : BitVec 2) (w : BitVec 1) (c : BitVec 1) (t : BitVec 12) : RoundTrip.Statement (.mldb p w c t) := by
  have h0 := p.isLt; have h1 := w.isLt; have h2 := c.isLt; have h3 := t.isLt
  refine RoundTrip.of_word (n := 0x80000000 + place p 19 + place w 18 + place c 15 + place t 3) rfl (fun z hz => ?_)
  simp only [place] at hz
  rw [RoundTrip.decode_M (m := 0x00) (by omega) (by omega) (by omega)]
  have f0 : field z 23 21 = 0 := by unfold field; omega
  have f1 : field z 17 16 = 0 := by unfold field; omega
  have f2 : field z 2 0 = 0 := by unfold field; omega
  simp only [RoundTrip.tagM_00, fixed, f0, f1, f2, reduceIte]
  rw [RoundTrip.fld_eq (x := p) (by omega)]
  rw [RoundTrip.fld_eq (x := w) (by omega)]
  rw [RoundTrip.fld_eq (x := c) (by omega)]
  rw [RoundTrip.fld_eq (x := t) (by omega)]
theorem RoundTrip.mma (a : BitVec 3) (p : BitVec 2) (w : BitVec 1) (t : BitVec 12) : RoundTrip.Statement (.mma a p w t) := by
  have h0 := a.isLt; have h1 := p.isLt; have h2 := w.isLt; have h3 := t.isLt
  refine RoundTrip.of_word (n := 0x81000000 + place a 21 + place p 19 + place w 18 + place t 3) rfl (fun z hz => ?_)
  simp only [place] at hz
  rw [RoundTrip.decode_M (m := 0x01) (by omega) (by omega) (by omega)]
  have f0 : field z 17 15 = 0 := by unfold field; omega
  have f1 : field z 2 0 = 0 := by unfold field; omega
  simp only [RoundTrip.tagM_01, fixed, f0, f1, reduceIte]
  rw [RoundTrip.fld_eq (x := a) (by omega)]
  rw [RoundTrip.fld_eq (x := p) (by omega)]
  rw [RoundTrip.fld_eq (x := w) (by omega)]
  rw [RoundTrip.fld_eq (x := t) (by omega)]
theorem RoundTrip.mmaT (a : BitVec 3) (p : BitVec 2) (w : BitVec 1) (t : BitVec 12) : RoundTrip.Statement (.mmaT a p w t) := by
  have h0 := a.isLt; have h1 := p.isLt; have h2 := w.isLt; have h3 := t.isLt
  refine RoundTrip.of_word (n := 0x82000000 + place a 21 + place p 19 + place w 18 + place t 3) rfl (fun z hz => ?_)
  simp only [place] at hz
  rw [RoundTrip.decode_M (m := 0x02) (by omega) (by omega) (by omega)]
  have f0 : field z 17 15 = 0 := by unfold field; omega
  have f1 : field z 2 0 = 0 := by unfold field; omega
  simp only [RoundTrip.tagM_02, fixed, f0, f1, reduceIte]
  rw [RoundTrip.fld_eq (x := a) (by omega)]
  rw [RoundTrip.fld_eq (x := p) (by omega)]
  rw [RoundTrip.fld_eq (x := w) (by omega)]
  rw [RoundTrip.fld_eq (x := t) (by omega)]
theorem RoundTrip.mzero (a : BitVec 3) (p : BitVec 2) (w : BitVec 1) (t : BitVec 12) : RoundTrip.Statement (.mzero a p w t) := by
  have h0 := a.isLt; have h1 := p.isLt; have h2 := w.isLt; have h3 := t.isLt
  refine RoundTrip.of_word (n := 0x83000000 + place a 21 + place p 19 + place w 18 + place t 3) rfl (fun z hz => ?_)
  simp only [place] at hz
  rw [RoundTrip.decode_M (m := 0x03) (by omega) (by omega) (by omega)]
  have f0 : field z 17 15 = 0 := by unfold field; omega
  have f1 : field z 2 0 = 0 := by unfold field; omega
  simp only [RoundTrip.tagM_03, fixed, f0, f1, reduceIte]
  rw [RoundTrip.fld_eq (x := a) (by omega)]
  rw [RoundTrip.fld_eq (x := p) (by omega)]
  rw [RoundTrip.fld_eq (x := w) (by omega)]
  rw [RoundTrip.fld_eq (x := t) (by omega)]
theorem RoundTrip.minit (a : BitVec 3) (p : BitVec 2) (w : BitVec 1) (b : BitVec 1) (t : BitVec 12) : RoundTrip.Statement (.minit a p w b t) := by
  have h0 := a.isLt; have h1 := p.isLt; have h2 := w.isLt; have h3 := b.isLt; have h4 := t.isLt
  refine RoundTrip.of_word (n := 0x84000000 + place a 21 + place p 19 + place w 18 + place b 15 + place t 3) rfl (fun z hz => ?_)
  simp only [place] at hz
  rw [RoundTrip.decode_M (m := 0x04) (by omega) (by omega) (by omega)]
  have f0 : field z 17 16 = 0 := by unfold field; omega
  have f1 : field z 2 0 = 0 := by unfold field; omega
  simp only [RoundTrip.tagM_04, fixed, f0, f1, reduceIte]
  rw [RoundTrip.fld_eq (x := a) (by omega)]
  rw [RoundTrip.fld_eq (x := p) (by omega)]
  rw [RoundTrip.fld_eq (x := w) (by omega)]
  rw [RoundTrip.fld_eq (x := b) (by omega)]
  rw [RoundTrip.fld_eq (x := t) (by omega)]
theorem RoundTrip.mdrain (a : BitVec 3) (p : BitVec 2) (w : BitVec 1) (l : BitVec 1) (r : BitVec 1) (t : BitVec 12) (x : BitVec 1) (m : BitVec 2) : RoundTrip.Statement (.mdrain a p w l r t x m) := by
  have h0 := a.isLt; have h1 := p.isLt; have h2 := w.isLt; have h3 := l.isLt; have h4 := r.isLt; have h5 := t.isLt; have h6 := x.isLt; have h7 := m.isLt
  refine RoundTrip.of_word (n := 0x85000000 + place a 21 + place p 19 + place w 18 + place l 16 + place r 15 + place t 3 + place x 2 + place m 0) rfl (fun z hz => ?_)
  simp only [place] at hz
  rw [RoundTrip.decode_M (m := 0x05) (by omega) (by omega) (by omega)]
  have f0 : field z 17 17 = 0 := by unfold field; omega
  simp only [RoundTrip.tagM_05, fixed, f0, reduceIte]
  rw [RoundTrip.fld_eq (x := a) (by omega)]
  rw [RoundTrip.fld_eq (x := p) (by omega)]
  rw [RoundTrip.fld_eq (x := w) (by omega)]
  rw [RoundTrip.fld_eq (x := l) (by omega)]
  rw [RoundTrip.fld_eq (x := r) (by omega)]
  rw [RoundTrip.fld_eq (x := t) (by omega)]
  rw [RoundTrip.fld_eq (x := x) (by omega)]
  rw [RoundTrip.fld_eq (x := m) (by omega)]
theorem RoundTrip.mdrainv (a : BitVec 3) (p : BitVec 2) (w : BitVec 1) (v : BitVec 3) (t : BitVec 12) (u : BitVec 3) : RoundTrip.Statement (.mdrainv a p w v t u) := by
  have h0 := a.isLt; have h1 := p.isLt; have h2 := w.isLt; have h3 := v.isLt; have h4 := t.isLt; have h5 := u.isLt
  refine RoundTrip.of_word (n := 0x86000000 + place a 21 + place p 19 + place w 18 + place v 15 + place t 3 + place u 0) rfl (fun z hz => ?_)
  simp only [place] at hz
  rw [RoundTrip.decode_M (m := 0x06) (by omega) (by omega) (by omega)]
  simp only [RoundTrip.tagM_06]
  rw [RoundTrip.fld_eq (x := a) (by omega)]
  rw [RoundTrip.fld_eq (x := p) (by omega)]
  rw [RoundTrip.fld_eq (x := w) (by omega)]
  rw [RoundTrip.fld_eq (x := v) (by omega)]
  rw [RoundTrip.fld_eq (x := t) (by omega)]
  rw [RoundTrip.fld_eq (x := u) (by omega)]
theorem RoundTrip.mzp (a : BitVec 3) (p : BitVec 2) (w : BitVec 1) (t : BitVec 12) : RoundTrip.Statement (.mzp a p w t) := by
  have h0 := a.isLt; have h1 := p.isLt; have h2 := w.isLt; have h3 := t.isLt
  refine RoundTrip.of_word (n := 0x87000000 + place a 21 + place p 19 + place w 18 + place t 3) rfl (fun z hz => ?_)
  simp only [place] at hz
  rw [RoundTrip.decode_M (m := 0x07) (by omega) (by omega) (by omega)]
  have f0 : field z 17 15 = 0 := by unfold field; omega
  have f1 : field z 2 0 = 0 := by unfold field; omega
  simp only [RoundTrip.tagM_07, fixed, f0, f1, reduceIte]
  rw [RoundTrip.fld_eq (x := a) (by omega)]
  rw [RoundTrip.fld_eq (x := p) (by omega)]
  rw [RoundTrip.fld_eq (x := w) (by omega)]
  rw [RoundTrip.fld_eq (x := t) (by omega)]
theorem RoundTrip.mpri (p : BitVec 12) : RoundTrip.Statement (.mpri p) := by
  have h0 := p.isLt
  refine RoundTrip.of_word (n := 0x88000000 + place p 3) rfl (fun z hz => ?_)
  simp only [place] at hz
  rw [RoundTrip.decode_M (m := 0x08) (by omega) (by omega) (by omega)]
  have f0 : field z 23 15 = 0 := by unfold field; omega
  have f1 : field z 2 0 = 0 := by unfold field; omega
  simp only [RoundTrip.tagM_08, fixed, f0, f1, reduceIte]
  rw [RoundTrip.fld_eq (x := p) (by omega)]
theorem RoundTrip.kwaitM (k : BitVec 3) (n : BitVec 12) (j : BitVec 1) : RoundTrip.Statement (.kwaitM k n j) := by
  have h0 := k.isLt; have h1 := n.isLt; have h2 := j.isLt
  refine RoundTrip.of_word (n := 0x89000000 + place k 21 + place n 3 + place j 0) rfl (fun z hz => ?_)
  simp only [place] at hz
  rw [RoundTrip.decode_M (m := 0x09) (by omega) (by omega) (by omega)]
  have f0 : field z 20 15 = 0 := by unfold field; omega
  have f1 : field z 2 1 = 0 := by unfold field; omega
  simp only [RoundTrip.tagM_09, fixed, f0, f1, reduceIte]
  rw [RoundTrip.fld_eq (x := k) (by omega)]
  rw [RoundTrip.fld_eq (x := n) (by omega)]
  rw [RoundTrip.fld_eq (x := j) (by omega)]
theorem RoundTrip.ksigM (k : BitVec 3) (n : BitVec 12) (j : BitVec 1) : RoundTrip.Statement (.ksigM k n j) := by
  have h0 := k.isLt; have h1 := n.isLt; have h2 := j.isLt
  refine RoundTrip.of_word (n := 0x8A000000 + place k 21 + place n 3 + place j 0) rfl (fun z hz => ?_)
  simp only [place] at hz
  rw [RoundTrip.decode_M (m := 0x0A) (by omega) (by omega) (by omega)]
  have f0 : field z 20 15 = 0 := by unfold field; omega
  have f1 : field z 2 1 = 0 := by unfold field; omega
  simp only [RoundTrip.tagM_0A, fixed, f0, f1, reduceIte]
  rw [RoundTrip.fld_eq (x := k) (by omega)]
  rw [RoundTrip.fld_eq (x := n) (by omega)]
  rw [RoundTrip.fld_eq (x := j) (by omega)]
theorem RoundTrip.sload (g : BitVec 6) (s : BitVec 2) (w : BitVec 1) (c : BitVec 3) : RoundTrip.Statement (.sload g s w c) := by
  have h0 := g.isLt; have h1 := s.isLt; have h2 := w.isLt; have h3 := c.isLt
  refine RoundTrip.of_word (n := 0xC0000000 + place g 18 + place s 10 + place w 9 + place c 6) rfl (fun z hz => ?_)
  simp only [place] at hz
  rw [RoundTrip.decode_A (m := 0x00) (by omega) (by omega) (by omega)]
  have f0 : field z 17 12 = 0 := by unfold field; omega
  have f1 : field z 5 0 = 0 := by unfold field; omega
  simp only [RoundTrip.tagA_00, fixed, f0, f1, reduceIte]
  rw [RoundTrip.fld_eq (x := g) (by omega)]
  rw [RoundTrip.fld_eq (x := s) (by omega)]
  rw [RoundTrip.fld_eq (x := w) (by omega)]
  rw [RoundTrip.fld_eq (x := c) (by omega)]
theorem RoundTrip.sstore (g : BitVec 6) (s : BitVec 2) (w : BitVec 1) : RoundTrip.Statement (.sstore g s w) := by
  have h0 := g.isLt; have h1 := s.isLt; have h2 := w.isLt
  refine RoundTrip.of_word (n := 0xC1000000 + place g 18 + place s 10 + place w 9) rfl (fun z hz => ?_)
  simp only [place] at hz
  rw [RoundTrip.decode_A (m := 0x01) (by omega) (by omega) (by omega)]
  have f0 : field z 17 12 = 0 := by unfold field; omega
  have f1 : field z 8 0 = 0 := by unfold field; omega
  simp only [RoundTrip.tagA_01, fixed, f0, f1, reduceIte]
  rw [RoundTrip.fld_eq (x := g) (by omega)]
  rw [RoundTrip.fld_eq (x := s) (by omega)]
  rw [RoundTrip.fld_eq (x := w) (by omega)]
theorem RoundTrip.spair (g : BitVec 6) (h : BitVec 6) (s : BitVec 2) (w : BitVec 1) : RoundTrip.Statement (.spair g h s w) := by
  have h0 := g.isLt; have h1 := h.isLt; have h2 := s.isLt; have h3 := w.isLt
  refine RoundTrip.of_word (n := 0xC2000000 + place g 18 + place h 12 + place s 10 + place w 9) rfl (fun z hz => ?_)
  simp only [place] at hz
  rw [RoundTrip.decode_A (m := 0x02) (by omega) (by omega) (by omega)]
  have f0 : field z 8 0 = 0 := by unfold field; omega
  simp only [RoundTrip.tagA_02, fixed, f0, reduceIte]
  rw [RoundTrip.fld_eq (x := g) (by omega)]
  rw [RoundTrip.fld_eq (x := h) (by omega)]
  rw [RoundTrip.fld_eq (x := s) (by omega)]
  rw [RoundTrip.fld_eq (x := w) (by omega)]
theorem RoundTrip.sgath (g : BitVec 6) (h : BitVec 6) (s : BitVec 2) (w : BitVec 1) (c : BitVec 3) (k : BitVec 1) : RoundTrip.Statement (.sgath g h s w c k) := by
  have h0 := g.isLt; have h1 := h.isLt; have h2 := s.isLt; have h3 := w.isLt; have h4 := c.isLt; have h5 := k.isLt
  refine RoundTrip.of_word (n := 0xC3000000 + place g 18 + place h 12 + place s 10 + place w 9 + place c 6 + place k 0) rfl (fun z hz => ?_)
  simp only [place] at hz
  rw [RoundTrip.decode_A (m := 0x03) (by omega) (by omega) (by omega)]
  have f0 : field z 5 1 = 0 := by unfold field; omega
  simp only [RoundTrip.tagA_03, fixed, f0, reduceIte]
  rw [RoundTrip.fld_eq (x := g) (by omega)]
  rw [RoundTrip.fld_eq (x := h) (by omega)]
  rw [RoundTrip.fld_eq (x := s) (by omega)]
  rw [RoundTrip.fld_eq (x := w) (by omega)]
  rw [RoundTrip.fld_eq (x := c) (by omega)]
  rw [RoundTrip.fld_eq (x := k) (by omega)]
theorem RoundTrip.sscat (g : BitVec 6) (h : BitVec 6) (s : BitVec 2) (w : BitVec 1) (k : BitVec 1) : RoundTrip.Statement (.sscat g h s w k) := by
  have h0 := g.isLt; have h1 := h.isLt; have h2 := s.isLt; have h3 := w.isLt; have h4 := k.isLt
  refine RoundTrip.of_word (n := 0xC4000000 + place g 18 + place h 12 + place s 10 + place w 9 + place k 0) rfl (fun z hz => ?_)
  simp only [place] at hz
  rw [RoundTrip.decode_A (m := 0x04) (by omega) (by omega) (by omega)]
  have f0 : field z 8 1 = 0 := by unfold field; omega
  simp only [RoundTrip.tagA_04, fixed, f0, reduceIte]
  rw [RoundTrip.fld_eq (x := g) (by omega)]
  rw [RoundTrip.fld_eq (x := h) (by omega)]
  rw [RoundTrip.fld_eq (x := s) (by omega)]
  rw [RoundTrip.fld_eq (x := w) (by omega)]
  rw [RoundTrip.fld_eq (x := k) (by omega)]
theorem RoundTrip.swin (g : BitVec 6) (h : BitVec 6) (s : BitVec 2) (w : BitVec 1) (c : BitVec 3) (y : BitVec 2) (x : BitVec 2) : RoundTrip.Statement (.swin g h s w c y x) := by
  have h0 := g.isLt; have h1 := h.isLt; have h2 := s.isLt; have h3 := w.isLt; have h4 := c.isLt; have h5 := y.isLt; have h6 := x.isLt
  refine RoundTrip.of_word (n := 0xC5000000 + place g 18 + place h 12 + place s 10 + place w 9 + place c 6 + place y 2 + place x 0) rfl (fun z hz => ?_)
  simp only [place] at hz
  rw [RoundTrip.decode_A (m := 0x05) (by omega) (by omega) (by omega)]
  have f0 : field z 5 4 = 0 := by unfold field; omega
  simp only [RoundTrip.tagA_05, fixed, f0, reduceIte]
  rw [RoundTrip.fld_eq (x := g) (by omega)]
  rw [RoundTrip.fld_eq (x := h) (by omega)]
  rw [RoundTrip.fld_eq (x := s) (by omega)]
  rw [RoundTrip.fld_eq (x := w) (by omega)]
  rw [RoundTrip.fld_eq (x := c) (by omega)]
  rw [RoundTrip.fld_eq (x := y) (by omega)]
  rw [RoundTrip.fld_eq (x := x) (by omega)]
theorem RoundTrip.smcast (g : BitVec 6) (h : BitVec 6) (s : BitVec 2) (w : BitVec 1) (b : BitVec 1) (k : BitVec 4) : RoundTrip.Statement (.smcast g h s w b k) := by
  have h0 := g.isLt; have h1 := h.isLt; have h2 := s.isLt; have h3 := w.isLt; have h4 := b.isLt; have h5 := k.isLt
  refine RoundTrip.of_word (n := 0xC6000000 + place g 18 + place h 12 + place s 10 + place w 9 + place b 4 + place k 0) rfl (fun z hz => ?_)
  simp only [place] at hz
  rw [RoundTrip.decode_A (m := 0x06) (by omega) (by omega) (by omega)]
  have f0 : field z 8 5 = 0 := by unfold field; omega
  simp only [RoundTrip.tagA_06, fixed, f0, reduceIte]
  rw [RoundTrip.fld_eq (x := g) (by omega)]
  rw [RoundTrip.fld_eq (x := h) (by omega)]
  rw [RoundTrip.fld_eq (x := s) (by omega)]
  rw [RoundTrip.fld_eq (x := w) (by omega)]
  rw [RoundTrip.fld_eq (x := b) (by omega)]
  rw [RoundTrip.fld_eq (x := k) (by omega)]
theorem RoundTrip.sput (g : BitVec 6) (h : BitVec 6) (s : BitVec 2) (w : BitVec 1) (k : BitVec 4) : RoundTrip.Statement (.sput g h s w k) := by
  have h0 := g.isLt; have h1 := h.isLt; have h2 := s.isLt; have h3 := w.isLt; have h4 := k.isLt
  refine RoundTrip.of_word (n := 0xC7000000 + place g 18 + place h 12 + place s 10 + place w 9 + place k 0) rfl (fun z hz => ?_)
  simp only [place] at hz
  rw [RoundTrip.decode_A (m := 0x07) (by omega) (by omega) (by omega)]
  have f0 : field z 8 4 = 0 := by unfold field; omega
  simp only [RoundTrip.tagA_07, fixed, f0, reduceIte]
  rw [RoundTrip.fld_eq (x := g) (by omega)]
  rw [RoundTrip.fld_eq (x := h) (by omega)]
  rw [RoundTrip.fld_eq (x := s) (by omega)]
  rw [RoundTrip.fld_eq (x := w) (by omega)]
  rw [RoundTrip.fld_eq (x := k) (by omega)]
theorem RoundTrip.scurOpen (g : BitVec 6) (h : BitVec 6) (c : BitVec 3) : RoundTrip.Statement (.scurOpen g h c) := by
  have h0 := g.isLt; have h1 := h.isLt; have h2 := c.isLt
  refine RoundTrip.of_word (n := 0xC8000000 + place g 18 + place h 12 + place c 6) rfl (fun z hz => ?_)
  simp only [place] at hz
  rw [RoundTrip.decode_A (m := 0x08) (by omega) (by omega) (by omega)]
  show decodeMajorC8 _ = _
  have f0 : field z 11 9 = 0 := by unfold field; omega
  have f1 : field z 5 0 = 0 := by unfold field; omega
  simp only [decodeMajorC8, fixed, f0, f1, reduceIte, Nat.reduceEqDiff, RoundTrip.none_or, RoundTrip.some_or, ite_self]
  rw [RoundTrip.fld_eq (x := g) (by omega)]
  rw [RoundTrip.fld_eq (x := h) (by omega)]
  rw [RoundTrip.fld_eq (x := c) (by omega)]
theorem RoundTrip.scurClose (c : BitVec 3) : RoundTrip.Statement (.scurClose c) := by
  have h0 := c.isLt
  refine RoundTrip.of_word (n := 0xC8000001 + place c 6) rfl (fun z hz => ?_)
  simp only [place] at hz
  rw [RoundTrip.decode_A (m := 0x08) (by omega) (by omega) (by omega)]
  show decodeMajorC8 _ = _
  have f0 : field z 11 9 = 0 := by unfold field; omega
  have f1 : field z 5 0 = 1 := by unfold field; omega
  have f2 : field z 23 9 = 0 := by unfold field; omega
  simp only [decodeMajorC8, fixed, f0, f1, f2, reduceIte, Nat.reduceEqDiff, RoundTrip.none_or, RoundTrip.some_or, ite_self]
  rw [RoundTrip.fld_eq (x := c) (by omega)]
theorem RoundTrip.scurReport (g : BitVec 6) (c : BitVec 3) : RoundTrip.Statement (.scurReport g c) := by
  have h0 := g.isLt; have h1 := c.isLt
  refine RoundTrip.of_word (n := 0xC8000002 + place g 18 + place c 6) rfl (fun z hz => ?_)
  simp only [place] at hz
  rw [RoundTrip.decode_A (m := 0x08) (by omega) (by omega) (by omega)]
  show decodeMajorC8 _ = _
  have f0 : field z 11 9 = 0 := by unfold field; omega
  have f1 : field z 5 0 = 2 := by unfold field; omega
  have f2 : field z 17 9 = 0 := by unfold field; omega
  simp only [decodeMajorC8, fixed, f0, f1, f2, reduceIte, Nat.reduceEqDiff, RoundTrip.none_or, ite_self]
  rw [RoundTrip.fld_eq (x := g) (by omega)]
  rw [RoundTrip.fld_eq (x := c) (by omega)]
theorem RoundTrip.kwaitA (k : BitVec 6) (n : BitVec 6) (m : BitVec 6) : RoundTrip.Statement (.kwaitA k n m) := by
  have h0 := k.isLt; have h1 := n.isLt; have h2 := m.isLt
  refine RoundTrip.of_word (n := 0xC9000000 + place k 18 + place n 12 + place m 0) rfl (fun z hz => ?_)
  simp only [place] at hz
  rw [RoundTrip.decode_A (m := 0x09) (by omega) (by omega) (by omega)]
  have f0 : field z 11 6 = 0 := by unfold field; omega
  simp only [RoundTrip.tagA_09, fixed, f0, reduceIte]
  rw [RoundTrip.fld_eq (x := k) (by omega)]
  rw [RoundTrip.fld_eq (x := n) (by omega)]
  rw [RoundTrip.fld_eq (x := m) (by omega)]
theorem RoundTrip.ksigA (k : BitVec 6) (n : BitVec 6) (m : BitVec 6) : RoundTrip.Statement (.ksigA k n m) := by
  have h0 := k.isLt; have h1 := n.isLt; have h2 := m.isLt
  refine RoundTrip.of_word (n := 0xCA000000 + place k 18 + place n 12 + place m 0) rfl (fun z hz => ?_)
  simp only [place] at hz
  rw [RoundTrip.decode_A (m := 0x0A) (by omega) (by omega) (by omega)]
  have f0 : field z 11 6 = 0 := by unfold field; omega
  simp only [RoundTrip.tagA_0A, fixed, f0, reduceIte]
  rw [RoundTrip.fld_eq (x := k) (by omega)]
  rw [RoundTrip.fld_eq (x := n) (by omega)]
  rw [RoundTrip.fld_eq (x := m) (by omega)]
theorem RoundTrip.cqpush (g : BitVec 6) (c : BitVec 4) : RoundTrip.Statement (.cqpush g c) := by
  have h0 := g.isLt; have h1 := c.isLt
  refine RoundTrip.of_word (n := 0xCB000000 + place g 18 + place c 0) rfl (fun z hz => ?_)
  simp only [place] at hz
  rw [RoundTrip.decode_A (m := 0x0B) (by omega) (by omega) (by omega)]
  have f0 : field z 17 4 = 0 := by unfold field; omega
  simp only [RoundTrip.tagA_0B, fixed, f0, reduceIte]
  rw [RoundTrip.fld_eq (x := g) (by omega)]
  rw [RoundTrip.fld_eq (x := c) (by omega)]
theorem RoundTrip.wcopy (g : BitVec 6) (s : BitVec 2) (w : BitVec 1) (x : BitVec 3) : RoundTrip.Statement (.wcopy g s w x) := by
  have h0 := g.isLt; have h1 := s.isLt; have h2 := w.isLt; have h3 := x.isLt
  refine RoundTrip.of_word (n := 0xD0000000 + place g 18 + place s 10 + place w 9 + place x 0) rfl (fun z hz => ?_)
  simp only [place] at hz
  rw [RoundTrip.decode_A (m := 0x10) (by omega) (by omega) (by omega)]
  have f0 : field z 17 12 = 0 := by unfold field; omega
  have f1 : field z 8 3 = 0 := by unfold field; omega
  simp only [RoundTrip.tagA_10, fixed, f0, f1, reduceIte]
  rw [RoundTrip.fld_eq (x := g) (by omega)]
  rw [RoundTrip.fld_eq (x := s) (by omega)]
  rw [RoundTrip.fld_eq (x := w) (by omega)]
  rw [RoundTrip.fld_eq (x := x) (by omega)]
theorem RoundTrip.wlayout (g : BitVec 6) (h : BitVec 6) (s : BitVec 2) (w : BitVec 1) (x : BitVec 3) : RoundTrip.Statement (.wlayout g h s w x) := by
  have h0 := g.isLt; have h1 := h.isLt; have h2 := s.isLt; have h3 := w.isLt; have h4 := x.isLt
  refine RoundTrip.of_word (n := 0xD1000000 + place g 18 + place h 12 + place s 10 + place w 9 + place x 0) rfl (fun z hz => ?_)
  simp only [place] at hz
  rw [RoundTrip.decode_A (m := 0x11) (by omega) (by omega) (by omega)]
  have f0 : field z 8 3 = 0 := by unfold field; omega
  simp only [RoundTrip.tagA_11, fixed, f0, reduceIte]
  rw [RoundTrip.fld_eq (x := g) (by omega)]
  rw [RoundTrip.fld_eq (x := h) (by omega)]
  rw [RoundTrip.fld_eq (x := s) (by omega)]
  rw [RoundTrip.fld_eq (x := w) (by omega)]
  rw [RoundTrip.fld_eq (x := x) (by omega)]
theorem RoundTrip.woff (g : BitVec 6) (w : BitVec 3) : RoundTrip.Statement (.woff g w) := by
  have h0 := g.isLt; have h1 := w.isLt
  refine RoundTrip.of_word (n := 0xD2000000 + place g 18 + place w 0) rfl (fun z hz => ?_)
  simp only [place] at hz
  rw [RoundTrip.decode_A (m := 0x12) (by omega) (by omega) (by omega)]
  have f0 : field z 17 3 = 0 := by unfold field; omega
  simp only [RoundTrip.tagA_12, fixed, f0, reduceIte]
  rw [RoundTrip.fld_eq (x := g) (by omega)]
  rw [RoundTrip.fld_eq (x := w) (by omega)]
theorem RoundTrip.wret (g : BitVec 6) (w : BitVec 3) : RoundTrip.Statement (.wret g w) := by
  have h0 := g.isLt; have h1 := w.isLt
  refine RoundTrip.of_word (n := 0xD3000000 + place g 18 + place w 0) rfl (fun z hz => ?_)
  simp only [place] at hz
  rw [RoundTrip.decode_A (m := 0x13) (by omega) (by omega) (by omega)]
  have f0 : field z 17 3 = 0 := by unfold field; omega
  simp only [RoundTrip.tagA_13, fixed, f0, reduceIte]
  rw [RoundTrip.fld_eq (x := g) (by omega)]
  rw [RoundTrip.fld_eq (x := w) (by omega)]
theorem RoundTrip.wenc (g : BitVec 6) (w : BitVec 3) : RoundTrip.Statement (.wenc g w) := by
  have h0 := g.isLt; have h1 := w.isLt
  refine RoundTrip.of_word (n := 0xD4000000 + place g 18 + place w 0) rfl (fun z hz => ?_)
  simp only [place] at hz
  rw [RoundTrip.decode_A (m := 0x14) (by omega) (by omega) (by omega)]
  have f0 : field z 17 3 = 0 := by unfold field; omega
  simp only [RoundTrip.tagA_14, fixed, f0, reduceIte]
  rw [RoundTrip.fld_eq (x := g) (by omega)]
  rw [RoundTrip.fld_eq (x := w) (by omega)]
theorem RoundTrip.wcsum (g : BitVec 6) (h : BitVec 6) (w : BitVec 3) : RoundTrip.Statement (.wcsum g h w) := by
  have h0 := g.isLt; have h1 := h.isLt; have h2 := w.isLt
  refine RoundTrip.of_word (n := 0xD5000000 + place g 18 + place h 12 + place w 0) rfl (fun z hz => ?_)
  simp only [place] at hz
  rw [RoundTrip.decode_A (m := 0x15) (by omega) (by omega) (by omega)]
  have f0 : field z 11 3 = 0 := by unfold field; omega
  simp only [RoundTrip.tagA_15, fixed, f0, reduceIte]
  rw [RoundTrip.fld_eq (x := g) (by omega)]
  rw [RoundTrip.fld_eq (x := h) (by omega)]
  rw [RoundTrip.fld_eq (x := w) (by omega)]
theorem RoundTrip.wdec (g : BitVec 6) (h : BitVec 6) (w : BitVec 3) : RoundTrip.Statement (.wdec g h w) := by
  have h0 := g.isLt; have h1 := h.isLt; have h2 := w.isLt
  refine RoundTrip.of_word (n := 0xD6000000 + place g 18 + place h 12 + place w 0) rfl (fun z hz => ?_)
  simp only [place] at hz
  rw [RoundTrip.decode_A (m := 0x16) (by omega) (by omega) (by omega)]
  have f0 : field z 11 3 = 0 := by unfold field; omega
  simp only [RoundTrip.tagA_16, fixed, f0, reduceIte]
  rw [RoundTrip.fld_eq (x := g) (by omega)]
  rw [RoundTrip.fld_eq (x := h) (by omega)]
  rw [RoundTrip.fld_eq (x := w) (by omega)]
theorem RoundTrip.wnvme (g : BitVec 6) (h : BitVec 6) (w : BitVec 3) : RoundTrip.Statement (.wnvme g h w) := by
  have h0 := g.isLt; have h1 := h.isLt; have h2 := w.isLt
  refine RoundTrip.of_word (n := 0xD7000000 + place g 18 + place h 12 + place w 0) rfl (fun z hz => ?_)
  simp only [place] at hz
  rw [RoundTrip.decode_A (m := 0x17) (by omega) (by omega) (by omega)]
  have f0 : field z 11 3 = 0 := by unfold field; omega
  simp only [RoundTrip.tagA_17, fixed, f0, reduceIte]
  rw [RoundTrip.fld_eq (x := g) (by omega)]
  rw [RoundTrip.fld_eq (x := h) (by omega)]
  rw [RoundTrip.fld_eq (x := w) (by omega)]
theorem RoundTrip.wfill (g : BitVec 6) (h : BitVec 6) (w : BitVec 3) : RoundTrip.Statement (.wfill g h w) := by
  have h0 := g.isLt; have h1 := h.isLt; have h2 := w.isLt
  refine RoundTrip.of_word (n := 0xD8000000 + place g 18 + place h 12 + place w 0) rfl (fun z hz => ?_)
  simp only [place] at hz
  rw [RoundTrip.decode_A (m := 0x18) (by omega) (by omega) (by omega)]
  have f0 : field z 11 3 = 0 := by unfold field; omega
  simp only [RoundTrip.tagA_18, fixed, f0, reduceIte]
  rw [RoundTrip.fld_eq (x := g) (by omega)]
  rw [RoundTrip.fld_eq (x := h) (by omega)]
  rw [RoundTrip.fld_eq (x := w) (by omega)]
theorem RoundTrip.nop : RoundTrip.Statement .nop := by
  exact RoundTrip.of_word rfl (fun m h => by subst h; decide)
theorem RoundTrip.rgnend : RoundTrip.Statement .rgnend := by
  exact RoundTrip.of_word rfl (fun m h => by subst h; decide)
theorem RoundTrip.endActivation : RoundTrip.Statement .endActivation := by
  exact RoundTrip.of_word rfl (fun m h => by subst h; decide)
theorem RoundTrip.vmpop : RoundTrip.Statement .vmpop := by
  exact RoundTrip.of_word rfl (fun m h => by subst h; decide)
theorem RoundTrip.vminv : RoundTrip.Statement .vminv := by
  exact RoundTrip.of_word rfl (fun m h => by subst h; decide)
theorem RoundTrip.loopBodyEnd (e : Engine) : RoundTrip.Statement (.loopBodyEnd e) := RoundTrip.of_none rfl
theorem RoundTrip.laggingOutcomeTake (e : Engine) : RoundTrip.Statement (.laggingOutcomeTake e) := RoundTrip.of_none rfl
theorem RoundTrip.bandHandover (band : Nat) : RoundTrip.Statement (.bandHandover band) := RoundTrip.of_none rfl
theorem RoundTrip.tokenWaitPerform (e : Engine) : RoundTrip.Statement (.tokenWaitPerform e) := RoundTrip.of_none rfl
theorem RoundTrip.tokenSignal (e : Engine) : RoundTrip.Statement (.tokenSignal e) := RoundTrip.of_none rfl
theorem RoundTrip.streamBurstStart (store : Bool) : RoundTrip.Statement (.streamBurstStart store) := RoundTrip.of_none rfl
theorem RoundTrip.streamBurstComplete (store : Bool) (k : Nat) : RoundTrip.Statement (.streamBurstComplete store k) := RoundTrip.of_none rfl
theorem RoundTrip.streamBurstFault (store : Bool) : RoundTrip.Statement (.streamBurstFault store) := RoundTrip.of_none rfl
theorem RoundTrip.walkDone (agent : Agent) (k : Nat) : RoundTrip.Statement (.walkDone agent k) := RoundTrip.of_none rfl
theorem RoundTrip.globalLoadResponse (k : Nat) : RoundTrip.Statement (.globalLoadResponse k) := RoundTrip.of_none rfl
theorem RoundTrip.globalStoreAck (k : Nat) : RoundTrip.Statement (.globalStoreAck k) := RoundTrip.of_none rfl
theorem RoundTrip.scratchpadZeroingDone (bank : Nat) : RoundTrip.Statement (.scratchpadZeroingDone bank) := RoundTrip.of_none rfl
theorem RoundTrip.bstoreZeroingDone (band : Nat) : RoundTrip.Statement (.bstoreZeroingDone band) := RoundTrip.of_none rfl
theorem RoundTrip.emptyNodeTaken (n : Nat) : RoundTrip.Statement (.emptyNodeTaken n) := RoundTrip.of_none rfl
theorem RoundTrip.kernelNodeDispatch (n : Nat) : RoundTrip.Statement (.kernelNodeDispatch n) := RoundTrip.of_none rfl
theorem RoundTrip.kernelValidation (n : Nat) : RoundTrip.Statement (.kernelValidation n) := RoundTrip.of_none rfl
theorem RoundTrip.copyNodePush (n : Nat) : RoundTrip.Statement (.copyNodePush n) := RoundTrip.of_none rfl
theorem RoundTrip.collectiveNodePush (n : Nat) : RoundTrip.Statement (.collectiveNodePush n) := RoundTrip.of_none rfl
theorem RoundTrip.controlNodeEvaluate (n : Nat) : RoundTrip.Statement (.controlNodeEvaluate n) := RoundTrip.of_none rfl
theorem RoundTrip.childGraphEnd (n : Nat) : RoundTrip.Statement (.childGraphEnd n) := RoundTrip.of_none rfl
theorem RoundTrip.tileDispatch (n : Nat) (die : Nat) : RoundTrip.Statement (.tileDispatch n die) := RoundTrip.of_none rfl
theorem RoundTrip.tileSteal (n : Nat) (die : Nat) : RoundTrip.Statement (.tileSteal n die) := RoundTrip.of_none rfl
theorem RoundTrip.timedNodeDue (n : Nat) : RoundTrip.Statement (.timedNodeDue n) := RoundTrip.of_none rfl
theorem RoundTrip.queueDoorbell (n : Nat) : RoundTrip.Statement (.queueDoorbell n) := RoundTrip.of_none rfl
theorem RoundTrip.fresResume (seq : BitVec 16) : RoundTrip.Statement (.fresResume seq) := RoundTrip.of_none rfl
theorem RoundTrip.fresAbort (seq : BitVec 16) : RoundTrip.Statement (.fresAbort seq) := RoundTrip.of_none rfl
theorem RoundTrip.trapRingControlWrite (event : Bool) (v : BitVec 64) : RoundTrip.Statement (.trapRingControlWrite event v) := RoundTrip.of_none rfl
theorem RoundTrip.traceTrigger (side : Nat) : RoundTrip.Statement (.traceTrigger side) := RoundTrip.of_none rfl
theorem RoundTrip.tetherWaitSatisfied (lane : Bool) : RoundTrip.Statement (.tetherWaitSatisfied lane) := RoundTrip.of_none rfl
theorem RoundTrip.peerCheckArrival (port : Nat) (auth : Bool × Bool) (body : BitVec 128 × List Byte) :
    RoundTrip.Statement (.peerCheckArrival port auth body) := RoundTrip.of_none rfl
theorem RoundTrip.tetherCommandComplete (lane : Bool) : RoundTrip.Statement (.tetherCommandComplete lane) := RoundTrip.of_none rfl
theorem RoundTrip.tetherFault (lane : Bool) : RoundTrip.Statement (.tetherFault lane) := RoundTrip.of_none rfl
theorem RoundTrip.packetData (p : Arrival) : RoundTrip.Statement (.packetData p) := RoundTrip.of_none rfl
theorem RoundTrip.packetRelease (p : Arrival) : RoundTrip.Statement (.packetRelease p) := RoundTrip.of_none rfl
theorem RoundTrip.fenceRequestPacket (p : Arrival) : RoundTrip.Statement (.fenceRequestPacket p) := RoundTrip.of_none rfl
theorem RoundTrip.fenceConfirmPacket (p : Arrival) : RoundTrip.Statement (.fenceConfirmPacket p) := RoundTrip.of_none rfl
theorem RoundTrip.barrierDoneReport (p : Arrival) : RoundTrip.Statement (.barrierDoneReport p) := RoundTrip.of_none rfl
theorem RoundTrip.barrierBreakReport (p : Arrival) : RoundTrip.Statement (.barrierBreakReport p) := RoundTrip.of_none rfl
theorem RoundTrip.packetRetryExpiry (k : Nat) : RoundTrip.Statement (.packetRetryExpiry k) := RoundTrip.of_none rfl
theorem RoundTrip.hostRequest (r : HostReq) : RoundTrip.Statement (.hostRequest r) := RoundTrip.of_none rfl
theorem RoundTrip.linkTrainingDone (lanes : Nat) : RoundTrip.Statement (.linkTrainingDone lanes) := RoundTrip.of_none rfl
theorem RoundTrip.linkDisableWrite (v : Bool) : RoundTrip.Statement (.linkDisableWrite v) := RoundTrip.of_none rfl
theorem RoundTrip.ptpSync (time : BitVec 64) : RoundTrip.Statement (.ptpSync time) := RoundTrip.of_none rfl
theorem RoundTrip.wtimeWrite (v : BitVec 64) : RoundTrip.Statement (.wtimeWrite v) := RoundTrip.of_none rfl
theorem RoundTrip.keelImageCheck (image : FlashImage) : RoundTrip.Statement (.keelImageCheck image) := RoundTrip.of_none rfl
theorem RoundTrip.cd0Trained (ok : Bool) : RoundTrip.Statement (.cd0Trained ok) := RoundTrip.of_none rfl
theorem RoundTrip.allDiesTrained (ok : BitVec 5) : RoundTrip.Statement (.allDiesTrained ok) := RoundTrip.of_none rfl
theorem RoundTrip.drvfeatWrite (v : BitVec 128) : RoundTrip.Statement (.drvfeatWrite v) := RoundTrip.of_none rfl
theorem RoundTrip.throttle (on : Bool) : RoundTrip.Statement (.throttle on) := RoundTrip.of_none rfl
theorem RoundTrip.temperatureSample (degrees : Int) : RoundTrip.Statement (.temperatureSample degrees) := RoundTrip.of_none rfl
theorem RoundTrip.readClear (off : Nat) : RoundTrip.Statement (.readClear off) := RoundTrip.of_none rfl
theorem RoundTrip.registerWrite (off : Nat) (v : BitVec 64) : RoundTrip.Statement (.registerWrite off v) := RoundTrip.of_none rfl
theorem RoundTrip.notAnInstruction (w : Word) : RoundTrip.Statement (.notAnInstruction w) := RoundTrip.of_none rfl
theorem RoundTrip.softErrorCorrection (counter : Nat) : RoundTrip.Statement (.softErrorCorrection counter) := RoundTrip.of_none rfl
theorem RoundTrip.peerDelayExchange (delay : BitVec 32) : RoundTrip.Statement (.peerDelayExchange delay) := RoundTrip.of_none rfl
theorem RoundTrip.barrierWake : RoundTrip.Statement .barrierWake := RoundTrip.of_none rfl
theorem RoundTrip.waitcComplete : RoundTrip.Statement .waitcComplete := RoundTrip.of_none rfl
theorem RoundTrip.vResultsWritten : RoundTrip.Statement .vResultsWritten := RoundTrip.of_none rfl
theorem RoundTrip.mWordStart : RoundTrip.Statement .mWordStart := RoundTrip.of_none rfl
theorem RoundTrip.mWordComplete : RoundTrip.Statement .mWordComplete := RoundTrip.of_none rfl
theorem RoundTrip.regionSlackExpiry : RoundTrip.Statement .regionSlackExpiry := RoundTrip.of_none rfl
theorem RoundTrip.winchCommandStart : RoundTrip.Statement .winchCommandStart := RoundTrip.of_none rfl
theorem RoundTrip.winchCommandComplete : RoundTrip.Statement .winchCommandComplete := RoundTrip.of_none rfl
theorem RoundTrip.winchFault : RoundTrip.Statement .winchFault := RoundTrip.of_none rfl
theorem RoundTrip.nvmeCompletionObserved : RoundTrip.Statement .nvmeCompletionObserved := RoundTrip.of_none rfl
theorem RoundTrip.reencodeTake : RoundTrip.Statement .reencodeTake := RoundTrip.of_none rfl
theorem RoundTrip.reencodeWritten : RoundTrip.Statement .reencodeWritten := RoundTrip.of_none rfl
theorem RoundTrip.outboundDone : RoundTrip.Statement .outboundDone := RoundTrip.of_none rfl
theorem RoundTrip.inboundDone : RoundTrip.Statement .inboundDone := RoundTrip.of_none rfl
theorem RoundTrip.mailboxAccept : RoundTrip.Statement .mailboxAccept := RoundTrip.of_none rfl
theorem RoundTrip.wqpopWake : RoundTrip.Statement .wqpopWake := RoundTrip.of_none rfl
theorem RoundTrip.probeAccept : RoundTrip.Statement .probeAccept := RoundTrip.of_none rfl
theorem RoundTrip.queueRecordNop : RoundTrip.Statement .queueRecordNop := RoundTrip.of_none rfl
theorem RoundTrip.queueRecordLaunch : RoundTrip.Statement .queueRecordLaunch := RoundTrip.of_none rfl
theorem RoundTrip.queueRecordIcode : RoundTrip.Statement .queueRecordIcode := RoundTrip.of_none rfl
theorem RoundTrip.graphCompletionWrite : RoundTrip.Statement .graphCompletionWrite := RoundTrip.of_none rfl
theorem RoundTrip.activationEnd : RoundTrip.Statement .activationEnd := RoundTrip.of_none rfl
theorem RoundTrip.bandExtraGrant : RoundTrip.Statement .bandExtraGrant := RoundTrip.of_none rfl
theorem RoundTrip.bandWithdraw : RoundTrip.Statement .bandWithdraw := RoundTrip.of_none rfl
theorem RoundTrip.frameBoundary : RoundTrip.Statement .frameBoundary := RoundTrip.of_none rfl
theorem RoundTrip.watchdog : RoundTrip.Statement .watchdog := RoundTrip.of_none rfl
theorem RoundTrip.barrierTimeout : RoundTrip.Statement .barrierTimeout := RoundTrip.of_none rfl
theorem RoundTrip.contextLoadStart : RoundTrip.Statement .contextLoadStart := RoundTrip.of_none rfl
theorem RoundTrip.contextLoadDone : RoundTrip.Statement .contextLoadDone := RoundTrip.of_none rfl
theorem RoundTrip.contextSaveStart : RoundTrip.Statement .contextSaveStart := RoundTrip.of_none rfl
theorem RoundTrip.contextSaveDone : RoundTrip.Statement .contextSaveDone := RoundTrip.of_none rfl
theorem RoundTrip.queueBind : RoundTrip.Statement .queueBind := RoundTrip.of_none rfl
theorem RoundTrip.queueResume : RoundTrip.Statement .queueResume := RoundTrip.of_none rfl
theorem RoundTrip.queueUnbind : RoundTrip.Statement .queueUnbind := RoundTrip.of_none rfl
theorem RoundTrip.barrierBind : RoundTrip.Statement .barrierBind := RoundTrip.of_none rfl
theorem RoundTrip.barrierReset : RoundTrip.Statement .barrierReset := RoundTrip.of_none rfl
theorem RoundTrip.barrierUnbind : RoundTrip.Statement .barrierUnbind := RoundTrip.of_none rfl
theorem RoundTrip.barrierBreakCmd : RoundTrip.Statement .barrierBreakCmd := RoundTrip.of_none rfl
theorem RoundTrip.contextCreate : RoundTrip.Statement .contextCreate := RoundTrip.of_none rfl
theorem RoundTrip.contextDestroy : RoundTrip.Statement .contextDestroy := RoundTrip.of_none rfl
theorem RoundTrip.kill : RoundTrip.Statement .kill := RoundTrip.of_none rfl
theorem RoundTrip.incarnationInstalled : RoundTrip.Statement .incarnationInstalled := RoundTrip.of_none rfl
theorem RoundTrip.rclfCommand : RoundTrip.Statement .rclfCommand := RoundTrip.of_none rfl
theorem RoundTrip.rclfComplete : RoundTrip.Statement .rclfComplete := RoundTrip.of_none rfl
theorem RoundTrip.faultTableRecordWrite : RoundTrip.Statement .faultTableRecordWrite := RoundTrip.of_none rfl
theorem RoundTrip.tracefreeze : RoundTrip.Statement .tracefreeze := RoundTrip.of_none rfl
theorem RoundTrip.traceDump : RoundTrip.Statement .traceDump := RoundTrip.of_none rfl
theorem RoundTrip.traceRearm : RoundTrip.Statement .traceRearm := RoundTrip.of_none rfl
theorem RoundTrip.tetherCommandStart : RoundTrip.Statement .tetherCommandStart := RoundTrip.of_none rfl
theorem RoundTrip.triggerFire : RoundTrip.Statement .triggerFire := RoundTrip.of_none rfl
theorem RoundTrip.linkTrainingFailed : RoundTrip.Statement .linkTrainingFailed := RoundTrip.of_none rfl
theorem RoundTrip.linkCorrectableError : RoundTrip.Statement .linkCorrectableError := RoundTrip.of_none rfl
theorem RoundTrip.linkUncorrectableError : RoundTrip.Statement .linkUncorrectableError := RoundTrip.of_none rfl
theorem RoundTrip.linkRetrain : RoundTrip.Statement .linkRetrain := RoundTrip.of_none rfl
theorem RoundTrip.ptpSyncLoss : RoundTrip.Statement .ptpSyncLoss := RoundTrip.of_none rfl
theorem RoundTrip.packageResetRelease : RoundTrip.Statement .packageResetRelease := RoundTrip.of_none rfl
theorem RoundTrip.switchingDone : RoundTrip.Statement .switchingDone := RoundTrip.of_none rfl
theorem RoundTrip.dcmdFull : RoundTrip.Statement .dcmdFull := RoundTrip.of_none rfl
theorem RoundTrip.dcmdRecover : RoundTrip.Statement .dcmdRecover := RoundTrip.of_none rfl
theorem RoundTrip.attestationRequest : RoundTrip.Statement .attestationRequest := RoundTrip.of_none rfl
theorem RoundTrip.junctionOvertempReset : RoundTrip.Statement .junctionOvertempReset := RoundTrip.of_none rfl
theorem RoundTrip.lifetimeCounterSave : RoundTrip.Statement .lifetimeCounterSave := RoundTrip.of_none rfl
theorem RoundTrip.coreRailDroop : RoundTrip.Statement .coreRailDroop := RoundTrip.of_none rfl
theorem RoundTrip.winchBurstComplete : RoundTrip.Statement .winchBurstComplete := RoundTrip.of_none rfl
theorem RoundTrip.packageReset : RoundTrip.Statement .packageReset := RoundTrip.of_none rfl
theorem RoundTrip.powerLoss : RoundTrip.Statement .powerLoss := RoundTrip.of_none rfl
theorem RoundTrip.orderlyShutdown : RoundTrip.Statement .orderlyShutdown := RoundTrip.of_none rfl

end Sys2Proof.Laws
end

