-- ==== Sys2Proof/Laws/State.lean ====
section
/-!
SUPPORT. Sys2Proof/Laws/State.lean: what each update of the state leaves, one lemma per field and update, and what each read of a unit
finds after it.
-/

namespace Sys2Proof.Machine

variable (s : State) (n m : Nat)

/-! ### The units of the package -/

section
variable (f : Slot → Slot)
@[simp] theorem State.modSlot_agenda : (State.modSlot n f s).agenda = s.agenda := rfl
@[simp] theorem State.modSlot_phase : (State.modSlot n f s).phase = s.phase := rfl
@[simp] theorem State.modSlot_wraps : (State.modSlot n f s).wraps = s.wraps := rfl
@[simp] theorem State.modSlot_free : (State.modSlot n f s).free = s.free := rfl
@[simp] theorem State.modSlot_cur : (State.modSlot n f s).cur = s.cur := rfl
@[simp] theorem State.modSlot_stuck : (State.modSlot n f s).stuck = s.stuck := rfl
@[simp] theorem State.modSlot_stamp : (State.modSlot n f s).stamp = s.stamp := rfl
@[simp] theorem State.modSlot_cores : (State.modSlot n f s).cores = s.cores := rfl
@[simp] theorem State.modSlot_dies : (State.modSlot n f s).dies = s.dies := rfl
@[simp] theorem State.modSlot_winches : (State.modSlot n f s).winches = s.winches := rfl
@[simp] theorem State.modSlot_mem : (State.modSlot n f s).mem = s.mem := rfl
@[simp] theorem State.modSlot_hub : (State.modSlot n f s).hub = s.hub := rfl
@[simp] theorem State.modSlot_core : (State.modSlot n f s).core m = s.core m := rfl
@[simp] theorem State.modSlot_die : (State.modSlot n f s).die m = s.die m := rfl
@[simp] theorem State.modSlot_winch : (State.modSlot n f s).winch m = s.winch m := rfl
@[simp] theorem State.modSlot_ctx : (State.modSlot n f s).ctx m = s.ctx m := rfl
@[simp] theorem State.modSlot_ctxWork : (State.modSlot n f s).ctxWork m = s.ctxWork m := rfl
@[simp] theorem State.modSlot_pslot : (State.modSlot n f s).pslot m = s.pslot m := rfl
@[simp] theorem State.modSlot_queue : (State.modSlot n f s).queue m = s.queue m := rfl
@[simp] theorem State.modSlot_barrier : (State.modSlot n f s).barrier m = s.barrier m := rfl
@[simp] theorem State.modSlot_link : (State.modSlot n f s).link m = s.link m := rfl
@[simp] theorem State.modSlot_stream : (State.modSlot n f s).stream m = s.stream m := rfl
@[simp] theorem State.modSlot_sem : (State.modSlot n f s).sem m = s.sem m := rfl
end

section
variable (f : CoreState → CoreState)
@[simp] theorem State.modCore_agenda : (State.modCore n f s).agenda = s.agenda := rfl
@[simp] theorem State.modCore_phase : (State.modCore n f s).phase = s.phase := rfl
@[simp] theorem State.modCore_wraps : (State.modCore n f s).wraps = s.wraps := rfl
@[simp] theorem State.modCore_free : (State.modCore n f s).free = s.free := rfl
@[simp] theorem State.modCore_cur : (State.modCore n f s).cur = s.cur := rfl
@[simp] theorem State.modCore_stuck : (State.modCore n f s).stuck = s.stuck := rfl
@[simp] theorem State.modCore_stamp : (State.modCore n f s).stamp = s.stamp := rfl
@[simp] theorem State.modCore_slots : (State.modCore n f s).slots = s.slots := rfl
@[simp] theorem State.modCore_dies : (State.modCore n f s).dies = s.dies := rfl
@[simp] theorem State.modCore_winches : (State.modCore n f s).winches = s.winches := rfl
@[simp] theorem State.modCore_mem : (State.modCore n f s).mem = s.mem := rfl
@[simp] theorem State.modCore_hub : (State.modCore n f s).hub = s.hub := rfl
@[simp] theorem State.modCore_slot : (State.modCore n f s).slot m = s.slot m := rfl
@[simp] theorem State.modCore_die : (State.modCore n f s).die m = s.die m := rfl
@[simp] theorem State.modCore_winch : (State.modCore n f s).winch m = s.winch m := rfl
@[simp] theorem State.modCore_ctx : (State.modCore n f s).ctx m = s.ctx m := rfl
@[simp] theorem State.modCore_ctxWork : (State.modCore n f s).ctxWork m = s.ctxWork m := rfl
@[simp] theorem State.modCore_pslot : (State.modCore n f s).pslot m = s.pslot m := rfl
@[simp] theorem State.modCore_queue : (State.modCore n f s).queue m = s.queue m := rfl
@[simp] theorem State.modCore_barrier : (State.modCore n f s).barrier m = s.barrier m := rfl
@[simp] theorem State.modCore_link : (State.modCore n f s).link m = s.link m := rfl
@[simp] theorem State.modCore_stream : (State.modCore n f s).stream m = s.stream m := rfl
@[simp] theorem State.modCore_sem : (State.modCore n f s).sem m = s.sem m := rfl
end

section
variable (f : DieState → DieState)
@[simp] theorem State.modDie_agenda : (State.modDie n f s).agenda = s.agenda := rfl
@[simp] theorem State.modDie_phase : (State.modDie n f s).phase = s.phase := rfl
@[simp] theorem State.modDie_wraps : (State.modDie n f s).wraps = s.wraps := rfl
@[simp] theorem State.modDie_free : (State.modDie n f s).free = s.free := rfl
@[simp] theorem State.modDie_cur : (State.modDie n f s).cur = s.cur := rfl
@[simp] theorem State.modDie_stuck : (State.modDie n f s).stuck = s.stuck := rfl
@[simp] theorem State.modDie_stamp : (State.modDie n f s).stamp = s.stamp := rfl
@[simp] theorem State.modDie_slots : (State.modDie n f s).slots = s.slots := rfl
@[simp] theorem State.modDie_cores : (State.modDie n f s).cores = s.cores := rfl
@[simp] theorem State.modDie_winches : (State.modDie n f s).winches = s.winches := rfl
@[simp] theorem State.modDie_mem : (State.modDie n f s).mem = s.mem := rfl
@[simp] theorem State.modDie_hub : (State.modDie n f s).hub = s.hub := rfl
@[simp] theorem State.modDie_slot : (State.modDie n f s).slot m = s.slot m := rfl
@[simp] theorem State.modDie_core : (State.modDie n f s).core m = s.core m := rfl
@[simp] theorem State.modDie_winch : (State.modDie n f s).winch m = s.winch m := rfl
@[simp] theorem State.modDie_ctx : (State.modDie n f s).ctx m = s.ctx m := rfl
@[simp] theorem State.modDie_ctxWork : (State.modDie n f s).ctxWork m = s.ctxWork m := rfl
@[simp] theorem State.modDie_pslot : (State.modDie n f s).pslot m = s.pslot m := rfl
@[simp] theorem State.modDie_queue : (State.modDie n f s).queue m = s.queue m := rfl
@[simp] theorem State.modDie_barrier : (State.modDie n f s).barrier m = s.barrier m := rfl
@[simp] theorem State.modDie_link : (State.modDie n f s).link m = s.link m := rfl
@[simp] theorem State.modDie_stream : (State.modDie n f s).stream m = s.stream m := rfl
@[simp] theorem State.modDie_sem : (State.modDie n f s).sem m = s.sem m := rfl
end

section
variable (f : Winch → Winch)
@[simp] theorem State.modWinch_agenda : (State.modWinch n f s).agenda = s.agenda := rfl
@[simp] theorem State.modWinch_phase : (State.modWinch n f s).phase = s.phase := rfl
@[simp] theorem State.modWinch_wraps : (State.modWinch n f s).wraps = s.wraps := rfl
@[simp] theorem State.modWinch_free : (State.modWinch n f s).free = s.free := rfl
@[simp] theorem State.modWinch_cur : (State.modWinch n f s).cur = s.cur := rfl
@[simp] theorem State.modWinch_stuck : (State.modWinch n f s).stuck = s.stuck := rfl
@[simp] theorem State.modWinch_stamp : (State.modWinch n f s).stamp = s.stamp := rfl
@[simp] theorem State.modWinch_slots : (State.modWinch n f s).slots = s.slots := rfl
@[simp] theorem State.modWinch_cores : (State.modWinch n f s).cores = s.cores := rfl
@[simp] theorem State.modWinch_dies : (State.modWinch n f s).dies = s.dies := rfl
@[simp] theorem State.modWinch_mem : (State.modWinch n f s).mem = s.mem := rfl
@[simp] theorem State.modWinch_hub : (State.modWinch n f s).hub = s.hub := rfl
@[simp] theorem State.modWinch_slot : (State.modWinch n f s).slot m = s.slot m := rfl
@[simp] theorem State.modWinch_core : (State.modWinch n f s).core m = s.core m := rfl
@[simp] theorem State.modWinch_die : (State.modWinch n f s).die m = s.die m := rfl
@[simp] theorem State.modWinch_ctx : (State.modWinch n f s).ctx m = s.ctx m := rfl
@[simp] theorem State.modWinch_ctxWork : (State.modWinch n f s).ctxWork m = s.ctxWork m := rfl
@[simp] theorem State.modWinch_pslot : (State.modWinch n f s).pslot m = s.pslot m := rfl
@[simp] theorem State.modWinch_queue : (State.modWinch n f s).queue m = s.queue m := rfl
@[simp] theorem State.modWinch_barrier : (State.modWinch n f s).barrier m = s.barrier m := rfl
@[simp] theorem State.modWinch_link : (State.modWinch n f s).link m = s.link m := rfl
@[simp] theorem State.modWinch_stream : (State.modWinch n f s).stream m = s.stream m := rfl
@[simp] theorem State.modWinch_sem : (State.modWinch n f s).sem m = s.sem m := rfl
end

section
variable (f : Hub → Hub)
@[simp] theorem State.modHub_agenda : (State.modHub f s).agenda = s.agenda := rfl
@[simp] theorem State.modHub_phase : (State.modHub f s).phase = s.phase := rfl
@[simp] theorem State.modHub_wraps : (State.modHub f s).wraps = s.wraps := rfl
@[simp] theorem State.modHub_free : (State.modHub f s).free = s.free := rfl
@[simp] theorem State.modHub_cur : (State.modHub f s).cur = s.cur := rfl
@[simp] theorem State.modHub_stuck : (State.modHub f s).stuck = s.stuck := rfl
@[simp] theorem State.modHub_stamp : (State.modHub f s).stamp = s.stamp := rfl
@[simp] theorem State.modHub_slots : (State.modHub f s).slots = s.slots := rfl
@[simp] theorem State.modHub_cores : (State.modHub f s).cores = s.cores := rfl
@[simp] theorem State.modHub_dies : (State.modHub f s).dies = s.dies := rfl
@[simp] theorem State.modHub_winches : (State.modHub f s).winches = s.winches := rfl
@[simp] theorem State.modHub_mem : (State.modHub f s).mem = s.mem := rfl
@[simp] theorem State.modHub_slot : (State.modHub f s).slot m = s.slot m := rfl
@[simp] theorem State.modHub_core : (State.modHub f s).core m = s.core m := rfl
@[simp] theorem State.modHub_die : (State.modHub f s).die m = s.die m := rfl
@[simp] theorem State.modHub_winch : (State.modHub f s).winch m = s.winch m := rfl
end

section
variable (f : Ctx → Ctx)
@[simp] theorem State.modCtx_agenda : (State.modCtx n f s).agenda = s.agenda := rfl
@[simp] theorem State.modCtx_phase : (State.modCtx n f s).phase = s.phase := rfl
@[simp] theorem State.modCtx_wraps : (State.modCtx n f s).wraps = s.wraps := rfl
@[simp] theorem State.modCtx_free : (State.modCtx n f s).free = s.free := rfl
@[simp] theorem State.modCtx_cur : (State.modCtx n f s).cur = s.cur := rfl
@[simp] theorem State.modCtx_stuck : (State.modCtx n f s).stuck = s.stuck := rfl
@[simp] theorem State.modCtx_stamp : (State.modCtx n f s).stamp = s.stamp := rfl
@[simp] theorem State.modCtx_slots : (State.modCtx n f s).slots = s.slots := rfl
@[simp] theorem State.modCtx_cores : (State.modCtx n f s).cores = s.cores := rfl
@[simp] theorem State.modCtx_dies : (State.modCtx n f s).dies = s.dies := rfl
@[simp] theorem State.modCtx_winches : (State.modCtx n f s).winches = s.winches := rfl
@[simp] theorem State.modCtx_mem : (State.modCtx n f s).mem = s.mem := rfl
@[simp] theorem State.modCtx_slot : (State.modCtx n f s).slot m = s.slot m := rfl
@[simp] theorem State.modCtx_core : (State.modCtx n f s).core m = s.core m := rfl
@[simp] theorem State.modCtx_die : (State.modCtx n f s).die m = s.die m := rfl
@[simp] theorem State.modCtx_winch : (State.modCtx n f s).winch m = s.winch m := rfl
end

section
variable (f : CtxWork → CtxWork)
@[simp] theorem State.modCtxWork_agenda : (State.modCtxWork n f s).agenda = s.agenda := rfl
@[simp] theorem State.modCtxWork_phase : (State.modCtxWork n f s).phase = s.phase := rfl
@[simp] theorem State.modCtxWork_wraps : (State.modCtxWork n f s).wraps = s.wraps := rfl
@[simp] theorem State.modCtxWork_free : (State.modCtxWork n f s).free = s.free := rfl
@[simp] theorem State.modCtxWork_cur : (State.modCtxWork n f s).cur = s.cur := rfl
@[simp] theorem State.modCtxWork_stuck : (State.modCtxWork n f s).stuck = s.stuck := rfl
@[simp] theorem State.modCtxWork_stamp : (State.modCtxWork n f s).stamp = s.stamp := rfl
@[simp] theorem State.modCtxWork_slots : (State.modCtxWork n f s).slots = s.slots := rfl
@[simp] theorem State.modCtxWork_cores : (State.modCtxWork n f s).cores = s.cores := rfl
@[simp] theorem State.modCtxWork_dies : (State.modCtxWork n f s).dies = s.dies := rfl
@[simp] theorem State.modCtxWork_winches : (State.modCtxWork n f s).winches = s.winches := rfl
@[simp] theorem State.modCtxWork_mem : (State.modCtxWork n f s).mem = s.mem := rfl
@[simp] theorem State.modCtxWork_slot : (State.modCtxWork n f s).slot m = s.slot m := rfl
@[simp] theorem State.modCtxWork_core : (State.modCtxWork n f s).core m = s.core m := rfl
@[simp] theorem State.modCtxWork_die : (State.modCtxWork n f s).die m = s.die m := rfl
@[simp] theorem State.modCtxWork_winch : (State.modCtxWork n f s).winch m = s.winch m := rfl
end

section
variable (f : PSlot → PSlot)
@[simp] theorem State.modPslot_agenda : (State.modPslot n f s).agenda = s.agenda := rfl
@[simp] theorem State.modPslot_phase : (State.modPslot n f s).phase = s.phase := rfl
@[simp] theorem State.modPslot_wraps : (State.modPslot n f s).wraps = s.wraps := rfl
@[simp] theorem State.modPslot_free : (State.modPslot n f s).free = s.free := rfl
@[simp] theorem State.modPslot_cur : (State.modPslot n f s).cur = s.cur := rfl
@[simp] theorem State.modPslot_stuck : (State.modPslot n f s).stuck = s.stuck := rfl
@[simp] theorem State.modPslot_stamp : (State.modPslot n f s).stamp = s.stamp := rfl
@[simp] theorem State.modPslot_slots : (State.modPslot n f s).slots = s.slots := rfl
@[simp] theorem State.modPslot_cores : (State.modPslot n f s).cores = s.cores := rfl
@[simp] theorem State.modPslot_dies : (State.modPslot n f s).dies = s.dies := rfl
@[simp] theorem State.modPslot_winches : (State.modPslot n f s).winches = s.winches := rfl
@[simp] theorem State.modPslot_mem : (State.modPslot n f s).mem = s.mem := rfl
@[simp] theorem State.modPslot_slot : (State.modPslot n f s).slot m = s.slot m := rfl
@[simp] theorem State.modPslot_core : (State.modPslot n f s).core m = s.core m := rfl
@[simp] theorem State.modPslot_die : (State.modPslot n f s).die m = s.die m := rfl
@[simp] theorem State.modPslot_winch : (State.modPslot n f s).winch m = s.winch m := rfl
end

section
variable (f : WorkQueue → WorkQueue)
@[simp] theorem State.modQueue_agenda : (State.modQueue n f s).agenda = s.agenda := rfl
@[simp] theorem State.modQueue_phase : (State.modQueue n f s).phase = s.phase := rfl
@[simp] theorem State.modQueue_wraps : (State.modQueue n f s).wraps = s.wraps := rfl
@[simp] theorem State.modQueue_free : (State.modQueue n f s).free = s.free := rfl
@[simp] theorem State.modQueue_cur : (State.modQueue n f s).cur = s.cur := rfl
@[simp] theorem State.modQueue_stuck : (State.modQueue n f s).stuck = s.stuck := rfl
@[simp] theorem State.modQueue_stamp : (State.modQueue n f s).stamp = s.stamp := rfl
@[simp] theorem State.modQueue_slots : (State.modQueue n f s).slots = s.slots := rfl
@[simp] theorem State.modQueue_cores : (State.modQueue n f s).cores = s.cores := rfl
@[simp] theorem State.modQueue_dies : (State.modQueue n f s).dies = s.dies := rfl
@[simp] theorem State.modQueue_winches : (State.modQueue n f s).winches = s.winches := rfl
@[simp] theorem State.modQueue_mem : (State.modQueue n f s).mem = s.mem := rfl
@[simp] theorem State.modQueue_slot : (State.modQueue n f s).slot m = s.slot m := rfl
@[simp] theorem State.modQueue_core : (State.modQueue n f s).core m = s.core m := rfl
@[simp] theorem State.modQueue_die : (State.modQueue n f s).die m = s.die m := rfl
@[simp] theorem State.modQueue_winch : (State.modQueue n f s).winch m = s.winch m := rfl
end

section
variable (f : Barrier → Barrier)
@[simp] theorem State.modBarrier_agenda : (State.modBarrier n f s).agenda = s.agenda := rfl
@[simp] theorem State.modBarrier_phase : (State.modBarrier n f s).phase = s.phase := rfl
@[simp] theorem State.modBarrier_wraps : (State.modBarrier n f s).wraps = s.wraps := rfl
@[simp] theorem State.modBarrier_free : (State.modBarrier n f s).free = s.free := rfl
@[simp] theorem State.modBarrier_cur : (State.modBarrier n f s).cur = s.cur := rfl
@[simp] theorem State.modBarrier_stuck : (State.modBarrier n f s).stuck = s.stuck := rfl
@[simp] theorem State.modBarrier_stamp : (State.modBarrier n f s).stamp = s.stamp := rfl
@[simp] theorem State.modBarrier_slots : (State.modBarrier n f s).slots = s.slots := rfl
@[simp] theorem State.modBarrier_cores : (State.modBarrier n f s).cores = s.cores := rfl
@[simp] theorem State.modBarrier_dies : (State.modBarrier n f s).dies = s.dies := rfl
@[simp] theorem State.modBarrier_winches : (State.modBarrier n f s).winches = s.winches := rfl
@[simp] theorem State.modBarrier_mem : (State.modBarrier n f s).mem = s.mem := rfl
@[simp] theorem State.modBarrier_slot : (State.modBarrier n f s).slot m = s.slot m := rfl
@[simp] theorem State.modBarrier_core : (State.modBarrier n f s).core m = s.core m := rfl
@[simp] theorem State.modBarrier_die : (State.modBarrier n f s).die m = s.die m := rfl
@[simp] theorem State.modBarrier_winch : (State.modBarrier n f s).winch m = s.winch m := rfl
end

section
variable (f : Link → Link)
@[simp] theorem State.modLink_agenda : (State.modLink n f s).agenda = s.agenda := rfl
@[simp] theorem State.modLink_phase : (State.modLink n f s).phase = s.phase := rfl
@[simp] theorem State.modLink_wraps : (State.modLink n f s).wraps = s.wraps := rfl
@[simp] theorem State.modLink_free : (State.modLink n f s).free = s.free := rfl
@[simp] theorem State.modLink_cur : (State.modLink n f s).cur = s.cur := rfl
@[simp] theorem State.modLink_stuck : (State.modLink n f s).stuck = s.stuck := rfl
@[simp] theorem State.modLink_stamp : (State.modLink n f s).stamp = s.stamp := rfl
@[simp] theorem State.modLink_slots : (State.modLink n f s).slots = s.slots := rfl
@[simp] theorem State.modLink_cores : (State.modLink n f s).cores = s.cores := rfl
@[simp] theorem State.modLink_dies : (State.modLink n f s).dies = s.dies := rfl
@[simp] theorem State.modLink_winches : (State.modLink n f s).winches = s.winches := rfl
@[simp] theorem State.modLink_mem : (State.modLink n f s).mem = s.mem := rfl
@[simp] theorem State.modLink_slot : (State.modLink n f s).slot m = s.slot m := rfl
@[simp] theorem State.modLink_core : (State.modLink n f s).core m = s.core m := rfl
@[simp] theorem State.modLink_die : (State.modLink n f s).die m = s.die m := rfl
@[simp] theorem State.modLink_winch : (State.modLink n f s).winch m = s.winch m := rfl
end

section
variable (f : Stream → Stream)
@[simp] theorem State.modStream_agenda : (State.modStream n f s).agenda = s.agenda := rfl
@[simp] theorem State.modStream_phase : (State.modStream n f s).phase = s.phase := rfl
@[simp] theorem State.modStream_wraps : (State.modStream n f s).wraps = s.wraps := rfl
@[simp] theorem State.modStream_free : (State.modStream n f s).free = s.free := rfl
@[simp] theorem State.modStream_cur : (State.modStream n f s).cur = s.cur := rfl
@[simp] theorem State.modStream_stuck : (State.modStream n f s).stuck = s.stuck := rfl
@[simp] theorem State.modStream_stamp : (State.modStream n f s).stamp = s.stamp := rfl
@[simp] theorem State.modStream_slots : (State.modStream n f s).slots = s.slots := rfl
@[simp] theorem State.modStream_cores : (State.modStream n f s).cores = s.cores := rfl
@[simp] theorem State.modStream_dies : (State.modStream n f s).dies = s.dies := rfl
@[simp] theorem State.modStream_winches : (State.modStream n f s).winches = s.winches := rfl
@[simp] theorem State.modStream_mem : (State.modStream n f s).mem = s.mem := rfl
@[simp] theorem State.modStream_slot : (State.modStream n f s).slot m = s.slot m := rfl
@[simp] theorem State.modStream_core : (State.modStream n f s).core m = s.core m := rfl
@[simp] theorem State.modStream_die : (State.modStream n f s).die m = s.die m := rfl
@[simp] theorem State.modStream_winch : (State.modStream n f s).winch m = s.winch m := rfl
end

section
variable (f : Sem → Sem)
@[simp] theorem State.modSem_agenda : (State.modSem n f s).agenda = s.agenda := rfl
@[simp] theorem State.modSem_phase : (State.modSem n f s).phase = s.phase := rfl
@[simp] theorem State.modSem_wraps : (State.modSem n f s).wraps = s.wraps := rfl
@[simp] theorem State.modSem_free : (State.modSem n f s).free = s.free := rfl
@[simp] theorem State.modSem_cur : (State.modSem n f s).cur = s.cur := rfl
@[simp] theorem State.modSem_stuck : (State.modSem n f s).stuck = s.stuck := rfl
@[simp] theorem State.modSem_stamp : (State.modSem n f s).stamp = s.stamp := rfl
@[simp] theorem State.modSem_slots : (State.modSem n f s).slots = s.slots := rfl
@[simp] theorem State.modSem_cores : (State.modSem n f s).cores = s.cores := rfl
@[simp] theorem State.modSem_dies : (State.modSem n f s).dies = s.dies := rfl
@[simp] theorem State.modSem_winches : (State.modSem n f s).winches = s.winches := rfl
@[simp] theorem State.modSem_mem : (State.modSem n f s).mem = s.mem := rfl
@[simp] theorem State.modSem_slot : (State.modSem n f s).slot m = s.slot m := rfl
@[simp] theorem State.modSem_core : (State.modSem n f s).core m = s.core m := rfl
@[simp] theorem State.modSem_die : (State.modSem n f s).die m = s.die m := rfl
@[simp] theorem State.modSem_winch : (State.modSem n f s).winch m = s.winch m := rfl
end

section
variable (f : TrapUnit → TrapUnit)
@[simp] theorem State.modTraps_agenda : (State.modTraps f s).agenda = s.agenda := rfl
@[simp] theorem State.modTraps_phase : (State.modTraps f s).phase = s.phase := rfl
@[simp] theorem State.modTraps_wraps : (State.modTraps f s).wraps = s.wraps := rfl
@[simp] theorem State.modTraps_free : (State.modTraps f s).free = s.free := rfl
@[simp] theorem State.modTraps_cur : (State.modTraps f s).cur = s.cur := rfl
@[simp] theorem State.modTraps_stuck : (State.modTraps f s).stuck = s.stuck := rfl
@[simp] theorem State.modTraps_stamp : (State.modTraps f s).stamp = s.stamp := rfl
@[simp] theorem State.modTraps_slots : (State.modTraps f s).slots = s.slots := rfl
@[simp] theorem State.modTraps_cores : (State.modTraps f s).cores = s.cores := rfl
@[simp] theorem State.modTraps_dies : (State.modTraps f s).dies = s.dies := rfl
@[simp] theorem State.modTraps_winches : (State.modTraps f s).winches = s.winches := rfl
@[simp] theorem State.modTraps_mem : (State.modTraps f s).mem = s.mem := rfl
@[simp] theorem State.modTraps_slot : (State.modTraps f s).slot m = s.slot m := rfl
@[simp] theorem State.modTraps_core : (State.modTraps f s).core m = s.core m := rfl
@[simp] theorem State.modTraps_die : (State.modTraps f s).die m = s.die m := rfl
@[simp] theorem State.modTraps_winch : (State.modTraps f s).winch m = s.winch m := rfl
end

section
variable (f : Spool → Spool)
@[simp] theorem State.modSpool_agenda : (State.modSpool f s).agenda = s.agenda := rfl
@[simp] theorem State.modSpool_phase : (State.modSpool f s).phase = s.phase := rfl
@[simp] theorem State.modSpool_wraps : (State.modSpool f s).wraps = s.wraps := rfl
@[simp] theorem State.modSpool_free : (State.modSpool f s).free = s.free := rfl
@[simp] theorem State.modSpool_cur : (State.modSpool f s).cur = s.cur := rfl
@[simp] theorem State.modSpool_stuck : (State.modSpool f s).stuck = s.stuck := rfl
@[simp] theorem State.modSpool_stamp : (State.modSpool f s).stamp = s.stamp := rfl
@[simp] theorem State.modSpool_slots : (State.modSpool f s).slots = s.slots := rfl
@[simp] theorem State.modSpool_cores : (State.modSpool f s).cores = s.cores := rfl
@[simp] theorem State.modSpool_dies : (State.modSpool f s).dies = s.dies := rfl
@[simp] theorem State.modSpool_winches : (State.modSpool f s).winches = s.winches := rfl
@[simp] theorem State.modSpool_mem : (State.modSpool f s).mem = s.mem := rfl
@[simp] theorem State.modSpool_slot : (State.modSpool f s).slot m = s.slot m := rfl
@[simp] theorem State.modSpool_core : (State.modSpool f s).core m = s.core m := rfl
@[simp] theorem State.modSpool_die : (State.modSpool f s).die m = s.die m := rfl
@[simp] theorem State.modSpool_winch : (State.modSpool f s).winch m = s.winch m := rfl
end

section
variable (f : Regs → Regs)
@[simp] theorem State.modRegs_agenda : (State.modRegs n f s).agenda = s.agenda := rfl
@[simp] theorem State.modRegs_phase : (State.modRegs n f s).phase = s.phase := rfl
@[simp] theorem State.modRegs_wraps : (State.modRegs n f s).wraps = s.wraps := rfl
@[simp] theorem State.modRegs_free : (State.modRegs n f s).free = s.free := rfl
@[simp] theorem State.modRegs_cur : (State.modRegs n f s).cur = s.cur := rfl
@[simp] theorem State.modRegs_stuck : (State.modRegs n f s).stuck = s.stuck := rfl
@[simp] theorem State.modRegs_stamp : (State.modRegs n f s).stamp = s.stamp := rfl
@[simp] theorem State.modRegs_cores : (State.modRegs n f s).cores = s.cores := rfl
@[simp] theorem State.modRegs_dies : (State.modRegs n f s).dies = s.dies := rfl
@[simp] theorem State.modRegs_winches : (State.modRegs n f s).winches = s.winches := rfl
@[simp] theorem State.modRegs_mem : (State.modRegs n f s).mem = s.mem := rfl
@[simp] theorem State.modRegs_hub : (State.modRegs n f s).hub = s.hub := rfl
@[simp] theorem State.modRegs_core : (State.modRegs n f s).core m = s.core m := rfl
@[simp] theorem State.modRegs_die : (State.modRegs n f s).die m = s.die m := rfl
@[simp] theorem State.modRegs_winch : (State.modRegs n f s).winch m = s.winch m := rfl
@[simp] theorem State.modRegs_ctx : (State.modRegs n f s).ctx m = s.ctx m := rfl
@[simp] theorem State.modRegs_ctxWork : (State.modRegs n f s).ctxWork m = s.ctxWork m := rfl
@[simp] theorem State.modRegs_pslot : (State.modRegs n f s).pslot m = s.pslot m := rfl
@[simp] theorem State.modRegs_queue : (State.modRegs n f s).queue m = s.queue m := rfl
@[simp] theorem State.modRegs_barrier : (State.modRegs n f s).barrier m = s.barrier m := rfl
@[simp] theorem State.modRegs_link : (State.modRegs n f s).link m = s.link m := rfl
@[simp] theorem State.modRegs_stream : (State.modRegs n f s).stream m = s.stream m := rfl
@[simp] theorem State.modRegs_sem : (State.modRegs n f s).sem m = s.sem m := rfl
end

section
variable (f : SeqState → SeqState)
@[simp] theorem State.modSeq_agenda : (State.modSeq n f s).agenda = s.agenda := rfl
@[simp] theorem State.modSeq_phase : (State.modSeq n f s).phase = s.phase := rfl
@[simp] theorem State.modSeq_wraps : (State.modSeq n f s).wraps = s.wraps := rfl
@[simp] theorem State.modSeq_free : (State.modSeq n f s).free = s.free := rfl
@[simp] theorem State.modSeq_cur : (State.modSeq n f s).cur = s.cur := rfl
@[simp] theorem State.modSeq_stuck : (State.modSeq n f s).stuck = s.stuck := rfl
@[simp] theorem State.modSeq_stamp : (State.modSeq n f s).stamp = s.stamp := rfl
@[simp] theorem State.modSeq_cores : (State.modSeq n f s).cores = s.cores := rfl
@[simp] theorem State.modSeq_dies : (State.modSeq n f s).dies = s.dies := rfl
@[simp] theorem State.modSeq_winches : (State.modSeq n f s).winches = s.winches := rfl
@[simp] theorem State.modSeq_mem : (State.modSeq n f s).mem = s.mem := rfl
@[simp] theorem State.modSeq_hub : (State.modSeq n f s).hub = s.hub := rfl
@[simp] theorem State.modSeq_core : (State.modSeq n f s).core m = s.core m := rfl
@[simp] theorem State.modSeq_die : (State.modSeq n f s).die m = s.die m := rfl
@[simp] theorem State.modSeq_winch : (State.modSeq n f s).winch m = s.winch m := rfl
@[simp] theorem State.modSeq_ctx : (State.modSeq n f s).ctx m = s.ctx m := rfl
@[simp] theorem State.modSeq_ctxWork : (State.modSeq n f s).ctxWork m = s.ctxWork m := rfl
@[simp] theorem State.modSeq_pslot : (State.modSeq n f s).pslot m = s.pslot m := rfl
@[simp] theorem State.modSeq_queue : (State.modSeq n f s).queue m = s.queue m := rfl
@[simp] theorem State.modSeq_barrier : (State.modSeq n f s).barrier m = s.barrier m := rfl
@[simp] theorem State.modSeq_link : (State.modSeq n f s).link m = s.link m := rfl
@[simp] theorem State.modSeq_stream : (State.modSeq n f s).stream m = s.stream m := rfl
@[simp] theorem State.modSeq_sem : (State.modSeq n f s).sem m = s.sem m := rfl
end

section
variable (f : VecState → VecState)
@[simp] theorem State.modVec_agenda : (State.modVec n f s).agenda = s.agenda := rfl
@[simp] theorem State.modVec_phase : (State.modVec n f s).phase = s.phase := rfl
@[simp] theorem State.modVec_wraps : (State.modVec n f s).wraps = s.wraps := rfl
@[simp] theorem State.modVec_free : (State.modVec n f s).free = s.free := rfl
@[simp] theorem State.modVec_cur : (State.modVec n f s).cur = s.cur := rfl
@[simp] theorem State.modVec_stuck : (State.modVec n f s).stuck = s.stuck := rfl
@[simp] theorem State.modVec_stamp : (State.modVec n f s).stamp = s.stamp := rfl
@[simp] theorem State.modVec_cores : (State.modVec n f s).cores = s.cores := rfl
@[simp] theorem State.modVec_dies : (State.modVec n f s).dies = s.dies := rfl
@[simp] theorem State.modVec_winches : (State.modVec n f s).winches = s.winches := rfl
@[simp] theorem State.modVec_mem : (State.modVec n f s).mem = s.mem := rfl
@[simp] theorem State.modVec_hub : (State.modVec n f s).hub = s.hub := rfl
@[simp] theorem State.modVec_core : (State.modVec n f s).core m = s.core m := rfl
@[simp] theorem State.modVec_die : (State.modVec n f s).die m = s.die m := rfl
@[simp] theorem State.modVec_winch : (State.modVec n f s).winch m = s.winch m := rfl
@[simp] theorem State.modVec_ctx : (State.modVec n f s).ctx m = s.ctx m := rfl
@[simp] theorem State.modVec_ctxWork : (State.modVec n f s).ctxWork m = s.ctxWork m := rfl
@[simp] theorem State.modVec_pslot : (State.modVec n f s).pslot m = s.pslot m := rfl
@[simp] theorem State.modVec_queue : (State.modVec n f s).queue m = s.queue m := rfl
@[simp] theorem State.modVec_barrier : (State.modVec n f s).barrier m = s.barrier m := rfl
@[simp] theorem State.modVec_link : (State.modVec n f s).link m = s.link m := rfl
@[simp] theorem State.modVec_stream : (State.modVec n f s).stream m = s.stream m := rfl
@[simp] theorem State.modVec_sem : (State.modVec n f s).sem m = s.sem m := rfl
end

section
variable (f : MatState → MatState)
@[simp] theorem State.modMat_agenda : (State.modMat n f s).agenda = s.agenda := rfl
@[simp] theorem State.modMat_phase : (State.modMat n f s).phase = s.phase := rfl
@[simp] theorem State.modMat_wraps : (State.modMat n f s).wraps = s.wraps := rfl
@[simp] theorem State.modMat_free : (State.modMat n f s).free = s.free := rfl
@[simp] theorem State.modMat_cur : (State.modMat n f s).cur = s.cur := rfl
@[simp] theorem State.modMat_stuck : (State.modMat n f s).stuck = s.stuck := rfl
@[simp] theorem State.modMat_stamp : (State.modMat n f s).stamp = s.stamp := rfl
@[simp] theorem State.modMat_cores : (State.modMat n f s).cores = s.cores := rfl
@[simp] theorem State.modMat_dies : (State.modMat n f s).dies = s.dies := rfl
@[simp] theorem State.modMat_winches : (State.modMat n f s).winches = s.winches := rfl
@[simp] theorem State.modMat_mem : (State.modMat n f s).mem = s.mem := rfl
@[simp] theorem State.modMat_hub : (State.modMat n f s).hub = s.hub := rfl
@[simp] theorem State.modMat_core : (State.modMat n f s).core m = s.core m := rfl
@[simp] theorem State.modMat_die : (State.modMat n f s).die m = s.die m := rfl
@[simp] theorem State.modMat_winch : (State.modMat n f s).winch m = s.winch m := rfl
@[simp] theorem State.modMat_ctx : (State.modMat n f s).ctx m = s.ctx m := rfl
@[simp] theorem State.modMat_ctxWork : (State.modMat n f s).ctxWork m = s.ctxWork m := rfl
@[simp] theorem State.modMat_pslot : (State.modMat n f s).pslot m = s.pslot m := rfl
@[simp] theorem State.modMat_queue : (State.modMat n f s).queue m = s.queue m := rfl
@[simp] theorem State.modMat_barrier : (State.modMat n f s).barrier m = s.barrier m := rfl
@[simp] theorem State.modMat_link : (State.modMat n f s).link m = s.link m := rfl
@[simp] theorem State.modMat_stream : (State.modMat n f s).stream m = s.stream m := rfl
@[simp] theorem State.modMat_sem : (State.modMat n f s).sem m = s.sem m := rfl
end

section
variable (f : AsyState → AsyState)
@[simp] theorem State.modAsy_agenda : (State.modAsy n f s).agenda = s.agenda := rfl
@[simp] theorem State.modAsy_phase : (State.modAsy n f s).phase = s.phase := rfl
@[simp] theorem State.modAsy_wraps : (State.modAsy n f s).wraps = s.wraps := rfl
@[simp] theorem State.modAsy_free : (State.modAsy n f s).free = s.free := rfl
@[simp] theorem State.modAsy_cur : (State.modAsy n f s).cur = s.cur := rfl
@[simp] theorem State.modAsy_stuck : (State.modAsy n f s).stuck = s.stuck := rfl
@[simp] theorem State.modAsy_stamp : (State.modAsy n f s).stamp = s.stamp := rfl
@[simp] theorem State.modAsy_cores : (State.modAsy n f s).cores = s.cores := rfl
@[simp] theorem State.modAsy_dies : (State.modAsy n f s).dies = s.dies := rfl
@[simp] theorem State.modAsy_winches : (State.modAsy n f s).winches = s.winches := rfl
@[simp] theorem State.modAsy_mem : (State.modAsy n f s).mem = s.mem := rfl
@[simp] theorem State.modAsy_hub : (State.modAsy n f s).hub = s.hub := rfl
@[simp] theorem State.modAsy_core : (State.modAsy n f s).core m = s.core m := rfl
@[simp] theorem State.modAsy_die : (State.modAsy n f s).die m = s.die m := rfl
@[simp] theorem State.modAsy_winch : (State.modAsy n f s).winch m = s.winch m := rfl
@[simp] theorem State.modAsy_ctx : (State.modAsy n f s).ctx m = s.ctx m := rfl
@[simp] theorem State.modAsy_ctxWork : (State.modAsy n f s).ctxWork m = s.ctxWork m := rfl
@[simp] theorem State.modAsy_pslot : (State.modAsy n f s).pslot m = s.pslot m := rfl
@[simp] theorem State.modAsy_queue : (State.modAsy n f s).queue m = s.queue m := rfl
@[simp] theorem State.modAsy_barrier : (State.modAsy n f s).barrier m = s.barrier m := rfl
@[simp] theorem State.modAsy_link : (State.modAsy n f s).link m = s.link m := rfl
@[simp] theorem State.modAsy_stream : (State.modAsy n f s).stream m = s.stream m := rfl
@[simp] theorem State.modAsy_sem : (State.modAsy n f s).sem m = s.sem m := rfl
end

section
variable (e : Engine) (f : Counter → Counter)
@[simp] theorem State.modCounter_agenda : (State.modCounter n e f s).agenda = s.agenda := rfl
@[simp] theorem State.modCounter_phase : (State.modCounter n e f s).phase = s.phase := rfl
@[simp] theorem State.modCounter_wraps : (State.modCounter n e f s).wraps = s.wraps := rfl
@[simp] theorem State.modCounter_free : (State.modCounter n e f s).free = s.free := rfl
@[simp] theorem State.modCounter_cur : (State.modCounter n e f s).cur = s.cur := rfl
@[simp] theorem State.modCounter_stuck : (State.modCounter n e f s).stuck = s.stuck := rfl
@[simp] theorem State.modCounter_stamp : (State.modCounter n e f s).stamp = s.stamp := rfl
@[simp] theorem State.modCounter_cores : (State.modCounter n e f s).cores = s.cores := rfl
@[simp] theorem State.modCounter_dies : (State.modCounter n e f s).dies = s.dies := rfl
@[simp] theorem State.modCounter_winches : (State.modCounter n e f s).winches = s.winches := rfl
@[simp] theorem State.modCounter_mem : (State.modCounter n e f s).mem = s.mem := rfl
@[simp] theorem State.modCounter_hub : (State.modCounter n e f s).hub = s.hub := rfl
@[simp] theorem State.modCounter_core : (State.modCounter n e f s).core m = s.core m := rfl
@[simp] theorem State.modCounter_die : (State.modCounter n e f s).die m = s.die m := rfl
@[simp] theorem State.modCounter_winch : (State.modCounter n e f s).winch m = s.winch m := rfl
@[simp] theorem State.modCounter_ctx : (State.modCounter n e f s).ctx m = s.ctx m := rfl
@[simp] theorem State.modCounter_ctxWork : (State.modCounter n e f s).ctxWork m = s.ctxWork m := rfl
@[simp] theorem State.modCounter_pslot : (State.modCounter n e f s).pslot m = s.pslot m := rfl
@[simp] theorem State.modCounter_queue : (State.modCounter n e f s).queue m = s.queue m := rfl
@[simp] theorem State.modCounter_barrier : (State.modCounter n e f s).barrier m = s.barrier m := rfl
@[simp] theorem State.modCounter_link : (State.modCounter n e f s).link m = s.link m := rfl
@[simp] theorem State.modCounter_stream : (State.modCounter n e f s).stream m = s.stream m := rfl
@[simp] theorem State.modCounter_sem : (State.modCounter n e f s).sem m = s.sem m := rfl
end

/-! ### Reading a unit after its own update -/

theorem State.slot_modSlot (f : Slot → Slot) : (State.modSlot n f s).slot m = if m = n then f (s.slot n) else s.slot m :=
  Tab.get_put _ _ _ _ _
@[simp] theorem State.slot_modSlot_same (f : Slot → Slot) : (State.modSlot n f s).slot n = f (s.slot n) := Tab.get_put_same _ _ _ _
theorem State.slot_modSlot_other (f : Slot → Slot) (h : m ≠ n) : (State.modSlot n f s).slot m = s.slot m := Tab.get_put_other _ _ _ h
theorem State.core_modCore (f : CoreState → CoreState) : (State.modCore n f s).core m = if m = n then f (s.core n) else s.core m :=
  Tab.get_put _ _ _ _ _
@[simp] theorem State.core_modCore_same (f : CoreState → CoreState) : (State.modCore n f s).core n = f (s.core n) := Tab.get_put_same _ _ _ _
theorem State.core_modCore_other (f : CoreState → CoreState) (h : m ≠ n) : (State.modCore n f s).core m = s.core m := Tab.get_put_other _ _ _ h
theorem State.die_modDie (f : DieState → DieState) : (State.modDie n f s).die m = if m = n then f (s.die n) else s.die m :=
  Tab.get_put _ _ _ _ _
@[simp] theorem State.die_modDie_same (f : DieState → DieState) : (State.modDie n f s).die n = f (s.die n) := Tab.get_put_same _ _ _ _
theorem State.die_modDie_other (f : DieState → DieState) (h : m ≠ n) : (State.modDie n f s).die m = s.die m := Tab.get_put_other _ _ _ h
theorem State.winch_modWinch (f : Winch → Winch) : (State.modWinch n f s).winch m = if m = n then f (s.winch n) else s.winch m :=
  Tab.get_put _ _ _ _ _
@[simp] theorem State.winch_modWinch_same (f : Winch → Winch) : (State.modWinch n f s).winch n = f (s.winch n) := Tab.get_put_same _ _ _ _
theorem State.winch_modWinch_other (f : Winch → Winch) (h : m ≠ n) : (State.modWinch n f s).winch m = s.winch m := Tab.get_put_other _ _ _ h
theorem State.ctx_modCtx (f : Ctx → Ctx) : (State.modCtx n f s).ctx m = if m = n then f (s.ctx n) else s.ctx m :=
  Tab.get_put _ _ _ _ _
@[simp] theorem State.ctx_modCtx_same (f : Ctx → Ctx) : (State.modCtx n f s).ctx n = f (s.ctx n) := Tab.get_put_same _ _ _ _
theorem State.ctx_modCtx_other (f : Ctx → Ctx) (h : m ≠ n) : (State.modCtx n f s).ctx m = s.ctx m := Tab.get_put_other _ _ _ h
theorem State.ctxWork_modCtxWork (f : CtxWork → CtxWork) : (State.modCtxWork n f s).ctxWork m = if m = n then f (s.ctxWork n) else s.ctxWork m :=
  Tab.get_put _ _ _ _ _
@[simp] theorem State.ctxWork_modCtxWork_same (f : CtxWork → CtxWork) : (State.modCtxWork n f s).ctxWork n = f (s.ctxWork n) := Tab.get_put_same _ _ _ _
theorem State.ctxWork_modCtxWork_other (f : CtxWork → CtxWork) (h : m ≠ n) : (State.modCtxWork n f s).ctxWork m = s.ctxWork m := Tab.get_put_other _ _ _ h
theorem State.pslot_modPslot (f : PSlot → PSlot) : (State.modPslot n f s).pslot m = if m = n then f (s.pslot n) else s.pslot m :=
  Tab.get_put _ _ _ _ _
@[simp] theorem State.pslot_modPslot_same (f : PSlot → PSlot) : (State.modPslot n f s).pslot n = f (s.pslot n) := Tab.get_put_same _ _ _ _
theorem State.pslot_modPslot_other (f : PSlot → PSlot) (h : m ≠ n) : (State.modPslot n f s).pslot m = s.pslot m := Tab.get_put_other _ _ _ h
theorem State.queue_modQueue (f : WorkQueue → WorkQueue) : (State.modQueue n f s).queue m = if m = n then f (s.queue n) else s.queue m :=
  Tab.get_put _ _ _ _ _
@[simp] theorem State.queue_modQueue_same (f : WorkQueue → WorkQueue) : (State.modQueue n f s).queue n = f (s.queue n) := Tab.get_put_same _ _ _ _
theorem State.queue_modQueue_other (f : WorkQueue → WorkQueue) (h : m ≠ n) : (State.modQueue n f s).queue m = s.queue m := Tab.get_put_other _ _ _ h
theorem State.barrier_modBarrier (f : Barrier → Barrier) : (State.modBarrier n f s).barrier m = if m = n then f (s.barrier n) else s.barrier m :=
  Tab.get_put _ _ _ _ _
@[simp] theorem State.barrier_modBarrier_same (f : Barrier → Barrier) : (State.modBarrier n f s).barrier n = f (s.barrier n) := Tab.get_put_same _ _ _ _
theorem State.barrier_modBarrier_other (f : Barrier → Barrier) (h : m ≠ n) : (State.modBarrier n f s).barrier m = s.barrier m := Tab.get_put_other _ _ _ h
theorem State.link_modLink (f : Link → Link) : (State.modLink n f s).link m = if m = n then f (s.link n) else s.link m :=
  Tab.get_put _ _ _ _ _
@[simp] theorem State.link_modLink_same (f : Link → Link) : (State.modLink n f s).link n = f (s.link n) := Tab.get_put_same _ _ _ _
theorem State.link_modLink_other (f : Link → Link) (h : m ≠ n) : (State.modLink n f s).link m = s.link m := Tab.get_put_other _ _ _ h
theorem State.stream_modStream (f : Stream → Stream) : (State.modStream n f s).stream m = if m = n then f (s.stream n) else s.stream m :=
  Tab.get_put _ _ _ _ _
@[simp] theorem State.stream_modStream_same (f : Stream → Stream) : (State.modStream n f s).stream n = f (s.stream n) := Tab.get_put_same _ _ _ _
theorem State.stream_modStream_other (f : Stream → Stream) (h : m ≠ n) : (State.modStream n f s).stream m = s.stream m := Tab.get_put_other _ _ _ h
theorem State.sem_modSem (f : Sem → Sem) : (State.modSem n f s).sem m = if m = n then f (s.sem n) else s.sem m :=
  Tab.get_put _ _ _ _ _
@[simp] theorem State.sem_modSem_same (f : Sem → Sem) : (State.modSem n f s).sem n = f (s.sem n) := Tab.get_put_same _ _ _ _
theorem State.sem_modSem_other (f : Sem → Sem) (h : m ≠ n) : (State.modSem n f s).sem m = s.sem m := Tab.get_put_other _ _ _ h

/-! ### Parts of a slot -/

@[simp] theorem State.slot_modRegs_same (f : Regs → Regs) :
    (State.modRegs n f s).slot n = { s.slot n with regs := f (s.slot n).regs } := State.slot_modSlot_same _ _ _
theorem State.slot_modRegs_other (f : Regs → Regs) (h : m ≠ n) : (State.modRegs n f s).slot m = s.slot m := State.slot_modSlot_other _ _ _ _ h
@[simp] theorem State.slot_modSeq_same (f : SeqState → SeqState) :
    (State.modSeq n f s).slot n = { s.slot n with seq := f (s.slot n).seq } := State.slot_modSlot_same _ _ _
theorem State.slot_modSeq_other (f : SeqState → SeqState) (h : m ≠ n) : (State.modSeq n f s).slot m = s.slot m := State.slot_modSlot_other _ _ _ _ h
@[simp] theorem State.slot_modVec_same (f : VecState → VecState) :
    (State.modVec n f s).slot n = { s.slot n with vec := f (s.slot n).vec } := State.slot_modSlot_same _ _ _
theorem State.slot_modVec_other (f : VecState → VecState) (h : m ≠ n) : (State.modVec n f s).slot m = s.slot m := State.slot_modSlot_other _ _ _ _ h
@[simp] theorem State.slot_modMat_same (f : MatState → MatState) :
    (State.modMat n f s).slot n = { s.slot n with mat := f (s.slot n).mat } := State.slot_modSlot_same _ _ _
theorem State.slot_modMat_other (f : MatState → MatState) (h : m ≠ n) : (State.modMat n f s).slot m = s.slot m := State.slot_modSlot_other _ _ _ _ h
@[simp] theorem State.slot_modAsy_same (f : AsyState → AsyState) :
    (State.modAsy n f s).slot n = { s.slot n with asy := f (s.slot n).asy } := State.slot_modSlot_same _ _ _
theorem State.slot_modAsy_other (f : AsyState → AsyState) (h : m ≠ n) : (State.modAsy n f s).slot m = s.slot m := State.slot_modSlot_other _ _ _ _ h
@[simp] theorem State.slot_modCounter_same (e : Engine) (f : Counter → Counter) :
    (State.modCounter n e f s).slot n = (s.slot n).setCounter e (f ((s.slot n).counter e)) := State.slot_modSlot_same _ _ _
theorem State.slot_modCounter_other (e : Engine) (f : Counter → Counter) (h : m ≠ n) :
    (State.modCounter n e f s).slot m = s.slot m := State.slot_modSlot_other _ _ _ _ h

variable (sl : Slot) (c : Counter)

@[simp] theorem Slot.counter_setCounter_same (e : Engine) : (sl.setCounter e c).counter e = c := by cases e <;> rfl
theorem Slot.counter_setCounter_other {e d : Engine} (h : d ≠ e) : (sl.setCounter e c).counter d = sl.counter d := by
  cases e <;> cases d <;> first | rfl | exact absurd rfl h
@[simp] theorem Slot.setCounter_busy (e : Engine) : (sl.setCounter e c).busy = sl.busy := by cases e <;> rfl
@[simp] theorem Slot.setCounter_act (e : Engine) : (sl.setCounter e c).act = sl.act := by cases e <;> rfl
@[simp] theorem Slot.setCounter_stop (e : Engine) : (sl.setCounter e c).stop = sl.stop := by cases e <;> rfl
@[simp] theorem Slot.setCounter_regs (e : Engine) : (sl.setCounter e c).regs = sl.regs := by cases e <;> rfl
@[simp] theorem Slot.setCounter_signals (e : Engine) : (sl.setCounter e c).signals = sl.signals := by cases e <;> rfl
@[simp] theorem Slot.setCounter_strays (e : Engine) : (sl.setCounter e c).strays = sl.strays := by cases e <;> rfl
@[simp] theorem Slot.setCounter_lastCtx (e : Engine) : (sl.setCounter e c).lastCtx = sl.lastCtx := by cases e <;> rfl
@[simp] theorem Slot.setCounter_remote (e : Engine) : (sl.setCounter e c).remote = sl.remote := by cases e <;> rfl
@[simp] theorem Slot.setCounter_seen (e : Engine) : (sl.setCounter e c).seen = sl.seen := by cases e <;> rfl
@[simp] theorem Slot.setCounter_started (e : Engine) : (sl.setCounter e c).started = sl.started := by cases e <;> rfl
@[simp] theorem Slot.setCounter_halt (e : Engine) : (sl.setCounter e c).halt = sl.halt := by cases e <;> rfl
@[simp] theorem Slot.setCounter_mailbox (e : Engine) : (sl.setCounter e c).mailbox = sl.mailbox := by cases e <;> rfl
@[simp] theorem Slot.setCounter_phase (e : Engine) : (sl.setCounter e c).phase = sl.phase := by cases e <;> rfl
@[simp] theorem Slot.setCounter_comm (e : Engine) : (sl.setCounter e c).comm = sl.comm := by cases e <;> rfl
@[simp] theorem Slot.setCounter_basePrio (e : Engine) : (sl.setCounter e c).basePrio = sl.basePrio := by cases e <;> rfl
@[simp] theorem Slot.setCounter_waits (e : Engine) : (sl.setCounter e c).waits = sl.waits := by cases e <;> rfl
@[simp] theorem Slot.setCounter_urgent (e : Engine) : (sl.setCounter e c).urgent = sl.urgent := by cases e <;> rfl
@[simp] theorem Slot.setCounter_lostAt (e : Engine) : (sl.setCounter e c).lostAt = sl.lostAt := by cases e <;> rfl
@[simp] theorem Slot.setCounter_grant (e : Engine) : (sl.setCounter e c).grant = sl.grant := by cases e <;> rfl
@[simp] theorem Slot.setCounter_extra (e : Engine) : (sl.setCounter e c).extra = sl.extra := by cases e <;> rfl
@[simp] theorem Slot.setCounter_withdraw (e : Engine) : (sl.setCounter e c).withdraw = sl.withdraw := by cases e <;> rfl
@[simp] theorem Slot.setCounter_demand (e : Engine) : (sl.setCounter e c).demand = sl.demand := by cases e <;> rfl

/-! ### Registers of a slot -/

variable (r : Regs)

@[simp] theorem Regs.getG_zero : r.getG 0 = 0 := rfl
@[simp] theorem Regs.setG_zero (v : Reg) : r.setG 0 v = r := rfl

/-- A write of a g register is read back, and leaves every other one; g0 reads zero whatever is written. -/
theorem Regs.getG_setG (v : Reg) : (r.setG n v).getG m = if m = n ∧ m ≠ 0 then v else r.getG m := by
  unfold Regs.getG Regs.setG
  by_cases hn : n = 0
  · by_cases hm : m = 0 <;> simp [hn, hm]
  · by_cases hm : m = 0
    · simp [hm]
    · simp [hn, hm, Tab.get_put]

@[simp] theorem Regs.getG_setG_same (v : Reg) (h : n ≠ 0) : (r.setG n v).getG n = v := by simp [Regs.getG_setG, h]
theorem Regs.getG_setG_other (v : Reg) (h : m ≠ n) : (r.setG n v).getG m = r.getG m := by simp [Regs.getG_setG, h]
@[simp] theorem Regs.getB_setB_same (v : Reg) : (r.setB n v).getB n = v := Tab.get_put_same _ _ _ _
theorem Regs.getB_setB_other (v : Reg) (h : m ≠ n) : (r.setB n v).getB m = r.getB m := Tab.get_put_other _ _ _ h
@[simp] theorem Regs.getC_setC_same (v : Bool) : (r.setC n v).getC n = v := Tab.get_put_same _ _ _ _
theorem Regs.getC_setC_other (v : Bool) (h : m ≠ n) : (r.setC n v).getC m = r.getC m := Tab.get_put_other _ _ _ h
@[simp] theorem Regs.getK_setK_same (v : Token) : (r.setK n v).getK n = v := Tab.get_put_same _ _ _ _
theorem Regs.getK_setK_other (v : Token) (h : m ≠ n) : (r.setK n v).getK m = r.getK m := Tab.get_put_other _ _ _ h
@[simp] theorem Regs.getV_setV_same (v : Tile) : (r.setV n v).getV n = v := Tab.get_put_same _ _ _ _
theorem Regs.getV_setV_other (v : Tile) (h : m ≠ n) : (r.setV n v).getV m = r.getV m := Tab.get_put_other _ _ _ h
@[simp] theorem Regs.setG_b (v : Reg) : (r.setG n v).b = r.b := by unfold Regs.setG; split <;> rfl
@[simp] theorem Regs.setG_c (v : Reg) : (r.setG n v).c = r.c := by unfold Regs.setG; split <;> rfl
@[simp] theorem Regs.setG_v (v : Reg) : (r.setG n v).v = r.v := by unfold Regs.setG; split <;> rfl
@[simp] theorem Regs.setG_acc (v : Reg) : (r.setG n v).acc = r.acc := by unfold Regs.setG; split <;> rfl
@[simp] theorem Regs.setG_k (v : Reg) : (r.setG n v).k = r.k := by unfold Regs.setG; split <;> rfl
@[simp] theorem Regs.setG_shapes (v : Reg) : (r.setG n v).shapes = r.shapes := by unfold Regs.setG; split <;> rfl
@[simp] theorem Regs.setG_masks (v : Reg) : (r.setG n v).masks = r.masks := by unfold Regs.setG; split <;> rfl
@[simp] theorem Regs.setB_g (v : Reg) : (r.setB n v).g = r.g := rfl
@[simp] theorem Regs.setB_c (v : Reg) : (r.setB n v).c = r.c := rfl
@[simp] theorem Regs.setB_v (v : Reg) : (r.setB n v).v = r.v := rfl
@[simp] theorem Regs.setB_acc (v : Reg) : (r.setB n v).acc = r.acc := rfl
@[simp] theorem Regs.setB_k (v : Reg) : (r.setB n v).k = r.k := rfl
@[simp] theorem Regs.setB_shapes (v : Reg) : (r.setB n v).shapes = r.shapes := rfl
@[simp] theorem Regs.setB_masks (v : Reg) : (r.setB n v).masks = r.masks := rfl
@[simp] theorem Regs.setC_g (v : Bool) : (r.setC n v).g = r.g := rfl
@[simp] theorem Regs.setC_b (v : Bool) : (r.setC n v).b = r.b := rfl
@[simp] theorem Regs.setC_v (v : Bool) : (r.setC n v).v = r.v := rfl
@[simp] theorem Regs.setC_acc (v : Bool) : (r.setC n v).acc = r.acc := rfl
@[simp] theorem Regs.setC_k (v : Bool) : (r.setC n v).k = r.k := rfl
@[simp] theorem Regs.setC_shapes (v : Bool) : (r.setC n v).shapes = r.shapes := rfl
@[simp] theorem Regs.setC_masks (v : Bool) : (r.setC n v).masks = r.masks := rfl
@[simp] theorem Regs.setK_g (v : Token) : (r.setK n v).g = r.g := rfl
@[simp] theorem Regs.setK_b (v : Token) : (r.setK n v).b = r.b := rfl
@[simp] theorem Regs.setK_c (v : Token) : (r.setK n v).c = r.c := rfl
@[simp] theorem Regs.setK_v (v : Token) : (r.setK n v).v = r.v := rfl
@[simp] theorem Regs.setK_acc (v : Token) : (r.setK n v).acc = r.acc := rfl
@[simp] theorem Regs.setK_shapes (v : Token) : (r.setK n v).shapes = r.shapes := rfl
@[simp] theorem Regs.setK_masks (v : Token) : (r.setK n v).masks = r.masks := rfl
@[simp] theorem Regs.setV_g (v : Tile) : (r.setV n v).g = r.g := rfl
@[simp] theorem Regs.setV_b (v : Tile) : (r.setV n v).b = r.b := rfl
@[simp] theorem Regs.setV_c (v : Tile) : (r.setV n v).c = r.c := rfl
@[simp] theorem Regs.setV_acc (v : Tile) : (r.setV n v).acc = r.acc := rfl
@[simp] theorem Regs.setV_k (v : Tile) : (r.setV n v).k = r.k := rfl
@[simp] theorem Regs.setV_shapes (v : Tile) : (r.setV n v).shapes = r.shapes := rfl
@[simp] theorem Regs.setV_masks (v : Tile) : (r.setV n v).masks = r.masks := rfl

end Sys2Proof.Machine
end

