-- ==== Sys2Proof/Laws/Words.lean ====
section
/-!
SUPPORT. Sys2Proof/Laws/Words.lean: what the shared operations of words do: a trace entry, leaving a position, the answer of a word,
and the conditions of issue.
-/

namespace Sys2Proof.Machine

/-! ### Trace entries -/

/-- Two states that differ in nothing but the trace buffer of a core and the agenda, which has grown at its front. -/
structure State.Traced (core : Nat) (s t : State) : Prop where
  package : t.free = s.free ∧ t.cur = s.cur ∧ t.stuck = s.stuck ∧ t.stamp = s.stamp ∧ t.dies = s.dies ∧ t.winches = s.winches
    ∧ t.mem = s.mem ∧ t.hub = s.hub ∧ t.phase = s.phase ∧ t.wraps = s.wraps
  slots : t.slots = s.slots
  agenda : ∃ ms, t.agenda = ms ++ s.agenda
  cores : ∀ n, n ≠ core → t.core n = s.core n
  own : t.core core = { s.core core with trace := (t.core core).trace }

theorem State.Traced.refl (core : Nat) (s : State) : State.Traced core s s :=
  ⟨⟨rfl, rfl, rfl, rfl, rfl, rfl, rfl, rfl, rfl, rfl⟩, rfl, ⟨[], rfl⟩, fun _ _ => rfl, rfl⟩

theorem State.Traced.trans {core : Nat} {s t u : State} (h : State.Traced core s t) (k : State.Traced core t u) :
    State.Traced core s u := by
  obtain ⟨⟨a1, a2, a3, a4, a5, a6, a7, a8, p1, p2⟩, a9, ⟨ms, a10⟩, a11, a12⟩ := h
  obtain ⟨⟨b1, b2, b3, b4, b5, b6, b7, b8, q1, q2⟩, b9, ⟨ns, b10⟩, b11, b12⟩ := k
  refine ⟨⟨b1.trans a1, b2.trans a2, b3.trans a3, b4.trans a4, b5.trans a5, b6.trans a6, b7.trans a7, b8.trans a8, q1.trans p1, q2.trans p2⟩, b9.trans a9,
    ⟨ns ++ ms, by simp [b10, a10]⟩, fun n hn => (b11 n hn).trans (a11 n hn), ?_⟩
  rw [b12, a12]

theorem State.traced_push (s : State) (core : Nat) (m : Move) : State.Traced core s { s with agenda := m :: s.agenda } :=
  ⟨⟨rfl, rfl, rfl, rfl, rfl, rfl, rfl, rfl, rfl, rfl⟩, rfl, ⟨[m], rfl⟩, fun _ _ => rfl, rfl⟩

theorem State.traced_modCore (s : State) (core : Nat) (tr : Trace) :
    State.Traced core s (s.modCore core fun c => { c with trace := tr }) :=
  ⟨⟨rfl, rfl, rfl, rfl, rfl, rfl, rfl, rfl, rfl, rfl⟩, rfl, ⟨[], rfl⟩, fun _ hn => State.core_modCore_other _ _ _ _ hn,
    by rw [State.core_modCore_same]⟩

theorem State.traced_traceItem (s : State) (core : Nat) (i : TraceItem) : State.Traced core s (s.traceItem core i) :=
  s.traced_modCore core _

theorem State.traced_traceHit (s : State) (slot : Nat) (e : Engine) (kind : Nat) :
    State.Traced (coreOf slot) s (s.traceHit slot e kind) := s.traced_traceItem (coreOf slot) _

/-- A trace entry changes the trace buffer of the slot's core. -/
theorem State.traced_traceEntry (s : State) (slot : Nat) (e : Engine) (mode modes ty widx data : Nat) (second : Option (BitVec 64)) :
    State.Traced (coreOf slot) s (s.traceEntry slot e mode modes ty widx data second) := by
  simp only [State.traceEntry]
  split
  · exact .refl _ _
  · exact s.traced_traceItem (coreOf slot) _

theorem State.traced_traceAt (s : State) (slot : Nat) (e : Engine) (modes ty data : Nat) (second : Option (BitVec 64)) :
    State.Traced (coreOf slot) s (s.traceAt slot e modes ty data second) := State.traced_traceEntry ..

/-! ### Counters -/

@[simp] theorem Slot.counter_setCounter (sl : Slot) (e : Engine) (c : Counter) : (sl.setCounter e c).counter e = c := by
  cases e <;> rfl

@[simp] theorem Slot.setCounter_setCounter (sl : Slot) (e : Engine) (c c' : Counter) :
    (sl.setCounter e c).setCounter e c' = sl.setCounter e c' := by
  cases e <;> rfl

theorem Slot.setCounter_with_regs (sl : Slot) (e : Engine) (c : Counter) (r : Regs) :
    { sl.setCounter e c with regs := r } = ({ sl with regs := r } : Slot).setCounter e c := by
  cases e <;> rfl

@[simp] theorem Slot.counter_with_regs (sl : Slot) (e : Engine) (r : Regs) : ({ sl with regs := r } : Slot).counter e = sl.counter e := by
  cases e <;> rfl

/-- The shape effects that wait at a position change the shape registers alone. -/
theorem Regs.foldl_shapes (ds : List (Nat × Deferred)) (r : Regs) :
    (ds.foldl (fun r d => match d.2 with | .shape k x => { r with shapes := r.shapes.put k x } | .ctl _ _ => r) r)
      = { r with shapes := (ds.foldl (fun r d => match d.2 with | .shape k x => { r with shapes := r.shapes.put k x } | .ctl _ _ => r)
          r).shapes } := by
  induction ds generalizing r with
  | nil => rfl
  | cons d t ih =>
    obtain ⟨p, x | x⟩ := d
    · simp only [List.foldl_cons]; rw [ih]
    · simp only [List.foldl_cons]; rw [ih]

/-- The effects of a position change an engine's deferred effects, copies and view, and the slot's shape registers. -/
theorem Slot.takeDeferred_eq (sl : Slot) (e : Engine) (p : Nat) :
    sl.takeDeferred e p = { sl.setCounter e ((sl.takeDeferred e p).counter e) with
      regs := { sl.regs with shapes := (sl.takeDeferred e p).regs.shapes } } := by
  simp only [Slot.takeDeferred, Slot.counter_with_regs, Slot.counter_setCounter]
  congr 1
  exact Regs.foldl_shapes _ _

theorem Slot.takeDeferred_counter (sl : Slot) (e : Engine) (p : Nat) :
    (sl.takeDeferred e p).counter e = { sl.counter e with
      deferred := ((sl.takeDeferred e p).counter e).deferred, copied := ((sl.takeDeferred e p).counter e).copied,
      view := ((sl.takeDeferred e p).counter e).view } := by
  simp only [Slot.takeDeferred, Slot.counter_with_regs, Slot.counter_setCounter]

/-- Where no effect waits at a position, the view and the shape registers stay. -/
theorem Slot.takeDeferred_still (sl : Slot) (e : Engine) (p : Nat) (h : ((sl.counter e).deferred.any fun d => d.1 == p) = false) :
    ((sl.takeDeferred e p).counter e).view = (sl.counter e).view ∧ (sl.takeDeferred e p).regs.shapes = sl.regs.shapes := by
  have h0 : (sl.counter e).deferred.filter (fun d => d.1 == p) = [] := by
    simpa [List.filter_eq_nil_iff] using h
  simp only [Slot.takeDeferred, Slot.counter_with_regs, Slot.counter_setCounter, h0, List.foldl_nil, and_self]

/-! ### A word that has issued -/

/-- Marking the issue of a word changes the counter's marks, and may trace. -/
theorem State.markIssued_eq (s : State) (slot : Nat) (e : Engine) :
    ∃ u, State.Traced (coreOf slot) s u
      ∧ s.markIssued slot e = u.modCounter slot e fun c => { c with issued := true, stallRun := 0 } := by
  simp only [State.markIssued]
  refine ⟨_, ?_, rfl⟩
  have h1 : State.Traced (coreOf slot) s (if ((s.slot slot).counter e).stallRun = 0 then s
      else s.traceAt slot e 2 7 (min (2 ^ 32 - 1) ((s.slot slot).counter e).stallRun) none) := by
    split
    · exact .refl _ _
    · exact State.traced_traceAt ..
  generalize (if ((s.slot slot).counter e).stallRun = 0 then s
      else s.traceAt slot e 2 7 (min (2 ^ 32 - 1) ((s.slot slot).counter e).stallRun) none) = u at h1
  refine h1.trans ?_
  split
  · exact State.traced_traceHit ..
  · exact .refl _ _

theorem State.Traced.slot_eq {core : Nat} {s t : State} (h : State.Traced core s t) (n : Nat) : t.slot n = s.slot n := by
  simp [State.slot, h.slots]

/-- The issue of a word whose counter stays at its position. -/
theorem State.moved_markIssued (s : State) (slot : Nat) (e : Engine) : State.Moved slot e id s (s.markIssued slot e) := by
  obtain ⟨u, hu, hm⟩ := s.markIssued_eq slot e
  have hs : (s.markIssued slot e).slot slot
      = (s.slot slot).setCounter e { (s.slot slot).counter e with issued := true, stallRun := 0 } := by
    rw [hm, State.slot_modCounter_same, hu.slot_eq]
  constructor
  · rw [hm]; exact hu.package
  · rw [hm]; exact hu.agenda
  · intro n hn
    rw [hm, State.slot_modCounter_other _ _ _ _ _ hn, hu.slot_eq]
  · intro n hn
    rw [hm]; exact hu.cores n hn
  · rw [hm]
    simp only [State.modCounter_core]
    rw [hu.own]
  · rw [hs]; cases e <;> rfl
  · rw [hs]; simp
  · intro _
    rw [hs, hm]
    simp only [State.modCounter_core, Slot.counter_setCounter, Slot.setCounter_regs, id]
    rw [hu.own]
    simp

/-- The issue of a word whose counter moves by `f` and then passes its position. -/
theorem State.moved_passed (s : State) (slot : Nat) (e : Engine) (f : Counter → Counter) (hf : ∀ c, (f c).deferred = c.deferred) :
    State.Moved slot e f s (((s.markIssued slot e).modCounter slot e f).passed slot e ((s.slot slot).counter e).pos) := by
  obtain ⟨u, hu, hm⟩ := s.markIssued_eq slot e
  rw [hm]
  generalize hc : ({ (s.slot slot).counter e with issued := true, stallRun := 0 } : Counter) = c
  generalize hv : State.modCounter slot e f (State.modCounter slot e (fun c => { c with issued := true, stallRun := 0 }) u) = v
  have hvs : v.slot slot = (s.slot slot).setCounter e (f c) := by
    rw [← hv, State.slot_modCounter_same, State.slot_modCounter_same, hu.slot_eq, ← hc]; simp
  have hvo (n : Nat) (hn : n ≠ slot) : v.slot n = s.slot n := by
    rw [← hv, State.slot_modCounter_other _ _ _ _ _ hn, State.slot_modCounter_other _ _ _ _ _ hn, hu.slot_eq]
  have hvc (n : Nat) : v.core n = u.core n := by rw [← hv]; rfl
  have hvp : v.free = s.free ∧ v.cur = s.cur ∧ v.stuck = s.stuck ∧ v.stamp = s.stamp ∧ v.dies = s.dies ∧ v.winches = s.winches
      ∧ v.mem = s.mem ∧ v.hub = s.hub ∧ v.phase = s.phase ∧ v.wraps = s.wraps := by rw [← hv]; exact hu.package
  have hva : ∃ ms, v.agenda = ms ++ s.agenda := by rw [← hv]; exact hu.agenda
  have hdef : (f c).deferred = ((s.slot slot).counter e).deferred := by rw [hf, ← hc]
  clear hv hm
  generalize hq : ((s.slot slot).counter e).pos = p
  generalize hsl : ((s.slot slot).setCounter e (f c)).takeDeferred e p = sl'
  have hcnt := Slot.takeDeferred_counter ((s.slot slot).setCounter e (f c)) e p
  have heq := Slot.takeDeferred_eq ((s.slot slot).setCounter e (f c)) e p
  have hst := Slot.takeDeferred_still ((s.slot slot).setCounter e (f c)) e p
  rw [hsl, Slot.counter_setCounter] at hcnt
  rw [hsl, Slot.setCounter_setCounter, Slot.setCounter_regs] at heq
  rw [hsl, Slot.counter_setCounter, Slot.setCounter_regs, hdef] at hst
  have hp : ∃ fl, (∀ n, n ≠ coreOf slot → (v.passed slot e p).core n = u.core n)
      ∧ (v.passed slot e p).core (coreOf slot) = { u.core (coreOf slot) with filter := fl }
      ∧ ((s.slot slot).awaits e = false → fl = (u.core (coreOf slot)).filter) := by
    simp only [State.passed, hvs, Slot.counter_setCounter, hdef]
    split
    · next h =>
      refine ⟨_, fun n hn => ?_, by rw [State.core_modCore_same, State.modSlot_core, hvc], fun ha => ?_⟩
      · rw [State.core_modCore_other _ _ _ _ hn, State.modSlot_core, hvc]
      · exfalso
        have := h.2
        rw [List.any_eq_true] at this
        obtain ⟨d, hd, hd'⟩ := this
        rw [Slot.awaits, List.any_eq_false, hq] at ha
        exact ha d hd (by rw [Bool.and_eq_true] at hd'; exact hd'.1)
    · exact ⟨_, fun n _ => by rw [State.modSlot_core, hvc], by rw [State.modSlot_core, hvc], fun _ => rfl⟩
  have hps : (v.passed slot e p).slot slot = sl' := by
    simp only [State.passed]
    split <;> simp [hvs, hsl]
  obtain ⟨fl, hf1, hf2, hf3⟩ := hp
  constructor
  · simp only [State.passed]
    split <;> exact hvp
  · simp only [State.passed]
    split <;> exact hva
  · intro n hn
    rw [← hvo n hn]
    simp only [State.passed]
    split <;> simp [State.slot_modSlot_other _ _ _ _ hn]
  · intro n hn
    rw [hf1 n hn, hu.cores n hn]
  · rw [hf2, hu.own]
  · rw [hps]; exact heq
  · rw [hps, hc]; exact hcnt
  · intro ha
    rw [hps, hc]
    rw [Slot.awaits, hq] at ha
    refine ⟨(hst ha).1, (hst ha).2, ?_⟩
    rw [hf2, hu.own]
    simp only
    rw [hf3 (by rw [Slot.awaits, hq]; exact ha), hu.own]

/-- Leaving a position keeps the effects that wait. -/
theorem Counter.leave_deferred (c : Counter) : c.leave.deferred = c.deferred := by
  have h1 (c : Counter) : c.fallThrough.deferred = c.deferred := by
    simp only [Counter.fallThrough]; split <;> (try split) <;> rfl
  simp only [Counter.leave]
  split
  · exact h1 _
  · exact h1 _
  · rfl
  · exact h1 _

/-- A word that is done has its effect, and its counter leaves. -/
theorem completes_done (e : Engine) (s s₁ : State) (hc : s₁.cur = s.cur) : Completes (.next (Act.run (.done s₁) e s)) e s₁ :=
  ⟨_, rfl, by
    rw [Act.run, State.leave, ← hc]
    have h := s₁.moved_passed s₁.cur e Counter.leave Counter.leave_deferred
    obtain ⟨u, hu, hm⟩ := s₁.markIssued_eq s₁.cur e
    have hp : (((s₁.markIssued s₁.cur e).slot s₁.cur).counter e).pos = ((s₁.slot s₁.cur).counter e).pos := by
      rw [hm, State.slot_modCounter_same, hu.slot_eq]; simp
    rw [hp]; exact h⟩

/-- A word whose counter moves by a rule of its own. -/
theorem completes_leaveBy (e : Engine) (s s₁ : State) (f : Counter → Counter) (hf : ∀ c, (f c).deferred = c.deferred)
    (hc : s₁.cur = s.cur) (hp : ((s₁.slot s₁.cur).counter e).pos = ((s.slot s.cur).counter e).pos) :
    CompletesBy (.next (Act.run (.leaveBy s₁ f) e s)) e f s₁ :=
  ⟨_, rfl, by
    rw [Act.run, ← hp, ← hc]
    exact s₁.moved_passed s₁.cur e f hf⟩

/-- A word that stays at its position. -/
theorem completes_stay (e : Engine) (s s₁ : State) (hc : s₁.cur = s.cur) : CompletesBy (.next (Act.run (.stay s₁) e s)) e id s₁ :=
  ⟨_, rfl, by rw [Act.run, ← hc]; exact s₁.moved_markIssued s₁.cur e⟩

/-- A trace entry with the effect of a word is no further change. -/
theorem State.Moved.of_traced {slot : Nat} {e : Engine} {f : Counter → Counter} {s u t : State}
    (h : State.Traced (coreOf slot) s u) (k : State.Moved slot e f u t) : State.Moved slot e f s t := by
  obtain ⟨a1, a2, a3, a4, a5, a6, a7, a8⟩ := k
  obtain ⟨b1, b2, ⟨ms, b3⟩, b4, b5⟩ := h
  have hs (n : Nat) : u.slot n = s.slot n := by simp [State.slot, b2]
  rw [hs] at a6 a7 a8
  refine ⟨?_, ?_, fun n hn => (a3 n hn).trans (hs n), fun n hn => (a4 n hn).trans (b4 n hn), ?_, a6, a7, ?_⟩
  · simpa [b1] using a1
  · obtain ⟨ns, a2⟩ := a2
    exact ⟨ns ++ ms, by simp [a2, b3]⟩
  · rw [a5, b5]
  · intro ha
    rw [b5] at a8
    exact a8 ha

/-- A word that is done, with trace entries. -/
theorem completes_traced (e : Engine) (s s₁ s₂ : State) (hc : s₁.cur = s.cur) (h : State.Traced (coreOf s₁.cur) s₁ s₂) :
    Completes (.next (Act.run (.done s₂) e s)) e s₁ := by
  obtain ⟨t, ht, hm⟩ := completes_done e s s₂ (h.package.2.1.trans hc)
  refine ⟨t, ht, ?_⟩
  rw [h.package.2.1] at hm
  exact hm.of_traced h

theorem State.traced_traceInput (s : State) (slot reg : Nat) (v : Reg) : State.Traced (coreOf slot) s (s.traceInput slot reg v) :=
  State.traced_traceAt ..

/-! ### Taking a trap -/

/-- A fatal trap of a slot that runs. -/
theorem trapped_raiseTrap (s : State) (slot : Nat) (e : Engine) (code status addr cursor : Nat) (named : Option Nat) (walk : Option WalkKey)
    (h : (s.slot slot).stop = none) :
    State.Trapped slot e { s.slotRecord slot e code status addr cursor named false with pending := true } walk s
      (s.raiseTrap slot e code status addr cursor named walk) := by
  simp only [State.raiseTrap, h, Option.isSome_none, Bool.false_eq_true, if_false]
  constructor
  · exact ⟨rfl, rfl, rfl, rfl, rfl, rfl, rfl, rfl, rfl, rfl, rfl⟩
  · intro n hn
    rw [State.slot_modSlot_other _ _ _ _ hn]; rfl
  · rw [State.slot_modSlot_same]; rfl
  · rfl
  · simp only [State.enterFault, State.bumpLife, State.modSlot_hub, State.modTraps, State.modHub, State.slotRecord,
      Tab.get_put_same, BitVec.toNat_ofNat]
    omega
  · intro n hn
    simp only [State.enterFault, State.bumpLife, State.modSlot_hub, State.modTraps, State.modHub]
    exact Tab.get_put_other _ _ _ hn

theorem raises_trapAt (s : State) (e : Engine) (code status addr : Nat) (h : (s.slot s.cur).stop = none) :
    Raises (.next (s.trapAt s.cur e code status addr)) s e code status addr := by
  refine ⟨_, rfl, ?_⟩
  have := trapped_raiseTrap s s.cur e code status addr naCursor none none h
  simp only [State.slotRecord, Option.getD_none, ite_self] at this
  exact this

/-! ### Words of the sequencer -/

/-- A well-formed word of the sequencer whose registers are ready answers what its body answers. -/
theorem sWord_ready {i : Instr} {srcs dsts : List RegRef} {body : State → Act} {s : State} (hw : i.wellFormed = true)
    (hr : s.sReady srcs dsts = true) : sWord i srcs dsts body s = Act.run (body s) .S s := by
  simp only [State.sReady, Bool.and_eq_true, Bool.not_eq_true'] at hr
  simp only [sWord, hw, hr.1.1, hr.1.2, hr.2, Bool.true_eq_false, Bool.false_eq_true, if_false]
  split
  · next h => rw [h]
  · rfl

/-- An ill-formed word raises ILLEGAL. -/
theorem sWord_illFormed {i : Instr} {srcs dsts : List RegRef} {body : State → Act} {s : State} (hw : i.wellFormed = false) :
    sWord i srcs dsts body s = s.trapAt s.cur .S fILLEGAL 0 0 := by
  simp only [sWord, hw, if_true]

/-- A word waits, and has no effect, while a register that it names has an interlocked result pending, or one that it writes an exposed
one. -/
theorem sWord_stalls {i : Instr} {srcs dsts : List RegRef} {body : State → Act} {s : State} (hw : i.wellFormed = true)
    (h : (srcs.any (s.slot s.cur).seq.locked || dsts.any fun r => (s.slot s.cur).seq.exposed r || (s.slot s.cur).seq.locked r) = true) :
    sWord i srcs dsts body s = s := by
  simp only [sWord, hw, Bool.true_eq_false, if_false]
  rw [Bool.or_eq_true] at h
  split
  · rfl
  · next h1 =>
    rcases h with h | h
    · exact absurd h h1
    · rw [if_pos h]; rfl

end Sys2Proof.Machine
end

