-- ==== Sys2Proof/Laws/Units.lean ====
section
/-!
SUPPORT. Sys2Proof/Laws/Units.lean: what the shared operations of the hub do: physical memory, the fault table and its rings, packets
received and sent, and the conditions of issue of words of the lagging engines.
-/

namespace Sys2Proof.Machine

/-! ### Physical memory -/

theorem State.paKind_hbm (s : State) {pa : Nat} (h : pa < s.hbmEnd) : s.paKind pa = .hbm := by simp only [State.paKind, h, if_true]

/-- A read of HBM gives the bytes of the memory and changes nothing. -/
theorem State.physRead_hbm (s : State) {pa : Nat} (n : Nat) (h : pa < s.hbmEnd) : s.physRead pa n = (s.mem.readN pa n, s) := by
  simp only [State.physRead, s.paKind_hbm h]

/-- A write of HBM changes the memory alone. -/
theorem State.physWrite_hbm (s : State) {pa : Nat} (bs : List Byte) (h : pa < s.hbmEnd) :
    s.physWrite pa bs = { s with mem := s.mem.writeN pa bs } := by simp only [State.physWrite, s.paKind_hbm h]

/-- What a write of HBM leaves at every address. -/
theorem State.read_physWrite (s : State) {pa : Nat} (bs : List Byte) (h : pa < s.hbmEnd) (a : Nat) :
    (s.physWrite pa bs).mem.read a = (s.mem.writeN pa bs).read a := by rw [State.physWrite_hbm s bs h]

/-! ### The first element that meets a test -/

theorem dropFirst_append {α : Type} (p : α → Bool) (l m : List α) (x : α) (hl : ∀ y ∈ l, p y = false) (hx : p x = true) :
    dropFirst p (l ++ x :: m) = l ++ m := by
  induction l with
  | nil => simp [dropFirst, hx]
  | cons h t ih =>
    have hh : p h = false := hl h (by simp)
    simp only [List.cons_append, dropFirst, hh, Bool.false_eq_true, if_false]
    rw [ih fun y hy => hl y (by simp [hy])]

theorem mapFirst_append {α : Type} (p : α → Bool) (f : α → α) (l m : List α) (x : α) (hl : ∀ y ∈ l, p y = false) (hx : p x = true) :
    mapFirst p f (l ++ x :: m) = l ++ f x :: m := by
  induction l with
  | nil => simp [mapFirst, hx]
  | cons h t ih =>
    have hh : p h = false := hl h (by simp)
    simp only [List.cons_append, mapFirst, hh, Bool.false_eq_true, if_false]
    rw [ih fun y hy => hl y (by simp [hy])]

/-! ### The fault table and the rings -/

/-- A record enters the fault table behind those that it holds. -/
theorem State.table_enterFault (s : State) (body : Record) (winch : Option (Nat × Nat)) (walk : Option WalkKey) :
    (s.enterFault body winch walk).2.hub.traps.table = s.hub.traps.table
      ++ [⟨s.hub.traps.nextId, { body with pending := body.pends walk.isSome }, none, winch, walk, false⟩] := rfl

/-- Entering a record changes the fault table and a lifetime counter, and nothing else. -/
theorem State.frame_enterFault (s : State) (body : Record) (winch : Option (Nat × Nat)) (walk : Option WalkKey) :
    let u := (s.enterFault body winch walk).2
    u = { s with hub := { s.hub with traps := u.hub.traps, life := u.hub.life } } ∧ u.hub.traps.trap = s.hub.traps.trap
    ∧ u.hub.traps.event = s.hub.traps.event ∧ u.hub.traps.walks = s.hub.traps.walks := ⟨rfl, rfl, rfl, rfl⟩

/-- An event that the ring does not admit is counted. -/
theorem State.writeEvent_lost (s : State) (body : Record) (h : s.hub.traps.event.admits = false) :
    s.writeEvent body = s.modTraps fun t => { t with event := { t.event with lost := satAdd32 t.event.lost 1 } } := by
  simp only [State.writeEvent, h, Bool.false_eq_true, if_false]

/-- An event that the ring admits is written to it. -/
theorem State.writeEvent_written (s : State) (body : Record) (h : s.hub.traps.event.admits = true) :
    s.writeEvent body = s.ringWrite false body false := by simp only [State.writeEvent, h, if_true]

/-- Nothing is written while no record waits or the trap ring admits none. -/
theorem State.writeFirst_idle (s : State) (h : (∀ f ∈ s.hub.traps.table, f.seq.isSome = true) ∨ s.hub.traps.trap.admits = false) :
    s.writeFirst = s := by
  unfold State.writeFirst
  split
  · rfl
  · next f hf =>
    rcases h with h | h
    · have h1 := List.find?_some hf
      have h2 := h f (List.mem_of_mem_take (List.mem_of_find?_eq_some hf))
      simp only [Option.isNone_iff_eq_none] at h1
      rw [h1] at h2
      exact absurd h2 (by simp)
    · rw [h]
      simp

/-- FRES of a SEQ under which no record is pending does nothing. -/
theorem State.resolveSeq_none (s : State) (seq : BitVec 16) (resume : Bool) (h : s.pendingRecord seq = none) :
    s.resolveSeq seq resume = s := by simp only [State.resolveSeq, h]

/-! ### Packets -/

/-- A packet at a port that carries nothing does nothing. -/
theorem State.receive_down (s : State) (p : Arrival) (kind : PacketKind) (un : State → State) (k : Nat → State → State)
    (h : s.linkUp (9 + p.port) = false) : s.receive p kind un k = s := by
  simp only [State.receive, h, or_true, if_true]

/-- A packet that passes every check is taken for its context. -/
theorem State.receive_taken (s : State) (p : Arrival) (kind : PacketKind) (un : State → State) (k : Nat → State → State) (c : Nat) (e : Peer)
    (h1 : p.port < 8) (h2 : s.linkUp (9 + p.port) = true) (h3 : p.encrypted = true → p.authentic = true) (h4 : p.bits 89 84 = 0)
    (h5 : p.kind = kind.code) (h6 : s.jobContext p.job = some c) (h7 : (s.peersOf c)[p.peer]? = some e)
    (h8 : e.enc = true → p.encrypted = true) (h9 : p.inc = (s.ctx c).inc.toNat) (h10 : (s.ctx c).phase ≠ .held) :
    s.receive p kind un k = k c s := by
  have hk : ¬ 6 ≤ p.kind := by rw [h5]; cases kind <;> simp [PacketKind.code]
  have hd : (p.inc + 64 - (s.ctx c).inc.toNat) % 64 = 0 := by rw [h9]; simp
  have ha : ¬ (p.encrypted = true ∧ p.authentic = false) := fun h => by simp [h3 h.1] at h
  have he : ¬ (e.enc = true ∧ p.encrypted = false) := fun h => by simp [h8 h.1] at h
  simp only [State.receive, h2, h4, h5 ▸ hk, h6, h7, hd, h10, ha, he, Nat.not_le.mpr h1, Bool.true_eq_false, or_self, if_false, ne_eq, h5,
    not_true_eq_false]
  simp

/-- Sending adds a packet to those not acknowledged, and does nothing else. Its SRCPEER is a free value (log 9). -/
theorem State.sent_send (s : State) (c peer cls stream : Nat) (kind : PacketKind) (arg cmd : Nat) (bs : List Byte) :
    (s.send c peer cls stream kind arg cmd bs).hub.sent = s.hub.sent ++
      [{ ctx := c, peer := peer, job := (s.ctx c).image.job, src := Config.freeNat s.free % 256, inc := (s.ctx c).inc, cls := cls, stream := stream, kind := kind, arg := arg, cmd := cmd, payload := bs,
         frames := 0 }] := rfl

/-! ### Words of the lagging engines -/

/-- A well-formed A word answers what its body answers for the copied values of its operands. -/
theorem aWord_ready {i : Instr} {ga gb : BitVec 6} {body : Reg → Reg → State → Act} {s : State} (hw : i.wellFormed = true) :
    aWord i ga gb body s = Act.run (body (s.copiedOf .A ga.toNat gb.toNat).1 (s.copiedOf .A ga.toNat gb.toNat).2 s) .A s := by
  simp only [aWord, hw, Bool.true_eq_false, if_false]

theorem aWord_illFormed {i : Instr} {ga gb : BitVec 6} {body : Reg → Reg → State → Act} {s : State} (hw : i.wellFormed = false) :
    aWord i ga gb body s = s.trapAt s.cur .A fILLEGAL 0 0 := by simp only [aWord, hw, if_true]

/-- A matrix word waits, and has no effect, while the elastic buffer is full. -/
theorem mWord_full {i : Instr} {reg : BitVec 2} {sw : BitVec 1} {stoff : BitVec 12} {op : MOp} {s : State} (hw : i.wellFormed = true)
    (h : s.bufferRoom = false) : mWord i reg sw stoff op s = s := by
  simp only [mWord, hw, h, Bool.true_eq_false, if_false, if_true]
  rfl

/-- A vector word waits, and has no effect, while the engine of its core is not free to it. -/
theorem vWord_busy {i : Instr} {shp : Option (Nat × Bool)} {ga gb : Nat} {mask : Bool} {plan : VEnv → VPlan} {s : State}
    (hw : i.wellFormed = true) (h : s.vFree = false) : vWord i shp ga gb mask plan s = s := by
  simp only [vWord, hw, h, Bool.true_eq_false, if_false, true_or, if_true]
  rfl

/-! ### Frames of the hub's events -/

/-- The frame boundary does nothing until a frame has passed. -/
theorem execFrameBoundary_early (s : State) (h : s.now / 2 ^ 14 ≤ s.hub.frame) : execFrameBoundary s = .next s := by
  simp only [execFrameBoundary, h, if_true]

end Sys2Proof.Machine
end

