-- ==== Sys2Proof/Tests/Slice0.lean ====
section
/-!
SUPPORT. Sys2Proof/Tests/Slice0.lean: ill-formed terms that WellFormed refuses, words written out from the encodings of the spec, and
for each statement a state and operands that meet its hypotheses.
-/

namespace Sys2Proof.Machine

/-! ### Fields outside their limits -/

/-- For each check of WellFormed a term that breaks it (03 R80, R81 and the chapter of the word). -/
def illFormed : List Instr :=
  [.bprepg 8 0 0, .lset 0 6 1 1, .lset 0 0 1 0, .lset 0 0 1 2048, .lstep 0 1 0, .lstep 1 6 0, .lonlyFirst 6 1, .lonlyLast 0 0,
   .lonlyStage 0 8 1, .rotset 33, .rgn 0 0 2048, .icinv 3 0 0, .icinv 0 0 2048, .shli 1 1 64, .shri 1 1 64, .sari 1 1 64, .lds 1 2 7 0,
   .sts 1 2 1 0, .gld 1 2 0 7, .gst 0 1 2 3, .gatom 1 2 3 0 10, .gatom 1 2 3 0 9, .mfc 1 0x16, .mtc 1 4, .mtc 1 0xF, .shpw 1 0 0 5,
   .shpw 1 1 0 10, .shpw 1 2 0 23, .shpr 1 3 0 0 0, .kwaitS 16 1, .kwaitS 2 0, .ksigS 2 2048, .kcfg 16 1, .mrecv 3, .mrecv 0,
   .fenceRel 0 0 0, .fenceAcq 0 0 0, .fenceAr 0 0 0, .fenceE 0, .trap 131072, .trapWarn 131072, .tlbinv 3 1 1, .govrd 1 2 28,
   .govwr 0 1 2, .wqpush 1 2, .wqpop 2 1, .wqpop 0 1, .cqpop 1, .cqpop 0, .grpid 1 3, .bandq 1 2, .phase 1 2 2, .incqry 1 2 3,
   .incqry 1 2 16, .vbcast 0 0 0 0 3, .viota 0 0 0 3, .kwaitV 16 1, .ksigV 1 0, .mpri 16, .kwaitM 1 0 0, .ksigM 1 0 0, .kwaitA 1 0 0,
   .ksigA 16 1 0, .wcopy 0 0 0 6, .woff 0 6, .wfill 0 0 6]

theorem test_illFormed : ∀ i ∈ illFormed, i.wellFormed = false := by decide

theorem test_wellFormed : (Instr.add 3 1 2).wellFormed = true ∧ (Instr.shli 1 1 63).wellFormed = true
    ∧ (Instr.incqry 22 0 20).wellFormed = true ∧ (Instr.mpri 15).wellFormed = true := by decide

/-! ### Words written out from the encodings -/

/-- Control (04). -/
theorem test_decode_control : decode 0x06054003 = some (.lset 0 1 20 3) ∧ decode 0x07541040 = some (.lstep 21 1 64) := by decide

/-- Sequencer arithmetic and comparison (05). -/
theorem test_decode_alu : decode 0x13500003 = some (.addi 20 0 3) ∧ decode 0x100C1080 = some (.add 3 1 2)
    ∧ decode 0x11454540 = some (.cmp 2 1 20 21) := by decide

/-- Memory, fences and traps of the sequencer (05, 10, 18). -/
theorem test_decode_memory : decode 0x1C594A00 = some (.lds 22 20 5 0) ∧ decode 0x2A006002 = some (.fenceRel 0 2 2)
    ∧ decode 0x2D094540 = some (.tlbinv 2 20 21) ∧ decode 0x33014001 = some (.trcmark 20) := by decide

/-- Precision, queues, groups, barriers and contexts (11 to 15). -/
theorem test_decode_system : decode 0x2E655581 = some (.govwr 25 21 22) ∧ decode 0x2F500781 = some (.wqpop 20 30)
    ∧ decode 0x30597042 = some (.phase 22 23 1) ∧ decode 0x31098643 = some (.waitc 2 24 25) ∧ decode 0x32580501 = some (.incqry 22 0 20) := by
  decide

/-- The vector engine (06). -/
theorem test_decode_vector : decode 0x590C1040 = some (.vneg 3 1 0 0) ∧ decode 0x5A1461F1 = some (.viadd 5 6 7 3 0 1)
    ∧ decode 0x510810C0 = some (.vqnt 1 2 1 3 0) ∧ decode 0x7BA14560 = some (.vrng 40 20 21 2 0) ∧ decode 0x6A201032 = some (.vcvtFlt 8 1 0 3 0 2) := by decide

/-- The matrix engine (07). -/
theorem test_decode_matrix : decode 0x8A400008 = some (.ksigM 2 1 0) ∧ decode 0x89200009 = some (.kwaitM 1 1 1)
    ∧ decode 0x86228000 = some (.mdrainv 1 0 0 5 0 0) := by decide

/-- Streams, winches and the communication queue (08, 12). -/
theorem test_decode_movers : decode 0xC0500040 = some (.sload 20 0 0 1) ∧ decode 0xCB540002 = some (.cqpush 21 2) ∧ decode 0xCA040001 = some (.ksigA 1 0 1)
    ∧ decode 0xD179F607 = some (.wlayout 30 31 1 1 7) := by decide

/-- Words that are no instruction: an unassigned major, and a reserved field. -/
theorem test_decode_none : decode 0x7F000000 = none ∧ decode 0x101430BF = none := by decide


/-! ### Hypotheses that can be met -/

/-- A slot that runs a text of one word and a NOP. -/
def demo (w : Nat) : State := { State.reset.placeWord w with agenda := [] }

set_option exponentiation.threshold 1024 in
theorem witness_StepRunsWord :
    let s : State := { demo 0x10143100 with agenda := [.engine 0 .S] }
    s.stuck = none ∧ s.agenda = .engine 0 .S :: [] ∧ ({ s with agenda := [] } : State).standsAt 0 .S 0x10143100 = true
    ∧ decode 0x10143100 = some (.add 5 3 4) ∧ (Instr.add 5 3 4).wellFormed = true := by decide

set_option exponentiation.threshold 1024 in
theorem witness_StepRunsWord_vector :
    let s : State := { demo 0x590C1040 with agenda := [.engine 0 .V] }
    s.agenda = .engine 0 .V :: [] ∧ ({ s with agenda := [] } : State).standsAt 0 .V 0x590C1040 = true
    ∧ (({ s with agenda := [] } : State).atWord 0 .V).rival 0 = none ∧ (decode 0x590C1040).any Instr.wellFormed = true := by decide

set_option exponentiation.threshold 1024 in
theorem witness_StepRunsWord_rejects :
    let s : State := { demo 0x3FFFFFFF with agenda := [.engine 0 .S] }
    s.stuck = none ∧ s.agenda = .engine 0 .S :: [] ∧ ({ s with agenda := [] } : State).standsAt 0 .S 0x3FFFFFFF = true
    ∧ ((decode 0x3FFFFFFF).all fun i => !i.wellFormed) = true ∧ (s.slot s.cur).stop = none := by decide

theorem witness_StepRunsEvent :
    let s : State := { State.reset with agenda := [.event 0 .mailboxAccept] }
    s.stuck = none ∧ s.agenda = .event 0 .mailboxAccept :: [] ∧ encode .mailboxAccept = none ∧ s.admits 0 .mailboxAccept = true
    ∧ s.admits 320 .mailboxAccept = false ∧ s.admits 0 .kill = false := by decide

theorem witness_RunningKept : (match step { State.reset with agenda := [.event 0 .mailboxAccept] } with
    | .next _ => true
    | _ => false) = true := by decide

/-- A demonstration slot that a word of its sequencer may change: the registers of the operands hold values. -/
def demoRegs : State := State.reset.modRegs 0 fun r => { r with g := [(1, 7), (2, 5), (20, 0x100)], c := [(1, true)] }

theorem witness_AluResults : (aluRule (.mulh 3 1 2)).isSome = true ∧ demoRegs.issues (.mulh 3 1 2) = true
    ∧ (aluRule (.clz 3 1)).isSome = true ∧ demoRegs.issues (.clz 3 1) = true := by decide

theorem witness_ImmediateResults : (immForm (.shli 3 1 63)).isSome = true ∧ (aluRule (.shl 3 1 0)).isSome = true
    ∧ demoRegs.issues (.shli 3 1 63) = true ∧ demoRegs.issues (.lui 3 5) = true
    ∧ (63 < (64#12).toInt ∧ (0xFFF#12).toInt < 0 ∧ (demoRegs.slot demoRegs.cur).stop = none) := by decide

theorem witness_Comparisons : demoRegs.issues (.cmp 2 1 1 2) = true ∧ demoRegs.issues (.cmpi 5 0 1 0xFFF) = true := by decide

theorem witness_PendingResults_waits :
    let s := demoRegs.modSeq 0 fun q => { q with locks := [.g 1] }
    let t := (demoRegs.modSeq 0 fun q => { q with pend := [⟨.g 1, 9, 5⟩] }).modCounter 0 .S fun c =>
      { c with view := { c.view with penddbg := true } }
    encode (.add 3 1 2) = some 0x100C1080 ∧ wordEngine 0x100C1080 = .S
    ∧ isControl 0x100C1080 = false ∧ (Instr.reads (.add 3 1 2)).any (s.slot 0).seq.locked = true
    ∧ (Instr.reads (.add 3 1 2)).any (t.slot 0).seq.locked = false
    ∧ ((Instr.writes (.add 3 1 2)).any fun r => (t.slot 0).seq.exposed r || (t.slot 0).seq.locked r) = false
    ∧ (t.slot 0).seq.pc.view.penddbg = true ∧ (Instr.reads (.add 3 1 2)).any (t.slot 0).seq.exposed = true := by decide

theorem witness_PendingResults :
    let s := demoRegs.modSeq 0 fun q => { q with pend := [⟨.g 1, 9, 0⟩, ⟨.c 1, 0, 5⟩] }
    (s.slot 0).seq.pend.filter (fun x => x.reg == .g 1) = [⟨.g 1, 9, 0⟩] ∧ (s.slot 0).seq.pend.filter (fun x => x.reg == .c 1) = [⟨.c 1, 0, 5⟩]
    ∧ (s.slot 0).seq.pend.filter (fun x => x.reg == .g 2) = [] := by decide

/-- The slot has a scratchpad range, a text position of 3 that every engine has reached, and a token of ceiling 4 and count 2. -/
def demoSlot : State :=
  let s := demoRegs.modSlot 0 fun sl => { sl with
    act := { sl.act with splimit := 0x18000 }, seq := { sl.seq with pc := { sl.seq.pc with pos := 3 } },
    vec := { sl.vec with pc := { sl.vec.pc with pos := 3 } }, mat := { sl.mat with pc := { sl.mat.pc with pos := 3 } },
    asy := { sl.asy with pc := { sl.asy.pc with pos := 3 } } }
  { s with stamp := 9 }.modRegs 0 fun r => { r with k := [(2, { Token.reset with ceiling := 4, count := 2 })], g := (3, 0x40002) :: r.g }

theorem witness_ScratchWords :
    scratchFields (.lds 22 20 5 0x1FF) = some (22, 20, 5, 0x1FF) ∧ demoSlot.issues (.lds 22 20 5 0x1FF) = true
    ∧ demoSlot.issues (.sts 20 20 6 1) = true ∧ scratchReserved (.sts 20 20 5 1) = true ∧ (demoSlot.slot demoSlot.cur).stop = none
    ∧ (((0 : Nat) : Int) ≤ scratchAddress (demoSlot.g 20) 0x1FF 5 ∧ scratchAddress (demoSlot.g 20) 0x1FF 5 + 4 ≤ 0x18000)
    ∧ scratchAddress (demoSlot.g 20) 0x1FF 5 % 4 = 0 ∧ demoSlot.zeroingAt 0 0xFC 4 = false
    ∧ scratchAddress (demoSlot.g 1) 0 5 % 4 ≠ 0 ∧ scratchAddress (demoSlot.g 1) 0x1FE 5 < 0 := by decide

theorem witness_GlobalIssue :
    (demoSlot.globalWord (.gld 22 20 1 4)).isSome = true ∧ demoSlot.issues (.gld 22 20 1 4) = true
    ∧ (demoSlot.globalWord (.gatom 22 20 1 1 9)).isSome = true ∧ demoSlot.issues (.gatom 22 20 1 1 9) = true
    ∧ demoSlot.issues (.gst 22 1 1 4) = true ∧ (demoSlot.g 20).toNat % 8 = 0 ∧ (demoSlot.g 1).toNat % 4 ≠ 0
    ∧ demoSlot.issues (.gld 22 20 1 4) = true := by decide

theorem witness_GlobalIssue_high : let s := demoSlot.modRegs 0 fun r => { r with g := [(4, 0x100000000000000)] }
    (s.globalWord (.gld 22 4 1 4)).isSome = true ∧ s.issues (.gld 22 4 1 4) = true ∧ 2 ^ 56 ≤ (s.g 4).toNat := by decide

theorem witness_ControlRegisterWords :
    demoSlot.issues (.mfc 22 0x15) = true ∧ demoSlot.issues (.mtc 1 0) = true ∧ demoSlot.issues (.mtc 20 0x007) = true
    ∧ demoSlot.issues (.mtc 1 0x006) = true ∧ demoSlot.issues (.mtc 20 0x00C) = true ∧ (demoSlot.g 1).toNat = 7
    ∧ (demoSlot.g 20).toNat = 0x100 := by decide

theorem witness_ControlRegisterWords_ok : demoSlot.controlValueOk 0 7 ∧ demoSlot.controlValueOk 6 7 ∧ ¬ demoSlot.controlValueOk 7 0x100
    ∧ ¬ demoSlot.controlValueOk 0xC 0x100 := by
  unfold State.controlValueOk
  exact ⟨by decide, by decide +kernel, by decide +kernel, by decide +kernel⟩

theorem witness_ControlRegisterWords_deferred :
    let s := demoSlot.withDeferred .V (.ctl 6 7)
    ((s.slot 0).counter .V).deferred.filter (fun d => d.1 == ((s.slot 0).counter .V).pos)
      = [(((s.slot 0).counter .V).pos, .ctl 6 7)] := by decide

theorem witness_ShapeWords :
    demoSlot.issues (.shpw 1 2 3 9) = true ∧ demoSlot.issues (.shpw 20 0 3 0) = true ∧ demoSlot.issues (.shpr 22 1 0 1 4) = true
    ∧ (demoSlot.g 20).toNat ≥ 2 ^ shapeWidth 0 0 ∧ (demoSlot.slot 0).seq.pc.pos ≤ ((demoSlot.slot 0).counter .M).pos
    ∧ (Tab.get 0 (demoSlot.slot 0).regs.shapes (1 * 256 + 1 * 128 + 0 * 32 + 4)).toNat < 2 ^ shapeWidth 1 4 := by decide

theorem witness_ShapeWords_waits : let s := demoSlot.modMat 0 fun m => { m with pc := { m.pc with pos := 2 } }
    s.issues (.shpr 22 1 0 1 4) = true ∧ ((s.slot 0).counter .M).pos < (s.slot 0).seq.pc.pos := by decide

theorem witness_SequencerTokens :
    demoSlot.issues (.kcfg 2 3) = true ∧ (demoSlot.slot 0).tokensSettled 3 = true ∧ (demoSlot.g 3).toNat = 0x40002
    ∧ demoSlot.issues (.kcfg 2 1) = true ∧ (demoSlot.g 1).toNat / 2 ^ 16 < (demoSlot.g 1).toNat % 2 ^ 16
    ∧ demoSlot.issues (.kwaitS 2 2) = true ∧ demoSlot.issues (.kwaitS 2 3) = true ∧ demoSlot.issues (.kwaitS 2 5) = true
    ∧ ((demoSlot.slot 0).regs.getK 2).count.toNat = 2 ∧ ((demoSlot.slot 0).regs.getK 2).ceiling.toNat = 4
    ∧ (demoSlot.slot 0).seq.pc.waiting = none
    ∧ demoSlot.issues (.ksigS 2 1) = true
    ∧ ((demoSlot.modVec 0 fun v => { v with pc := { v.pc with pos := 2 } }).slot 0).tokensSettled 3 = false := by decide

theorem witness_StampWallVotes :
    demoSlot.issues (.stamp 22) = true ∧ demoSlot.issues (.wall 22) = true ∧ demoSlot.issues (.vget 1) = true
    ∧ (let s := demoSlot.modSeq 0 fun q => { q with walls := [⟨22, 9, 0, 0⟩] }; (s.slot 0).seq.walls = [⟨22, 9, 0, 0⟩] ∧ 9 ≤ s.now)
    ∧ (let s := demoSlot.modSeq 0 fun q => { q with votes := [true] }; s.issues (.vget 1) = true ∧ (s.slot 0).seq.votes = [true])
    ∧ (demoSlot.slot 0).seq.votes = [] ∧ (demoSlot.slot 0).seq.pc.pos ≤ (demoSlot.slot 0).vec.pc.pos
    ∧ (demoSlot.slot 0).vec.votesFormed ≤ (demoSlot.slot 0).seq.votesTaken
    ∧ (let s := demoSlot.modVec 0 fun v => { v with votesFormed := 1 }; s.issues (.vget 1) = true
        ∧ (s.slot 0).seq.votesTaken < (s.slot 0).vec.votesFormed) := by decide

theorem witness_Mailboxes :
    let o : Outgoing := ⟨0, 1, ⟨1, 2, 0⟩⟩
    let s := demoSlot.modCore 0 fun c => { c with sendBuf := [o] }
    let t := demoSlot.modSlot 0 fun sl => { sl with mailbox := [⟨1, 2, 0⟩] }
    demoSlot.issues (.msend 1 2 3) = true ∧ demoSlot.diePresent 0 = true ∧ demoSlot.issues (.msend 3 2 3) = true
    ∧ 320 ≤ (demoSlot.g 3).toNat ∧ (s.core (coreOf s.cur)).sendBuf = [] ++ o :: [] ∧ (s.slot 1).mailbox.length < 32
    ∧ demoSlot.issues (.mrecv 22) = true ∧ t.issues (.mrecv 22) = true ∧ (t.slot 0).mailbox = [] ++ ⟨1, 2, 0⟩ :: []
    ∧ (⟨1, 2, 0⟩ : Message).tag = (t.slot 0).act.inctag
    ∧ (let f := demoSlot.modCore 0 fun c => { c with sendBuf := [o, o, o, o] }; f.issues (.msend 1 2 3) = true) := by decide

theorem witness_Fences :
    demoSlot.issues (.fenceRel 0 2 2) = true ∧ demoSlot.issues (.fenceAcq 0 2 2) = true ∧ demoSlot.issues (.fenceAr 0 2 2) = true
    ∧ demoSlot.issues (.fenceE 7) = true := by decide

theorem witness_Fences_performed : (demoSlot.slot 0).performed 2 2 ∧ (demoSlot.slot 0).engineQuiet .A 3
    ∧ ¬ ((demoSlot.modSeq 0 fun q => { q with reqs := [⟨.store 4, 0, 0, 0, 0, 0, 0, 1, 0, 0, 0, .served, 0, 0⟩] }).slot 0).performed 2 2
    ∧ ¬ ((demoSlot.modVec 0 fun v => { v with pc := { v.pc with pos := 2 } }).slot 0).engineQuiet .V 3 := by
  have h1 : (demoSlot.slot 0).seq.reqs = [] ∧ (demoSlot.slot 0).signals = [] ∧ (demoSlot.slot 0).asy.loads = []
      ∧ (demoSlot.slot 0).asy.stores = [] ∧ (demoSlot.slot 0).asy.reports = [] := by decide
  refine ⟨by simp [Slot.performed, h1], ⟨by decide, by simp [h1], by simp [h1]⟩, fun h => ?_, fun h => ?_⟩
  · exact (h ⟨.store 4, 0, 0, 0, 0, 0, 0, 1, 0, 0, 0, .served, 0, 0⟩ (by decide) (by decide)).2 (by decide) 4 rfl
  · exact absurd h.1 (by decide)

theorem witness_TrapWords :
    let s := demoSlot.modCounter 0 .S fun c => { c with view := { c.view with tracemode := 2 } }
    demoSlot.issues (.trap 5) = true ∧ demoSlot.issues (.trapWarn 5) = true ∧ demoSlot.issues (.brk 1) = true
    ∧ s.issues (.trcmark 1) = true ∧ (s.slot 0).seq.pc.view.tracemode.toNat = 2 ∧ (s.core 0).trace.frozen = false
    ∧ (demoSlot.slot demoSlot.cur).stop = none := by decide

/-- The slot stands in a loop: level 1, words 1 to 6, iteration 0 of 2, its body's end due or not. -/
def demoLoop (ending : Option (Nat × Nat)) : State := demoSlot.modSlot 0 fun sl =>
  let l : LoopLevel := { lvl := 1, trip := 2, stages := 1, iters := 2, i := 0, first := 1, last := 6, strides := [(20, 64)] }
  { sl with seq := { sl.seq with pc := { sl.seq.pc with word := 0, loops := [l], ending := ending } },
            vec := { sl.vec with pc := { sl.vec.pc with loops := [l], ending := ending } } }

/-- The sequencer stands at an LSTEP that follows its LSET at word 0; the body begins at word 2. -/
def demoBody : State :=
  let s := (demo 0x06054003).modCounter 0 .S fun c => { c with word := 1 }
  let s := s.modSlot 0 fun sl => { sl with act := { sl.act with codelimit := 8 } }
  s.modCounter 0 .S fun c =>
    { c with loops := [{ lvl := 1, trip := 2, stages := 1, iters := 2, i := 0, first := 2, last := 6, strides := [] }] }

theorem witness_LeavingAPosition :
    (Counter.reset.delay = none ∧ Counter.reset.loops = [])
    ∧ (let c := { ((demoLoop none).slot 0).seq.pc with delay := some (1, some 7) }; c.loops = c.loops ++ []
        ∧ ∀ l ∈ c.loops.getLast?, ¬ (l.first ≤ 7 ∧ 7 ≤ l.last)) := by decide

theorem witness_BranchWords :
    demoSlot.controls (.bprep 1 5) = true ∧ demoSlot.controls (.bprep 1 0x3FFFF) = true ∧ demoSlot.controls (.bprepg 1 20 5) = true
    ∧ demoSlot.controls (.bprepg 1 0 0xFFF) = true ∧ demoSlot.controls (.bgo 1 2 1) = true ∧ demoSlot.controls (.bgo 0 2 1) = true
    ∧ demoSlot.controls (.blink 1 2) = true ∧ demoSlot.queueRoom = true ∧ (demoSlot.slot 0).regs.getC 1 = true
    ∧ (let s := demoSlot.modSeq 0 fun q => { q with outq := List.replicate 16 ⟨.proceed, false, false, false⟩ }
       s.queueRoom = false ∧ s.controls (.bgo 1 2 1) = true ∧ s.controls (.blink 1 2) = true)
    ∧ (let s := demoSlot.modCounter 0 .S fun c => { c with delay := some (2, none) }
       (encode (.rotset 4)).any isControl = true ∧ (Instr.rotset 4).wellFormed = true ∧ (s.slot s.cur).seq.pc.delay ≠ none
       ∧ (s.slot s.cur).stop = none) := by decide

set_option exponentiation.threshold 1024 in
set_option maxRecDepth 8000 in
theorem witness_LoopWords :
    demoSlot.controls (.lset 0 1 1 3) = true ∧ demoSlot.controls (.lset 0 1 0 3) = true ∧ (demoSlot.slot 0).seq.pc.loops = []
    ∧ (demoSlot.g 1).toNat < 2 ^ 32 ∧ (match demoSlot.countLsteps 1 1 5 with | .ok n => n == 0 | .error _ => false) = true ∧ demoSlot.controlAt 3 = false
    ∧ (demoLoop none).controls (.lstep 20 1 64) = true ∧ ((demoLoop none).slot 0).seq.pc.loops.map (·.lvl) = [1]
    ∧ (match demoBody.afterLset 1 1 with | .ok b => b | .error _ => false) = true
    ∧ (match (demoLoop none).afterLset 1 0 with | .ok b => !b | .error _ => false) = true ∧ demoBody.controls (.lstep 20 1 64) = true
    ∧ (lonlyMode (.lonlyStage 1 0 2)).isSome = true ∧ (demoLoop none).controls (.lonlyStage 1 0 2) = true
    ∧ (((demoLoop none).slot 0).seq.pc.loops.find? (fun v => v.lvl == 1)).isSome = true
    ∧ (rangeFrom 1 2).any (demoLoop none).controlAt = false ∧ (demoLoop none).queueRoom = true
    ∧ ((demoLoop (some (6, 1))).slot 0).seq.pc.ending = some (6, 1) ∧ ((demoLoop (some (6, 1))).slot 0).vec.pc.ending = some (6, 1)
    ∧ (let s := (demoLoop (some (6, 1))).modSeq 0 fun q => { q with outq := [⟨.again, false, true, true⟩] }
       (s.slot 0).seq.nextOutcome .V = some .again)
    ∧ (let s := (demoLoop (some (6, 1))).modSeq 0 fun q => { q with outq := [⟨.exit, false, true, true⟩] }
       (s.slot 0).seq.nextOutcome .V = some .exit) := by decide

theorem witness_LoopWords_illegal : let s := demoLoop none
    s.controls (.lset 0 1 1 3) = true ∧ ¬ (∀ v ∈ (s.slot s.cur).seq.pc.loops.head?, v.lvl < (1#3).toNat ∧ 3 ≤ v.last) := by decide

theorem witness_RotationRegionEnd :
    demoSlot.queueRoom = true ∧ demoSlot.controls (.rotset 8) = true ∧ demoSlot.controls (.rgn 1 0 4) = true
    ∧ demoSlot.controls .rgnend = true ∧ demoSlot.controls .endActivation = true ∧ demoSlot.controls (.halt 1) = true
    ∧ demoSlot.controls (.halt 3) = true ∧ (demoSlot.slot 0).seq.region = none ∧ (demoSlot.g 1).toNat < 2 ^ 16
    ∧ 2 ^ 16 ≤ (demoSlot.g 3).toNat
    ∧ ((demoSlot.modSeq 0 fun q => { q with region := some (0, 8, true) }).slot 0).seq.region ≠ none := by decide

theorem witness_LaggingOutcomes :
    let o : Outcome := ⟨.transfer 5, false, true, true⟩
    let s := demoSlot.modSeq 0 fun q => { q with outq := [⟨.proceed, true, false, false⟩, o] }
    (demoSlot.slot 0).seq.outq.all (fun o => o.taken .V) = true
    ∧ (s.slot 0).seq.outq = [⟨.proceed, true, false, false⟩] ++ o :: [] ∧ (⟨.proceed, true, false, false⟩ : Outcome).taken .V = true
    ∧ o.taken .V = false ∧ o.kind ≠ .again ∧ o.kind ≠ .exit := by decide

theorem witness_Fences_code : demoSlot.controls (.icinv 0 20 1) = true ∧ demoSlot.controls (.icinv 1 20 1) = true
    ∧ demoSlot.controls (.icinv 2 20 1) = true ∧ (demoSlot.g 20).toNat % 64 = 0 ∧ (demoSlot.g 1).toNat % 64 ≠ 0
    ∧ demoSlot.controls (.icinv 0 1 1) = true
    ∧ (let s := demoSlot.modRegs 0 fun r => { r with g := [(4, 0x100000000000000)] }
       s.controls (.icinv 0 4 1) = true ∧ (s.g 4).toNat % 64 = 0 ∧ 2 ^ 56 < (s.g 4).toNat + 64 * 2) := by decide

/-- Shape register vs0 of the demonstration slot holds a format and a rounding mode, over two rows of sixteen columns. -/
def demoShape (fmt rnd : Nat) : State := demoSlot.modRegs 0 fun r =>
  { r with shapes := [(0, BitVec.ofNat 56 fmt), (1, 2), (2, 16), (3, BitVec.ofNat 56 rnd), (128, 0), (129, 1), (130, 8)] }

theorem witness_ElementWords : (elementRule (.vadd 3 1 2 0 0)).isSome = true
    ∧ ((((demoShape 0 0).slot 0).swapped 0 false).regs.vshape 0).map (fun h => (isFloatFormat h.code, h.rnd)) = some (true, 0)
    ∧ (elementRule (.viadd 3 1 2 0 0 1)).isSome = true
    ∧ ((((demoShape 0 0).slot 0).swapped 0 false).regs.vshape 0).map (fun h => isIntFormat h.code) = some false
    ∧ (elementRule (.vsub 3 1 2 0 1)).isSome = true
    ∧ ((((demoShape 0 0).slot 0).swapped 0 true).regs.vshape 0).map (fun h => (isFloatFormat h.code, h.rnd)) = some (true, 0) := by decide

theorem witness_ElementWords_ready : (demoShape 0 0).vReady (.vadd 3 1 2 0 0) false true [] [] [1, 2] [3]
    ∧ (demoShape 0 0).vReady (.vsub 3 1 2 0 1) true true [] [] [1, 2] [3] := by
  unfold State.vReady
  exact ⟨by decide, by decide⟩

theorem witness_TileWords :
    let sl := (demoShape 4 0).slot 0
    (tileRule (.vdq 8 1 2 0 0)).isSome = true
    ∧ ((tileRule (.vdq 8 1 2 0 0)).bind fun e => (sl.regs.vshape 0).map fun h => e.ok sl h) = some true
    ∧ ((tileRule (.vtrn 8 1 0 0)).bind fun e => (sl.regs.vshape 0).map fun h => e.ok sl h) = some true
    ∧ ((tileRule (.vrsum 8 1 0 0 1)).bind fun e => (sl.regs.vshape 0).map fun h => e.ok sl h) = some false := by decide

theorem witness_TileWords_ready : (demoShape 4 0).vReady (.vdq 8 1 2 0 0) false true [] [] [1, 2] [8] := by
  unfold State.vReady
  decide

theorem witness_MaskWords : let s := (demoShape 0 0).modRegs 0 fun r => { r with masks := [1] }
    (((demoShape 0 0).slot 0).regs.vshape 0).map (fun h => (h.code, h.rnd)) = some (0, 0) ∧ (s.slot 0).regs.masks ≠ []
    ∧ ((demoShape 0 0).slot 0).regs.masks = [] ∧ ((demoShape 0 0).slot 0).stop = none
    ∧ ((demoShape 0 0).slot 0).seq.votes.length = 0 ∧ ((demoShape 0 0).slot 0).vec.fly = [] := by decide

theorem witness_MaskWords_ready : (demoShape 0 0).vReady (.vcmp 1 2 0 0 2) false true [] [] [1, 2] []
    ∧ (demoShape 0 0).vReady .vmpop false true [] [] [] [] ∧ (demoShape 0 0).vReady (.vany 0 0) false true [] [] [] [] := by
  unfold State.vReady
  exact ⟨by decide, by decide, by decide⟩

theorem witness_ScratchTiles : let s := demoShape 0 0
    ((s.slot 0).regs.vshape 0).map (fun h => (h.rows, h.cols * h.width % 8, h.rnd, h.rowAddress 0x100 0 1, h.holdsName 2 32))
      = some (2, 0, 0, 0x140, true)
    ∧ (s.copiedOf .V 20 0).1 = 0x100 ∧ (s.slot 0).act.splimit.toNat = 0x18000 := by decide

theorem witness_ScratchTiles_ready : (demoShape 0 0).vReady (.vld 3 20 0 0 0) false true [(0x100, 0x80)] [] [] [3]
    ∧ (demoShape 0 0).vReady (.vst 3 20 0 0 0) false true [] [(0x100, 0x80)] [3] []
    ∧ (demoShape 0 0).vReady (.vldx 3 20 2 0 0) false true [(0, 0x18000)] [] [2] [3] := by
  unfold State.vReady
  exact ⟨by decide, by decide, by decide⟩

theorem witness_ScratchTiles_faults : let s := demoShape 0 0
    s.vReady (.vst 3 3 0 0 0) false true [] [] [] [] ∧ s.vReady (.vstx 3 3 2 0 0) false true [] [] [] []
    ∧ s.vReady (.vldx 3 1 2 0 0) false true [] [] [] [3] ∧ s.vReady (.vld 3 1 0 0 0) false true [] [] [] [] := by
  unfold State.vReady
  exact ⟨by decide, by decide, by decide, by decide⟩

theorem witness_ScratchTiles_places : let s := demoShape 0 0
    ((s.copiedOf .V 3 0).1.toNat = 0x40002 ∧ (s.copiedOf .V 1 0).1.toNat = 7 ∧ (s.slot 0).stop = none)
    ∧ ((s.slot 0).regs.vshape 0).map (fun h => ((h.on (s.slot 0)).head?, h.width, h.rowAddress 7 0 0)) = some (some (0, 0), 32, 7)
    ∧ (((demoShape 0 4).slot 0).regs.vshape 0).map (fun h => h.rnd) = some 4 := by decide

theorem witness_DrawsAndProbes : let s := demoShape 0x1C 0
    ((s.slot 0).regs.vshape 0).map (fun h => (h.code, h.rnd, (h.on (s.slot 0)).head?)) = some (0x1C, 0, some (0, 0))
    ∧ (s.core 0).filter = [] ∧ (probeRule (.vstatGn 1 2 0 0)).isSome = true
    ∧ (let t := (demoShape 0 0).modCtx 0 fun c => { c with image := { c.image with bcount := 8 } }
       (t.copiedOf .V 1 0).1.toNat < (t.ctx 0).image.bfirst.toNat + (t.ctx 0).image.bcount.toNat) := by decide

theorem witness_DrawsAndProbes_ready : (demoShape 0x1C 0).vReady (.vrng 3 20 0 0 0) false true [] [] [] [3]
    ∧ (demoShape 0 0).vReady (.vstatGn 1 2 0 0) false true [] [] [2] [] := by
  unfold State.vReady
  exact ⟨by decide, by decide⟩

theorem witness_VectorResults :
    let f : VFlight := ⟨0, 0, 9, [], .push 1, some true, [], none, false, [], []⟩
    let s := demoSlot.modVec 0 fun v => { v with fly := [f] }
    (s.slot s.cur).vec.fly = [] ++ f :: [] ∧ f.written = false ∧ f.due ≤ s.now := ⟨rfl, rfl, by decide⟩

/-- Context 0 is resident, and its page tables map the page of address 0 to frame 1 for reads and writes; slot 0 has one access to make. -/
def demoPage (kind : GKind) : State :=
  let s : State := { demoSlot with
    mem := [(0x4000, 0x01), (0x4001, 0x80), (0x8000, 0x01), (0x8001, 0xC0), (0xC000, 0x01), (0xC002, 0x01), (0x10000, 0x01), (0x10001, 0x02),
      (0x10002, 0x01), (0x10200, 0x62), (0x10203, 0x01)] }
  let s := s.modCtx 0 fun c => { c with phase := .resident, image := { c.image with ptroot := 0x4000, bcount := 8 } }
  s.modSeq 0 fun q => { q with reqs := [⟨kind, 0, 0, 0, 0, 22, 0x100, 1, 0, 5, 6, .walk, 0, 0⟩] }

theorem witness_LaggingTokens :
    laggingWait (.kwaitV 2 2) = some (.V, 2, 2) ∧ (Instr.kwaitV 2 2).wellFormed = true ∧ laggingWait (.kwaitA 2 0 5) = some (.A, 2, 5)
    ∧ (Instr.kwaitA 2 0 5).wellFormed = true ∧ laggingWait (.kwaitV 2 3) = some (.V, 2, 3) ∧ (Instr.kwaitV 2 3).wellFormed = true
    ∧ ((demoSlot.slot 0).regs.getK 2).count.toNat = 2 ∧ ((demoSlot.slot 0).regs.getK 2).ceiling.toNat = 4
    ∧ (demoSlot.slot 0).vec.pc.waiting = none
    ∧ (demoSlot.core 0).vBusy ≤ demoSlot.now ∧ laggingSignal (.ksigA 2 0 1) = some (.A, 2, 1)
    ∧ (Instr.ksigA 2 0 1).wellFormed = true := by decide

theorem witness_TokenSteps :
    (let s := demoSlot.modCounter 0 .V fun c => { c with waiting := some (2, 2, 5) }
     (s.slot s.cur).stop = none ∧ ((s.slot s.cur).counter .V).waiting = some (2, 2, 5) ∧ (s.core 0).vBusy ≤ s.now)
    ∧ (let s := demoSlot.modCounter 0 .A fun c => { c with waiting := some (2, 3, 5) }
       ((s.slot s.cur).counter .A).waiting = some (2, 3, 5) ∧ ((s.slot s.cur).regs.getK 2).count.toNat < 3)
    ∧ (let m : MEntry := ⟨.kwait 2 1, 0, 0, 0, ⟨0, 0, 0, 0, 0, 0, 0, 0, 0, 0⟩, none, 0, 0, 0, [], []⟩
       let s := demoSlot.modMat 0 fun x => { x with buf := [m] }
       (s.slot s.cur).mat.buf = m :: [] ∧ m.op = .kwait 2 1)
    ∧ (let g : PendSignal := ⟨.V, 3, 7, 2, 2, []⟩
       let s := demoSlot.modSlot 0 fun sl => { sl with signals := [⟨.A, 2, 6, 2, 1, []⟩, g] }
       (s.slot s.cur).signals = [⟨.A, 2, 6, 2, 1, []⟩] ++ g :: [] ∧ (s.slot s.cur).vec.fly = []
       ∧ ((s.slot s.cur).regs.getK 2).count.toNat + g.n ≤ ((s.slot s.cur).regs.getK 2).ceiling.toNat)
    ∧ (let g : PendSignal := ⟨.S, 3, 7, 2, 3, []⟩
       let s := demoSlot.modSlot 0 fun sl => { sl with signals := [g] }
       (s.slot s.cur).signals = [] ++ g :: [] ∧ g.regs = []
       ∧ ((s.slot s.cur).regs.getK 2).ceiling.toNat < ((s.slot s.cur).regs.getK 2).count.toNat + g.n)
    ∧ (let g : PendSignal := ⟨.S, 3, 7, 2, 3, [.g 22]⟩
       let s := demoSlot.modSlot 0 fun sl => { sl with signals := [g] }
       (s.slot s.cur).signals = [] ++ g :: [] ∧ g.regs ≠ []) := by decide

theorem witness_GlobalWalk : let s := demoPage (.load 4 true)
    ((s.slot 0).seq.reqs[0]?).map (fun r => (r.stage, r.tag, r.va)) = some (.walk, 0, 0x100) ∧ s.live 0 = true
    ∧ s.walk 0 (some .read) 0x100 = .leaf 0x1000062 0x10200 ∧ s.walk 0 (some .write) 0x100 = .leaf 0x1000062 0x10200
    ∧ s.walk 0 (some .atomic) 0x100 = .leaf 0x1000062 0x10200 ∧ s.walk 0 (some .read) 0x10000 = .fault 0x08 4
    ∧ (s.slot 0).stop = none ∧ (s.core 0).tlb = [] ∧ (s.die 0).tlb = [] ∧ s.hub.traps.walks = [] ∧ (s.die 0).accepted = [] ∧ s.reaches 0 0x10100 = true := by decide

theorem witness_GlobalWalk_plain : plainPage 0x1000062 ∧ ((demoPage (.store 4)).slot 0).seq.ordered ⟨.store 4, 0, 0, 0, 0, 22, 0x100, 1, 0, 5, 6, .walk, 0, 0⟩ := by
  refine ⟨by unfold plainPage; decide, fun x hx h => ?_, by decide⟩
  have : ((demoPage (.store 4)).slot 0).seq.reqs = [⟨.store 4, 0, 0, 0, 0, 22, 0x100, 1, 0, 5, 6, .walk, 0, 0⟩] := by decide
  rw [this, List.mem_singleton] at hx
  subst hx
  exact absurd h (by decide)

theorem witness_GlobalAnswers :
    (let r : GReq := ⟨.load 4 true, 0, 0, 0, 0, 22, 0x100, 1, 0, 0, 0, .served, 0x100, 0x80000000⟩
     let s := demoSlot.modSeq 0 fun q => { q with reqs := [r], locks := [.g 22] }
     (s.slot s.cur).seq.reqs[0]? = some r ∧ r.val < 2 ^ (8 * 4))
    ∧ (let e : NearStoreEntry := ⟨0, false, 0, 0, 0x100, [1, 2, 3, 4], 0, 1⟩
       let s := (demoPage (.store 4)).modDie 0 fun d => { d with accepted := [⟨3, false, 0, 0, 0x200, [7], 0, 1⟩, e] }
       (s.die s.cur).accepted[1]? = some e ∧ s.live e.tag = true ∧ e.pa + e.bytes.length ≤ s.hbmEnd ∧ s.reaches 0 e.pa = true
       ∧ ∀ x ∈ (s.die s.cur).accepted.take 1, (x.pa + x.bytes.length ≤ e.pa ∨ e.pa + e.bytes.length ≤ x.pa)
           ∧ ¬ (x.slot = e.slot ∧ x.burst = false ∧ x.cls = e.cls))
    ∧ (let e : NearStoreEntry := ⟨0, false, 0, 0, 0x100, [1, 2, 3, 4], 1, 1⟩
       let s := (demoPage (.store 4)).modDie 0 fun d => { d with accepted := [e] }
       (s.die s.cur).accepted[0]? = some e ∧ s.live e.tag = false) := by decide

theorem witness_PageWords : let s := demoPage (.store 4)
    s.issues (.tlbinv 1 0 1) = true ∧ s.issues (.tlbinv 2 20 1) = true ∧ (s.g 20).toNat % 65536 ≠ 0 ∧ s.dies = []
    ∧ s.issues (.pgqry 22 0) = true ∧ s.walk 0 none 0 = .leaf 0x1000062 0x10200 ∧ s.issues (.pghintTrans 0 4) = true
    ∧ (let t := s.modRegs 0 fun r => { r with g := [(4, 1), (5, 0x10000), (6, 0x100000000000000)] }
       t.issues (.pghintTrans 0 4) = true ∧ (t.g 4).toNat = 1 ∧ t.issues (.pghintEnc 5 4) = true
       ∧ t.walk 0 none 0x10000 = .fault 0x08 4 ∧ t.issues (.pgqry 22 5) = true ∧ t.issues (.pgqry 22 6) = true
       ∧ t.issues (.tlbinv 0 6 4) = true ∧ 2 ^ 56 < (t.g 6).toNat + 65536 * 1) := by decide

theorem witness_GovernorWords : let s := (demoPage (.store 4)).modPslot 3 fun p => { p with role := 0 }
    let t := s.modRegs 0 fun r => { r with g := [(4, 3), (5, 5), (6, 4096), (7, 9), (8, 7)] }
    t.issues (.govrd 22 4 13) = true ∧ t.issues (.govwr 5 4 5) = true ∧ t.issues (.govpin 4 5) = true ∧ t.issues (.govpin 6 5) = true
    ∧ t.issues (.govwr 24 7 5) = true ∧ t.issues (.govpin 4 8) = true ∧ t.issues (.govpin 4 4) = true ∧ t.issues (.govpin 8 4) = true
    ∧ (t.slot t.cur).stop = none ∧ (t.g 6).toNat = 4096 ∧ (t.pslot 3).role = 0 ∧ (t.pslot 7).role = 7 ∧ t.ladder = false
    ∧ (t.pslot 3).level.toNat = 3 ∧ ((t.ctx 0).image.bfirst.toNat, (t.ctx 0).image.bcount.toNat) = (0, 8) := by decide

theorem witness_GovernorWords_allows : govAllows false 5 5 ∧ ¬ govAllows false 9 0 := by
  unfold govAllows
  constructor
  · simp
  · simp

theorem witness_GovernorWords_probe :
    let p : Probe := ⟨.ov, 3, 7, 0, 0, 0, 0⟩
    let f : VFlight := ⟨0, 0, 9, [], .keep, none, [], some p, true, [], []⟩
    let s := ((demoPage (.store 4)).modPslot 3 fun p => { p with role := 0 }).modVec 0 fun v => { v with fly := [f] }
    (s.slot s.cur).vec.fly = [] ++ f :: [] ∧ f.probe = some p ∧ f.written = true ∧ s.live p.tag = true ∧ (s.pslot 3).role ≠ 7 := by decide

theorem witness_GovernorStep : let s := (demoPage (.store 4)).modPslot 3 fun p => { p with role := 0, tch := true }
    s.issues (.govstep 22 1) = true ∧ (s.g 1).toNat < 2 ^ 32 ∧ (s.slot 0).vec.fly = [] ∧ (s.slot 0).signals = []
    ∧ (s.slot 0).seq.pc.pos ≤ (s.slot 0).vec.pc.pos ∧ 3 ∈ rangeFrom (s.ctx 0).image.bfirst.toNat (s.ctx 0).image.bcount.toNat
    ∧ (s.pslot 3).loth.toNat < 2 ^ 31 ∧ (s.pslot 3).hith.toNat < 2 ^ 31 ∧ (s.pslot 3).amax.toNat < 0x7F800000 := by decide

/-- Matrix shape register ms0 holds E4M3 by BF16, 2 by 2 over 3, rows of 64 bytes from 0. -/
def demoMatrix : State := demoSlot.modSlot 0 fun sl => { sl with
  act := { sl.act with bands := 0x101 },
  regs := { sl.regs with shapes := [(256, 4), (257, 2), (258, 0), (259, 2), (260, 2), (261, 3), (262, 0), (263, 64), (264, 0), (265, 0)] } }

def demoShapeM : MShape := ⟨4, 2, 0, 2, 2, 3, 0, 64, 0, 0⟩

def demoEntry (op : MOp) (timed : Option (Nat × Nat × Bool)) : MEntry := ⟨op, 5, 0x81000000, 2, demoShapeM, timed, 0, 0, 0, [], []⟩

theorem witness_MatrixIssue :
    matrixRule (.mma 1 0 0 0) = some (0, 0, 0, .mma 1) ∧ (Instr.mma 1 0 0 0).wellFormed = true
    ∧ (demoMatrix.slot 0).matrixShape 0 0 = demoShapeM ∧ (demoMatrix.slot 0).mat.buf.length < 8 ∧ (demoMatrix.slot 0).presented.length < 32
    ∧ (demoMatrix.slot 0).act.splimit.toNat = 0x18000 ∧ (demoMatrix.slot 0).mat.region = none
    ∧ ((demoMatrix.modMat 0 fun m => { m with buf := List.replicate 8 (demoEntry (.mma 1) none) }).slot 0).mat.buf.length = 8
    ∧ matrixPlain (.mpri 3) = some (.mpri 3) ∧ (Instr.mpri 3).wellFormed = true ∧ matrixPlain (.kwaitM 2 5 0) = some (.kwait 2 5)
    ∧ (Instr.kwaitM 2 5 0).wellFormed = true ∧ ((demoMatrix.slot 0).regs.getK 2).ceiling.toNat < 5 ∧ (demoMatrix.slot 0).stop = none := by
  decide

theorem witness_MatrixIssue_legal : demoShapeM.legal (.mma 1) ∧ demoShapeM.aligned (.mma 1) := by
  simp [MShape.legal, MShape.aligned, MShape.blocksFit, MShape.blockOf, MShape.vectorEnd, mixes, demoShapeM, widthOf, fmtAt, fmtOf, fBF16,
    Fmt.width]

theorem witness_MatrixIssue_faults : ¬ ({ demoShapeM with afmt := 0 } : MShape).legal (.mma 1) ∧ ¬ ({ demoShapeM with aaddr := 2 } : MShape).aligned (.mma 1)
    ∧ ({ demoShapeM with aaddr := 0x17FFF } : MShape).touchedBy (.mma 1) = [(0x17FFF, 3), (0x1803F, 3)] := by
  refine ⟨?_, ?_, by decide⟩
  · simp [MShape.legal, mixes, demoShapeM]
  · simp [MShape.aligned, demoShapeM]

theorem witness_MatrixResults :
    let r : MRun := ⟨demoEntry (.mma 1) none, 1, 1, 0, 0, [], []⟩
    let s := demoMatrix.modMat 0 fun m => { m with run := [r] }
    (s.slot s.cur).mat.run = r :: [] ∧ r.steps ≤ r.done ∧ r.last + 8 ≤ s.now ∧ r.entry.shape = demoShapeM ∧ demoShapeM.m ≤ 64
    ∧ demoShapeM.n ≤ 128 ∧ demoShapeM.empties (.mma 1) = false ∧ (demoMatrix.slot 0).mat.run = []
    ∧ demoShapeM.empties (.mzero 1) = false ∧ ({ demoShapeM with k := 0 } : MShape).empties (.mma 1) = true := by decide

/-- Of two bytes that slot B has written in bands that both slots hold or that slot A holds alone, the first is loose for A (07 R176). -/
theorem test_raced : ((demoMatrix.modSlot 1 fun sl => { sl with act := { sl.act with bands := 0x101 } }).modCore 0 fun c =>
    { c with raced := [(5, ⟨2, [0]⟩), (524288, ⟨2, [0]⟩)] }).racedFor 0 = [5] := by decide

theorem witness_MatrixTiming :
    let at_ (x : MEntry) : State := demoMatrix.modMat 0 fun m => { m with buf := [x] }
    let x := demoEntry (.mma 1) (some (8, 8, true))
    ((at_ x).slot 0).mat.buf = x :: [] ∧ x.op.steps = true ∧ x.timed = some (8, 8, true) ∧ 8 ≤ demoMatrix.now
    ∧ demoMatrix.now ≤ 8 + 8 ∧ (demoEntry (.mpri 3) none).op = .mpri 3 ∧ ((at_ x).slot 0).mat.run = []
    ∧ (let y := demoEntry (.mma 1) (some (0, 8, true))
       ((at_ y).slot 0).mat.buf = [] ++ y :: [] ∧ y.timed = some (0, 8, true) ∧ 0 + 8 < (at_ y).now ∧ ((at_ y).slot 0).stop = none
       ∧ ((at_ y).slot 0).bufferHeld = false)
    ∧ (let z := demoEntry (.mma 1) (some (20, 8, false))
       z.timed = some (20, 8, false) ∧ (at_ z).now < 20)
    ∧ (let z := demoEntry (.mma 1) (some (0, 8, false))
       ((at_ z).slot 0).mat.buf = [z] ∧ z.timed = some (0, 8, false) ∧ 0 + 8 < (at_ z).now ∧ z.overdue (at_ z).now true = false)
    ∧ (let s := (demoMatrix.modSlot 1 fun sl => { sl with act := { sl.act with bands := 0x101 } }).modCore 0 fun c =>
         { c with bandHolder := [(0, 1)], bandZeroing := [⟨0, 3, 0⟩], bankZeroing := [⟨0, 2, 0⟩] }
       Tab.find (s.core s.cur).bandHolder 0 = some 1 ∧ (s.slot 0).act.bands.getLsbD 0 = true ∧ (s.slot 1).act.bands.getLsbD 0 = true
       ∧ (s.slot 1).mat.run = [] ∧ (s.slot 1).mat.buf = [] ∧ ⟨0, 3, 0⟩ ∈ (s.core s.cur).bandZeroing
       ∧ (s.core s.cur).bankZeroing = [] ++ (⟨0, 2, 0⟩ : Zeroing) :: []) := by decide

theorem witness_MatrixTiming_ready : (demoMatrix.modMat 0 fun m => { m with buf := [demoEntry (.mma 1) none] }).startReady (demoEntry (.mma 1) none) := by
  unfold State.startReady
  refine ⟨fun r hr => ?_, fun p hp => ?_, by decide, by decide, by decide, by decide⟩
  · have h0 : ((demoMatrix.modMat 0 fun m => { m with buf := [demoEntry (.mma 1) none] }).slot 0).mat.run = [] := by decide
    exact absurd hr (by show r ∉ ((demoMatrix.modMat 0 fun m => { m with buf := [demoEntry (.mma 1) none] }).slot 0).mat.run; rw [h0]; simp)
  · obtain ⟨l, hl, h⟩ : ∃ l, l < 1 ∧ p = if 0 % 2 = 0 then l else 7 - l := hp
    obtain rfl : l = 0 := by omega
    subst h
    decide

/-- Stream shape register ss0 of slot 0: 16 bytes from 0x100 to 0x40 of the scratchpad; g20 and g21 are copied for its words. -/
def demoStream : State :=
  let s := (demoPage (.load 4 true)).modSeq 0 fun q => { q with reqs := [] }
  s.modRegs 0 fun r => { r with
    shapes := [(512, 0x100), (513, 0x40), (514, 16), (515, 1), (516, 1), (517, 1), (518, 1), (519, 1), (520, 1), (534, 0x12)]
    g := [(20, 0x11), (21, 0x80), (22, 0x101), (23, 0x20000)] }

def demoNest (run : Nat) (ext : Nat) : SShape :=
  { gaddr := 0x100, saddr := 0x40, run := run, ext := [ext, 1, 1, 1, 1, 1], gstr := [0, 0, 0, 0, 0, 0], sstr := [0, 0, 0, 0, 0, 0], pad := 0,
    fmt := 0x12 }

theorem witness_StreamPushes : (streamRule (.sload 20 0 0 1)).isSome = true ∧ (demoStream.slot 0).streamShape 0 0 = demoNest 16 1
    ∧ (demoStream.copiedOf .A 20 0).1.toNat = 0x11 ∧ (demoStream.slot 0).asy.loads = [] ∧ (demoStream.slot 0).presented.length < 32
    ∧ (demoNest 16 1).count = 1 ∧ (demoNest 16 0).count = 0 ∧ (demoNest 16 1).saOf 0 = 0x40 ∧ (demoStream.slot 0).act.splimit.toNat = 0x18000
    ∧ (demoStream.copiedOf .A 22 0).1.toNat / 2 ^ 8 ≠ 0 ∧ (demoStream.slot 0).asy.chans = [] ∧ (demoStream.slot 0).stop = none := by decide

theorem witness_StreamPushes_checks :
    let w : StreamWord := { kind := .sload, major := 0, ga := 20, gb := 0, shape := 0, swap := 0, chan := 1 }
    let x : StreamWord := { kind := .sgath, major := 3, ga := 20, gb := 22, shape := 0, swap := 0, chan := 1 }
    streamRule (.sload 20 0 0 1) = some w ∧ w.allowed demoStream (demoNest 16 1) 0x11 0 ∧ ¬ w.allowed demoStream (demoNest 16 1) 0x101 0
    ∧ w.within (demoNest 16 1) 0 0 0x18000 ∧ ¬ w.within (demoNest 16 1) 0 0x80 0x18000 ∧ w.alignedFor (demoNest 16 1) 0x11 0
    ∧ ¬ x.alignedFor (demoNest 16 1) 0x11 0x101 := by
  refine ⟨rfl, by simp [StreamWord.allowed], by simp [StreamWord.allowed], ⟨fun _ n hn => ?_, by simp⟩, fun h => ?_, by simp [StreamWord.alignedFor],
    by simp [StreamWord.alignedFor]⟩
  · have : n = 0 := by
      have h : n < 1 := hn
      omega
    subst this
    decide
  · exact absurd (h.1 (by decide) 0 (by decide)).1 (by decide)

theorem witness_ChannelWords : let s := demoStream.modRegs 0 fun r => { r with g := [(20, 0x40), (21, 0x80), (22, 0x41), (23, 0x20000)] }
    (s.copiedOf .A 20 21).1.toNat = 0x40 ∧ (s.copiedOf .A 20 21).2.toNat = 0x80 ∧ (s.copiedOf .A 22 21).1.toNat = 0x41
    ∧ (s.copiedOf .A 20 23).2.toNat = 0x20000 ∧ (s.slot 0).act.splimit.toNat = 0x18000 ∧ Tab.find (s.slot 0).asy.chans 2 = none
    ∧ (s.slot 0).stop = none ∧ (s.slot 0).presented.length < 32
    ∧ Tab.find ((s.modAsy 0 fun a => { a with chans := [(2, ⟨0, 64, true⟩)] }).slot 0).asy.chans 2 ≠ none := by decide

/-- A pushed command that has started no burst, or has one in flight. -/
def demoCmd (kind : StreamKind) (next : Nat) (flying : List Burst) : StreamCmd :=
  { kind := kind, major := 0, num := 7, pos := 2, word := 9, cls := 1, slack := 1, shape := demoNest 16 1, arg := 0, gb := 0, chan := none,
    flag := false, tok := 0, dx := 0, dy := 0, next := next, flying := flying, stopped := none, failed := 0, signalled := 0,
    reads := [], writes := [(0x40, 16)] }

theorem witness_StreamBursts_start :
    let c := demoCmd .sload 0 []
    let s := demoStream.modAsy 0 fun a => { a with loads := [c] }
    (s.slot 0).commands false = [] ++ c :: [] ∧ s.cmdReady 0 c = true ∧ c.kind.isLoad = !false ∧ (s.core s.cur).loadCycle ≤ s.now
    ∧ (s.slot 1).commands false = [] ∧ (demoStream.slot 0).commands true = [] ∧ (demoStream.slot 1).commands true = []
    ∧ (let t := s.modCore 0 fun k => { k with loadCycle := 10 }; t.now < (t.core t.cur).loadCycle) := by decide

theorem witness_StreamBursts_walk :
    let b : Burst := ⟨0, 16, 0x100, .walk, 0, [], false⟩
    let c := demoCmd .sload 16 [b]
    let s := demoStream.modAsy 0 fun a => { a with loads := [c] }
    (s.slot 0).asy.nthFlying false 0 = some (c, b) ∧ s.live (s.slot 0).act.inctag = true ∧ (s.slot 0).asy.mayPerform c = true
    ∧ (s.core 0).tlb = [] ∧ (s.die 0).tlb = [] ∧ s.hub.traps.walks = [] ∧ s.walk 0 (some .read) 0x100 = .leaf 0x1000062 0x10200
    ∧ 0x100 % 256 + b.len ≤ 256 := by decide

theorem witness_StreamBursts_complete :
    let b : Burst := ⟨0, 2, 0x100, .served, 0x10100, [1, 2], false⟩
    let c := demoCmd .sload 16 [b]
    let s := demoStream.modAsy 0 fun a => { a with loads := [c] }
    let d := demoCmd .sstore 16 [b]
    let e : NearStoreEntry := ⟨0, true, 7, 0, 0x10100, [1, 2], 0, 1⟩
    let t := (demoStream.modAsy 0 fun a => { a with stores := [d] }).modDie 0 fun x => { x with accepted := [e] }
    (s.slot s.cur).asy.nthFlying false 0 = some (c, b) ∧ (s.slot 0).mayStart .A ((s.slot 0).presentCmd c) = true ∧ c.laterThan b = false
    ∧ s.zeroingAt s.cur (c.placeOf b.off) b.len = false ∧ (t.slot t.cur).asy.nthFlying true 0 = some (d, b)
    ∧ (t.die 0).acceptedBurst 0 d b = some 0 ∧ (t.die 0).accepted[0]? = some e ∧ e.burst = true ∧ b.pa < 0x6000000000 := by decide

theorem witness_StreamBursts_fault :
    let b : Burst := ⟨0, 16, 0x100000000000000, .faulted, 0, [], false⟩
    let c := demoCmd .sload 16 [b]
    let s := demoStream.modAsy 0 fun a => { a with loads := [c] }
    (s.slot s.cur).commands false = [] ++ c :: [] ∧ c.flying.find? (fun y => y.stage == .faulted) = some b ∧ (2 : Int) ^ 56 ≤ b.va
    ∧ b.va < 2 ^ 64 ∧ (s.slot s.cur).stop = none ∧ s.hub.traps.walks = [] := by decide

/-- Context 0 with page tables at 0x4000 that lead page 0 to frame 1 through a leaf marked accessed and dirty, one peer, and enabled
semaphores 7 and 8. -/
def demoHub : State :=
  let s : State := { demoSlot with
    mem := [(0x4000, 0x01), (0x4001, 0x80), (0x8000, 0x01), (0x8001, 0xC0), (0xC000, 0x01), (0xC002, 0x01), (0x10000, 0x01), (0x10001, 0x02),
      (0x10002, 0x01), (0x10200, 0x62), (0x10201, 0x18), (0x10203, 0x01)] }
  let s := s.modCtx 0 fun c => { c with phase := .resident, image := { c.image with ptroot := 0x4000, bcount := 8 } }
  let s := (s.modSem 7 fun x => { x with en := true }).modSem 8 fun x => { x with en := true }
  s.modHub fun h => { h with links := [(0, { Link.reset with phase := .up })], ctx := { h.ctx with peers := [(0, [{ faddr := 5, portmask := 1, keyidx := 0, enc := false, swkey := false, rank := 3 }])] } }

/-- A command of class 1 with these bytes, pushed by slot 0. -/
def demoTether (bytes : Nat) : TCmd :=
  { num := 0, bytes := BitVec.ofNat 512 bytes, tag := 0, cls := 1, pusher := some (.slot 0 9 0 0), started := 0, relReq := 0, relCmd := 0 }

/-- A local SEMOP that adds 5 to semaphore 7; a RECV of two F32 elements at 0x100 from peer 0. -/
def demoSemop : TCmd := demoTether (9 + 7 * 2 ^ 40 + 255 * 2 ^ 64 + 5 * 2 ^ 480)
def demoRecv : TCmd := demoTether (6 + 0x100 * 2 ^ 256 + (2 + 2 ^ 16 + 2 ^ 32 + 2 ^ 48) * 2 ^ 320)

def demoRun (d : TCmd) (waited : Bool) (checks : List (Nat × PeerCheck)) (source : Option (List Nat)) (received : List (Nat × List (Nat × Nat))) :
    TRun :=
  { cmd := d, key := 0, waited := waited, nth := 0, checks := checks, source := source, sentTo := [], written := false, wrapped := none,
    received := received, took := [] }

/-- Port 0 is up, and context 0 has the peers of job 9. -/
def demoPort (s : State) : State :=
  (s.modLink 9 fun x => { x with phase := .up }).modCtx 0 fun x => { x with image := { x.image with job := 9, npeer := 1 } }

/-- A packet of a kind from peer 0 of job 9. -/
def demoPacket (kind arg : Nat) (payload : List Byte) : Arrival :=
  ⟨0, false, false, BitVec.ofNat 128 (9 * 2 ^ 96 + kind * 2 ^ 72 + arg), payload⟩

theorem witness_CommunicationQueues :
    let r := demoSlot.modRegs 0 fun r => { r with g := [(21, 0x40), (22, 0x41), (23, 0x18000)] }
    let s := r.modCore 0 fun k => { k with cqEn := true }
    (s.copiedOf .A 21 0).1.toNat = 0x40 ∧ (s.copiedOf .A 22 0).1.toNat = 0x41 ∧ (s.copiedOf .A 23 0).1.toNat = 0x18000 ∧ (s.slot 0).stop = none
    ∧ (s.core 0).cqEn = true ∧ (r.core 0).cqEn = false ∧ (s.core 0).commq.length < 32 ∧ (s.slot 0).asy.cqOwed < 16
    ∧ (s.slot 0).rangeRoom ⟨3, [(0x40, 64)], [], false⟩ = true ∧ (s.slot 0).mayStart .A ⟨3, [(0x40, 64)], [], false⟩ = true
    ∧ (s.slot 0).channelsReady 3 [(0x40, 64)] = true ∧ s.zeroingAt 0 0x40 64 = false
    ∧ ((s.modAsy 0 fun a => { a with cqOwed := 16 }).slot 0).asy.cqOwed = 16 := by decide

theorem witness_CommunicationQueues_pop :
    let s := demoSlot.modAsy 0 fun a => { a with cqPushed := 1 }
    let t := demoSlot.modAsy 0 fun a => { a with cqPushed := 1, cq := [7] }
    s.issues (.cqpop 26) = true ∧ (s.slot 0).asy.cq = [] ∧ ¬ (s.slot 0).asy.cqPushed < (s.slot 0).asy.cqPopped + 1
    ∧ (t.slot 0).asy.cq = 7 :: [] ∧ (demoSlot.slot 0).asy.cqPushed < (demoSlot.slot 0).asy.cqPopped + 1
    ∧ (demoSlot.slot 0).seq.pc.pos ≤ (demoSlot.slot 0).asy.pc.pos ∧ (demoSlot.slot 0).stop = none := by decide

set_option exponentiation.threshold 1024 in
theorem witness_TetherCommands_start :
    let s := demoHub.modStream 0 fun x => { x with queue := [demoSemop] }
    let t := demoHub.modStream 0 fun x => { x with queue := [demoTether 10] }
    s.cur = 0 ∧ (s.stream 0).run = none ∧ (s.stream 0).queue = demoSemop :: [] ∧ s.cores = [] ∧ s.live 0 = true ∧ demoSemop.kind = 9
    ∧ s.tetherCheck demoSemop = none ∧ t.tetherCheck (demoTether 10) = some (0x01, 0) := by decide

set_option exponentiation.threshold 1024 in
theorem witness_TetherCommands_core :
    let c : CommCmd := { bytes := demoSemop.bytes, slot := 0, tag := 0, cls := 1, word := 9, graph := 0, node := 0, started := 0, relReq := 0,
                         relCmd := 0 }
    let s := demoHub.modCore 0 fun k => { k with cqEn := true, commq := [c] }
    s.cores = [] ++ (0, s.core 0) :: [] ∧ (s.core 0).cqStream.toNat = 0 ∧ (s.core 0).commq = c :: [] ∧ (s.slot 0).releasedBefore 1 0 0 = true
    ∧ (s.stream 0).queue = [] := by decide

set_option exponentiation.threshold 1024 in
theorem witness_TetherCommands_fire :
    let s := demoHub.modStream 0 fun x => { x with parked := [⟨demoSemop, 0⟩] }
    (s.stream 0).lane = none ∧ (s.stream 0).parked = [] ++ ⟨demoSemop, 0⟩ :: [] ∧ (0 : BitVec 64) ≤ s.wallTime ∧ s.resident 0 = true
    ∧ (s.wallTime - 0).toNat ≤ 1024 ∧ s.tetherCheck demoSemop = none := by decide

set_option exponentiation.threshold 1024 in
theorem witness_TetherCommands_steps :
    let waiting := demoRun demoSemop false [] none []
    let s := demoHub.modStream 0 fun x => { x with run := some waiting }
    let t := demoHub.modStream 0 fun x => { x with run := some (demoRun demoSemop true [] (some []) []) }
    let other := demoHub.modSem 0 fun x => { x with en := true }
    (s.stream 0).run = some waiting ∧ waiting.waited = false ∧ (s.sem 0).en = false ∧ (other.sem demoSemop.wsem).en = true
    ∧ (other.sem demoSemop.wsem).ctx.toNat = demoSemop.tag.toNat / 64 ∧ ((other.sem 0).value - BitVec.ofNat 32 demoSemop.wval).toNat < 2 ^ 31
    ∧ (t.sem demoSemop.ssem).en = true ∧ (t.sem demoSemop.ssem).mirror = 0 ∧ demoSemop.peerIdx = 255 ∧ t.live 0 = true := by decide

set_option exponentiation.threshold 1024 in
theorem witness_TetherCommands_checks :
    let its : PeerCheck := { kind := 5, op := 0, fmt := 0, ext := [2, 1, 1, 1], n := 0, ranks := [] }
    0 ∈ demoRecv.awaits ∧ checksAgree (demoHub.ownCheck demoRecv) its = true
    ∧ checksAgree (demoHub.ownCheck demoRecv) { its with ext := [3, 1, 1, 1] } = false ∧ Tab.find ([] : List (Nat × PeerCheck)) 0 = none := by
  decide

set_option exponentiation.threshold 1024 in
theorem witness_TetherCommands_data :
    let its : PeerCheck := { kind := 5, op := 0, fmt := 0, ext := [2, 1, 1, 1], n := 0, ranks := [] }
    let r := demoRun demoRecv true [(0, its)] (some []) [(0, [(0, 0x3F800000), (1, 0x40000000)])]
    demoRecv.dense ∧ demoRecv.count = 2 ∧ demoRecv.width = 4 ∧ demoRecv.kind = 6 ∧ demoRecv.setEn = false
    ∧ demoHub.hubPage 0 .write 0x100 8 0x10100 ∧ demoHub.writesCode r 0 0x3F800000 ∧ demoHub.writesCode r 1 0x40000000 := by
  refine ⟨⟨by decide, by decide, by decide⟩, by decide, by decide, by decide, by decide,
    ⟨by decide, by decide, by decide, by decide, by decide, 0x1001862, 0x10200, by decide, ⟨by decide, by decide, by decide⟩, by decide, by decide⟩,
    Or.inl ⟨by decide, by decide⟩, Or.inl ⟨by decide, by decide⟩⟩

set_option exponentiation.threshold 1024 in
theorem witness_TetherCommands_nodes : demoHub.nodeGoesOn demoRecv := by
  refine ⟨fun g k => by simp [demoRecv, demoTether], fun m w g k h y hy => ?_⟩
  simp [State.nodeAt, State.graph, demoHub, demoSlot, demoRegs, State.modSem, State.modCtx, State.modHub, State.modSlot, State.modRegs,
    State.reset, Hub.reset, Tab.find] at hy

set_option exponentiation.threshold 1024 in
theorem witness_TetherCommands_sum : demoRecv.op = 0 ∧ (demoTether (0x14 * 2 ^ 8 + 1)).fmt = 0x14 ∧ 0 < 2 := by decide

/-- The block of a WFILL of 16 bytes at 0x100, and of one of 0x10000 bytes at 0x10000, in the scratchpad of slot 0 at 0x40 and 0x80; g20,
g21 and g22 are copied for its words. -/
def demoBlock : State :=
  let s := demoHub.modCore 0 fun k => { k with scratch := [⟨0x41, 1⟩, ⟨0x48, 16⟩, ⟨0x82, 1⟩, ⟨0x8A, 1⟩] }
  s.modRegs 0 fun r => { r with g := [(20, 0x40), (21, 0x80), (22, 0x41), (23, 0x18000), (24, 0x1122334455667788)],
                                shapes := [(514, 16), (515, 1), (516, 1), (517, 1), (518, 1), (519, 1), (520, 1), (534, 0x12)] }

theorem witness_WinchPushes :
    (winchRule (.wfill 20 24 7)).isSome = true ∧ (winchRule (.wlayout 21 24 0 1 0)).isSome = true
    ∧ (demoBlock.copiedOf .A 20 24).1.toNat = 0x40 ∧ (demoBlock.copiedOf .A 22 24).1.toNat = 0x41
    ∧ (demoBlock.copiedOf .A 23 24).1.toNat = 0x18000 ∧ (demoBlock.slot 0).act.splimit.toNat = 0x18000 ∧ (demoBlock.slot 0).stop = none
    ∧ (demoBlock.slot 0).rangeRoom ⟨3, [(0x40, 64)], [], false⟩ = true ∧ (demoBlock.slot 0).mayStart .A ⟨3, [(0x40, 64)], [], false⟩ = true
    ∧ (demoBlock.slot 0).channelsReady 3 [(0x40, 64)] = true ∧ demoBlock.zeroingAt 0 0x40 64 = false
    ∧ demoBlock.hub.dev.agreed.getLsbD 5 = false ∧ (demoBlock.winch 0).queue.length < 64 := by decide

theorem witness_WinchPushes_words : winchRule (.wfill 20 24 7) = some ⟨.wfill, 20, 24, none, 7⟩
    ∧ winchRule (.wlayout 21 24 0 1 0) = some ⟨.wlayout, 21, 24, some (0, 1), 0⟩ := ⟨rfl, rfl⟩

set_option exponentiation.threshold 1024 in
theorem witness_WinchPushes_block :
    let w : WinchWord := ⟨.wfill, 20, 24, none, 7⟩
    w.blockFits (0x100 + 16 * 2 ^ 64) ∧ ¬ w.blockFits (2 ^ 63) ∧ w.skew (0x100 + 16 * 2 ^ 64) 0 = none
    ∧ ({ w with kind := .woff } : WinchWord).skew (0x100 + 0x10000 * 2 ^ 64) 0 = some 0x100 := by
  refine ⟨?_, ?_, by decide, by decide⟩
  · simp [WinchWord.blockFits]
  · simp [WinchWord.blockFits]

set_option exponentiation.threshold 1024 in
theorem witness_WinchPushes_bytes : ∀ j, j < 64 →
    BitVec.ofNat 8 ((BitVec.ofNat 512 (0x100 + 16 * 2 ^ 64)).toNat / 2 ^ (8 * j)) = (demoBlock.core (demoBlock.cur / 2)).scratch.read (0x40 + j) := by
  decide

theorem witness_WinchPushes_choice : demoBlock.picksWinch 0 7 0 ∧ demoBlock.picksWinch 0 3 3
    ∧ (⟨.wfill, 20, 24, none, 7⟩ : WinchWord).allowed demoBlock SShape.none 0
    ∧ ¬ (⟨.woff, 20, 0, none, 7⟩ : WinchWord).allowed demoBlock SShape.none 0 := by
  have h : ∀ n, (demoBlock.winch n).queue = [] := fun n => by
    simp [demoBlock, demoHub, demoSlot, demoRegs, State.winch, State.modCore, State.modSem, State.modCtx, State.modHub, State.modSlot,
      State.modRegs, State.reset, Winch.reset, Tab.get]
  refine ⟨⟨by decide, fun _ => ⟨by decide, fun u _ => ⟨by simp [h], fun hu => absurd hu (by omega)⟩⟩⟩, ⟨fun _ => rfl, fun h => absurd h (by decide)⟩, trivial, ?_⟩
  show ¬ demoBlock.hub.dev.agreed.getLsbD 2 = true
  decide

/-- A command of context 0 on a winch with this block. -/
def demoMove (kind : WinchKind) (block cursor : Nat) (stage : WStage) : WCmd :=
  { kind := kind, num := 0, tag := 0, pusher := .slot 0 9 0 0, block := BitVec.ofNat 512 block, gb := 0, shape := demoNest 16 1, key := 0, step := 0,
    cursor := cursor, stage := stage, page := none, landed := 0, acc := [], olds := [], fault := none, cid := 3, relReq := 0, relCmd := 0 }

def demoWinch (c : WCmd) : State := demoHub.modWinch 0 fun x => { x with queue := [c], pushes := 1 }

theorem demoWinch_at (c : WCmd) (h : c.stage = .running ∨ c.stage = .polling) (ht : c.tag = 0) : (demoWinch c).winchAt 0 c c.stage := by
  refine ⟨?_, rfl, h, ?_, fun d hd hc => ?_, fun r hr => ?_⟩
  · simp [demoWinch, State.modWinch, State.winch, demoHub, demoSlot, demoRegs, State.modSem, State.modCtx, State.modHub, State.modSlot,
      State.modRegs, State.reset, Tab.get, Tab.put]
  · rw [ht]
    exact (by decide : (demoHub.ctx 0).phase = .resident)
  · exact absurd (by simpa [demoWinch, State.modWinch, State.winch, demoHub, demoSlot, demoRegs, State.modSem, State.modCtx, State.modHub,
      State.modSlot, State.modRegs, State.reset, Tab.get, Tab.put] using hd) hc
  · simp [demoWinch, State.modWinch, State.winch, demoHub, demoSlot, demoRegs, State.modSem, State.modCtx, State.modHub,
      State.modSlot, State.modRegs, State.reset, Tab.get, Tab.put, Winch.reset] at hr

set_option exponentiation.threshold 1024 in
theorem witness_WinchSteps_start :
    let c := demoMove .wfill (0x100 + 16 * 2 ^ 64) 0 .queued
    let s := demoWinch c
    let t := demoWinch { c with stage := .running }
    (s.winch 0).queue = [] ++ c :: [] ∧ (s.ctx 0).phase = .resident ∧ s.live 0 = true ∧ (s.slot 0).releasedBefore c.cls 0 0 = true
    ∧ (t.winch 0).queue = [{ c with stage := .running }] := by decide

theorem reaches_low {s : State} {part pa : Nat} (hp : pa < 0x1800000000) (hr : part = 0 ∨ 0 ∈ routeFrom s.linkUp part) :
    s.reaches part pa = true := by
  have h : homePart pa = 0 := by unfold homePart; split <;> omega
  obtain rfl | hr := hr <;> simp_all [State.reaches]

theorem demoHub_pageFrom (part : Nat) (hr : part = 0 ∨ 0 ∈ routeFrom demoHub.linkUp part) (kind : AKind) (va len pa : Nat) (h0 : 0 < len)
    (hv : va + len ≤ 65536) (hp : pa = 65536 + va) (hw : demoHub.walk 0 (some kind) va = .leaf 0x1001862 0x10200) :
    demoHub.pageFrom part 0 kind va len pa :=
  ⟨by omega, h0, by omega, by simp [demoHub, demoSlot, demoRegs, State.modSem, State.modCtx, State.modHub, State.modSlot, State.modRegs,
    State.reset, Hub.reset], reaches_low (by omega) hr, 0x1001862, 0x10200, hw, ⟨by decide, by decide, by decide⟩, by decide, by omega⟩

theorem demoHub_page (kind : AKind) (va len pa : Nat) (h0 : 0 < len)
    (hv : va + len ≤ 65536) (hp : pa = 65536 + va) (hw : demoHub.walk 0 (some kind) va = .leaf 0x1001862 0x10200) :
    demoHub.diePage 0 0 kind va len pa := by
  refine ⟨demoHub_pageFrom 0 (Or.inl rfl) kind va len pa h0 hv hp hw, fun t ht => ?_⟩
  simp [demoHub, demoSlot, demoRegs, State.die, State.modSem, State.modCtx, State.modHub, State.modSlot, State.modRegs, State.reset, Tab.get,
    DieState.reset] at ht

theorem witness_WinchSteps_pages : demoHub.diePage 0 0 .write 0x100 16 0x10100 ∧ demoHub.diePage 0 0 .read 0x100 16 0x10100 :=
  ⟨demoHub_page _ _ _ _ (by decide) (by decide) rfl (by decide), demoHub_page _ _ _ _ (by decide) (by decide) rfl (by decide)⟩

set_option exponentiation.threshold 1024 in
theorem witness_WinchSteps_bursts :
    let fill := demoMove .wfill (0x100 + 16 * 2 ^ 64) 0 .running
    let copy := demoMove .wcopy 0x200 0 .running
    let sum := demoMove .wcsum (0x200 + 0x100 * 2 ^ 64 + 9 * 2 ^ 128) 0 .running
    let last := demoMove .wcsum (0x200 + 0x100 * 2 ^ 64 + 9 * 2 ^ 128) 9 .running
    fill.cursor < fill.block.toNat / 2 ^ 64 % 2 ^ 64 ∧ copy.shape.ext.length = 6 ∧ 0 < copy.shape.run
    ∧ copy.cursor < copy.shape.count * copy.shape.run ∧ ((0x100 : Nat) : Int) = copy.shape.gaOf 0 + 0
    ∧ (∀ m, m < copy.shape.count → (0x100 : Int) + 16 ≤ copy.copyTo m)
    ∧ sum.cursor < sum.block.toNat / 2 ^ 128 % 2 ^ 64 ∧ last.cursor = last.block.toNat / 2 ^ 128 % 2 ^ 64
    ∧ ({ last with acc := [1, 2, 3, 4] } : WCmd).acc.length = 4 ∧ fill.finished = false
    ∧ ({ fill with cursor := 16 } : WCmd).finished = true ∧ fill.semen = false
    ∧ (demoMove .wfill (16 * 2 ^ 64 + 2 ^ 460 + 7 * 2 ^ 448) 16 .running).semen = true ∧ (demoHub.sem 7).en = true ∧ (demoHub.sem 7).mirror = 0
    ∧ (demoHub.sem 9).en = false ∧ 2 ^ 56 ≤ (demoMove .wfill (2 ^ 56 - 8 + 16 * 2 ^ 64) 8 .running).daddr + 8 := by decide

set_option exponentiation.threshold 1024 in
theorem witness_WinchSteps_maps :
    let c := { demoMove .wlayout 0x200 0 .running with gb := 0, shape := { demoNest 16 2 with fmt := 4 } }
    c.shape.moveWidth ≠ 4 ∧ c.cursor < c.layoutBytes ∧ (lzDecode 3 8 [0x20, 7, 8]).1 = [7, 8] := by decide

set_option exponentiation.threshold 1024 in
theorem witness_WinchSteps_transit :
    let c := demoMove .woff (0x10000 * 2 ^ 64) 0 .running
    (c.cursor < c.block.toNat / 2 ^ 64 % 2 ^ 64) ∧ (demoWinch c).walk 0 none 0 = .leaf 0x1001862 0x10200 ∧ (0x1001862 / 2 ^ 2 % 8 = 0)
    ∧ (demoWinch c).dies = [] ∧ (demoWinch { c with page := some 0x10200, landed := 0x10000 }).memNat 0x10200 16 = 0x1001862
    ∧ (demoMove .wret (0x10000 * 2 ^ 64) 0 .running).page = none := by decide

/-- A request for the page at 0x10200. -/
def demoReencode (taken : Bool) : Reencode :=
  { tag := 0, va := 0, at_ := 0x10200, prior := 0, level := 3, key := 0, step := 0, taken := taken, page := [] }

theorem witness_PagesAndDrives :
    let s := demoHub.modWinch 0 fun x => { x with reenc := [demoReencode false] }
    let t := demoHub.modWinch 0 fun x => { x with reenc := [demoReencode true] }
    (s.winch 0).reenc = demoReencode false :: [] ∧ (t.winch 0).reenc = demoReencode true :: [] ∧ s.dies = []
    ∧ s.memNat 0x10200 16 / 2 ^ 24 % 2 ^ 24 * 65536 + 65536 ≤ s.hbmEnd := by decide

theorem witness_PagesAndDrives_poll :
    let c := demoMove .wnvme (0x100 * 2 ^ 64) 0 .polling
    (demoWinch c).winchAt 0 c .polling := demoWinch_at _ (Or.inr rfl) rfl

set_option exponentiation.threshold 1024 in
theorem witness_PagesAndDrives_descriptor :
    let d := numberAt (fun j => demoHub.homeSeen 0 (0x10100 + j)) 64
    d / 2 ^ 64 % 2 ^ 64 + 16 * (d / 2 ^ 432 % 2 ^ 16) = 0 := by decide

/-- Queue 3 of context 0: two entries at 0x1000, one of them a record of zeros. g30 holds 3. -/
def demoQueue (f : WorkQueue → WorkQueue) : State :=
  (demoHub.modQueue 3 fun x => f { x with log2sz := 1, feed := true, phase := .active, qbase := 0x1000, tail := 1, commit := 1, owners := [none] }).modRegs
    0 fun r => { r with g := [(30, 3), (31, 256)] }

theorem demoHub_hubPage (kind : AKind) (va len pa : Nat) (h0 : 0 < len) (hv : va + len ≤ 65536) (hp : pa = 65536 + va)
    (hw : demoHub.walk 0 (some kind) va = .leaf 0x1001862 0x10200) : demoHub.hubPage 0 kind va len pa :=
  demoHub_pageFrom 4 (Or.inr (by decide)) kind va len pa h0 hv hp hw

theorem witness_WorkQueues_checks :
    (demoQueue id).issues (.wqpush 20 30) = true ∧ (demoQueue id).issues (.wqpop 20 31) = true ∧ ((demoQueue id).g 31).toNat = 256
    ∧ ((demoQueue id).g 30).toNat = 3 ∧ ((demoQueue fun x => { x with phase := .unbound }).queue 3).phase = .unbound
    ∧ ((demoQueue id).slot 0).stop = none ∧ (demoQueue id).issues (.wqroom 22 30) = true := by decide

theorem witness_WorkQueues_push :
    let s := demoQueue fun x => { x with resv := [⟨0, 0, 2, 1⟩] }
    (s.queue 3).phase = .active ∧ (s.queue 3).ctx.toNat = (s.slot 0).act.inctag.toNat / 64 ∧ (s.queue 3).resv = [⟨0, 0, 2, 1⟩]
    ∧ (s.slot 0).seq.reqs = [] ∧ (s.slot 0).asy.stores = [] ∧ s.ringTag (s.queue 3) = 0 ∧ (s.queue 3).placeOf (s.queue 3).tail = 0x1020
    ∧ ((demoQueue fun x => { x with phase := .halted }).queue 3).phase = .halted := by decide

theorem witness_WorkQueues_waits (q : SeqState) : ¬ ({ demoHub.slot 0 with seq := { q with reqs := [⟨.store 4, 0, 0, 0, 22, 0, 0x100, 1, 0, 5, 6, .walk, 0, 0⟩] } } :
    Slot).released 1 := fun h => by
  have := h.1 _ (List.mem_singleton.mpr rfl) rfl
  simp [GReq.atPackage] at this

theorem witness_WorkQueues_released : (demoHub.slot 0).released 0 :=
  ⟨fun r hr => by simp [demoHub, demoSlot, demoRegs, State.slot, State.modSem, State.modCtx, State.modHub, State.modSlot, State.modRegs,
    State.reset, Tab.get, Tab.put, Slot.reset, SeqState.reset] at hr,
   fun c hc => by simp [demoHub, demoSlot, demoRegs, State.slot, State.modSem, State.modCtx, State.modHub, State.modSlot, State.modRegs,
    State.reset, Tab.get, Tab.put, Slot.reset, AsyState.reset] at hc⟩

theorem witness_WorkQueues_pages : demoHub.hubPage 0 .write 0x1020 32 0x11020 ∧ demoHub.hubPage 0 .read 0x1000 32 0x11000 :=
  ⟨demoHub_hubPage _ _ _ _ (by decide) (by decide) rfl (by decide), demoHub_hubPage _ _ _ _ (by decide) (by decide) rfl (by decide)⟩

theorem witness_WorkQueues_pop :
    let s := demoQueue id
    let t := (demoQueue fun x => { x with sleepers := [0] }).modSeq 0 fun y => { y with sleep := some (.wqpop 3 20) }
    (s.queue 3).sleepers = [] ∧ (s.queue 3).tail ≠ (s.queue 3).head ∧ (s.queue 3).feed = true ∧ s.issues (.wqpop 20 30) = true
    ∧ (s.queue 3).placeOf (s.queue 3).head = 0x1000 ∧ (t.queue 3).sleepers = [] ++ 0 :: [] ∧ (t.slot 0).stop = none
    ∧ (t.slot 0).mat.late = false ∧ (t.slot 0).seq.sleep = some (.wqpop 3 20) := by decide

theorem witness_WorkQueues_requests :
    let s := demoQueue fun x => { x with owners := [], tail := 0, commit := 0 }
    let t := { demoQueue fun x => { x with phase := .unbound } with cur := 3 }
    (s.queue 3).commit.toNat + 2 ≤ 2 ^ (s.queue 3).log2sz.toNat ∧ ¬ (s.queue 3).commit.toNat + 3 ≤ 2 ^ (s.queue 3).log2sz.toNat
    ∧ (1 ≤ (t.queue 3).log2sz.toNat ∧ (t.queue 3).log2sz.toNat ≤ 16 ∧ 4096 ∣ (t.queue 3).qbase.toNat
      ∧ 32 * 2 ^ (t.queue 3).log2sz.toNat ∣ (t.queue 3).qbase.toNat ∧ (t.ctx 0).phase ≠ .free)
    ∧ (t.modHub fun h => { h with dev := { h.dev with negotiated := true } }).hub.dev.negotiated = true
    ∧ (t.ctx 0).cimg.toNat + 32 < t.hbmEnd ∧ (s.queue 3).running = none ∧ (s.queue 3).resv = [] ∧ (s.queue 3).sleepers = [] := by decide

theorem witness_WorkQueues_records :
    let s := demoQueue fun x => { x with feed := false }
    let x := s.queue 3
    (x.phase = .active ∧ x.feed = false ∧ x.running = none ∧ x.tail ≠ x.head ∧ (s.ctx 0).phase = .resident ∧ (s.ctxWork 0).broadcasting = 0)
    ∧ (s.recordWord 0x11000 0).toNat = 0 ∧ malformed (fun k => if k = 0 then 3 else 0) ∧ ¬ malformed (fun _ => 0)
    ∧ ¬ malformed (fun k => if k = 0 then 2 else if k = 2 then 1 else 0) := by
  refine ⟨by decide, by decide, ?_, ?_, ?_⟩ <;> simp [malformed]

/-- Graph 5 of context 0: a node of the given record and phase, and a node that waits for it. -/
def demoNode (raw : Nat) (phase : NodePhase) : Node := { Node.fresh raw with phase := phase }
def demoGraphOf (raw : Nat) (phase : NodePhase) : Graph :=
  { root := 0, tag := 0, queue := some 3, parent := none, depth := 0, nodes := [demoNode raw phase, demoNode 0 .waiting],
    edges := [⟨0, 1, 0, 0, false⟩], launched := 0, firstBad := none, outcome := none, progress := false, awake := false }
def demoGraph (raw : Nat) (phase : NodePhase) : State :=
  { demoHub with cur := 5 }.modSpool fun p => { p with graphs := [(5, demoGraphOf raw phase)], nextId := 9 }

theorem demoGraph_takes (raw kind : Nat) (h : (BitVec.ofNat 512 raw).toNat % 256 = kind) :
    (demoGraph raw .ready).takes 5 0 kind (demoGraphOf raw .ready) (demoNode raw .ready) :=
  ⟨rfl, rfl, rfl, h, rfl, rfl, (by decide : demoHub.live 0 = true),
    (by decide : (demoHub.ctx ((0 : BitVec 18).toNat / 64)).phase = .resident),
    (by decide : (demoHub.ctxWork ((0 : BitVec 18).toNat / 64)).broadcasting = 0),
    (by decide : (demoHub.ctxWork ((0 : BitVec 18).toNat / 64)).leaving = false)⟩

set_option exponentiation.threshold 1024 in
theorem witness_Graphs_kinds : (BitVec.ofNat 512 (2 + 0x18 * 2 ^ 192)).toNat % 256 = 2 ∧ (BitVec.ofNat 512 (3 + 0x20 * 2 ^ 64)).toNat % 256 = 3
    ∧ (BitVec.ofNat 512 (4 + 0x20 * 2 ^ 64)).toNat % 256 = 4 := by decide

set_option exponentiation.threshold 1024 in
theorem witness_Graphs_nodes : (demoGraph 0 .ready).takes 5 0 0 (demoGraphOf 0 .ready) (demoNode 0 .ready)
    ∧ (demoGraph 1 .ready).takes 5 0 1 (demoGraphOf 1 .ready) (demoNode 1 .ready)
    ∧ (demoGraph (2 + 0x18 * 2 ^ 192) .ready).takes 5 0 2 (demoGraphOf (2 + 0x18 * 2 ^ 192) .ready) (demoNode (2 + 0x18 * 2 ^ 192) .ready)
    ∧ (demoGraph (3 + 0x20 * 2 ^ 64) .ready).takes 5 0 3 (demoGraphOf (3 + 0x20 * 2 ^ 64) .ready) (demoNode (3 + 0x20 * 2 ^ 64) .ready)
    ∧ (demoGraph (4 + 0x20 * 2 ^ 64) .ready).takes 5 0 4 (demoGraphOf (4 + 0x20 * 2 ^ 64) .ready) (demoNode (4 + 0x20 * 2 ^ 64) .ready) :=
  ⟨demoGraph_takes 0 0 (by decide), demoGraph_takes 1 1 (by decide), demoGraph_takes (2 + 0x18 * 2 ^ 192) 2 witness_Graphs_kinds.1,
    demoGraph_takes (3 + 0x20 * 2 ^ 64) 3 witness_Graphs_kinds.2.1, demoGraph_takes (4 + 0x20 * 2 ^ 64) 4 witness_Graphs_kinds.2.2⟩

set_option exponentiation.threshold 1024 in
theorem witness_Graphs_due : (demoNode (2 ^ 8) .due).phase = .due
    ∧ (((demoNode (2 ^ 8) .due).raw.toNat / 2 ^ 320 % 2 ^ 50 : Nat) : Int) ≤ ((demoGraph 0 .due).now / 2 ^ 14 : Nat)
      - (((demoGraph 0 .due).ctx 0).foff.toNat : Int) := ⟨rfl, by decide⟩

/-- A kernel entry of code object 0 with two tiles, which declares an entry of queue 3. -/
def demoKernel : KEntry :=
  { id := 0, base := 0, tag := 0, header := { Header.none with levels := [(2, 0)], qdecl := [(3, 1)] }, count := 0, stale := false, used := 0 }

theorem witness_Graphs_kernels : (demoKernel.header.levels.map (·.1)).prod ≠ 0 ∧ (demoNode 1 .ready).tiles = 0
    ∧ ((demoQueue fun x => { x with tail := 0, commit := 0 }).queue 3).phase = .active
    ∧ ((demoQueue fun x => { x with tail := 0, commit := 0 }).queue 3).commit.toNat + 1 ≤ 2 ^ 1
    ∧ ((demoQueue fun x => { x with commit := 2 }).queue 3).commit.toNat = 2 ∧ (demoKernel.header.qdecl.map (·.1)).Nodup := by decide

set_option exponentiation.threshold 1024 in
theorem witness_Graphs_begun : demoHub.diePresent 0 = true ∧ ∃ z, demoHub.begun (demoNode (1 + 2 * 2 ^ 40) .ready) 4 demoKernel z := by
  refine ⟨by decide, _, none, [0], [(0, 0, 2)], rfl, rfl, fun k d r h h' => ?_, fun h => absurd h (by decide), fun h => absurd h (by decide),
    fun _ => ⟨rfl, by decide⟩⟩
  match k with
  | 0 => cases h; cases h'; rfl
  | n + 1 => simp at h

/-- The header of a code object of one word with one level of two tiles, at 0x1000; a graph of one empty node at 0x2000. -/
def demoImages : State := { demoHub with
  mem := demoHub.mem ++ [⟨0x11000, 0x4B⟩, ⟨0x11001, 0x52⟩, ⟨0x11002, 0x4E⟩, ⟨0x11003, 0x4C⟩, ⟨0x11004, 1⟩, ⟨0x11006, 1⟩, ⟨0x1100D, 1⟩,
    ⟨0x1101D, 0x10⟩, ⟨0x11028, 16⟩, ⟨0x12000, 0x47⟩, ⟨0x12001, 0x52⟩, ⟨0x12002, 0x50⟩, ⟨0x12003, 0x48⟩, ⟨0x12004, 1⟩, ⟨0x12008, 0x40⟩,
    ⟨0x12009, 0x20⟩] }

set_option exponentiation.threshold 4096 in
set_option maxRecDepth 16000 in
theorem witness_Graphs_header : kernelHeaderBad (demoImages.number 0x11000 256) (fun _ => true) = none
    ∧ (Header.ofNat (demoImages.number 0x11000 256)).qdecl = [] ∧ (Header.ofNat (demoImages.number 0x11000 256)).tileCount ≠ 0
    ∧ kernelHeaderBad (demoHub.number 0x11000 256) (fun _ => true) = some 0 := by decide

theorem demoImages_page (va len pa : Nat) (h0 : 0 < len) (hv : va + len ≤ 65536) (hp : pa = 65536 + va)
    (hw : demoImages.walk 0 (some .read) va = .leaf 0x1001862 0x10200) : demoImages.hubPage 0 .read va len pa :=
  ⟨by omega, h0, by omega, by simp [demoImages, demoHub, demoSlot, demoRegs, State.modSem, State.modCtx, State.modHub, State.modSlot,
    State.modRegs, State.reset, Hub.reset], reaches_low (by omega) (Or.inr (by decide)), 0x1001862, 0x10200, hw, ⟨by decide, by decide, by decide⟩, by decide, by omega⟩

set_option exponentiation.threshold 1024 in
theorem witness_Graphs_launch : demoImages.graphAt 0 0x2000 [0] [] ∧ demoImages.graphRoom := by
  refine ⟨⟨by decide, 0x12000, 0x12040, demoImages_page _ _ _ (by decide) (by decide) rfl (by decide), by decide, by decide, by decide,
    ?_, fun i r h => ?_, fun h => absurd rfl h, rfl⟩, by unfold State.graphRoom; decide⟩
  · have h : demoImages.number 0x12000 64 / 2 ^ 64 % 2 ^ 64 = 0x2040 := by decide
    rw [h]
    exact demoImages_page _ _ _ (by decide) (by decide) rfl (by decide)
  · have : i = 0 := by
      match i with
      | 0 => rfl
      | n + 1 => simp at h
    subst this
    have : r = 0 := by simpa using h.symm
    subst this
    exact ⟨by decide, by decide⟩

theorem witness_Graphs_record : ¬ malformed (fun k => if k = 0 then 1 else if k = 1 then 0x2000 else 0) := by simp [malformed]

set_option exponentiation.threshold 1024 in
theorem witness_Graphs_copy :
    let r := (BitVec.ofNat 512 (2 + 0x1000 * 2 ^ 64 + 0x18 * 2 ^ 192)).toNat
    let k := 16 * 2 ^ 64
    winchKindOf (argOf r 2 % 64) = some .wfill ∧ argOf r 2 / 2 ^ 8 % 8 = 0 ∧ demoHub.diePresent 0 = true ∧ argOf r 0 = 0x1000
    ∧ (⟨.wfill, 0, 0, none, 0⟩ : WinchWord).skew k 0 = none := by decide

set_option exponentiation.threshold 1024 in
theorem witness_Graphs_control :
    let r (kind : Nat) : Nat := (BitVec.ofNat 512 (kind + 0x1000 * 2 ^ 64 + 0x2000 * 2 ^ 128 + 2 ^ 200)).toNat
    r 4 % 256 = 4 ∧ demoHub.number 0x11000 8 = 0 ∧ demoImages.number 0x11000 8 ≠ 0 ∧ argOf (r 4) 1 = 0x2000 ∧ argOf (r 5) 3 % 2 ^ 32 = 0
    ∧ argOf (r 6) 2 / 2 ^ 8 % 2 ^ 13 = 1 ∧ argOf (r 6) 2 / 2 ^ 21 % 2 = 0 ∧ (demoGraphOf 4 .ready).depth < 4
    ∧ 5 ≠ (demoGraph 4 .ready).hub.spool.nextId := by decide

theorem witness_Graphs_ends : ({ demoGraphOf 0 .ready with outcome := some (2, 1) } : Graph).endedAs 2 1
    ∧ ({ demoGraphOf 0 .ready with nodes := [] } : Graph).endedAs 0 0
    ∧ ({ demoGraphOf 0 .ready with nodes := [], firstBad := some ⟨false, 7, 0, 0⟩ } : Graph).endedAs 1 7
    ∧ (demoGraphOf 0 .ready).result = none := by
  refine ⟨Or.inl rfl, Or.inr (Or.inr ⟨rfl, rfl, rfl, rfl, by simp⟩), Or.inr (Or.inl ⟨rfl, _, rfl, rfl, rfl, by simp⟩), by decide⟩

/-- Node 0 of graph 5 hands out tiles of `demoKernel` on dies 0 and 1: die 0 has `lo` to 2 left. -/
def demoHands (lo : Nat) (f : Node → Node) : Node :=
  f { demoNode (1 + 2 * 2 ^ 40) .dispatching with
    kentry := 4, header := demoKernel.header, tiles := 4, ranges := [(0, lo, 2), (1, 2, 4)], shares := [(0, 0, 2), (1, 2, 4)], active := 1 }
def demoHandsGraph (y : Node) : Graph := { demoGraphOf 0 .ready with nodes := [y, demoNode 0 .waiting] }
def demoTiles (y : Node) : State :=
  (({ demoHub with cur := 5 }.modHub fun h => { h with dev := { h.dev with service := 2 } }).modSpool fun p => { p with
    graphs := [(5, demoHandsGraph y)], kernels := [(4, demoKernel)] }).modSlot 0 fun sl => { sl with busy := true }

def demoBusy : State := demoSlot.modSlot 0 fun sl => { sl with busy := true }

theorem witness_Groups_words : demoSlot.issues (.grpid 22 2) = true ∧ demoSlot.issues (.bandq 22 1) = true
    ∧ demoSlot.issues (.phase 22 1 1) = true ∧ demoSlot.issues (.phase 22 3 1) = true ∧ 2 ^ 16 ≤ (demoSlot.g 3).toNat
    ∧ (demoSlot.g 1).toNat < 2 ^ 16 ∧ (demoSlot.slot 0).stop = none ∧ (demoBusy.slot 0).busy = true ∧ (demoSlot.slot 1).busy = false
    ∧ (demoSlot.slot 0).grant < 16 ∧ (demoSlot.slot 0).demand < 16 := by
  refine ⟨by decide, by decide, by decide, by decide, by decide, by decide, by decide, by decide, by decide, by decide, by decide⟩

theorem demoTiles_hands (y : Node) (h : y.phase = .dispatching ∧ y.halt = none ∧ y.fail = none ∧ (y.ranges.map (·.1)).Nodup ∧ y.kentry = 4
    ∧ (y.header.levels.map (·.2)).Nodup ∧ ∀ p ∈ y.header.levels, p.2 < 6) : (demoTiles y).handsOut 5 0 (demoHandsGraph y) y demoKernel :=
  ⟨rfl, rfl, h.1, h.2.1, h.2.2.1, (by decide : demoHub.live 0 = true), (by decide : (demoHub.ctx ((0 : BitVec 18).toNat / 64)).phase = .resident),
    h.2.2.2.1, by rw [h.2.2.2.2.1]; rfl, h.2.2.2.2.2.1, h.2.2.2.2.2.2⟩

theorem witness_Groups_tiles : (demoTiles (demoHands 0 id)).handsOut 5 0 (demoHandsGraph (demoHands 0 id)) (demoHands 0 id) demoKernel
    ∧ (demoTiles (demoHands 2 id)).handsOut 5 0 (demoHandsGraph (demoHands 2 id)) (demoHands 2 id) demoKernel
    ∧ (0, 0, 2) ∈ (demoHands 0 id).ranges ∧ (0, 2, 2) ∈ (demoHands 2 id).ranges ∧ (1, 2, 4) ∈ (demoHands 2 id).ranges
    ∧ demoHub.diePresent 0 = true := by
  exact ⟨demoTiles_hands (demoHands 0 id) (by decide), demoTiles_hands (demoHands 2 id) (by decide), by decide⟩

theorem witness_Groups_slot : (demoTiles (demoHands 0 id)).nextSlot 0 (demoHands 0 id) 0 1
    ∧ (demoTiles (demoHands 2 id)).nextSlot 0 (demoHands 2 id) 0 1 := by
  refine ⟨⟨⟨by decide, fun t h => by cases h⟩, by decide, fun z h _ => ?_⟩, ⟨⟨by decide, fun t h => by cases h⟩, by decide, fun z h _ => ?_⟩⟩ <;>
  · have : z = 0 := by omega
    subst this
    decide

theorem witness_Groups_lines : 0 ∉ (demoHands 0 id).cleared
    ∧ ¬ (demoTiles (demoHands 0 id)).listed (demoHandsGraph (demoHands 0 id)) 0 ⟨0, 0, 0, 0⟩
    ∧ (demoTiles (demoHands 0 id)).listed { demoHandsGraph (demoHands 0 id) with edges := [⟨1, 0, 0x1000, 8, false⟩] } 0 ⟨0x11000, 0, 0, 0⟩ := by
  refine ⟨by decide, fun ⟨e, h, hd, _⟩ => ?_, ⟨1, 0, 0x1000, 8, false⟩, by simp, rfl, 0x1000, 0x1001862, 0x10200, by decide, by decide, by decide,
    by decide, by decide⟩
  simp [demoHandsGraph, demoGraphOf] at h
  simp [h] at hd

theorem witness_Groups_full (z : Nat) (_ : (demoHands 0 fun y => { y with header := { y.header with spBytes := 0x600001 } }).groupHas 0 z) :
    (demoTiles (demoHands 0 id)).fitsTile 0 0x600001 z = false := by
  unfold State.fitsTile State.roomFor
  have : ¬ 0x600001 + (if ((demoTiles (demoHands 0 id)).slot (beside z)).busy then
    ((demoTiles (demoHands 0 id)).slot (beside z)).act.splimit.toNat - ((demoTiles (demoHands 0 id)).slot (beside z)).act.spbase.toNat else 0)
      ≤ 0x600000 := by omega
  simp [this]

theorem witness_Groups_steal : dieDistance 0 1 = 1 ∧ 2 + 2 ≤ 4 ∧ ∀ r ∈ (demoHands 2 id).ranges, r.1 ≠ 0 → r.2.2 - r.2.1 < 4 - 2
    ∨ r.2.2 - r.2.1 = 4 - 2 ∧ (dieDistance 0 1 < dieDistance 0 r.1 ∨ dieDistance 0 1 = dieDistance 0 r.1 ∧ 1 ≤ r.1) := by decide

/-- Slot 0 holds bands 0 to `k` - 1, one of them by its grant, and wants 3. -/
def demoBands (k : Nat) : State := demoBusy.modSlot 0 fun sl =>
  { sl with grant := 1, extra := k - 1, demand := 3, act := { sl.act with bands := heldBands 0 k } }

theorem demoBands_ceiling (k : Nat) : (demoBands k).bandCeiling 0 3 := by
  have h : ¬ (((demoBands k).slot 0).withdraw ≠ 0 ∧ (demoBands k).bandAwaited 0) := fun h => h.1 rfl
  exact ⟨fun _ => rfl, fun g => absurd g h⟩

theorem witness_Groups_bands : ((demoBands 1).slot 0).busy = true ∧ ((demoBands 1).slot 0).act.bands.toNat / 2 ^ 8 < 3
    ∧ 1 ∈ (demoBands 1).openBands 0 ∧ ((demoBands 1).slot 1).busy = false ∧ ((demoBands 5).slot 0).act.bands.toNat / 2 ^ 8 = 5
    ∧ ((demoBands 5).slot 0).act.bands = heldBands 0 5 ∧ ((demoBands 5).slot 0).bandsTouched = 0 := by decide

/-- Slot 0 runs a tile of node 0 of graph 5 and stands at its END. -/
def demoEnd (y : Node) : State :=
  ({ demoTiles y with cur := 0 }.modSlot 0 fun sl => { sl with
    act := { sl.act with graph := 5, node := 0 }, seq := { sl.seq with pc := { sl.seq.pc with ended := true } },
    vec := { sl.vec with pc := { sl.vec.pc with ended := true } }, mat := { sl.mat with pc := { sl.mat.pc with ended := true } },
    asy := { sl.asy with pc := { sl.asy.pc with ended := true } } })

theorem witness_Groups_end : let s := demoEnd (demoHands 2 fun y => { y with phase := .draining })
    (s.slot 0).busy = true ∧ (s.slot 0).completed ∧ (s.slot 0).stop = none ∧ (s.slot 0).atEnd ∧ (s.slot 0).act.graph = 5
    ∧ (s.slot 0).act.node = 0 ∧ (s.slot 0).halt = none := by
  refine ⟨by decide, ⟨by decide, by decide, by decide, by decide, by decide, by decide, by decide, by decide, by decide, by decide, by decide⟩,
    by decide, ⟨by decide, by decide, by decide, by decide⟩, by decide, by decide, by decide⟩

/-- Slot 0 of context 0, with barrier 7 of a level in a phase; g1 holds 7, g20 256 and g3 0x40002. -/
def demoBarrier (level : BitVec 2) (phase : BPhase) (f : Barrier → Barrier) : State :=
  { demoHub with cur := 0 }.modBarrier 7 fun x => f { x with
    phase := phase, level := level, expect := 2, clsmask := 2, peermask := if level = 3 then 1 else 0 }

theorem witness_Barriers_faults : let s := demoBarrier 1 .armed id
    s.issues (.barr 22 20) = true ∧ s.issues (.bars 22 20) = true ∧ s.issues (.barw 22 3 1) = true ∧ (s.slot s.cur).stop = none
    ∧ 256 ≤ (s.g 20).toNat ∧ (s.g 1).toNat = 7 ∧ (s.g 3).toNat < 2 ^ 32 ∧ ((demoBarrier 1 .unbound id).barrier 7).phase = .unbound
    ∧ ((demoBarrier 1 .broken id).barrier 7).phase = .broken := by decide

theorem demoBarrier_open (level : BitVec 2) : (demoBarrier level .armed id).barrierOpen 7 := by
  refine ⟨by decide, rfl, (by decide : (0 : BitVec 12).toNat = (demoHub.slot 0).act.inctag.toNat / 64), ?_, ?_⟩
  · exact fun _ => (by decide : 0 / 16 = (0 : BitVec 5).toNat)
  · exact fun _ => (by decide : 0 / 80 = (0 : BitVec 3).toNat)

theorem demoBarrier_arrive (k : BitVec 9) : (demoBarrier 2 .armed fun x => { x with arr := k }).mayArrive 7 := by
  refine ⟨fun r h => ?_, ?_, ?_⟩
  · have : ((demoBarrier 2 .armed fun x => { x with arr := k }).slot 0).seq.reqs = [] := rfl
    have h' : r ∈ ((demoBarrier 2 .armed fun x => { x with arr := k }).slot 0).seq.reqs := h
    rw [this] at h'
    simp at h'
  · have : ((demoBarrier 2 .armed fun x => { x with arr := k }).barrier 7).arrived = [] := rfl
    rw [this]
    simp
  · exact ⟨rfl, fun h => absurd h (by simp [demoBarrier, demoHub, demoSlot, demoRegs, State.modBarrier, State.slot, State.modSem, State.modCtx, State.modHub, State.modSlot, State.modRegs, State.reset, Tab.get, Tab.put, Slot.reset, SeqState.reset])⟩

theorem witness_Barriers_arrivals : (((demoBarrier 2 .armed fun x => { x with arr := 1 }).barrier 7).arr + 1 = ((demoBarrier 2 .armed id).barrier 7).expect)
    ∧ ((demoBarrier 2 .armed id).barrier 7).arr + 1 ≠ ((demoBarrier 2 .armed id).barrier 7).expect
    ∧ ((demoBarrier 2 .armed id).barrier 7).caddr = 0 ∧ 0 ∈ ((demoBarrier 2 .armed fun x => { x with arrived := [0] }).barrier 7).arrived
    ∧ (let x := (demoBarrier 3 .armed id).barrier 7; x.peermask &&& ~~~x.reports ≠ 0)
    ∧ demoHub.walk 0 (some .atomic) 0x10000 = .fault 0x08 4 := by decide

theorem witness_Barriers_counter : let s := demoBarrier 2 .armed fun x => { x with caddr := 0x100 }
    s.hubPage (s.ctxTag 0) .atomic 0x100 4 0x10100 :=
  ⟨by decide, by decide, by decide, by
    have : ((demoBarrier 2 .armed fun x => { x with caddr := 0x100 }).hub.traps.walks) = [] := rfl
    rw [this]; simp, by decide, 0x1001862, 0x10200, by decide, ⟨by decide, by decide, by decide⟩, by decide, by decide⟩

theorem witness_Barriers_past : let x := (demoBarrier 2 .armed fun x => { x with gen := 0x40003 }).barrier 7
    (x.gen - BitVec.ofNat 32 0x40002 - 1).toNat < 2 ^ 31 ∧ ¬ (((demoBarrier 2 .armed id).barrier 7).gen - BitVec.ofNat 32 0x40002 - 1).toNat < 2 ^ 31 := by
  decide

theorem witness_Barriers_wake : let s := (demoBarrier 2 .armed fun x => { x with gen := 1 }).sleeping (.barrier 7 0 22 true)
    (s.slot s.cur).seq.sleep = some (.barrier 7 0 22 true) ∧ (s.slot s.cur).stop = none ∧ (s.slot s.cur).mat.late = false
    ∧ ((s.barrier 7).gen - BitVec.ofNat 32 0 - 1).toNat < 2 ^ 31 := by decide

theorem witness_Barriers_released : ({ demoHub with cur := 0 }).reqsNumbered ∧ ((demoBarrier 2 .armed id).barrier 7).heardAll
    ∧ ¬ ((demoBarrier 3 .armed id).barrier 7).heardAll ∧ ((demoBarrier 2 .armed id).barrier 7).adds = 0
    ∧ ((demoHub.sleeping (.broken 7)).slot demoHub.cur).seq.sleep = some (.broken 7) := by
  refine ⟨fun r h => ?_, fun h => absurd h (by decide), fun h => absurd (h rfl) (by decide), rfl, by decide⟩
  have : (({ demoHub with cur := 0 }).slot 0).seq.reqs = [] := rfl
  have h' : r ∈ (({ demoHub with cur := 0 }).slot 0).seq.reqs := h
  rw [this] at h'
  simp at h'

theorem witness_Barriers_commands : (demoBarrier 2 .unbound id).ctx 0 = (demoBarrier 2 .armed id).ctx 0
    ∧ ((demoBarrier 2 .unbound id).ctx 0).phase ≠ .free ∧ ((demoBarrier 2 .unbound id).barrier 7).expect.toNat = 2
    ∧ ((demoBarrier 2 .unbound id).barrier 7).peermask = 0 := by decide

theorem witness_Barriers_timeout : let x := (demoBarrier 3 .armed fun x => { x with localDone := true, tmo := 1, frames := 1 }).barrier 7
    x.phase = .armed ∧ x.level = 3 ∧ x.localDone = true ∧ x.tmo ≠ 0 ∧ x.tmo.toNat ≤ x.frames := by decide

theorem demoPort_arrives (kind arg : Nat) (h : (BitVec.ofNat 128 (9 * 2 ^ 96 + kind * 2 ^ 72 + arg)).toNat / 2 ^ 72 % 2 ^ 4 = kind)
    (ha : ∀ lo n, 64 ≤ lo → lo + n ≤ 72 ∨ 84 ≤ lo → (BitVec.ofNat 128 (9 * 2 ^ 96 + kind * 2 ^ 72 + arg)).toNat / 2 ^ lo % 2 ^ n = 9 * 2 ^ 96 / 2 ^ lo % 2 ^ n) :
    (demoPort demoHub).arrives (demoPacket kind arg []) kind 0 := by
  have h84 : partOf (demoPacket kind arg []) 84 6 = 0 := (ha 84 6 (by omega) (by omega)).trans (by decide)
  have h90 : partOf (demoPacket kind arg []) 90 6 = 0 := (ha 90 6 (by omega) (by omega)).trans (by decide)
  have h96 : partOf (demoPacket kind arg []) 96 32 = 9 := (ha 96 32 (by omega) (by omega)).trans (by decide)
  have h64 : partOf (demoPacket kind arg []) 64 8 = 0 := (ha 64 8 (by omega) (by omega)).trans (by decide)
  refine ⟨show 0 < 8 by decide, Or.inl rfl, fun h => absurd h (by simp [demoPacket]), h84, h, h90.trans (by decide), fun h => absurd h (by decide), ?_, ?_⟩
  · refine ⟨[], [], ((demoPort demoHub).ctx 0), by decide, ⟨by decide, by decide, ?_⟩, by simp⟩
    rw [h96]
    decide
  · rw [h64]
    exact ⟨{ faddr := 5, portmask := 1, keyidx := 0, enc := false, swkey := false, rank := 3 }, by decide, by simp⟩

theorem witness_Barriers_reports : let x := (demoPort (demoBarrier 3 .armed fun x => { x with localDone := true })).barrier 7
    x.listens 0 0 ∧ x.peermask &&& ~~~(x.reports ||| BitVec.ofNat 64 (2 ^ 0)) = 0
    ∧ partOf (demoPacket 4 (7 * 2 ^ 32) []) 32 8 = 7 ∧ partOf (demoPacket 4 (7 * 2 ^ 32) []) 0 32 = 0
    ∧ partOf (demoPacket 4 (7 * 2 ^ 32 + 1) []) 0 32 = 1 := by
  refine ⟨⟨rfl, rfl, rfl, by decide⟩, by decide, by decide, by decide, by decide⟩

theorem witness_Barriers_waitc : let s := { demoHub with cur := 0 }
    s.issues (.waitc 2 20 1) = true ∧ s.issues (.waitc 2 1 1) = true ∧ (s.slot s.cur).stop = none ∧ (s.g 20).toNat = 0x100 ∧ (s.g 1).toNat % 4 ≠ 0
    ∧ (s.g 1).toNat < 2 ^ 32 ∧ (s.slot s.cur).mat.late = false ∧ (0x1001862 : Nat) / 2 ^ 11 % 2 = 1 ∧ s.number 0x10100 4 = 0
    ∧ ¬ ((0 + 2 ^ 32 - 7) % 2 ^ 32 < 2 ^ 31) ∧ s.walk 0 (some .read) 0x100 = .leaf 0x1001862 0x10200
    ∧ s.walk 0 (some .read) 0x10000 = .fault 0x08 4 ∧ s.reaches 0 0x10100 = true := by decide

theorem witness_Barriers_watch : { demoHub with cur := 0 }.walksAfresh 0 0 0x100 :=
  ⟨by decide, by simp [demoHub, demoSlot, demoRegs, State.modSem, State.modCtx, State.modHub, State.modSlot, State.modRegs, State.reset, Hub.reset]⟩

theorem witness_Contexts_names : let s := { demoHub with cur := 0 }.modRegs 0 fun r => { r with g := r.g.put 20 0x1000 }
    s.issues (.rclf 22 20) = true ∧ s.issues (.rclf 22 0) = true ∧ s.issues (.incqry 22 20 1) = true ∧ s.issues (.incqry 22 0 20) = true
    ∧ s.issues (.yield 22) = true ∧ (s.slot s.cur).stop = none ∧ 2 ^ 12 ≤ (s.g 20).toNat ∧ (s.g 0).toNat = 0 ∧ (s.g 1).toNat = 7
    ∧ s.issues (.rclf 22 1) = true ∧ (s.ctx 0).priv = false ∧ (s.ctx 0).rclf = none := by decide

theorem witness_Contexts_mayName : { demoHub with cur := 0 }.mayName 0 := ⟨by decide, Or.inl (by decide), by decide⟩

/-- Context 0 in a state. -/
def demoCtx (phase : CtxPhase) (f : Ctx → Ctx) : State := { demoHub with cur := 0 }.modCtx 0 fun x => f { x with phase := phase }

theorem witness_Contexts_fences :
    let s := demoCtx .resident fun x => { x with rclf := some ⟨1, 0, [], false⟩ }
    let t := demoCtx .resident fun x => { x with rclf := some ⟨0, 0, [], false⟩ }
    (s.ctx 0).rclf = some ⟨1, 0, [], false⟩ ∧ (1 : BitVec 6) ≠ (s.ctx 0).inc ∧ (0 : BitVec 6) = (t.ctx 0).inc := by decide

/-- Context 0 Free, with an image at 0x80000 and features agreed on. -/
def demoFree : State :=
  let s := demoCtx .free fun x => { x with cimg := 0x80000, image := { x.image with bcount := 0, ptroot := 0 } }
  s.modHub fun h => { h with dev := { h.dev with negotiated := true } }

theorem demoFree_zero (k n : Nat) (h : 0x80000 ≤ k) : demoFree.number k n = 0 := by
  have hr : ∀ a, 0x80000 ≤ a → demoFree.mem.read a = 0 := by
    intro a ha
    have hm : demoFree.mem = [(0x4000, 0x01), (0x4001, 0x80), (0x8000, 0x01), (0x8001, 0xC0), (0xC000, 0x01), (0xC002, 0x01), (0x10000, 0x01),
      (0x10001, 0x02), (0x10002, 0x01), (0x10200, 0x62), (0x10201, 0x18), (0x10203, 0x01)] := rfl
    rw [hm]
    simp only [Bytes.read, Tab.get]
    repeat' (rw [if_neg (by omega)])
    rfl
  have hz : ∀ (f : Nat → Byte) (m : Nat), (∀ j, f j = 0) → numberAt f m = 0 := by
    intro f m hf
    have : f = fun _ => 0 := funext hf
    subst this
    unfold numberAt
    induction m with
    | zero => rfl
    | succ m ih => simp_all [List.range_succ]
  exact hz _ _ fun j => hr _ (by omega)

theorem witness_Contexts_image : demoFree.imageLegal 0 ∧ (demoFree.ctx 0).phase = .free ∧ demoFree.hub.dev.negotiated = true
    ∧ ¬ demoHub.hub.dev.negotiated = true := by
  have hc : (demoFree.ctx 0).cimg.toNat = 0x80000 := by decide
  have hi : demoFree.imageIn 0x80000 = { slice := 0, prio := 0, ptroot := 0, gcp := 0, bcount := 0, bfirst := 0, key := 0, tensorid := 0, stepno := 0, peertab := 0, job := 0, npeer := 0 } := by
    simp [State.imageIn, demoFree_zero]
  refine ⟨?_, by decide, by decide, by decide⟩
  unfold State.imageLegal
  simp only [hc, hi]
  refine ⟨by decide, by decide, ?_, ?_, ?_, ?_, ?_, ?_, ?_, ?_, ?_, ?_, by decide, by decide, by decide, by decide, by decide, by decide,
    by simp, by decide, by decide, fun p _ _ _ n h1 h2 => absurd h2 (by simp)⟩ <;> simp [demoFree_zero]

theorem witness_Contexts_load :
    let s := demoGraph 0 .ready
    let s := s.modCtx 0 fun x => { x with phase := .idle, cimg := 0x80000 }
    s.loadsNext 0 (s.ctx 0) ∧ ¬ 64 ≤ (s.hub.ctx.regs.filter fun p => decide (p.2.phase = .resident ∨ p.2.phase = .loading)).length := by
  refine ⟨⟨[], [], by decide, ⟨by decide, by decide, Or.inr ⟨(5, demoGraphOf 0 .ready), by simp [demoGraph, State.modCtx, State.modSpool, State.modHub],
    by decide, demoNode 0 .ready, by simp [demoGraphOf], Or.inl rfl⟩⟩, by simp, by simp⟩, by decide⟩

theorem witness_Contexts_moves :
    let s := (demoCtx .resident id).modCtxWork 0 fun w => { w with leaving := true }
    (s.ctx 0).phase = .resident ∧ (s.ctxWork 0).leaving = true ∧ (s.ctxWork 0).broadcasting = 0
    ∧ (∀ p ∈ s.slots, p.2.busy = true → p.2.act.inctag.toNat / 64 ≠ 0) ∧ s.hub.streams = [] ∧ (∀ p ∈ s.cores, p.2.commq = [])
    ∧ (s.ctxWork 0).killAt ≠ s.now + 1 ∧ ((demoCtx .saving fun x => { x with cimg := 0x80000 }).ctx 0).cimg.toNat + 16384 ≤ demoHub.hbmEnd
    ∧ ((demoCtx .loading id).ctx 0).phase = .loading ∧ (demoCtx .loading id).winches = [] := by decide

theorem witness_Contexts_kill :
    ((demoCtx .held fun x => { x with cimg := 0x80000 }).ctx 0).phase = .held
    ∧ (let s := (demoCtx .resident id).modSlot 0 fun sl => { sl with busy := true }
       (∃ sl, (0, sl) ∈ s.slots ∧ sl.busy = true ∧ sl.act.inctag.toNat / 64 = 0) ∧ (s.ctx 0).outst.toNat + (s.ctxWork 0).broadcasting < 63)
    ∧ (let s := (demoCtx .resident id).modCtxWork 0 fun w => { w with broadcasting := 1 }; 0 < (s.ctxWork 0).broadcasting) := by
  exact ⟨by decide, ⟨⟨((demoCtx .resident id).modSlot 0 fun sl => { sl with busy := true }).slot 0, List.mem_of_getElem? (i := 0) (by decide),
    by decide, by decide⟩, by decide⟩, by decide⟩

theorem witness_Contexts_confirm : let s := demoCtx .resident fun x => { x with rclf := some ⟨0, 0, [], false⟩ }
    s.fenceSeen 0 0 ∧ (s.ctx 0).rclf = some ⟨0, 0, [], false⟩ ∧ ((demoCtx .resident id).cutOff 0 0) := by
  refine ⟨⟨by decide, by decide⟩, by decide, fun p h i hi hp => ?_⟩
  interval_cases i <;> decide

/-- A record of slot 0, and a state whose table holds it and whose rings are on. -/
def demoFault (code : Nat) (seq : Option Nat) (pend : Bool) : FaultEntry :=
  { id := 3, seq := seq, winchCmd := none, walk := none, resolved := false, body := {
    code := code, who := .slot 0 .S, tag := some 0, warn := false, pending := pend, status := 0, addr := 0, cursor := 2 ^ 64 - 1, stamp := 5, mode := 0,
    widxS := 1, widxV := 1, widxM := 1, widxA := 1 } }

def demoTraps (f : FaultEntry) : State :=
  let on : Ring := { base := 0x100000, vector := 3, log2n := 6, killf := false, intr := true, en := true, tail := 0, head := 0, lost := 0 }
  let s := demoHub.modHub fun h => { h with traps := { h.traps with trap := on, event := { on with base := 0x200000 }, table := [f] } }
  s.modSlot 0 fun sl => { sl with busy := true, stop := some ⟨3, .S, f.body.code, false⟩ }

theorem witness_TrapsAndTrace_write : let s := demoTraps (demoFault 1 none true)
    s.hub.traps.trap.takes ∧ s.hub.traps.trap.nextAt + 64 ≤ demoHub.hbmEnd ∧ s.hub.traps.table = [] ++ demoFault 1 none true :: []
    ∧ (demoFault 1 none true).seq = none ∧ (demoFault 1 none true).winchCmd = none ∧ (demoFault 1 none false).body.pending = false
    ∧ ¬ State.reset.hub.traps.trap.takes := ⟨⟨by decide, by decide⟩, by decide, rfl, rfl, rfl, rfl, fun h => absurd h.1 (by decide)⟩

theorem witness_TrapsAndTrace_resolve : let s := demoTraps (demoFault 0x11 (some 9) true)
    s.hub.traps.table = [] ++ demoFault 0x11 (some 9) true :: [] ∧ (demoFault 0x11 (some 9) true).awaits 9
    ∧ (s.slots.map Prod.fst).Pairwise (· < ·) ∧ (demoFault 0x11 (some 9) true).resumable ∧ ¬ (demoFault 1 (some 9) true).resumable
    ∧ (s.slot 0).stoppedBy 3 ∧ s.hub.traps.trap.killf = false ∧ (s.ctx 0).phase ≠ .free :=
  ⟨rfl, ⟨by decide, rfl, rfl⟩, by decide, Or.inr (Or.inl rfl), by simp [FaultEntry.resumable, demoFault], ⟨_, rfl, rfl, rfl⟩, by decide, by decide⟩

set_option exponentiation.threshold 1024 in
theorem witness_TrapsAndTrace_winch : let s := demoWinch (demoMove .wcopy 0 0 .held)
    (s.winch 0).queue = [] ++ demoMove .wcopy 0 0 .held :: [] ∧ (s.ctx ((demoMove .wcopy 0 0 .held).tag.toNat / 64)).phase = .resident := ⟨rfl, rfl⟩

theorem witness_TrapsAndTrace_control : let s := demoTraps (demoFault 1 none true)
    s.hub.traps.trap.en = true ∧ State.reset.hub.traps.trap.en = false ∧ (0x80001 : BitVec 64).getLsbD 0 = true
    ∧ 6 ≤ (0x80001 : BitVec 64).toNat / 2 ^ 16 % 2 ^ 5 ∧ 64 * 2 ^ ((0x80001 : BitVec 64).toNat / 2 ^ 16 % 2 ^ 5) ∣ State.reset.hub.traps.trap.base.toNat
    ∧ ¬ 6 ≤ (1 : BitVec 64).toNat / 2 ^ 16 % 2 ^ 5 := by decide

theorem witness_TrapsAndTrace_trigger :
    let s := { demoTraps (demoFault 1 none true) with cur := 0 }.modCore 0 fun c => { c with trace := { c.trace with tkind := 1, hit := some 1 } }
    let u := s.modCore 0 fun c => { c with trace := { c.trace with post := some ⟨1, 1, 0, 0⟩ } }
    let t := (s.core 0).trace
    t.hit = some 1 ∧ t.frozen = false ∧ t.post = none ∧ t.tbaddr.toNat + 65536 ≤ demoHub.hbmEnd
    ∧ (u.core 0).trace.post = some ⟨1, 1, 0, 0⟩ ∧ (u.core 0).trace.frozen = false ∧ u.hub.traps.event.en = true
    ∧ u.hub.traps.event.nextAt + 64 ≤ demoHub.hbmEnd := by decide

theorem witness_TrapsAndTrace_settles :
    let f := { demoFault 8 none false with winchCmd := some (0, 3), walk := some ⟨0, 1⟩, body := { (demoFault 8 none false).body with who := .winch 0 } }
    f.settles ∧ ¬ (demoFault 1 none true).settles ∧ ∀ n e, f.body.who ≠ .slot n e :=
  ⟨⟨rfl, rfl, Or.inl (by decide)⟩, fun h => absurd h.1 (by decide), fun _ _ h => nomatch h⟩

theorem witness_Packets_drops :
    let p := demoPacket 0 0 []
    let late : Arrival := ⟨0, false, false, BitVec.ofNat 128 (9 * 2 ^ 96 + 2 ^ 90), []⟩
    let old : Arrival := ⟨0, false, false, BitVec.ofNat 128 (9 * 2 ^ 96 + 63 * 2 ^ 90), []⟩
    (demoPort demoHub).carries (9 + p.port) ∧ ¬ demoHub.carries 9 ∧ partOf p 84 6 = 0 ∧ partOf p 72 4 = 0
    ∧ partOf (demoPacket 9 0 []) 72 4 = 9 ∧ (∀ x ∈ demoHub.hub.ctx.regs, ¬ x.2.ofJob 9) ∧ ((demoPort demoHub).ctx 0).ofJob (partOf p 96 32)
    ∧ (partOf late 90 6 + 64 - ((demoPort demoHub).ctx 0).inc.toNat) % 64 = 1 ∧ (partOf old 90 6 + 64 - ((demoPort demoHub).ctx 0).inc.toNat) % 64 = 63
    ∧ ((demoPort demoHub).ctx 0).phase ≠ .free := by
  refine ⟨Or.inl rfl, ?_, by decide, by decide, by decide, ?_, ⟨by decide, by decide, by decide⟩, by decide, by decide, by decide⟩
  · rintro (h | h) <;> exact absurd h (by decide)
  · intro x hx h
    have hn : ∀ x ∈ demoHub.hub.ctx.regs, x.2.image.npeer = 0 := by decide
    exact h.2.1 (hn x hx)

/-- A RECV of two F32 elements from peer 0, started on stream 2, whose peer's check has not come. -/
def demoAwait : State := (demoPort demoHub).modStream 2 fun x => { x with run := some (demoRun demoRecv true [] (some []) []) }

set_option exponentiation.threshold 1024 in
theorem witness_Packets_data : let p := demoPacket 0 4 [0, 0, 0, 0, 0, 0, 1, 0, 1, 2, 3, 4]
    demoAwait.awaitsFrom p 5 0 2 false (demoRun demoRecv true [] (some []) []) ∧ demoRecv.width = 4 ∧ demoRecv.count = 2
    ∧ partOf p 0 64 = 4 ∧ (bodyOf p).length = 4 ∧ numberIn p 6 2 = 1 ∧ demoRecv.kind < 8 ∧ 0 ∈ demoRecv.awaits
    ∧ numberIn (demoPacket 0 0 [0, 0, 0, 0, 0, 0, 2, 0]) 6 2 / 2 % 2 = 1 := by
  refine ⟨⟨rfl, by decide, by decide, by decide, ?_⟩, by decide, by decide, by decide, by decide, by decide, by decide, by decide, by decide⟩
  rw [if_pos (by decide)]
  decide

theorem witness_Packets_held : ¬ (demoPort demoHub).holdsData (demoPacket 1 0 []) 0
    ∧ (demoAwait.modStream 2 fun x => { x with run := some { demoRun demoRecv true [] (some []) [] with took := [(0, 0, 0)] } }).holdsData
      (demoPacket 1 0 []) 0 := by
  refine ⟨fun ⟨x, hx, _⟩ => ?_, (2, _), List.mem_singleton.mpr rfl, _, Or.inl rfl, by decide, rfl, by decide⟩
  have : (demoPort demoHub).hub.streams = [] := rfl
  rw [this] at hx
  simp at hx

theorem witness_Packets_release : let s := demoPort demoHub
    let p := demoPacket 1 (7 + 2 ^ 13 + 5 * 2 ^ 32) []
    partOf p 13 1 = 1 ∧ partOf p 0 12 = 7 ∧ partOf p 32 32 = 5 ∧ (s.sem 7).en = true ∧ (s.sem 7).ctx.toNat = 0 ∧ (s.sem 7).mirror = 0
    ∧ (s.sem 9).en = false ∧ partOf (demoPacket 1 7 []) 13 1 = 0 := by decide

theorem witness_Packets_fences : let s := (demoPort demoHub).modCtx 0 fun x => { x with rclf := some ⟨0, 0, [0], false⟩ }
    s.fenceSeen 0 0 ∧ partOf (demoPacket 2 0 []) 0 64 % 64 = 0 ∧ (s.ctx 0).rclf = some ⟨0, 0, [0], false⟩
    ∧ partOf (demoPacket 3 0 []) 0 64 = 0 := ⟨⟨by decide, by decide⟩, by decide, by decide, by decide⟩

theorem witness_Packets_expiry :
    let p : Packet := { ctx := 0, peer := 0, job := 9, src := 0, inc := 0, cls := 0, stream := 2, kind := .data, arg := 0, cmd := 0, payload := [], frames := 1024 }
    let s := demoAwait.modHub fun h => { h with sent := [p] }
    s.hub.sent[0]? = some p ∧ 1024 ≤ p.frames ∧ s.laneRun 2 false = some (demoRun demoRecv true [] (some []) [])
    ∧ (demoRun demoRecv true [] (some []) []).cmd.num = p.cmd ∧ s.laneRun 2 true = none := ⟨rfl, by decide, rfl, rfl, rfl⟩

/-- Link `l` is current, in a phase. -/
def demoLink (l : Nat) (f : Link → Link) : State := { demoHub with cur := l }.modLink l f

theorem witness_LinksAndClock_links :
    let s := demoLink 9 fun x => { x with phase := .training, attempts := 2 }
    let t := demoLink 0 fun x => { x with phase := .training, attempts := 2 }
    let u := demoLink 9 fun x => { x with phase := .degraded }
    (s.link 9).phase = .training ∧ laneCount 9 / 2 ≤ 4 ∧ 4 ≤ laneCount 9 ∧ 2 ≤ (s.link 9).attempts ∧ laneCount 8 = 16 ∧ laneCount 3 = 2
    ∧ (t.link 0).phase = .training ∧ 2 ≤ (t.link 0).attempts ∧ (u.link 9).phase = .degraded ∧ (demoHub.link 9).phase ≠ .training
    ∧ (let k := t.modHub fun h => { h with dev := { h.dev with stage := 3 } }; k.hub.dev.stage ≠ 0 ∧ k.hub.dev.stage ≤ 3) := by decide

/-- No link has trained. -/
def demoDark : State := demoHub.modHub fun h => { h with links := [] }

theorem demoDark_unjoined (d : Nat) : ¬ demoDark.Joined d := by
  have h : ∀ l, (demoDark.link l).phase = .down := fun _ => rfl
  intro hd
  induction hd with
  | hub d _ h1 _ => exact h1 (h d)
  | up d _ h1 _ _ => exact h1 (h _)
  | back d _ _ h1 _ _ => exact h1 (h _)

theorem witness_LinksAndClock_lost : ¬ demoDark.Joined 0 ∧ (demoDark.die 0).lost = false
    ∧ (demoDark.modSlot 0 fun sl => { sl with busy := true }).onDie 0 0 ∧ (demoDark.ctx 0).phase ≠ .free
    ∧ (demoDark.ctxWork 0).killAt ≠ demoDark.now + 1 :=
  ⟨demoDark_unjoined 0, by decide, Or.inl ⟨(0, (demoDark.modSlot 0 fun sl => { sl with busy := true }).slot 0),
    List.mem_of_getElem? (i := 0) (by decide), by decide, by decide, by decide⟩, by decide, by decide⟩

theorem witness_LinksAndClock_joined : (demoLink 0 fun x => { x with phase := .up }).Joined 0 :=
  .hub 0 (by decide) (by decide) (by decide)

theorem witness_LinksAndClock_host :
    let s := (demoLink 8 fun x => { x with phase := .up }).modHub fun h => { h with ep := { h.ep with windows := [(0, ⟨1, false, true⟩)] } }
    let w := Tab.get Window.reset s.hub.ep.windows (64 / 2 ^ 30)
    s.carries 8 ∧ w.en = true ∧ w.phys.toNat * 2 ^ 30 + 64 % 2 ^ 30 < s.hbmEnd ∧ ¬ demoHub.carries 8 :=
  ⟨Or.inl rfl, by decide, by decide, fun h => by rcases h with h | h <;> exact absurd h (by decide)⟩

theorem witness_LinksAndClock_wall :
    let s := { (demoLink 9 fun x => { x with phase := .up }) with cur := 0 }.modHub fun h => { h with wall := { h.wall with en := true, time := 5, phase := .locked } }
    demoHub.hub.wall.phase = .stopped ∧ s.hub.wall.phase = .locked ∧ s.hub.wall.en = true ∧ s.hub.wall.port.toNat = s.cur ∧ s.carries (9 + s.cur)
    ∧ (5 : BitVec 64).toNat + 1000000 < (2000000 : BitVec 64).toNat ∧ (4 : BitVec 64) < 5 :=
  ⟨by decide, by decide, by decide, by decide, Or.inl rfl, by decide, by decide⟩

/-- A frame has passed: 64 contexts are resident, of which context 3 asks to yield, and context 64 waits with a record in queue 5. -/
def demoFull : State :=
  let ctx (n : Nat) : Ctx := { Ctx.reset with phase := .resident, yieldreq := n == 3 }
  { demoHub with stamp := 2 ^ 14 }.modHub fun h => { h with
    ctx := { h.ctx with regs := ((List.range 64).map fun n => (n, ctx n)) ++ [(64, { Ctx.reset with phase := .idle })] }
    queues := [(5, { WorkQueue.reset with phase := .active, ctx := 64, tail := 1 })] }

theorem witness_FramesAndWatchdogs_full :
    demoFull.hub.frame < demoFull.now / 2 ^ 14 ∧ State.reset.now / 2 ^ 14 ≤ State.reset.hub.frame
    ∧ 64 ≤ (demoFull.hub.ctx.regs.filter fun p => p.2.phase == .resident).length ∧ demoFull.hub.dev.stage ≠ 6 ∧ (demoFull.ctx 3).yieldreq = true
    ∧ (demoFull.ctx 3).phase = .resident ∧ (demoFull.ctxWork 3).leaving = false ∧ (demoFull.ctx 4).yieldreq = false := by
  refine ⟨by decide, by decide, by decide, by decide, by decide, by decide, by decide, by decide⟩

theorem witness_FramesAndWatchdogs_waits : demoFull.loadsNext 64 { Ctx.reset with phase := .idle } := by
  refine ⟨(List.range 64).map fun n => (n, { Ctx.reset with phase := .resident, yieldreq := n == 3 }), [], rfl, ⟨rfl, by decide, Or.inl ?_⟩, ?_, by simp⟩
  · exact ⟨(5, { WorkQueue.reset with phase := .active, ctx := 64, tail := 1 }), List.mem_of_getElem? (i := 0) rfl, by decide, by decide, by decide⟩
  · intro p hp hw
    obtain ⟨n, -, rfl⟩ := List.mem_map.1 hp
    exact absurd hw.1 (by simp)

/-- A queue whose record has launched graph 5 has reached its limit of two frames. -/
def demoExpired : State :=
  (demoGraph 0 .ready).modHub fun h => { h with
    queues := [(4, { WorkQueue.reset with phase := .active, running := some 5, wdogLim := 2, wdogCnt := 2, expired := true })] }

theorem witness_FramesAndWatchdogs_expired : let s := { demoExpired with cur := 4 }
    (s.queue 4).expired = true ∧ (s.queue 4).phase = .active ∧ (∀ p ∈ s.hub.queues, p.2 = s.queue p.1) ∧ (s.ctx 0).phase ≠ .free
    ∧ (s.graph 5).isSome = true ∧ Tab.find s.hub.queues 4 = some (s.queue 4) ∧ (s.queue 4).running ≠ none ∧ (s.queue 4).wdogLim ≠ 0 := by
  refine ⟨by decide, by decide, ?_, by decide, by decide, by decide, by decide, by decide⟩
  intro p hp
  have : p = (4, demoExpired.queue 4) := by simpa [demoExpired, State.modHub, State.queue, Tab.get] using hp
  rw [this]
  rfl

theorem witness_FramesAndWatchdogs_stalled : ∃ x, (5, x) ∈ demoExpired.hub.spool.graphs ∧ x.progress = false
    ∧ ∀ p ∈ demoExpired.hub.spool.graphs, p.2.progress = false := by
  refine ⟨demoGraphOf 0 .ready, List.mem_of_getElem? (i := 0) rfl, by decide, ?_⟩
  intro p hp
  have : p = (5, demoGraphOf 0 .ready) := by simpa [demoExpired, demoGraph, State.modHub, State.modSpool] using hp
  rw [this]
  decide

/-- The package in a stage of its bring-up. -/
def demoStage (stage : BitVec 4) (f : DeviceCtl → DeviceCtl) : State := demoHub.modHub fun h => { h with dev := f { h.dev with stage := stage } }

theorem witness_BringUp_stages :
    (demoStage 0 id).hub.dev.stage = 0 ∧ ((demoLink 0 fun x => { x with phase := .up }).modHub fun h => { h with dev := { h.dev with stage := 3 } }).hub.dev.stage = 3
    ∧ (let s := demoStage 5 fun d => { d with agreed := 1 }; s.hub.dev.stage = 5 ∧ s.hub.dev.agreed.getLsbD 0 = true)
    ∧ (∀ p ∈ State.reset.hub.ctx.regs, p.2.phase = .free) ∧ (demoHub.ctx 0).phase ≠ .free ∧ demoHub.hub.nv.leaf.toNat < 2 ^ 15
    ∧ 2 ^ 20 ∣ demoHub.hub.frame := by
  refine ⟨by decide, by decide, by decide, ?_, by decide, by decide, by decide⟩
  simp [State.reset, Hub.reset]

theorem witness_BringUp_trained : ∀ l, 1 ≤ l → l ≤ 7 →
    ((List.range 8).foldl (fun s l => s.modLink l fun x => { x with phase := .up }) demoHub).carries l := by
  intro l h1 h7
  interval_cases l <;> exact Or.inl (by decide)

set_option exponentiation.threshold 4096 in
theorem witness_BringUp_image : ((demoStage 1 id).imageFaults ⟨0, []⟩ 0).head? = some 4 := by decide

theorem witness_BringUp_asked :
    let s := demoHub.modHub fun h => { h with attest := { h.attest with asked := some 5 } }
    s.hub.attest.asked = some 5 ∧ demoHub.hub.attest.asked = none ∧ s.hub.nv.leaf.toNat < 2 ^ 15 ∧ demoHub.hub.dev.junction < 125
    ∧ (demoHub.ctxWork 0).killAt ≠ demoHub.now + 1 := by decide

theorem witness_Registers : let s := demoLink 8 fun x => { x with phase := .up }
    s.carries 8 ∧ ¬ demoHub.carries 8 ∧ s.cur < 17 :=
  ⟨Or.inl rfl, fun h => by rcases h with h | h <;> exact absurd h (by decide), by decide⟩

/-! ### Worked examples of the spec -/

/-- The state that an answer gives. -/
def nextOf : Out → State
  | .next s => s
  | _ => State.reset

/-- Rounding of 1.25 to E2M1, of 500 to E4M3 and E5M2, and of 2^-20 (02, the table after R40). -/
theorem test_round : let q := ofF32 0x3FA00000
    (roundTo (fmtAt 7) .rne 0 true q).code = 2 ∧ (roundTo (fmtAt 7) .rup 0 true q).code = 3 ∧ (roundTo (fmtAt 7) .sr 0x80000000 true q).code = 3
    ∧ (roundTo (fmtAt 7) .sr 0x7FFFFFFF true q).code = 2 ∧ (roundTo (fmtAt 4) .rne 0 true (ofF32 0x43FA0000)).code = 0x7E
    ∧ (roundTo (fmtAt 3) .rne 0 false (ofF32 0x43FA0000)).code = 0x60 ∧ (roundTo (fmtAt 4) .rne 0 true (ofF32 0x35800000)).uf = true := by
  decide

/-- ADD and SUB wrap; ADDI sign-extends: LUI and ADDI build 0x12345678 (05 R115, the example of LUI). -/
theorem test_alu :
    ((nextOf (exec (.sub 3 2 1) demoRegs)).slot 0).regs.getG 3 = 0xFFFFFFFFFFFFFFFE
    ∧ ((nextOf (exec (.lui 25 0x12345) demoRegs)).slot 0).regs.getG 25 = 0x12345000
    ∧ ((nextOf (exec (.addi 3 2 0xFFF) demoRegs)).slot 0).regs.getG 3 = 4 := by decide

/-- CMPI.GEN c0, g7, -1 holds only for the largest register (05, the example of CMPI). -/
theorem test_cmpi : let s := demoRegs.modRegs 0 fun r => { r with g := [(7, 0xFFFFFFFFFFFFFFFF)] }
    ((nextOf (exec (.cmpi 5 0 7 0xFFF) s)).slot 0).regs.getC 0 = true ∧ ((nextOf (exec (.cmpi 5 0 7 0xFFF) demoRegs)).slot 0).regs.getC 0 = false := by
  decide

set_option exponentiation.threshold 1024 in
/-- Word 0 of the record of the page fault (18, the example of a page fault). -/
theorem test_record : let r : Record := { (demoFault 8 none true).body with who := .slot 7 .A, tag := some 0x304 }
    r.bits 5 true % 2 ^ 64 = 0x00050408301C0304 ∧ recordNumber r 5 true % 2 ^ 64 = 0x00050408301C0304 := by decide

/-- A driver that writes 0x7F in stage 4 obtains 0x7C (19, the example of R430). -/
theorem test_features :
    let s := (State.reset.withDev { State.reset.hub.dev with stage := 3 }).modLink 0 fun x => { x with phase := .up }
    let t := nextOf (exec (.cd0Trained true) s)
    t.hub.dev.devfeat = 0x7C ∧ (nextOf (exec (.drvfeatWrite 0x7F) t)).hub.dev.agreed = 0x7C := by decide

/-- A packet of incarnation 3 is stale at incarnation 4 (16, the example of a kill across two packages). -/
theorem test_stale : let s := (demoPort demoHub).modCtx 0 fun x => { x with inc := 4 }
    ((nextOf (exec (.packetData ⟨0, false, false, BitVec.ofNat 128 (9 * 2 ^ 96 + 3 * 2 ^ 90), []⟩) s)).ctx 0).stale = 1 := by decide

set_option exponentiation.threshold 1024 in
/-- Bytes 0 to 7 of an all-reduce of F32 elements, TAG 0x0042, SETEN, SSEM 7 (17, the example of R387). -/
theorem test_tether : let d := demoTether 0x0000070100420001
    d.kind = 1 ∧ d.tagId = 0x42 ∧ d.setEn = true ∧ d.ssem = 7 ∧ d.op = 0 := by decide

/-- A key and a counter of zeros draw zero (02, the example of R47). -/
theorem test_draw : ctrDraw 0 0 0 0 0 = 0 := by decide

/-- The third failed attempt in a row fails the link (16 R364). -/
theorem test_link : ((nextOf (exec .linkTrainingFailed (demoLink 9 fun x => { x with phase := .training, attempts := 2 }))).link 9).phase = .failed
    ∧ ((nextOf (exec .linkTrainingFailed (demoLink 9 fun x => { x with phase := .training, attempts := 1 }))).link 9).phase = .training := by decide

/-- A doorbell that fits is accepted, and one that does not counts in REFUSED (12 R293). -/
theorem test_doorbell : let s := { demoQueue id with cur := 3 }
    ((nextOf (exec (.queueDoorbell 1) s)).queue 3).tail = 2 ∧ ((nextOf (exec (.queueDoorbell 2) s)).queue 3).refused = 1 := by decide

/-- A write of TRCTL with LOG2N 5 is ignored as a whole (18 R410). -/
theorem test_ring : (nextOf (exec (.trapRingControlWrite false 0x50003) State.reset)).hub.traps.trap.en = false
    ∧ (nextOf (exec (.trapRingControlWrite false 0x60003) State.reset)).hub.traps.trap.en = true := by decide

end Sys2Proof.Machine
end

section
/-!
CERTIFICATES of the family 00_scope: no step is refused (R8), the reads and writes of the hub's registers (00 R6, R7; log 75), and reset,
bring-up, features, attestation and power (19 R424-R434).
-/

namespace Sys2Proof.Machine

/-! ### Every instruction has a meaning -/

/-- No arm of the dispatch refuses: each answers a next state. -/
theorem exec_next (i : Instr) (s : State) : ∃ t, exec i s = .next t := by
  cases i <;> exact ⟨_, rfl⟩

/-- The contest for the vector engine only chooses which of two words is executed. -/
theorem State.runVector_next (s : State) (slot : Nat) (i : Instr) : ∃ t, s.runVector slot i = .next t := by
  unfold State.runVector
  split
  · exact exec_next i s
  · split
    · dsimp only
      split
      · exact exec_next i _
      · split
        · exact exec_next _ _
        · exact ⟨_, rfl⟩
    · exact exec_next i s

theorem State.engineMove_next (s : State) (slot : Nat) (e : Engine) : ∃ t, s.engineMove slot e = .next t := by
  unfold State.engineMove
  split
  · exact ⟨_, rfl⟩
  · exact ⟨_, rfl⟩
  · split
    · exact State.runVector_next _ _ _
    · exact exec_next _ _

theorem State.packageStep_next (s : State) (unit : Nat) (i : Instr) : ∃ t, s.packageStep unit i = .next t := by
  unfold State.packageStep
  split
  · exact s.engineMove_next _ _
  · exact s.engineMove_next _ _
  · split
    · exact ⟨_, rfl⟩
    · exact exec_next i _

theorem State.make_next (s : State) (m : Move) : ∃ t, s.make m = .next t := by
  cases m with
  | engine slot e => exact s.engineMove_next slot e
  | tick => exact ⟨_, rfl⟩
  | event unit i => exact s.packageStep_next unit i
  | drop d => exact ⟨_, rfl⟩

/-- A move of the free schedule is made at its place, or the cycle goes on. -/
theorem State.advance_step_next (s : State) (m : Move) (place : Option Nat) : ∃ t, State.advance.step_ s m place = .next t := by
  unfold State.advance.step_
  split
  · split
    · exact State.make_next _ m
    · exact ⟨_, rfl⟩
  · exact ⟨_, rfl⟩

theorem State.advance_next (s : State) (m : Move) : ∃ t, s.advance m = .next t := by
  unfold State.advance
  dsimp only
  split
  · exact ⟨_, rfl⟩
  · rcases s.dueSteps with _ | ⟨d, _⟩
    · exact s.advance_step_next m _
    · dsimp only
      split_ifs
      · exact State.make_next _ d
      · exact s.advance_step_next m _

/-- Settling a next state answers it, or the fault that it carries. -/
theorem settle_next_ne_refused (t : State) (r : Refusal) : settle (.next t) ≠ .refused r := by
  cases h : t.stuck <;> simp [settle, h]

/-- Settles O5: each kind of move answers a next state, since every arm of the dispatch does. -/
theorem stepNeverRefuses : Obligations.StepNeverRefuses := by
  intro s r
  unfold step
  split
  · simp
  · split
    · next m rest _ =>
      obtain ⟨t, ht⟩ := State.make_next { s with agenda := rest } m
      rw [ht]
      exact settle_next_ne_refused t r
    · obtain ⟨t, ht⟩ := State.advance_next { s with free := s.free + 1 } (Config.nextMove s.free)
      rw [ht]
      exact settle_next_ne_refused t r

/-! ### Numbers and bits of registers -/

theorem toBytes_eq_bytesOf (n v : Nat) : toBytes n v = bytesOf n v := by
  induction n generalizing v with
  | zero => rfl
  | succ n ih =>
    have shift (j : Nat) : v / 256 / 2 ^ (8 * j) = v / 2 ^ (8 * (j + 1)) := by
      rw [Nat.div_div_eq_div_mul, Nat.mul_succ, Nat.pow_add, Nat.mul_comm]
    simp [toBytes, ih, bytesOf, List.range_succ_eq_map, Function.comp_def, shift]

theorem bitN_eq_toNat (b : Bool) : bitN b = b.toNat := by cases b <;> rfl

theorem bitAt_toNat {w : Nat} (v : BitVec w) (i : Nat) : bitAt v.toNat i = v.getLsbD i := by
  rw [BitVec.getLsbD, Nat.testBit_eq_decide_div_mod_eq]
  rfl

theorem QPhase.code_eq_idxOf (p : QPhase) : p.code = [QPhase.unbound, .active, .halted].idxOf p := by cases p <;> rfl

theorem BPhase.code_eq_idxOf (p : BPhase) : p.code = [BPhase.unbound, .armed, .broken].idxOf p := by cases p <;> rfl

theorem LinkPhase.code_eq_idxOf (p : LinkPhase) : p.code = [LinkPhase.down, .training, .up, .degraded, .failed].idxOf p := by
  cases p <;> rfl

theorem CtxPhase.code_eq_stateNumber (p : CtxPhase) : p.code = stateNumber p := by cases p <;> rfl

theorem State.linkUp_iff (s : State) (l : Nat) : s.linkUp l = true ↔ s.carries l := by simp [State.linkUp, State.carries]

theorem State.hostUp_eq_false {s : State} (h : ¬ s.carries 8) : s.hostUp = false := by
  simpa [State.hostUp] using mt (s.linkUp_iff 8).mp h

/-! ### Where registers stand -/

/-! A block of registers begins where the tests of hubReg before its own all fail. The offsets are written as block, register and unit. -/

theorem hubReg_dev (r : Nat) (h : r < 0x60 := by decide) : hubReg r = some (.dev r) := if_pos h

theorem hubReg_queue (r : Nat) {q : Nat} (hq : q < 256) (hr : r < 64 := by decide) : hubReg (0x40000 + r + 64 * q) = some (.queue q r) := by
  unfold hubReg
  rw [if_neg (by omega), if_pos (by omega)]
  congr 2 <;> omega

theorem hubReg_barrier (r : Nat) {b : Nat} (hb : b < 256) (hr : r < 64 := by decide) : hubReg (0x60000 + r + 64 * b) = some (.barrier b r) := by
  unfold hubReg
  iterate 3 rw [if_neg (by omega)]
  rw [if_pos (by omega)]
  congr 2 <;> omega

theorem hubReg_stream (r : Nat) {n : Nat} (hn : n < 16) (hr : r < 64 := by decide) : hubReg (0x70000 + r + 64 * n) = some (.stream n r) := by
  unfold hubReg
  iterate 4 rw [if_neg (by omega)]
  rw [if_pos (by omega)]
  congr 2 <;> omega

theorem hubReg_ctx (r : Nat) {c : Nat} (hc : c < 4096) (hr : r < 64 := by decide) : hubReg (0x80000 + r + 64 * c) = some (.ctx c r) := by
  unfold hubReg
  iterate 5 rw [if_neg (by omega)]
  rw [if_pos (by omega)]
  congr 2 <;> omega

theorem hubReg_sem (r : Nat) {m : Nat} (hm : m < 4096) (hr : r < 32 := by decide) : hubReg (0xC0000 + r + 32 * m) = some (.sem m r) := by
  unfold hubReg
  iterate 6 rw [if_neg (by omega)]
  rw [if_pos (by omega)]
  congr 2 <;> omega

theorem hubReg_ring (event : Bool) (r : Nat) (hr : r < 64 := by decide) :
    hubReg ((if event then 0xF0040 else 0xF0000) + r) = some (.ring event r) := by
  unfold hubReg
  cases event
  · iterate 8 rw [if_neg (by simp; omega)]
    rw [if_pos (by simp; omega)]
    congr 2
    · simp; omega
    · simp; omega
  · iterate 8 rw [if_neg (by simp; omega)]
    rw [if_pos (by simp; omega)]
    congr 2
    · simp
    · simp; omega

theorem hubReg_trace (r : Nat) {core : Nat} (hc : core < 160) (hr : r < 32 := by decide) :
    hubReg (0xF2000 + r + 32 * core) = some (.trace core r) := by
  unfold hubReg
  iterate 9 rw [if_neg (by omega)]
  rw [if_pos (by omega)]
  congr 2 <;> omega

theorem hubReg_life {i : Nat} (hi : i < 4096) : hubReg (0xF8000 + 8 * i) = some (.life i) := by
  unfold hubReg
  iterate 10 rw [if_neg (by omega)]
  rw [if_pos (by omega)]
  congr 2
  omega

theorem hubReg_link (r : Nat) {l : Nat} (hl : l < 17) (hr : r < 64 := by decide) : hubReg (0x100000 + r + 64 * l) = some (.link l r) := by
  unfold hubReg
  iterate 11 rw [if_neg (by omega)]
  rw [if_pos (by omega)]
  congr 2 <;> omega

theorem hubReg_pwin {n : Nat} (hn : n < 64) : hubReg (0x110100 + 8 * n) = some (.pwin n) := by
  unfold hubReg
  iterate 13 rw [if_neg (by omega)]
  rw [if_pos (by omega)]
  congr 2
  omega

/-- No register stands between device control and the queues. -/
theorem hubReg_none {off : Nat} (h : 0x60 ≤ off) (h' : off < 0x40000) : hubReg off = none := by
  unfold hubReg
  iterate 22 rw [if_neg (by omega)]

/-! ### Reads -/

theorem State.readClear_down {s : State} (h : ¬ s.carries 8) (off : Nat) : exec (.readClear off) s = .next s :=
  congrArg Host.Outcome.next (if_pos (State.hostUp_eq_false h))

theorem State.registerWrite_down {s : State} (h : ¬ s.carries 8) (off : Nat) (v : BitVec 64) :
    exec (.registerWrite off v) s = .next s :=
  congrArg Host.Outcome.next (if_pos (State.hostUp_eq_false h))

/-- A read of a register answers with its value and then clears its RC fields. -/
theorem State.readClear_reg {s : State} (h : s.carries 8) {off : Nat} {x : HubReg} (hx : hubReg off = some x) :
    exec (.readClear off) s = .next ((s.answered (some (bytesOf 8 (s.readReg x).1))).clearReg x) := by
  have hu : s.hostUp = true := (s.linkUp_iff 8).mpr h
  have hs : (s.readReg x).2 = s := by cases x <;> rfl
  refine congrArg Host.Outcome.next ?_
  simp only [hu, hx, hs, toBytes_eq_bytesOf]
  rfl

/-- A write of a register acts on the register that stands at the offset. -/
theorem State.registerWrite_reg {s : State} (h : s.carries 8) {off : Nat} {x : HubReg} (hx : hubReg off = some x) (v : BitVec 64) :
    exec (.registerWrite off v) s = .next (s.writeReg x v.toNat) := by
  have hu : s.hostUp = true := (s.linkUp_iff 8).mpr h
  refine congrArg Host.Outcome.next ?_
  simp only [hu, hx]
  rfl

/-- The row of a table of registers tells what a read answers and clears. -/
def State.Reads (s : State) (r : Nat × Nat × (State → State)) : Prop :=
  exec (.readClear r.1) s = .next ((r.2.2 s).answered (some (bytesOf 8 r.2.1)))

/-- A row is right when it has the value of the register that stands at its offset, and the read clears what it says. -/
theorem State.reads_of_reg {s : State} (h : s.carries 8) {off v : Nat} {x : HubReg} {f : State → State} (hx : hubReg off = some x)
    (hv : (s.readReg x).1 = v := by rfl) (hf : ∀ a, (s.answered a).clearReg x = (f s).answered a := by intro _; rfl) :
    s.Reads (off, v, f) := by
  rw [State.Reads, State.readClear_reg h hx, hv, hf]

/-- Every row of the table of reads tells what a read of its register answers and clears. -/
theorem State.reads_readRows {s : State} (h : s.carries 8) {q b c n m l : Nat} (hq : q < 256) (hb : b < 256) (hc : c < 4096)
    (hn : n < 16) (hm : m < 4096) (hl : l < 17) : ∀ r ∈ s.readRows q b c n m l, s.Reads r := by
  simp only [State.readRows, ringRows, List.cons_append, List.nil_append, List.forall_mem_cons, List.not_mem_nil, false_implies,
    implies_true, and_true, ← bitN_eq_toNat, ← QPhase.code_eq_idxOf, ← BPhase.code_eq_idxOf, ← LinkPhase.code_eq_idxOf,
    ← CtxPhase.code_eq_stateNumber]
  refine ⟨reads_of_reg h (hubReg_dev 0x00), reads_of_reg h (hubReg_dev 0x10), reads_of_reg h (hubReg_dev 0x18),
    reads_of_reg h (hubReg_dev 0x20), reads_of_reg h (hubReg_dev 0x28), reads_of_reg h (hubReg_dev 0x30),
    reads_of_reg h (hubReg_dev 0x38), reads_of_reg h (hubReg_dev 0x40), reads_of_reg h (hubReg_dev 0x48),
    reads_of_reg h (hubReg_dev 0x50),
    reads_of_reg h (hubReg_queue 0x00 hq), reads_of_reg h (hubReg_queue 0x08 hq), reads_of_reg h (hubReg_queue 0x10 hq),
    reads_of_reg h (hubReg_queue 0x18 hq), reads_of_reg h (hubReg_queue 0x20 hq), reads_of_reg h (hubReg_queue 0x28 hq),
    reads_of_reg h (hubReg_queue 0x2C hq), reads_of_reg h (hubReg_queue 0x30 hq), reads_of_reg h (hubReg_queue 0x38 hq),
    reads_of_reg h (hubReg_barrier 0x00 hb), reads_of_reg h (hubReg_barrier 0x08 hb), reads_of_reg h (hubReg_barrier 0x10 hb),
    reads_of_reg h (hubReg_barrier 0x18 hb), reads_of_reg h (hubReg_barrier 0x20 hb), reads_of_reg h (hubReg_barrier 0x28 hb),
    reads_of_reg h (hubReg_barrier 0x30 hb), reads_of_reg h (hubReg_barrier 0x38 hb),
    reads_of_reg h (hubReg_stream 0x00 hn), reads_of_reg h (hubReg_stream 0x08 hn), reads_of_reg h (hubReg_stream 0x10 hn),
    reads_of_reg h (hubReg_ctx 0x00 hc), reads_of_reg h (hubReg_ctx 0x08 hc), reads_of_reg h (hubReg_ctx 0x10 hc),
    reads_of_reg h (hubReg_ctx 0x18 hc), reads_of_reg h (hubReg_ctx 0x20 hc), reads_of_reg h (hubReg_ctx 0x38 hc),
    reads_of_reg h (hubReg_sem 0x00 hm), reads_of_reg h (hubReg_sem 0x08 hm), reads_of_reg h (hubReg_sem 0x10 hm),
    reads_of_reg h (hubReg_life (by omega)),
    reads_of_reg h (hubReg_link 0x00 hl), reads_of_reg h (hubReg_link 0x08 hl), reads_of_reg h (hubReg_link 0x10 hl),
    reads_of_reg h (hubReg_link 0x18 hl), reads_of_reg h (hubReg_link 0x20 hl),
    reads_of_reg (x := .key 0 0) h rfl,
    reads_of_reg h (hubReg_ring false 0x00), reads_of_reg h (hubReg_ring false 0x08), reads_of_reg h (hubReg_ring false 0x10),
    reads_of_reg h (hubReg_ring false 0x18), reads_of_reg h (hubReg_ring false 0x20),
    reads_of_reg h (hubReg_ring true 0x00), reads_of_reg h (hubReg_ring true 0x08), reads_of_reg h (hubReg_ring true 0x10),
    reads_of_reg h (hubReg_ring true 0x18), reads_of_reg h (hubReg_ring true 0x20)⟩

section
/-! ### Writes -/

theorem ofNat_mod_two_pow (w x : Nat) : BitVec.ofNat w (x % 2 ^ w) = BitVec.ofNat w x := by
  apply BitVec.eq_of_toNat_eq
  simp

/-- A register that a field from bit 0 on fills holds the number written, cut off at its width. -/
theorem ofNat_lowField (w x : Nat) : BitVec.ofNat w (x / 2 ^ 0 % 2 ^ w) = BitVec.ofNat w x := by
  rw [pow_zero, Nat.div_one, ofNat_mod_two_pow]

theorem ofNat_mul_add {m n : Nat} (hi : BitVec m) (lo : BitVec n) : BitVec.ofNat (m + n) (hi.toNat * 2 ^ n + lo.toNat) = hi ++ lo := by
  have hcat : hi.toNat * 2 ^ n + lo.toNat = (hi ++ lo).toNat := by
    rw [BitVec.toNat_append, ← Nat.shiftLeft_add_eq_or_of_lt lo.isLt, Nat.shiftLeft_eq]
  rw [hcat, BitVec.ofNat_toNat, BitVec.setWidth_eq]

variable (s : State)

/-- A write of the low half of DRVFEAT keeps the high half. -/
theorem State.writeDev_drvfeatLow (v : BitVec 64) :
    s.writeDev 0x20 v.toNat = s.acceptFeatures (BitVec.ofNat 64 (s.hub.dev.drvfeat.toNat / 2 ^ 64) ++ v) := by
  have hlt : s.hub.dev.drvfeat.toNat / 2 ^ 64 < 2 ^ 64 := by omega
  rw [← ofNat_mul_add, BitVec.toNat_ofNat, Nat.mod_eq_of_lt hlt]
  rfl

/-- A write of the high half of DRVFEAT keeps the low half. -/
theorem State.writeDev_drvfeatHigh (v : BitVec 64) :
    s.writeDev 0x28 v.toNat = s.acceptFeatures (v ++ BitVec.ofNat 64 s.hub.dev.drvfeat.toNat) := by
  have hcat := ofNat_mul_add v (BitVec.ofNat 64 s.hub.dev.drvfeat.toNat)
  rw [BitVec.toNat_ofNat, Nat.add_comm (v.toNat * _)] at hcat
  exact congrArg s.acceptFeatures hcat

theorem State.writeQueue_command (q v : Nat) : s.writeQueue q 0x2C v =
    if v % 2 ^ 32 = 1 then s.queueBind q else if v % 2 ^ 32 = 2 then s.queueResume q else if v % 2 ^ 32 = 3 then s.queueUnbind q
      else s.refuseQueue q := by
  simp only [State.writeQueue]
  split <;> simp_all

theorem State.writeBarrier_command (b v : Nat) : s.writeBarrier b 0x38 v =
    if v % 2 ^ 32 = 1 then s.barrierBind b else if v % 2 ^ 32 = 2 then s.barrierReset b else if v % 2 ^ 32 = 3 then s.barrierUnbind b
      else if v % 2 ^ 32 = 4 then s.barrierCommandBreak b else s.refuseBarrier b := by
  simp only [State.writeBarrier, reduceIte]
  split <;> simp_all

theorem State.writeCtx_command (c v : Nat) : s.writeCtx c 0x38 v =
    if v % 2 ^ 32 = 1 then s.createCtx c else if v % 2 ^ 32 = 2 then s.destroyCtx c else if v % 2 ^ 32 = 3 then s.commandKill c
      else if v % 2 ^ 32 = 4 then s.commandFence c else s.refuseCtx c := by
  simp only [State.writeCtx]
  split <;> simp_all

/-- A write of FRES: the action stands in bits 16 and 17, above the number of the record. -/
theorem State.writeRing_fres (v : Nat) : s.writeRing false 0x28 v =
    if field v 17 16 = 1 then s.resolveSeq (BitVec.ofNat 16 v) true
    else if field v 17 16 = 2 then s.resolveSeq (BitVec.ofNat 16 v) false else s := by
  simp only [State.writeRing, and_self, reduceIte]
  split <;> simp_all

/-- The base of a ring is taken while the ring is disabled. -/
theorem State.writeRing_trapBase (v : Nat) : s.writeRing false 0x00 v =
    if s.hub.traps.trap.en then s else s.withRing false { s.hub.traps.trap with base := BitVec.ofNat 42 v } := by
  cases hen : s.hub.traps.trap.en <;> simp [State.writeRing, Ring.write, State.modTraps, State.modHub, State.withRing, hen]

/-- The row of a table of registers tells what a write leaves. -/
def State.Writes (v : BitVec 64) (r : Nat × State) : Prop := exec (.registerWrite r.1 v) s = .next r.2

variable {s}

/-- A row is right when it has the state that the write of the register at its offset gives. -/
theorem State.writes_of_reg {t : State} {v : BitVec 64} {off : Nat} {x : HubReg} (h : s.carries 8) (hx : hubReg off = some x)
    (ht : s.writeReg x v.toNat = t := by rfl) : s.Writes v (off, t) := by
  rw [State.Writes, State.registerWrite_reg h hx, ht]

/-- Every row of the table of writes tells what a write of its register leaves. -/
theorem State.writes_writeRows {q b c n m l core : Nat} (h : s.carries 8) (v : BitVec 64) (hq : q < 256) (hb : b < 256) (hc : c < 4096)
    (hn : n < 16) (hm : m < 4096) (hl : l < 17) (hcore : core < 160) : ∀ r ∈ s.writeRows q b c n m l core v, s.Writes v r := by
  simp only [State.writeRows, List.forall_mem_cons, List.not_mem_nil, false_implies, implies_true, and_true, ofNat_lowField, ← bitAt_toNat]
  simp only [pow_zero, Nat.div_one]
  refine ⟨writes_of_reg h (hubReg_dev 0x00), writes_of_reg h (hubReg_dev 0x10), writes_of_reg h (hubReg_dev 0x18),
    writes_of_reg h (hubReg_dev 0x20) (s.writeDev_drvfeatLow v), writes_of_reg h (hubReg_dev 0x28) (s.writeDev_drvfeatHigh v),
    writes_of_reg h (hubReg_dev 0x30), writes_of_reg h (hubReg_dev 0x40), writes_of_reg h (hubReg_dev 0x48),
    writes_of_reg h (hubReg_dev 0x50),
    writes_of_reg h (hubReg_queue 0x00 hq) ?_, writes_of_reg h (hubReg_queue 0x08 hq) ?_, writes_of_reg h (hubReg_queue 0x10 hq),
    writes_of_reg h (hubReg_queue 0x18 hq), writes_of_reg h (hubReg_queue 0x20 hq), writes_of_reg h (hubReg_queue 0x28 hq),
    writes_of_reg h (hubReg_queue 0x2C hq) (s.writeQueue_command q v.toNat), writes_of_reg h (hubReg_queue 0x30 hq),
    writes_of_reg h (hubReg_queue 0x38 hq),
    writes_of_reg h (hubReg_barrier 0x00 hb), writes_of_reg h (hubReg_barrier 0x08 hb), writes_of_reg h (hubReg_barrier 0x10 hb),
    writes_of_reg h (hubReg_barrier 0x18 hb) ?_, writes_of_reg h (hubReg_barrier 0x20 hb), writes_of_reg h (hubReg_barrier 0x28 hb),
    writes_of_reg h (hubReg_barrier 0x30 hb), writes_of_reg h (hubReg_barrier 0x38 hb) (s.writeBarrier_command b v.toNat),
    writes_of_reg h (hubReg_stream 0x10 hn),
    writes_of_reg h (hubReg_ctx 0x00 hc) ?_, writes_of_reg h (hubReg_ctx 0x08 hc) ?_,
    writes_of_reg h (hubReg_ctx 0x38 hc) (s.writeCtx_command c v.toNat),
    writes_of_reg h (hubReg_sem 0x00 hm), writes_of_reg h (hubReg_sem 0x08 hm), writes_of_reg h (hubReg_sem 0x10 hm),
    writes_of_reg h (hubReg_ring false 0x00) (s.writeRing_trapBase v.toNat), writes_of_reg h (hubReg_ring false 0x18),
    writes_of_reg h (hubReg_ring false 0x28) (s.writeRing_fres v.toNat), writes_of_reg h (hubReg_ring true 0x18),
    writes_of_reg h (hubReg_trace 0x08 hcore) ?_, writes_of_reg h (hubReg_life (by omega)),
    writes_of_reg h (hubReg_link 0x18 hl),
    writes_of_reg (x := .obase) h rfl ?_, writes_of_reg h (hubReg_pwin (by omega)),
    writes_of_reg (x := .wall 0x00) h rfl, writes_of_reg (x := .wall 0x08) h rfl ?_, writes_of_reg (x := .attestGo) h rfl ?_⟩
  -- fields that a queue, a barrier or a context takes in one phase only
  · simp only [State.writeReg, State.writeQueue, beq_iff_eq]
    rfl
  · simp only [State.writeReg, State.writeQueue, beq_iff_eq]
  · simp [State.writeReg, State.writeBarrier, Barrier.write]
  · simp only [State.writeReg, State.writeCtx, beq_iff_eq]
  · simp only [State.writeReg, State.writeCtx, beq_iff_eq]
  -- the trace address of a core that may be absent, and registers as wide as the number written
  · cases hp : s.diePresent (core / 40) <;> simp [State.writeReg, State.writeTrace, dieOfCore, hp]
  · simp only [State.writeReg, State.modEp, ofNat_mod_two_pow]
  · simp [State.writeReg, State.writeWall]
  · simp [State.writeReg, ← BitVec.toNat_inj]

end

/-! ### Registers as package steps -/

/-- A write of a ring's control register is the package step of that name. -/
theorem State.registerWrite_ringControl {s : State} (h : s.carries 8) (event : Bool) (v : BitVec 64) :
    exec (.registerWrite ((if event then 0xF0040 else 0xF0000) + 0x08) v) s = exec (.trapRingControlWrite event v) s := by
  rw [State.registerWrite_reg h (hubReg_ring event 0x08)]
  refine congrArg Host.Outcome.next ?_
  cases event <;> simp [State.writeReg, State.writeRing, Ring.write]

/-- A write of WTIME is the package step of that name. -/
theorem State.registerWrite_wtime {s : State} (h : s.carries 8) (v : BitVec 64) :
    exec (.registerWrite 0x120008 v) s = exec (.wtimeWrite v) s := by
  rw [State.registerWrite_reg (x := .wall 0x08) h rfl]
  refine congrArg Host.Outcome.next ?_
  simp [State.writeReg, State.writeWall]

/-- An offset below the queues that no register uses reads as zero and takes no write. -/
theorem State.register_unused {s : State} (h : s.carries 8) {off : Nat} (v : BitVec 64) (h1 : 0x60 ≤ off) (h2 : off < 0x40000) :
    exec (.readClear off) s = .next (s.answered (some (bytesOf 8 0))) ∧ exec (.registerWrite off v) s = .next s := by
  have hu : s.hostUp = true := (s.linkUp_iff 8).mpr h
  constructor
  · refine congrArg Host.Outcome.next ?_
    simp only [hu, hubReg_none h1 h2, toBytes_eq_bytesOf]
    rfl
  · refine congrArg Host.Outcome.next ?_
    simp only [hu, hubReg_none h1 h2]
    rfl

/-- A write of DISABLE is the action at the link that the step names. -/
theorem exec_linkDisableWrite {s : State} (h : s.cur < 17) (on : Bool) : exec (.linkDisableWrite on) s = .next (s.linkDisable s.cur on) :=
  congrArg Host.Outcome.next (if_pos h)

/-- Settles O60: what stands at each offset of the tables, what a read of it answers and clears, and what a write of it does. -/
theorem registers : Obligations.Registers := by
  unfold Obligations.Registers
  refine ⟨fun s off v h => ⟨s.readClear_down h off, s.registerWrite_down h off v⟩,
    fun s q b c n m l h hq hb hc hn hm hl => s.reads_readRows h hq hb hc hn hm hl,
    fun s q b c n m l core v h hq hb hc hn hm hl hcore => s.writes_writeRows h v hq hb hc hn hm hl hcore,
    fun s off v h h1 h2 => s.register_unused h v h1 h2,
    fun s v h => ⟨s.registerWrite_ringControl h false v, s.registerWrite_ringControl h true v, s.registerWrite_wtime h v⟩,
    fun s => ?_⟩
  refine ⟨rfl, rfl, rfl, rfl, rfl, rfl, fun _ => rfl, rfl, rfl, rfl, rfl, rfl, rfl, rfl, rfl, fun _ => ⟨rfl, rfl⟩,
    fun _ => ⟨rfl, fun h on => exec_linkDisableWrite h on⟩, rfl⟩

/-! ### What a kill leaves unchanged -/

/-- What a kill of a context is known by: its phase, the cause that its record holds, and the cycle after that of its last kill. -/
def State.killMark (s : State) (c : Nat) : CtxPhase × BitVec 8 × Nat := ((s.ctx c).phase, (s.ctx c).kcause, (s.ctxWork c).killAt)

/-- Two states of one cycle agree on device control and on the kills of the contexts of `p`. -/
structure State.AgreeOn (p : Nat → Prop) (s t : State) : Prop where
  now : t.now = s.now
  dev : t.hub.dev = s.hub.dev
  marks : ∀ c, p c → t.killMark c = s.killMark c

namespace State.AgreeOn

variable {p : Nat → Prop} {s t u : State}

theorem refl (s : State) : AgreeOn p s s := ⟨rfl, rfl, fun _ _ => rfl⟩

theorem trans (h : AgreeOn p s t) (k : AgreeOn p t u) : AgreeOn p s u :=
  ⟨k.now.trans h.now, k.dev.trans h.dev, fun c hc => (k.marks c hc).trans (h.marks c hc)⟩

theorem mono {q : Nat → Prop} (h : AgreeOn p s t) (hq : ∀ c, q c → p c) : AgreeOn q s t := ⟨h.now, h.dev, fun c hc => h.marks c (hq c hc)⟩

/-- An operation that leaves the clock, device control and both tables of contexts alone. -/
theorem of_eq (hs : t.stamp = s.stamp := by rfl) (hn : t.wraps = s.wraps := by rfl) (hd : t.hub.dev = s.hub.dev := by rfl)
    (hr : t.hub.ctx.regs = s.hub.ctx.regs := by rfl) (hw : t.hub.ctx.work = s.hub.ctx.work := by rfl) : AgreeOn p s t :=
  ⟨by rw [State.now, hs, hn, State.now], hd, fun c _ => by simp only [State.killMark, State.ctx, State.ctxWork, hr, hw]⟩

theorem foldl {α : Type} {f : State → α → State} (hf : ∀ s x, AgreeOn p s (f s x)) (l : List α) (s : State) : AgreeOn p s (l.foldl f s) := by
  induction l generalizing s with
  | nil => exact refl s
  | cons x l ih => exact (hf s x).trans (ih (f s x))

/-- A change of a context that keeps its phase and the cause of its last kill. -/
theorem modCtx (s : State) (c : Nat) {f : Ctx → Ctx} (hp : (f (s.ctx c)).phase = (s.ctx c).phase)
    (hk : (f (s.ctx c)).kcause = (s.ctx c).kcause) : AgreeOn p s (s.modCtx c f) := by
  refine ⟨rfl, rfl, fun d _ => ?_⟩
  have hw : ((s.modCtx c f).ctxWork d) = s.ctxWork d := rfl
  simp only [State.killMark, State.ctx_modCtx, hw]
  split
  · next h => rw [h, hp, hk]
  · rfl

theorem modCtxWork (s : State) (c : Nat) {f : CtxWork → CtxWork} (hk : (f (s.ctxWork c)).killAt = (s.ctxWork c).killAt) :
    AgreeOn p s (s.modCtxWork c f) := by
  refine ⟨rfl, rfl, fun d _ => ?_⟩
  have hr : ((s.modCtxWork c f).ctx d) = s.ctx d := rfl
  simp only [State.killMark, State.ctxWork_modCtxWork, hr]
  split
  · next h => rw [h, hk]
  · rfl

/-- A change of one context is none of the others. -/
theorem modCtx_others (s : State) (c : Nat) (f : Ctx → Ctx) : AgreeOn (· ≠ c) s (s.modCtx c f) :=
  ⟨rfl, rfl, fun d hd => by
    have hw : ((s.modCtx c f).ctxWork d) = s.ctxWork d := rfl
    simp only [State.killMark, State.ctx_modCtx_other _ _ _ _ hd, hw]⟩

theorem modCtxWork_others (s : State) (c : Nat) (f : CtxWork → CtxWork) : AgreeOn (· ≠ c) s (s.modCtxWork c f) :=
  ⟨rfl, rfl, fun d hd => by
    have hr : ((s.modCtxWork c f).ctx d) = s.ctx d := rfl
    simp only [State.killMark, State.ctxWork_modCtxWork_other _ _ _ _ hd, hr]⟩

theorem countStale (s : State) (c n : Nat) : AgreeOn p s (s.countStale c n) := by
  unfold State.countStale
  split
  · exact refl s
  · exact (modCtx s c (by rfl) (by rfl)).trans (modCtxWork _ c (by rfl))

theorem countOrphan (s : State) (c n : Nat) : AgreeOn p s (s.countOrphan c n) := by
  unfold State.countOrphan
  split
  · exact refl s
  · exact (modCtx s c (by rfl) (by rfl)).trans (modCtxWork _ c (by rfl))

theorem physWrite (s : State) (pa : Nat) (bs : List Byte) : AgreeOn p s (s.physWrite pa bs) := by
  unfold State.physWrite
  split
  · split
    · exact of_eq
    · exact refl s
  · exact of_eq
  · exact of_eq

theorem writeCws (s : State) (c : Nat) : AgreeOn p s (s.writeCws c) := physWrite s _ _

theorem freeBytes (s : State) (n : Nat) : AgreeOn p s (s.freeBytes n).2 := by
  induction n generalizing s with
  | zero => exact refl s
  | succ n ih => exact (of_eq (t := s.takeFree.2)).trans (ih _)

theorem sendAll (s : State) (c : Nat) (m : BitVec 64) (cls stream : Nat) (kind : PacketKind) (arg cmd : Nat) :
    AgreeOn p s (s.sendAll c m cls stream kind arg cmd) := foldl (fun _ _ => of_eq) _ s

theorem modHub (s : State) {f : Hub → Hub} (hd : (f s.hub).dev = s.hub.dev) (hc : (f s.hub).ctx = s.hub.ctx) : AgreeOn p s (s.modHub f) :=
  of_eq (hd := hd) (hr := congrArg CtxUnit.regs hc) (hw := congrArg CtxUnit.work hc)

theorem modSlot (s : State) (n : Nat) (f : Slot → Slot) : AgreeOn p s (s.modSlot n f) := of_eq

theorem leaveBarriers (s : State) (slot : Nat) : AgreeOn p s (s.leaveBarriers slot) := of_eq

theorem killSlot (s : State) (slot : Nat) : AgreeOn p s (s.killSlot slot) := by
  unfold State.killSlot
  exact (((countOrphan s _ _).trans (modHub _ (by rfl) (by rfl))).trans (modSlot _ slot _)).trans (leaveBarriers _ slot)

theorem killMessages (s : State) (c : Nat) : AgreeOn p s (s.killMessages c) := (countOrphan s _ _).trans of_eq

theorem killTether (s : State) (c : Nat) : AgreeOn p s (s.killTether c) := (countStale s _ _).trans of_eq

theorem modGraph (s : State) (g : Nat) (f : Graph → Graph) : AgreeOn p s (s.modGraph g f) := by
  unfold State.modGraph
  split
  · exact of_eq
  · exact refl s

theorem haltQueue (s : State) (q : Nat) : AgreeOn p s (s.haltQueue q) := by
  have orphaned : AgreeOn p s (s.orphanGraph q) := by
    unfold State.orphanGraph
    split
    · exact modGraph s _ _
    · exact refl s
  unfold State.haltQueue
  split
  · exact orphaned.trans of_eq
  · exact refl s

theorem modBarrier (s : State) (b : Nat) (f : Barrier → Barrier) : AgreeOn p s (s.modBarrier b f) := of_eq

theorem breakQuietly (s : State) (b cause : Nat) : AgreeOn p s (s.breakQuietly b cause) := by
  unfold State.breakQuietly
  dsimp only
  split
  · exact refl s
  · split
    · exact (modBarrier s b _).trans (sendAll _ _ _ _ _ _ _ _)
    · exact modBarrier s b _

theorem setLeafState (s : State) (at_ st : Nat) : AgreeOn p s (s.setLeafState at_ st) := of_eq

theorem pageBack (s : State) (at_ : Nat) (off : Bool) : AgreeOn p s (s.pageBack at_ off) :=
  ((freeBytes s (leafBytes (s.memNat at_ 16))).trans (physWrite _ _ _)).trans (setLeafState _ at_ _)

theorem dropWCmd (s : State) (x : WCmd) : AgreeOn p s (s.dropWCmd x) := by
  unfold State.dropWCmd
  dsimp only
  split
  · exact (countStale s _ _).trans (pageBack _ _ _)
  · exact countStale s _ _

theorem modWinch (s : State) (w : Nat) (f : Winch → Winch) : AgreeOn p s (s.modWinch w f) := of_eq

theorem killWinches (s : State) (c : Nat) : AgreeOn p s (s.killWinches c) := by
  unfold State.killWinches
  refine foldl (fun s w => ?_) _ s
  have dropped := foldl (p := p) dropWCmd ((s.winch w).queue.filter fun d => ctxOf d.tag == c) s
  have back := fun t => foldl (p := p) (f := fun s (r : Reencode) => s.setLeafState r.at_ r.prior) (fun s r => setLeafState s r.at_ r.prior)
    ((s.winch w).reenc.filter fun r => ctxOf r.tag == c) t
  exact (dropped.trans (back _)).trans (modWinch _ w _)

theorem killGraphs (s : State) (c : Nat) : AgreeOn p s (s.killGraphs c) := of_eq

theorem killFaults (s : State) (c : Nat) : AgreeOn p s (s.killFaults c) := of_eq

theorem killSems (s : State) (c : Nat) : AgreeOn p s (s.killSems c) := of_eq

theorem killQueues (s : State) (c : Nat) : AgreeOn p s (s.killQueues c) := foldl haltQueue _ s

theorem killBarriers (s : State) (c : Nat) : AgreeOn p s (s.killBarriers c) := foldl (fun s b => breakQuietly s b 1) _ s

/-- The actions of a kill leave the clock, device control and the marks of every context alone. -/
theorem killActions (s : State) (c : Nat) : AgreeOn p s (s.killActions c) := by
  unfold State.killActions
  have h := foldl (p := p) killSlot (s.slotsOf c) s
  exact h.trans (killMessages _ c) |>.trans (killTether _ c) |>.trans (killGraphs _ c) |>.trans (killQueues _ c)
    |>.trans (killBarriers _ c) |>.trans (killWinches _ c) |>.trans (killFaults _ c)

theorem bindFence (s : State) (c v : Nat) : AgreeOn p s (s.bindFence c v) := of_eq

theorem startFence (s : State) (c : Nat) : AgreeOn p s (s.startFence c) := by
  unfold State.startFence
  dsimp only
  refine trans (trans (modCtx s c ?_ ?_) (foldl ?_ _ _)) (bindFence _ c _)
  · rfl
  · rfl
  · exact fun _ _ => of_eq

theorem askFence (s : State) (c : Nat) : AgreeOn p s (s.askFence c).2 := by
  unfold State.askFence
  split
  · exact startFence s c
  · split
    · exact refl s
    · dsimp only
      exact modCtxWork s c (by rfl)

end State.AgreeOn

/-! ### What a kill marks -/

/-- The record of a kill: its cause stands in the context. -/
theorem State.noteKill_marks (s : State) (c cause : Nat) :
    AgreeOn (· ≠ c) s (s.noteKill c cause)
    ∧ (s.noteKill c cause).killMark c = ((s.ctx c).phase, BitVec.ofNat 8 cause, (s.ctxWork c).killAt) := by
  unfold State.noteKill
  dsimp only
  refine ⟨(AgreeOn.modCtx_others s c _).trans (AgreeOn.writeCws _ c), ?_⟩
  rw [(AgreeOn.writeCws (p := fun _ => True) _ c).marks c trivial, State.killMark, State.ctx_modCtx_same]
  rfl

/-- The mark that the record of a kill leaves, where the mark before it is known. -/
theorem State.noteKill_mark_of {s : State} {c : Nat} {ph : CtxPhase} {k : BitVec 8} {at_ : Nat} (h : s.killMark c = (ph, k, at_)) (cause : Nat) :
    (s.noteKill c cause).killMark c = (ph, BitVec.ofNat 8 cause, at_) := by
  simp only [State.killMark, Prod.mk.injEq] at h
  obtain ⟨hp, -, hw⟩ := h
  rw [(s.noteKill_marks c cause).2, hp, hw]

/-- A kill that finds no incarnation to go on with holds its context and asks for a fence: the mark keeps its cause. -/
theorem State.hold_marks {s : State} {c : Nat} {ph : CtxPhase} {k : BitVec 8} {at_ : Nat} (h : s.killMark c = (ph, k, at_)) :
    AgreeOn (· ≠ c) s ((s.modCtx c fun x => { x with phase := .held }).askFence c).2
    ∧ ((s.modCtx c fun x => { x with phase := .held }).askFence c).2.killMark c = (.held, k, at_) := by
  have held := AgreeOn.modCtx_others s c fun x => { x with phase := .held }
  refine ⟨held.trans (AgreeOn.askFence _ c), ?_⟩
  simp only [State.killMark, Prod.mk.injEq] at h
  obtain ⟨-, hk, hw⟩ := h
  rw [(AgreeOn.askFence (p := fun _ => True) _ c).marks c trivial, State.killMark, State.ctx_modCtx_same]
  exact congrArg₂ (fun k w => (CtxPhase.held, k, w)) hk hw

/-- A kill of a context that is not Free, the first of its cycle: it is marked with its cause and the next cycle, it does not become Free,
and the other contexts keep their marks. -/
theorem State.killCtx_marks (s : State) (c cause : Nat) (hf : (s.ctx c).phase ≠ .free) (hk : (s.ctxWork c).killAt ≠ s.now + 1) :
    AgreeOn (· ≠ c) s (s.killCtx c cause) ∧ ∃ ph, ph ≠ .free ∧ (s.killCtx c cause).killMark c = (ph, BitVec.ofNat 8 cause, s.now + 1) := by
  unfold State.killCtx
  simp only [hf, hk, reduceIte]
  have others₁ := AgreeOn.modCtxWork_others s c fun w => { w with killAt := s.now + 1, leaving := false }
  have mark₁ : (s.modCtxWork c fun w => { w with killAt := s.now + 1, leaving := false }).killMark c
      = ((s.ctx c).phase, (s.ctx c).kcause, s.now + 1) := by
    simp only [State.killMark, State.ctxWork_modCtxWork_same]
    rfl
  generalize (s.modCtxWork c fun w => { w with killAt := s.now + 1, leaving := false }) = s₁ at others₁ mark₁ ⊢
  split
  · exact ⟨others₁.trans (s₁.noteKill_marks c cause).1, _, hf, State.noteKill_mark_of mark₁ cause⟩
  · have acted {p : Nat → Prop} := (AgreeOn.killActions (p := p) s₁ c).trans (AgreeOn.killSems _ c)
    have mark₂ := (acted.marks (p := fun _ => True) c trivial).trans mark₁
    generalize (s₁.killActions c).killSems c = s₂ at acted mark₂ ⊢
    have others₃ := (others₁.trans acted).trans (s₂.noteKill_marks c cause).1
    have mark₃ := State.noteKill_mark_of mark₂ cause
    generalize s₂.noteKill c cause = s₃ at others₃ mark₃ ⊢
    split
    · have sent {p : Nat → Prop} : AgreeOn p s₃ (s₃.modCtxWork c fun w => { w with broadcasting := w.broadcasting + 1 }) :=
        AgreeOn.modCtxWork s₃ c rfl
      exact ⟨others₃.trans sent, _, hf, (sent.marks (p := fun _ => True) c trivial).trans mark₃⟩
    · obtain ⟨others₄, mark₄⟩ := State.hold_marks mark₃
      exact ⟨others₃.trans others₄, .held, by decide, mark₄⟩

/-- A second kill of a cycle of a context that the driver has killed is the same kill. -/
theorem State.killCtx_again (s : State) (c : Nat) (hk : (s.ctxWork c).killAt = s.now + 1) : s.killCtx c 1 = s := by
  unfold State.killCtx State.joinKill
  simp [hk, causeRank]

/-- No kill touches the clock, device control or the marks of another context. -/
theorem State.killCtx_others (s : State) (c : Nat) : AgreeOn (· ≠ c) s (s.killCtx c 1) := by
  by_cases hf : (s.ctx c).phase = .free
  · rw [State.killCtx]
    simp only [hf, reduceIte]
    exact AgreeOn.refl s
  · by_cases hk : (s.ctxWork c).killAt = s.now + 1
    · rw [s.killCtx_again c hk]
      exact AgreeOn.refl s
    · exact (s.killCtx_marks c 1 hf hk).1

/-! ### Kills of all contexts (19 R426) -/

/-- Contexts killed by the driver in this cycle keep that cause through further kills of the driver. -/
theorem State.kcause_killCtxs_of_killed {s : State} {c : Nat} (cs : List Nat) (hk : (s.ctx c).kcause = 1) (hw : (s.ctxWork c).killAt = s.now + 1) :
    ((cs.foldl (fun s c => s.killCtx c 1) s).ctx c).kcause = 1 := by
  induction cs generalizing s with
  | nil => exact hk
  | cons d cs ih =>
    by_cases hd : d = c
    · rw [List.foldl_cons, hd, s.killCtx_again c hw]
      exact ih hk hw
    · have others := s.killCtx_others d
      have mark := others.marks c (Ne.symm hd)
      simp only [State.killMark, Prod.mk.injEq] at mark
      obtain ⟨-, mk, mw⟩ := mark
      exact ih (mk.trans hk) (by rw [mw, hw, others.now])

/-- Of a list of contexts that the driver kills, each that is not Free and not yet killed in this cycle has its kill recorded. -/
theorem State.kcause_killCtxs {s : State} {c : Nat} {cs : List Nat} (hc : c ∈ cs) (hf : (s.ctx c).phase ≠ .free)
    (hw : (s.ctxWork c).killAt ≠ s.now + 1) : ((cs.foldl (fun s c => s.killCtx c 1) s).ctx c).kcause = 1 := by
  induction cs generalizing s with
  | nil => cases hc
  | cons d cs ih =>
    by_cases hd : d = c
    · subst hd
      obtain ⟨others, ph, -, mark⟩ := s.killCtx_marks d 1 hf hw
      simp only [State.killMark, Prod.mk.injEq] at mark
      obtain ⟨-, mk, mw⟩ := mark
      exact State.kcause_killCtxs_of_killed cs mk (by rw [mw, others.now])
    · have others := s.killCtx_others d
      have mark := others.marks c (Ne.symm hd)
      simp only [State.killMark, Prod.mk.injEq] at mark
      obtain ⟨mp, -, mw⟩ := mark
      exact ih (List.mem_of_ne_of_mem (Ne.symm hd) hc) (by rw [mp]; exact hf) (by rw [mw, others.now]; exact hw)

theorem State.dev_killCtxs (s : State) (cs : List Nat) : (cs.foldl (fun s c => s.killCtx c 1) s).hub.dev = s.hub.dev :=
  (AgreeOn.foldl (p := fun _ => False) (fun s c => (s.killCtx_others c).mono fun _ h => h.elim) cs s).dev

/-- DCMD RECOVER (R426). -/
theorem State.commandRecover_kills (s : State) : s.commandRecover.hub.dev = { s.hub.dev with stage := 15 }
    ∧ ∀ c x, (c, x) ∈ s.hub.ctx.regs → x.phase ≠ .free → (s.ctx c).phase ≠ .free → (s.ctxWork c).killAt ≠ s.now + 1 →
      (s.commandRecover.ctx c).kcause = 1 := by
  constructor
  · exact congrArg (fun d : DeviceCtl => { d with stage := 15 }) (s.dev_killCtxs _)
  · intro c x hx hp hf hw
    have listed : c ∈ (s.hub.ctx.regs.filter fun p => p.2.phase != .free).map (·.1) :=
      List.mem_map.mpr ⟨(c, x), List.mem_filter.mpr ⟨hx, by simpa using hp⟩, rfl⟩
    exact State.kcause_killCtxs listed hf hw

/-! ### Links (16 R364) -/

theorem State.trains_trainLinks (s : State) (ls : List Nat) : s.Trains (s.trainLinks ls) ls := by
  intro l
  induction ls generalizing s with
  | nil => simp [State.trainLinks]
  | cons x ls ih =>
    refine (ih _).trans ?_
    by_cases hl : l = x
    · subst hl
      by_cases hd : (s.link l).phase = .down ∧ (s.link l).disable = false
      · simp [hd]
      · simp [hd]
    · simp [State.link_modLink_other _ _ _ _ hl, hl]

/-- Training links changes no other part of the package. -/
theorem State.trainLinks_frame (s : State) (ls : List Nat) : ∃ t, s.trainLinks ls = s.modHub fun h => { h with links := t } := by
  induction ls generalizing s with
  | nil => exact ⟨s.hub.links, rfl⟩
  | cons x ls ih =>
    obtain ⟨t, ht⟩ := ih (s.modLink x fun x => if x.phase = .down ∧ x.disable = false then { x with phase := .training } else x)
    exact ⟨t, ht⟩

/-- Where links train, everything else stands as before. -/
theorem State.trainLinks_others (s : State) (ls : List Nat) :
    (s.trainLinks ls).stamp = s.stamp ∧ (s.trainLinks ls).hub.frame = s.hub.frame ∧ (s.trainLinks ls).hub.dev = s.hub.dev
    ∧ (s.trainLinks ls).hub.life = s.hub.life ∧ (s.trainLinks ls).mem = s.mem ∧ (s.trainLinks ls).slots = s.slots := by
  obtain ⟨t, ht⟩ := s.trainLinks_frame ls
  rw [ht]
  exact ⟨rfl, rfl, rfl, rfl, rfl, rfl⟩

/-- Links train behind a change of device control. -/
theorem State.trainLinks_withDev (s : State) (e : DeviceCtl) (ls : List Nat) :
    ((s.withDev e).trainLinks ls).hub.dev = e ∧ s.Trains ((s.withDev e).trainLinks ls) ls ∧ ((s.withDev e).trainLinks ls).mem = s.mem
    ∧ ((s.withDev e).trainLinks ls).slots = s.slots := by
  obtain ⟨-, -, hdev, -, hmem, hslots⟩ := (s.withDev e).trainLinks_others ls
  exact ⟨hdev, (s.withDev e).trains_trainLinks ls, hmem, hslots⟩

/-! ### Reset (19 R426) -/

/-- The package as Keel finds it at the release of the reset, before the links train. -/
def State.released (s : State) : State :=
  { s with stamp := 0, hub := { s.hub with frame := 0, samples := 0, dev := { s.hub.dev with stage := 1 } } }

theorem exec_packageResetRelease {s : State} (h : s.hub.dev.stage = 0) :
    exec .packageResetRelease s = .next ((s.released.trainLinks (rangeFrom 0 17)).bumpLife 1 1) :=
  congrArg Host.Outcome.next (if_neg (not_not.mpr h))

/-- The release of the reset: stage 1 at stamp zero, counted, with the links in training. -/
theorem packageResetRelease_starts {s : State} (h : s.hub.dev.stage = 0) :
    ∃ u, exec .packageResetRelease s = .next u ∧ u.stamp = 0 ∧ u.hub.frame = 0 ∧ u.hub.dev = { s.hub.dev with stage := 1 }
      ∧ s.Trains u (List.range 17) ∧ u.hub.life = (s.lifeUp 1).hub.life ∧ u.mem = s.mem ∧ u.slots = s.slots := by
  have links : rangeFrom 0 17 = List.range 17 := by decide
  rw [exec_packageResetRelease h, links]
  obtain ⟨hstamp, hframe, hdev, hlife, hmem, hslots⟩ := s.released.trainLinks_others (List.range 17)
  have trains : s.Trains (s.released.trainLinks (List.range 17)) (List.range 17) := s.released.trains_trainLinks _
  generalize s.released.trainLinks (List.range 17) = u at *
  refine ⟨_, rfl, hstamp, hframe, hdev, trains, ?_, hmem, hslots⟩
  simp only [State.bumpLife, State.modHub, hlife]
  rfl

/-! ### Features (19 R429) -/

theorem getLsbD_lowBit (a b : BitVec 128) (i : Nat) : ((a &&& ~~~1) ||| (b &&& 1)).getLsbD i = if i = 0 then b.getLsbD 0 else a.getLsbD i := by
  rw [BitVec.getLsbD_or, BitVec.getLsbD_and, BitVec.getLsbD_and, BitVec.getLsbD_not]
  have one : (1 : BitVec 128).getLsbD i = decide (i = 0) := by
    rw [show (1 : BitVec 128) = 1#128 from rfl, BitVec.getLsbD_one]
    simp
  rw [one]
  by_cases hi : i = 0
  · simp [hi]
  · by_cases hw : i < 128
    · simp [hi, hw]
    · simp [hi, hw, BitVec.getLsbD_of_ge a i (by omega)]

theorem State.offer_offers (s : State) (d : DeviceCtl) (v : BitVec 128) : ∃ e, (s.withDev d).offer v = s.withDev e ∧ d.Offers e v :=
  ⟨({ d with devfeat := v }).follow, rfl, rfl, fun i => by
    simp only [DeviceCtl.follow, getLsbD_lowBit, BitVec.getLsbD_and]⟩

theorem exec_cd0Trained {s : State} (h : s.hub.dev.stage = 3) (hl : s.carries 0) : ∃ e, exec (.cd0Trained true) s = .next (s.withDev e)
    ∧ ({ s.hub.dev with stage := 4, service := 1, diesok := 0x11 } : DeviceCtl).Offers e 0x7C := by
  obtain ⟨e, he, ho⟩ := s.offer_offers { s.hub.dev with stage := 4, service := 1, diesok := 0x11 } 0x7C
  have hu : s.linkUp 0 = true := (s.linkUp_iff 0).mpr hl
  refine ⟨e, ?_, ho⟩
  rw [← he]
  refine congrArg Host.Outcome.next ?_
  simp only [h, hu]
  rfl

theorem exec_cd0Trained_idle {s : State} (h : s.hub.dev.stage ≠ 3 ∨ ¬ s.carries 0) : exec (.cd0Trained true) s = .next s := by
  by_cases hs : s.hub.dev.stage = 3
  · have hu : s.linkUp 0 = false := by simpa using mt (s.linkUp_iff 0).mp (h.resolve_left (not_not.mpr hs))
    refine congrArg Host.Outcome.next ?_
    simp [hu]
  · exact congrArg Host.Outcome.next (if_pos hs)

theorem exec_cd0Trained_fails {s : State} (h : s.hub.dev.stage = 3) :
    exec (.cd0Trained false) s = .next (s.withDev { s.hub.dev with stage := 15, keelerr := 5 }) := by
  refine congrArg Host.Outcome.next ?_
  simp only [h]
  rfl

/-! ### The other dies (19 R426) -/

theorem State.dieTrained_iff (s : State) (ok : BitVec 5) (i : Nat) : s.dieTrained ok i = true ↔
    ok.getLsbD i = true ∧ s.carries i ∧ s.carries (4 + i) ∧ s.carries (4 + (i + 3) % 4) := by
  simp only [State.dieTrained, Bool.and_eq_true, State.linkUp_iff, and_assoc]

/-- The DIESOK bits of those of dies 1 to 3 that pass a test. -/
def dieMask (f : Nat → Bool) : BitVec 5 := BitVec.ofNat 5 ((((rangeFrom 1 3).filter f).map (2 ^ ·)).foldl (· + ·) 0)

/-- By the three tests, for each of the five bits and for those above. -/
theorem getLsbD_dieMask (f : Nat → Bool) (i : Nat) : (dieMask f).getLsbD i = true ↔ 1 ≤ i ∧ i ≤ 3 ∧ f i = true := by
  cases h1 : f 1 <;> cases h2 : f 2 <;> cases h3 : f 3 <;>
    rcases i with _ | _ | _ | _ | _ | i <;> simp [dieMask, rangeFrom, h1, h2, h3, BitVec.getLsbD_of_ge]

/-! ### Images (19 R425) -/

theorem field_eq (x : Nat) {hi lo n : Nat} (h : hi - lo + 1 = n) : field x hi lo = x / 2 ^ lo % 2 ^ n := by rw [field, h]

theorem Bytes.readN_eq_map (m : Bytes) (a n : Nat) : m.readN a n = (List.range n).map fun i => m.read (a + i) := by
  induction n generalizing a with
  | zero => rfl
  | succ n ih => simp [Bytes.readN, ih, List.range_succ_eq_map, Function.comp_def, Nat.add_assoc, Nat.add_comm 1]

/-- In stage 1 Keel loads the firmware: from the flash, or from the host's area. -/
theorem exec_keelImageCheck_firmware {s : State} (image : FlashImage) (h : s.hub.dev.stage = 1) :
    exec (.keelImageCheck image) s = .next (s.keelLoads (s.imageOf image).1 (s.imageOf image).2 0) := by
  cases hh : s.hub.dev.fromHost
  · refine congrArg Host.Outcome.next ?_
    simp only [State.imageOf, h, hh]
    rfl
  · refine congrArg Host.Outcome.next ?_
    simp only [State.imageOf, State.hostRest, h, hh, Bytes.readN_eq_map, and_self, reduceIte]

/-- In stage 2 it loads the bitstream. -/
theorem exec_keelImageCheck_bitstream {s : State} (image : FlashImage) (h : s.hub.dev.stage = 2) :
    exec (.keelImageCheck image) s = .next (s.keelLoads (s.imageOf image).1 (s.imageOf image).2 1) := by
  refine congrArg Host.Outcome.next ?_
  simp only [State.imageOf, h]
  rfl

/-- Checks made in turn end at the first that fails. -/
theorem firstFault {bad digest : Prop} [Decidable bad] [Decidable digest] {format signed : Bool} {seq least : Nat} (h : format = true ↔ ¬ bad) :
    (if bad then some 4 else if signed = false then some 1 else if ¬ digest then some 2 else if seq < least then some 3 else none)
      = ((if format = true then [] else [4]) ++ (if signed = true then [] else [1]) ++ (if digest then [] else [2])
        ++ (if least ≤ seq then [] else [3])).head? := by
  by_cases hb : bad
  · simp [hb, h]
  · cases signed
    · simp [hb, h]
    · by_cases hd : digest
      · by_cases hs : seq < least
        · simp [hb, h, hd, hs, Nat.not_le.mpr hs]
        · simp [hb, h, hd, hs, Nat.not_lt.mp hs]
      · simp [hb, h, hd]

/-- The check of an image ends at the first of the faults that it has. -/
theorem State.imageError_eq_head (s : State) (image : FlashImage) (kind : Nat) :
    s.imageError (s.imageOf image).1 (s.imageOf image).2 kind s.hub.dev.fromHost = (s.imageFaults image kind).head? := by
  unfold State.imageFaults
  rcases s.imageOf image with ⟨h, rest⟩
  unfold State.imageError
  simp only [field_eq h (show 31 - 0 + 1 = 32 from rfl), field_eq h (show 39 - 32 + 1 = 8 from rfl), field_eq h (show 47 - 41 + 1 = 7 from rfl),
    field_eq h (show 63 - 48 + 1 = 16 from rfl), field_eq h (show 255 - 64 + 1 = 192 from rfl), field_eq h (show 319 - 256 + 1 = 64 from rfl),
    field_eq h (show 351 - 320 + 1 = 32 from rfl), field_eq h (show 607 - 352 + 1 = 256 from rfl),
    field_eq h (show 2047 - 608 + 1 = 1440 from rfl), toBytes_eq_bytesOf]
  refine firstFault ?_
  simp only [Bool.and_eq_true, Bool.or_eq_true, Bool.not_eq_true', beq_iff_eq, decide_eq_true_eq, not_or, ne_eq, not_not, not_lt, not_and_or,
    Bool.not_eq_true, and_assoc]

section
variable {s : State} {image : FlashImage}

/-- An image with a fault leads to stage 15 with the code of its first fault. -/
theorem State.keelLoads_faulty {kind e : Nat} {es : List Nat} (h : s.imageFaults image kind = e :: es) :
    s.keelLoads (s.imageOf image).1 (s.imageOf image).2 kind
      = s.withDev { s.hub.dev with stage := 15, keelerr := BitVec.ofNat 8 e, fromHost := false } := by
  unfold State.keelLoads
  rw [s.imageError_eq_head, h]
  rfl

/-- Firmware without a fault leads to stage 2. -/
theorem State.keelLoads_firmware (h : s.imageFaults image 0 = []) :
    s.keelLoads (s.imageOf image).1 (s.imageOf image).2 0 = s.withDev { s.hub.dev with
      stage := 2, keelerr := 0, fwDigest := BitVec.ofNat 256 ((s.imageOf image).1 / 2 ^ 352 % 2 ^ 256)
      fwSeq := BitVec.ofNat 16 ((s.imageOf image).1 / 2 ^ 48 % 2 ^ 16), fwCommit := decide ((s.imageOf image).1 / 2 ^ 40 % 2 ^ 1 = 1)
      fromHost := false } := by
  unfold State.keelLoads
  rw [s.imageError_eq_head, h]
  rfl

/-- A bitstream without a fault leads to stage 3, with the links of the hub to the dies and to the host in training. -/
theorem State.keelLoads_bitstream (h : s.imageFaults image 1 = []) :
    s.keelLoads (s.imageOf image).1 (s.imageOf image).2 1 = (s.withDev { s.hub.dev with
      stage := 3, bsDigest := BitVec.ofNat 256 ((s.imageOf image).1 / 2 ^ 352 % 2 ^ 256)
      bsSeq := BitVec.ofNat 16 ((s.imageOf image).1 / 2 ^ 48 % 2 ^ 16)
      bsCommit := decide ((s.imageOf image).1 / 2 ^ 40 % 2 ^ 1 = 1) }).trainLinks [0, 1, 2, 3, 8] := by
  unfold State.keelLoads
  rw [s.imageError_eq_head, h]
  rfl

theorem exec_keelImageCheck_restart (h : s.hub.dev.stage = 15) :
    exec (.keelImageCheck image) s = .next (s.withDev { s.hub.dev with stage := 1, fromHost := true }) := by
  refine congrArg Host.Outcome.next ?_
  simp only [h]
  rfl

theorem exec_keelImageCheck_idle (h1 : s.hub.dev.stage ≠ 1) (h2 : s.hub.dev.stage ≠ 2) (h15 : s.hub.dev.stage ≠ 15) :
    exec (.keelImageCheck image) s = .next s :=
  congrArg Host.Outcome.next ((if_neg h1).trans ((if_neg h2).trans (if_neg h15)))

end

/-- A bitstream without a fault: stage 3, and links 0 to 3 and 8 train. -/
theorem keelLoads_bitstream_trains {s : State} {image : FlashImage} (h : s.imageFaults image 1 = []) :
    let f (lo n : Nat) : Nat := (s.imageOf image).1 / 2 ^ lo % 2 ^ n
    let u := s.keelLoads (s.imageOf image).1 (s.imageOf image).2 1
    u.hub.dev = { s.hub.dev with
      stage := 3, bsDigest := BitVec.ofNat 256 (f 352 256), bsSeq := BitVec.ofNat 16 (f 48 16), bsCommit := decide (f 40 1 = 1) }
    ∧ s.Trains u [0, 1, 2, 3, 8] ∧ u.mem = s.mem ∧ u.slots = s.slots := by
  dsimp only
  rw [State.keelLoads_bitstream h]
  exact s.trainLinks_withDev _ _

/-! ### Stage 4 (19 R426) -/

/-- What ALL_DIES_TRAINED does in stage 4: the dies that have trained are noted, and once all three have, the package goes to stage 5. -/
theorem exec_allDiesTrained {s : State} (ok : BitVec 5) (h : s.hub.dev.stage = 4) :
    let t := s.withDev { s.hub.dev with diesok := s.hub.dev.diesok ||| dieMask (s.dieTrained ok) }
    exec (.allDiesTrained ok) s = .next (
      if ((rangeFrom 1 3).filter (s.dieTrained ok)).length = 3 ∧ (rangeFrom 1 7).all (fun l => s.linkUp l) = true then
        (t.withDev { t.hub.dev with stage := 5 }).offer (s.hub.dev.devfeat ||| 1)
      else t) :=
  congrArg Host.Outcome.next (if_neg (not_not.mpr h))

/-- All of dies 1 to 3 pass a test. -/
theorem length_filter_dies (f : Nat → Bool) : ((rangeFrom 1 3).filter f).length = 3 ↔ f 1 = true ∧ f 2 = true ∧ f 3 = true := by
  cases h1 : f 1 <;> cases h2 : f 2 <;> cases h3 : f 3 <;> simp [rangeFrom, h1, h2, h3]

/-- Links 1 to 7 carry traffic where dies 1 to 3 have trained with theirs. -/
theorem State.linksUp_of_dieTrained {s : State} {ok : BitVec 5} (h1 : s.dieTrained ok 1 = true) (h2 : s.dieTrained ok 2 = true)
    (h3 : s.dieTrained ok 3 = true) : (rangeFrom 1 7).all (fun l => s.linkUp l) = true := by
  simp only [State.dieTrained, Bool.and_eq_true] at h1 h2 h3
  simp [rangeFrom, h1, h2, h3]

theorem exec_allDiesTrained_all {s : State} {ok : BitVec 5} (h : s.hub.dev.stage = 4) (h1 : s.dieTrained ok 1 = true)
    (h2 : s.dieTrained ok 2 = true) (h3 : s.dieTrained ok 3 = true) : ∃ e, exec (.allDiesTrained ok) s = .next (s.withDev e)
      ∧ ({ s.hub.dev with stage := 5, diesok := s.hub.dev.diesok ||| 0x0E } : DeviceCtl).Offers e (s.hub.dev.devfeat ||| 1) := by
  have mask : dieMask (s.dieTrained ok) = 0x0E := by simp [dieMask, rangeFrom, h1, h2, h3]
  rw [exec_allDiesTrained ok h, if_pos ⟨(length_filter_dies _).mpr ⟨h1, h2, h3⟩, State.linksUp_of_dieTrained h1 h2 h3⟩, mask]
  obtain ⟨e, he, ho⟩ := s.offer_offers { s.hub.dev with stage := 5, diesok := s.hub.dev.diesok ||| 0x0E } (s.hub.dev.devfeat ||| 1)
  exact ⟨e, congrArg Host.Outcome.next he, ho⟩

theorem exec_allDiesTrained_some {s : State} {ok : BitVec 5} (h : s.hub.dev.stage = 4)
    (hn : ¬ (s.dieTrained ok 1 = true ∧ s.dieTrained ok 2 = true ∧ s.dieTrained ok 3 = true)) :
    exec (.allDiesTrained ok) s = .next (s.withDev { s.hub.dev with diesok := s.hub.dev.diesok ||| dieMask (s.dieTrained ok) }) := by
  rw [exec_allDiesTrained ok h, if_neg fun hall => hn ((length_filter_dies _).mp hall.1)]

/-! ### Writes of DRVFEAT (19 R429) -/

theorem State.acceptFeatures_whole {s : State} (v : BitVec 128) (h : ∀ p ∈ s.hub.ctx.regs, p.2.phase = .free) :
    s.acceptFeatures v = (s.withDev { s.hub.dev with drvfeat := v, agreed := v &&& s.hub.dev.devfeat, negotiated := true }).narrowLadder := by
  have hall : s.hub.ctx.regs.all (fun p => p.2.phase == .free) = true := by simpa using fun a b hb => h (a, b) hb
  simp only [State.acceptFeatures, hall, reduceIte]
  rfl

theorem State.acceptFeatures_bit0 {s : State} (v : BitVec 128) (h : ¬ ∀ p ∈ s.hub.ctx.regs, p.2.phase = .free) :
    s.acceptFeatures v = s.withDev ({ s.hub.dev with drvfeat := (s.hub.dev.drvfeat &&& ~~~1) ||| (v &&& 1) } : DeviceCtl).follow := by
  have hall : ¬ s.hub.ctx.regs.all (fun p => p.2.phase == .free) = true := by
    rw [List.all_eq_true]
    exact fun hp => h fun p hm => by simpa using hp p hm
  simp only [State.acceptFeatures, hall]
  rfl

/-- The ladder is narrow unless the service is full and bit 1 agreed. -/
theorem State.narrowLadder_eq (s : State) : s.narrowLadder = s.modHub fun h => { h with
    ballast := if s.hub.dev.service = 2 ∧ s.hub.dev.agreed.getLsbD 1 = true then h.ballast
      else h.ballast.map fun p => (p.1, if p.2.level = 3 ∨ p.2.level = 5 then p.2 else p.2.init 7) } := by
  unfold State.narrowLadder
  by_cases h : s.hub.dev.service = 2 ∧ s.hub.dev.agreed.getLsbD 1 = true
  · have hf : s.fullLadder = true := by simpa [State.fullLadder] using h
    rw [if_pos hf]
    simp only [h, and_self, reduceIte]
    rfl
  · have hf : ¬ s.fullLadder = true := by simpa [State.fullLadder] using h
    rw [if_neg hf]
    simp only [h, reduceIte]

/-- A write of DRVFEAT while every context is Free. -/
theorem exec_drvfeatWrite_whole {s : State} {v : BitVec 128} (h : ∀ p ∈ s.hub.ctx.regs, p.2.phase = .free) :
    exec (.drvfeatWrite v) s = .next
      ((s.withDev { s.hub.dev with drvfeat := v, agreed := v &&& s.hub.dev.devfeat, negotiated := true }).modHub fun h => { h with
        ballast := if s.hub.dev.service = 2 ∧ (v &&& s.hub.dev.devfeat).getLsbD 1 = true then h.ballast
          else h.ballast.map fun p => (p.1, if p.2.level = 3 ∨ p.2.level = 5 then p.2 else p.2.init 7) }) := by
  refine congrArg Host.Outcome.next ?_
  rw [State.acceptFeatures_whole v h, State.narrowLadder_eq]
  rfl

/-- Any other write of DRVFEAT changes bit 0 alone, of DRVFEAT and of AGREED. -/
theorem exec_drvfeatWrite_bit0 {s : State} {v : BitVec 128} (h : ¬ ∀ p ∈ s.hub.ctx.regs, p.2.phase = .free) :
    ∃ e, exec (.drvfeatWrite v) s = .next (s.withDev e)
      ∧ (∀ i, e.drvfeat.getLsbD i = if i = 0 then v.getLsbD 0 else s.hub.dev.drvfeat.getLsbD i)
      ∧ (∀ i, e.agreed.getLsbD i = if i = 0 then v.getLsbD 0 && s.hub.dev.devfeat.getLsbD 0 else s.hub.dev.agreed.getLsbD i)
      ∧ e = { s.hub.dev with drvfeat := e.drvfeat, agreed := e.agreed } := by
  refine ⟨_, congrArg Host.Outcome.next (State.acceptFeatures_bit0 v h), getLsbD_lowBit _ _, fun i => ?_, rfl⟩
  simp only [DeviceCtl.follow, getLsbD_lowBit, BitVec.getLsbD_and, reduceIte]

/-! ### Full service (19 R426, R428) -/

/-- Contexts are chosen for switch-out one by one. -/
def State.leaveAll (s : State) (cs : List Nat) : State := cs.foldl (fun s c => s.modCtxWork c fun w => { w with leaving := true }) s

theorem State.leaveAll_frame (s : State) (cs : List Nat) :
    ∃ t, s.leaveAll cs = s.modHub fun h => { h with ctx := { h.ctx with work := t } } := by
  induction cs generalizing s with
  | nil => exact ⟨s.hub.ctx.work, rfl⟩
  | cons c cs ih =>
    obtain ⟨t, ht⟩ := ih (s.modCtxWork c fun w => { w with leaving := true })
    exact ⟨t, ht⟩

theorem State.leaving_leaveAll {s : State} {c : Nat} {cs : List Nat} (h : c ∈ cs ∨ (s.ctxWork c).leaving = true) :
    ((s.leaveAll cs).ctxWork c).leaving = true := by
  induction cs generalizing s with
  | nil => exact h.resolve_left List.not_mem_nil
  | cons d cs ih =>
    refine ih (s := s.modCtxWork d fun w => { w with leaving := true }) ?_
    by_cases hd : c = d
    · exact .inr (by rw [hd, State.ctxWork_modCtxWork_same])
    · rw [State.ctxWork_modCtxWork_other _ _ _ _ hd]
      exact h.imp_left fun hm => List.mem_of_ne_of_mem hd hm

theorem State.commandFull_idle {s : State} (h : ¬ (s.hub.dev.stage = 5 ∧ s.hub.dev.agreed.getLsbD 0 = true)) : s.commandFull = s := if_neg h

/-- DCMD FULL in stage 5 with bit 0 agreed. -/
theorem State.commandFull_leaves {s : State} (h : s.hub.dev.stage = 5) (ha : s.hub.dev.agreed.getLsbD 0 = true) :
    s.commandFull.hub.dev = { s.hub.dev with stage := 6 } ∧ s.commandFull.slots = s.slots
    ∧ (∀ c x, (c, x) ∈ s.hub.ctx.regs → x.phase = .resident → (s.commandFull.ctxWork c).leaving = true)
    ∧ s.commandFull.hub.ctx.regs = s.hub.ctx.regs := by
  have hfull : s.commandFull = (s.withDev { s.hub.dev with stage := 6 }).leaveAll s.residents := if_pos ⟨h, ha⟩
  obtain ⟨t, ht⟩ := (s.withDev { s.hub.dev with stage := 6 }).leaveAll_frame s.residents
  refine ⟨?_, ?_, fun c x hx hp => ?_, ?_⟩
  · rw [hfull, ht]; rfl
  · rw [hfull, ht]; rfl
  · rw [hfull]
    exact State.leaving_leaveAll (.inl (List.mem_map.mpr ⟨(c, x), List.mem_filter.mpr ⟨hx, by simpa using hp⟩, rfl⟩))
  · rw [hfull, ht]; rfl

/-- A context that keeps the package from full service. -/
def State.switching (s : State) : Prop := ∃ p ∈ s.hub.ctx.regs, p.2.phase = .resident ∨ p.2.phase = .loading ∨ p.2.phase = .saving

theorem State.any_busy_iff (s : State) :
    s.hub.ctx.regs.any (fun p => p.2.phase == .resident || p.2.phase == .loading || p.2.phase == .saving) = true ↔ s.switching := by
  simp only [State.switching, List.any_eq_true, Bool.or_eq_true, beq_iff_eq, or_assoc]

theorem exec_switchingDone_idle {s : State} (h : s.hub.dev.stage ≠ 6 ∨ s.switching) : exec .switchingDone s = .next s := by
  rw [← State.any_busy_iff] at h
  exact congrArg Host.Outcome.next (if_pos h)

theorem raised_eq (commit : Bool) (old new : BitVec 16) :
    (if (commit && decide (old < new)) = true then new else old) = if commit = true ∧ old < new then new else old := by
  cases commit <;> simp

theorem exec_switchingDone {s : State} (h : s.hub.dev.stage = 6) (hb : ¬ s.switching) : ∃ u, exec .switchingDone s = .next u
    ∧ ({ s.hub.dev with stage := 7, service := 2 } : DeviceCtl).Offers u.hub.dev 0x7F
    ∧ u = { s with hub := { s.hub with
        dev := u.hub.dev
        nv := { s.hub.nv with
          minFw := if s.hub.dev.fwCommit = true ∧ s.hub.nv.minFw < s.hub.dev.fwSeq then s.hub.dev.fwSeq else s.hub.nv.minFw
          minBs := if s.hub.dev.bsCommit = true ∧ s.hub.nv.minBs < s.hub.dev.bsSeq then s.hub.dev.bsSeq else s.hub.nv.minBs } } } := by
  rw [← State.any_busy_iff] at hb
  obtain ⟨e, he, ho⟩ := s.offer_offers { s.hub.dev with stage := 7, service := 2 } 0x7F
  have hx : exec .switchingDone s = .next ((s.withDev e).modNv fun v => { v with
      minFw := if s.hub.dev.fwCommit && decide (s.hub.nv.minFw < s.hub.dev.fwSeq) then s.hub.dev.fwSeq else s.hub.nv.minFw
      minBs := if s.hub.dev.bsCommit && decide (s.hub.nv.minBs < s.hub.dev.bsSeq) then s.hub.dev.bsSeq else s.hub.nv.minBs }) := by
    rw [← he]
    exact congrArg Host.Outcome.next (if_neg (not_or.mpr ⟨not_not.mpr h, hb⟩))
  rw [raised_eq, raised_eq] at hx
  exact ⟨_, hx, ho, rfl⟩

/-! ### Attestation (19 R431, R432) -/

theorem State.attest_asked {s : State} {n : BitVec 256} (h : s.hub.attest.asked = some n) :
    s.attest = s.modHub fun h => { h with attest := { h.attest with asked := some n } } := by
  simp only [State.attest, State.modHub, h, Option.getD_some]

theorem State.attest_new {s : State} (h : s.hub.attest.asked = none) :
    s.attest = s.modHub fun h => { h with attest := { h.attest with asked := some s.hub.attest.nonce } } := by
  simp only [State.attest, State.modHub, h, Option.getD_none]

theorem State.keelAnswers_none {s : State} (h : s.hub.attest.asked = none) : s.keelAnswers = s := by
  simp only [State.keelAnswers, h]

/-- In a cycle in which Keel does not answer, a request waits on. -/
theorem State.keelAnswers_waits {s : State} {n : BitVec 256} (h : s.hub.attest.asked = some n) (hv : Config.freeNat s.free % 2 = 0) :
    s.keelAnswers = { s with free := s.free + 1 } := by
  simp only [State.keelAnswers, h, State.takeFree, hv, Nat.zero_ne_one, reduceIte]

theorem State.keelAnswers_answers {s : State} {n : BitVec 256} (h : s.hub.attest.asked = some n) (hv : Config.freeNat s.free % 2 = 1) :
    s.keelAnswers = ({ s with free := s.free + 1 } : State).answerAttest n := by
  simp only [State.keelAnswers, h, State.takeFree, hv, reduceIte]

/-- Keel refuses a request once the leaves are used up. -/
theorem State.answerAttest_refuses {s : State} {n : BitVec 256} (h : 2 ^ 15 ≤ s.hub.nv.leaf.toNat) :
    s.answerAttest n = s.modHub fun h => { h with attest := { h.attest with refused := true, asked := none } } := if_pos h

/-- Else it answers with the nonce of the request and the next leaf. -/
theorem State.answerAttest_answers {s : State} {n : BitVec 256} (h : s.hub.nv.leaf.toNat < 2 ^ 15) :
    s.answerAttest n = s.modHub fun h => { h with
      nv := { h.nv with leaf := h.nv.leaf + 1 }
      attest := { nonce := h.attest.nonce, asked := none, answered := true, refused := false, ansNonce := n, ansStage := s.hub.dev.stage
                  ansAgreed := s.hub.dev.agreed, ansLeaf := h.nv.leaf, ansDigests := s.hub.dev.fwDigest ++ s.hub.dev.bsDigest
                  ansSeqs := s.hub.dev.fwSeq ++ s.hub.dev.bsSeq, sigNum := h.nv.leaf.toNat } } := if_neg (Nat.not_le.mpr h)

/-! ### Power and lifetime (19 R434; 18 R423) -/

theorem exec_throttle (s : State) (on : Bool) : exec (.throttle on) s = .next (s.withDev { s.hub.dev with
    withhold := on || (s.hub.dev.withhold && (decide (3000 < s.hub.dev.current.toNat) || decide (105 ≤ s.hub.dev.junction))) }) := by
  refine congrArg Host.Outcome.next ?_
  simp only [DeviceCtl.pastLimit, Bool.decide_or]
  rfl

theorem tempCounter_eq_tempIndex (t : Int) : tempCounter t = (tempIndex t).toNat := by
  unfold tempCounter tempIndex
  split
  · rfl
  · split <;> split <;> omega

/-- The part of a temperature sample that does not depend on the sample's place among the frames. -/
theorem exec_temperatureSample (s : State) (t : Int) :
    let hot : State := { s.withDev { s.hub.dev with junction := t.toNat, withhold := s.hub.dev.withhold || decide (105 ≤ t) } with
      agenda := if 125 ≤ t then .event 0 .junctionOvertempReset :: s.agenda else s.agenda }
    exec (.temperatureSample t) s = .next (if s.now / 2 ^ 27 ≤ s.hub.samples then hot
      else (hot.modHub fun h => { h with samples := h.samples + 1 }).lifeUp (tempIndex t).toNat) := by
  rw [← tempCounter_eq_tempIndex]
  refine congrArg Host.Outcome.next ?_
  split <;> rfl

theorem exec_softErrorCorrection {s : State} {i : Nat} (h : softCounter i) : exec (.softErrorCorrection i) s = .next (s.lifeUp i) :=
  congrArg Host.Outcome.next (if_pos h)

theorem exec_softErrorCorrection_other {s : State} {i : Nat} (h : ¬ softCounter i) : exec (.softErrorCorrection i) s = .next s :=
  congrArg Host.Outcome.next (if_neg h)

theorem exec_lifetimeCounterSave {s : State} (h : 2 ^ 20 ∣ s.hub.frame) : exec .lifetimeCounterSave s = .next s.saveLife :=
  congrArg Host.Outcome.next (if_pos (Nat.mod_eq_zero_of_dvd h))

theorem exec_lifetimeCounterSave_other {s : State} (h : ¬ 2 ^ 20 ∣ s.hub.frame) : exec .lifetimeCounterSave s = .next s :=
  congrArg Host.Outcome.next (if_neg fun hm => h (Nat.dvd_of_mod_eq_zero hm))

/-! ### The statement -/

/-- Settles O59: one lemma for each step of bring-up, by the stage that the package stands in. -/
theorem bringUp : Obligations.BringUp := by
  intro s d stays
  refine ⟨rfl, fun h => congrArg Host.Outcome.next (if_pos h), fun h => congrArg Host.Outcome.next (if_neg (Nat.not_le.mpr h)), rfl,
    fun h => congrArg Host.Outcome.next (if_pos h), packageResetRelease_starts, fun image => ⟨?_, ?_, ?_, ?_⟩, exec_cd0Trained_idle,
    fun h => congrArg Host.Outcome.next (if_pos h), exec_cd0Trained_fails, exec_cd0Trained, fun ok => ⟨?_, fun h => ⟨?_, ?_⟩⟩,
    fun v => ⟨exec_drvfeatWrite_whole, exec_drvfeatWrite_bit0⟩, ?_, ?_, ⟨exec_switchingDone_idle, exec_switchingDone⟩, ?_, ⟨?_, ?_, ?_⟩,
    exec_throttle s, fun t => ⟨?_, ?_⟩,
    fun i => ⟨exec_softErrorCorrection, exec_softErrorCorrection_other⟩, rfl, rfl, exec_lifetimeCounterSave, exec_lifetimeCounterSave_other⟩
  · exact exec_keelImageCheck_idle
  · exact exec_keelImageCheck_restart
  · intro h
    rw [exec_keelImageCheck_firmware image h]
    rcases hf : s.imageFaults image 0 with _ | ⟨e, es⟩
    · rw [State.keelLoads_firmware hf]
    · rw [State.keelLoads_faulty hf]
  · intro h
    rw [exec_keelImageCheck_bitstream image h]
    rcases hf : s.imageFaults image 1 with _ | ⟨e, es⟩
    · exact ⟨_, rfl, keelLoads_bitstream_trains hf⟩
    · exact ⟨_, rfl, State.keelLoads_faulty hf⟩
  · exact fun h => congrArg Host.Outcome.next (if_pos h)
  · simp only [← State.dieTrained_iff]
    exact fun hn => ⟨_, exec_allDiesTrained_some h hn, getLsbD_dieMask _⟩
  · simp only [← State.dieTrained_iff]
    exact fun ⟨h1, h2, h3⟩ => exec_allDiesTrained_all h h1 h2 h3
  · exact fun h => congrArg Host.Outcome.next (State.commandFull_idle h)
  · exact fun h ha => ⟨s.commandFull, rfl, State.commandFull_leaves h ha⟩
  · exact ⟨s.commandRecover, rfl, s.commandRecover_kills⟩
  · exact fun n h => congrArg Host.Outcome.next (State.attest_asked h)
  · exact fun h => ⟨congrArg Host.Outcome.next (State.attest_new h), State.keelAnswers_none h⟩
  · refine fun n h => ⟨State.keelAnswers_waits h, fun hv hq => ?_, fun hv hq => ?_⟩
    · exact (State.keelAnswers_answers h hv).trans (State.answerAttest_refuses hq)
    · exact (State.keelAnswers_answers h hv).trans (State.answerAttest_answers hq)
  · intro h
    rw [exec_temperatureSample, if_pos h]
  · intro h
    rw [exec_temperatureSample, if_neg (Nat.not_le.mpr h)]

end Sys2Proof.Machine
end

section
/-!
CERTIFICATES of the family 01_device: the package step that a step makes (R23, R371, R460), what reset leaves (R20), and the soundness of
the reset state and of every next state (R260; log 11).
-/

namespace Sys2Proof.Machine

/-! ### How a step settles -/

/-- What settles to a next state is that state, and it carries no fault. -/
theorem settle_eq_next_iff {o : Out} {t : State} : settle o = .next t ↔ o = .next t ∧ t.stuck = none := by
  cases o with
  | next u =>
    cases h : u.stuck with
    | none =>
      simp only [settle, h, Host.Outcome.next.injEq]
      exact ⟨fun e => ⟨e, e ▸ h⟩, And.left⟩
    | some f =>
      simp only [settle, h, Host.Outcome.next.injEq, reduceCtorEq, false_iff]
      rintro ⟨rfl, ht⟩
      simp [h] at ht
  | fault f => simp [settle]
  | refused r => simp [settle]

theorem step_of_stuck {s : State} {f : Fault} (h : s.stuck = some f) : step s = .fault f := by
  simp only [step, h]

theorem step_of_move {s : State} {m : Move} {rest : List Move} (h : s.stuck = none) (ha : s.agenda = m :: rest) :
    step s = settle (State.make { s with agenda := rest } m) := by
  simp only [step, h, ha]

theorem step_of_schedule {s : State} (h : s.stuck = none) (ha : s.agenda = []) :
    step s = settle (State.advance { s with free := s.free + 1 } (Config.nextMove s.free)) := by
  simp only [step, h, ha]

/-- A state that `step` answers as next carries no fault, whatever move led there. -/
theorem stuck_of_step_eq_next {s t : State} (h : step s = .next t) : t.stuck = none := by
  cases hs : s.stuck with
  | some f =>
    rw [step_of_stuck hs] at h
    cases h
  | none =>
    cases ha : s.agenda with
    | nil =>
      rw [step_of_schedule hs ha] at h
      exact (settle_eq_next_iff.mp h).2
    | cons m rest =>
      rw [step_of_move hs ha] at h
      exact (settle_eq_next_iff.mp h).2

/-! ### Package steps (log 12) -/

/-- A package step that is neither a word nor made by a counter at its word is executed at its unit if the unit admits it. -/
theorem State.packageStep_event (s : State) (unit : Nat) {i : Instr} (hw : encode i = none) (hl : ∀ e, i ≠ .laggingOutcomeTake e)
    (hn : ∀ w, i ≠ .notAnInstruction w) :
    s.packageStep unit i = if s.admits unit i = true then exec i { s with cur := unit } else .next s := by
  unfold State.packageStep
  split
  · next e => exact absurd rfl (hl e)
  · next w => exact absurd rfl (hn w)
  · cases s.admits unit i <;> simp [hw]

/-- Whether a unit admits a step does not depend on what the agenda holds. -/
theorem State.admits_agenda (s : State) (rest : List Move) (unit : Nat) (i : Instr) :
    ({ s with agenda := rest } : State).admits unit i = s.admits unit i := rfl

/-- Settles O4: the move is a package step, which its unit admits or not. -/
theorem stepRunsEvent : Obligations.StepRunsEvent := by
  intro s unit i rest hs ha hw hl hn
  have move : step s = settle (if s.admits unit i = true then exec i { s with agenda := rest, cur := unit }
      else .next { s with agenda := rest }) := by
    rw [step_of_move hs ha, State.make, State.packageStep_event _ unit hw hl hn, State.admits_agenda]
  constructor
  · intro h
    rw [move, if_pos h]
  · intro h
    rw [move, if_neg (by simp [h])]
    exact settle_eq_next_iff.mpr ⟨rfl, hs⟩

/-! ### What a read of the reset state finds: a unit that is not listed is at its own reset value -/

@[simp] theorem State.reset_slot (n : Nat) : State.reset.slot n = Slot.reset := rfl

@[simp] theorem State.reset_core (n : Nat) : State.reset.core n = CoreState.reset := rfl

@[simp] theorem State.reset_link (n : Nat) : State.reset.link n = Link.reset := rfl

@[simp] theorem State.reset_ctx (n : Nat) : State.reset.ctx n = Ctx.reset := rfl

@[simp] theorem State.reset_queue (n : Nat) : State.reset.queue n = WorkQueue.reset := rfl

@[simp] theorem State.reset_barrier (n : Nat) : State.reset.barrier n = Barrier.reset := rfl

@[simp] theorem Regs.reset_getG (n : Nat) : Regs.reset.getG n = 0 := ite_self 0

@[simp] theorem Regs.reset_getK (n : Nat) : Regs.reset.getK n = Token.reset := rfl

/-- A free slot with its registers, masks, loop levels and outcome queue empty, and SLIPW 256 (03 R60, R63). -/
theorem Slot.reset_values : Slot.reset.busy = false ∧ (∀ g, Slot.reset.regs.getG g = 0) ∧ (∀ k, Slot.reset.regs.getK k = Token.reset)
    ∧ Slot.reset.regs.masks = [] ∧ Slot.reset.seq.pc.loops = [] ∧ Slot.reset.seq.outq = [] ∧ Slot.reset.seq.slipw = 256 :=
  ⟨rfl, Regs.reset_getG, Regs.reset_getK, rfl, rfl, rfl, rfl⟩

/-- Settles O6: the registers of the package by their reset columns, and each numbered unit as one that is not listed. -/
theorem resetValues : Obligations.ResetValues := by
  refine ⟨rfl, rfl, rfl, rfl, rfl, rfl, fun n => ?slot, fun c b => ?bank, fun l => congrArg Link.phase (State.reset_link l),
    fun c => congrArg Ctx.phase (State.reset_ctx c), fun q => congrArg WorkQueue.phase (State.reset_queue q),
    fun b => congrArg Barrier.phase (State.reset_barrier b)⟩
  case slot =>
    rw [State.reset_slot]
    exact Slot.reset_values
  case bank =>
    rw [State.reset_core]
    rfl

/-! ### The soundness of reset and of every next state -/

/-- No memory is listed at reset, and the empty memory is in canonical form (log 4). -/
theorem State.reset_memWf : State.reset.memWf = true := rfl

theorem State.running_iff {s : State} : s.running = true ↔ s.stuck = none := Option.isNone_iff_eq_none

/-- Settles O7: at reset no memory is listed and no fault is marked, and a step that meets the mark answers the fault (log 11). -/
theorem runningKept : Obligations.RunningKept :=
  ⟨State.reset_memWf, State.running_iff.mpr rfl, fun _ _ h => State.running_iff.mpr (stuck_of_step_eq_next h)⟩

end Sys2Proof.Machine
end

section
/-!
CERTIFICATES of the family 02_numbers: how a vector word issues (06 R144-R150) and what its flight writes (R142), the draws of VRNG with
the draw filter (02 R47-R51; 06 R170), and the probes of VSTAT (R171).
-/

namespace Sys2Proof.Machine

/-! ### Repeated updates of one slot -/

theorem Tab.put_put {α : Type} (m : Tab α) (k : Nat) (u v : α) : Tab.put (Tab.put m k u) k v = Tab.put m k v := by
  induction m with
  | nil => simp [Tab.put]
  | cons e t ih =>
    obtain ⟨k', w⟩ := e
    simp only [Tab.put]
    split
    · simp [Tab.put]
    · split
      · simp [Tab.put]
      · next h₁ h₂ => simp [Tab.put, h₁, h₂, ih]

theorem State.modSlot_modSlot (s : State) (n : Nat) (f g : Slot → Slot) :
    State.modSlot n g (State.modSlot n f s) = State.modSlot n (fun x => g (f x)) s := by
  have h := State.slot_modSlot_same s n f
  simp only [State.modSlot] at h ⊢
  rw [h, Tab.put_put]

theorem State.modCore_modCore (s : State) (n : Nat) (f g : CoreState → CoreState) :
    State.modCore n g (State.modCore n f s) = State.modCore n (fun x => g (f x)) s := by
  have h := State.core_modCore_same s n f
  simp only [State.modCore] at h ⊢
  rw [h, Tab.put_put]

/-! ### Tiles and positions as a vector word sees them (06 R140-R142) -/

theorem rangeFrom_eq_range' (a n : Nat) : rangeFrom a n = List.range' a n := by
  induction n generalizing a with
  | zero => rfl
  | succ n ih => rw [rangeFrom, ih, List.range'_succ]

@[simp] theorem VEnv.tile_eq (e : VEnv) (name : Nat) : e.tile name = e.sl.tileOf name := by
  have inside (r : Nat) : (r ≠ 0 ∧ 32 ≤ name ∧ name < 32 + r) ↔ (32 ≤ name ∧ name < 32 + r) := by omega
  simp only [VEnv.tile, rotated, Slot.tileOf, inside]

@[simp] theorem VEnv.place_eq (e : VEnv) (name i j w : Nat) : e.place name i j w = e.sl.placeOf name i j w := by
  rw [VEnv.place, VEnv.tile_eq, Slot.placeOf]

@[simp] theorem VEnv.code_eq (e : VEnv) (name i j w : Nat) : e.code name i j w = e.sl.element name i j w := by
  simp only [VEnv.code, VEnv.place_eq, Slot.element]

@[simp] theorem VEnv.val_eq (e : VEnv) (name i j : Nat) :
    e.val name i j = decodeCode e.sh.fmt (e.sl.element name i j e.sh.width) := by
  rw [VEnv.val, VEnv.code_eq]
  rfl

@[simp] theorem VEnv.enabled_eq (e : VEnv) (i j : Nat) : e.enabled i j = e.sl.isEnabled i j := by
  unfold VEnv.enabled Slot.isEnabled
  cases e.sl.regs.masks with
  | nil => rfl
  | cons m rest => simp [Nat.mul_comm]

@[simp] theorem positions_eq_places (sh : VShape) : positions sh.rows sh.cols = sh.places := by
  simp only [positions, VShape.places, rangeFrom_eq_range', List.range_eq_range']

@[simp] theorem VEnv.each_eq (e : VEnv) : e.each = e.sh.on e.sl := by
  simp only [VEnv.each, VShape.on, positions_eq_places, VEnv.enabled_eq]

theorem VShape.mem_on {sh : VShape} {sl : Slot} {p : Nat × Nat} (h : p ∈ sh.on sl) : p.1 < sh.rows ∧ p.2 < sh.cols := by
  simp only [VShape.on, VShape.places, List.mem_filter, List.mem_flatMap, List.mem_map, List.mem_range] at h
  obtain ⟨⟨i, hi, j, hj, rfl⟩, -⟩ := h
  exact ⟨hi, hj⟩

/-- A row of an operand that fits 1,024 bits lies in one tile. -/
theorem VEnv.tilesOf_narrow (e : VEnv) (name w : Nat) (hw : e.sh.cols * w ≤ 1024) : e.tilesOf name w = [e.sl.tileOf name] := by
  have last : e.lastName name w = name := by
    have hlt : w * (e.sh.cols - 1) < 1024 := by
      rcases Nat.eq_zero_or_pos w with rfl | h
      · omega
      · rw [Nat.mul_sub_one, Nat.mul_comm]
        omega
    rw [VEnv.lastName, Nat.div_eq_of_lt hlt, Nat.add_zero]
  simp [VEnv.tilesOf, last, rangeFrom]

/-- A result element at an enabled position lies in a tile that its operand covers. -/
theorem VEnv.map_place_mem (e : VEnv) (vd w : Nat) (f : Nat → Nat → Nat) {x : Nat × Nat × Nat × Nat} (hx : x ∈ e.map vd w f) :
    x.1 ∈ e.tilesOf vd w := by
  simp only [VEnv.map, VEnv.each_eq, List.mem_map] at hx
  obtain ⟨p, hp, rfl⟩ := hx
  have hj := (VShape.mem_on hp).2
  have hle : w * p.2 / 1024 ≤ w * (e.sh.cols - 1) / 1024 := Nat.div_le_div_right (Nat.mul_le_mul_left w (by omega))
  simp only [VEnv.tilesOf, VEnv.lastName, rangeFrom_eq_range', List.mem_map, List.mem_range'_1]
  exact ⟨vd + w * p.2 / 1024, by omega, rfl⟩

/-- The limits that a shape register meets (03 R67). -/
theorem Regs.vshape_limits {r : Regs} {reg : Nat} {sh : VShape} (h : r.vshape reg = some sh) :
    fmtOf sh.code = some sh.fmt ∧ sh.cols * sh.width ≤ 1024 := by
  unfold Regs.vshape at h
  dsimp only at h
  split at h
  · cases h
  · next f hf =>
    split at h
    · next lim =>
      obtain ⟨-, -, -, -, hw, -⟩ := lim
      cases h
      exact ⟨hf, hw⟩
    · cases h

theorem Slot.swapped_vec (sl : Slot) (reg : Nat) (swap : Bool) : (sl.swapped reg swap).vec = sl.vec := by
  unfold Slot.swapped
  split <;> rfl

theorem Slot.swapped_stop (sl : Slot) (reg : Nat) (swap : Bool) : (sl.swapped reg swap).stop = sl.stop := by
  unfold Slot.swapped
  split <;> rfl

/-! ### What a flight writes (06 R142, R145) -/

/-- An element of a word's results as a piece. -/
def Piece.ofOut (x : Nat × Nat × Nat × Nat) : Piece := ⟨x.1, x.2.1, x.2.2.1, x.2.2.2⟩

/-- The bits of a tile after a write. -/
def TileWrite.onto (w : TileWrite) (old : Tile) : Tile := (old &&& ~~~w.mask) ||| w.bits

theorem VEnv.map_pieces (e : VEnv) (vd w : Nat) {f : Nat → Nat → Nat} (hf : ∀ i j, f i j < 2 ^ w) :
    (e.map vd w f).map Piece.ofOut = e.sh.fill e.sl vd w f := by
  simp only [VEnv.map, VShape.fill, VEnv.each_eq, List.map_map, VEnv.put, VEnv.place_eq]
  refine List.map_congr_left fun p _ => ?_
  simp only [Function.comp_apply, Piece.ofOut, Nat.mod_eq_of_lt (hf p.1 p.2)]

theorem VEnv.map_code_lt (e : VEnv) (vd w : Nat) (f : Nat → Nat → Nat) {x : Nat × Nat × Nat × Nat} (hx : x ∈ e.map vd w f) :
    x.2.2.2 < 2 ^ x.2.2.1 := by
  simp only [VEnv.map, List.mem_map] at hx
  obtain ⟨p, -, rfl⟩ := hx
  exact Nat.mod_lt _ (Nat.two_pow_pos w)

/-- A later piece stands over the earlier ones. -/
theorem bitAfter_concat (ps : List Piece) (p : Piece) (t b : Nat) (old : Bool) :
    bitAfter (ps ++ [p]) t b old
      = if p.place = t ∧ p.bit ≤ b ∧ b < p.bit + p.width then p.code.testBit (b - p.bit) else bitAfter ps t b old := by
  by_cases h : p.place = t ∧ p.bit ≤ b ∧ b < p.bit + p.width
  · simp [bitAfter, List.filter_append, h]
  · have hp : (p.place == t && decide (p.bit ≤ b ∧ b < p.bit + p.width)) = false := by simpa using h
    rw [if_neg h, bitAfter, List.filter_append, List.filter_singleton, hp, cond_false, List.append_nil]
    rfl

theorem bitAfter_of_forall_ne (ps : List Piece) {t b : Nat} {old : Bool} (h : ∀ p ∈ ps, p.place ≠ t) : bitAfter ps t b old = old := by
  have none : (ps.filter fun p => p.place == t && decide (p.bit ≤ b ∧ b < p.bit + p.width)) = [] := by
    rw [List.filter_eq_nil_iff]
    intro p hp
    simp [h p hp]
  rw [bitAfter, none]
  rfl

/-- A code of `w` bits that stands from bit `a` on. -/
theorem testBit_mul_two_pow_of_lt {c w a b : Nat} (hc : c < 2 ^ w) :
    (c * 2 ^ a).testBit b = (decide (a ≤ b ∧ b < a + w) && c.testBit (b - a)) := by
  rw [Nat.testBit_mul_two_pow]
  by_cases hb : b < a + w
  · simp [hb]
  · have hz : c.testBit (b - a) = false := Nat.testBit_lt_two_pow (hc.trans_le (Nat.pow_le_pow_right two_pos (by omega)))
    simp [hz]

/-- The write of one tile leaves the last piece that covers a bit, and the old bit where none does. -/
theorem getLsbD_onto_tileWrite (out : List (Nat × Nat × Nat × Nat)) (hc : ∀ x ∈ out, x.2.2.2 < 2 ^ x.2.2.1) (t : Nat) (old : Tile)
    {b : Nat} (hb : b < 32768) :
    ((tileWrite out t).onto old).getLsbD b = bitAfter (out.map Piece.ofOut) t b (old.getLsbD b) := by
  induction out using List.reverseRecOn with
  | nil =>
    have unwritten : (tileWrite [] t).onto old = old := by
      change (old &&& ~~~0#32768) ||| 0#32768 = old
      rw [BitVec.not_zero, BitVec.and_allOnes, BitVec.or_zero]
    rw [unwritten]
    rfl
  | append_singleton out x ih =>
    have ih := ih fun y hy => hc y (by simp [hy])
    obtain ⟨p, a, w, c⟩ := x
    have hcx : c < 2 ^ w := hc (p, a, w, c) (by simp)
    have hm : 2 ^ w - 1 < 2 ^ w := Nat.sub_lt (Nat.two_pow_pos w) one_pos
    rw [List.map_append, List.map_singleton, bitAfter_concat, ← ih]
    by_cases hp : p = t
    · simp only [tileWrite, TileWrite.onto, List.filter_append, List.filter_singleton, hp, BEq.rfl, cond_true, List.foldl_append,
        List.foldl_cons, List.foldl_nil, Piece.ofOut, true_and, BitVec.getLsbD_or, BitVec.getLsbD_and, BitVec.getLsbD_not,
        BitVec.getLsbD_ofNat, hb, decide_true, Bool.true_and, testBit_mul_two_pow_of_lt hcx, testBit_mul_two_pow_of_lt hm]
      by_cases hin : a ≤ b ∧ b < a + w
      · have hone : (2 ^ w - 1).testBit (b - a) = true := by rw [Nat.testBit_two_pow_sub_one]; simpa using by omega
        simp [hin, hone]
      · simp [hin]
    · have hb' : (p == t) = false := by simpa using hp
      simp only [tileWrite, List.filter_append, List.filter_singleton, hb', cond_false, List.append_nil, Piece.ofOut, hp, false_and,
        if_false]

theorem mem_dedup_iff {t : Nat} {l : List Nat} : t ∈ dedup l ↔ t ∈ l := by
  induction l with
  | nil => rfl
  | cons h l ih =>
    simp only [dedup, List.mem_cons, List.mem_filter, ih, bne_iff_ne]
    by_cases ht : t = h <;> simp [ht]

theorem nodup_dedup (l : List Nat) : (dedup l).Nodup := by
  induction l with
  | nil => exact List.nodup_nil
  | cons h l ih => exact List.nodup_cons.mpr ⟨by simp, ih.filter _⟩

/-- The writes of different tiles each reach their own. -/
theorem Regs.getV_foldl_onto {l : List Nat} (hl : l.Nodup) (f : Nat → TileWrite) (hf : ∀ t, (f t).tile = t) (r : Regs) (t : Nat) :
    ((l.map f).foldl (fun r w => r.setV w.tile (w.onto (r.getV w.tile))) r).getV t
      = if t ∈ l then (f t).onto (r.getV t) else r.getV t := by
  induction l generalizing r with
  | nil => rfl
  | cons h l ih =>
    obtain ⟨hh, hl⟩ := List.nodup_cons.mp hl
    rw [List.map_cons, List.foldl_cons, ih hl, hf]
    by_cases ht : t = h
    · subst ht
      simp [hh]
    · simp [ht, Regs.getV_setV_other]

theorem State.core_vWrite (u : State) (n m : Nat) {f : VFlight} (hf : f.sp = []) : (u.vWrite n f).core m = u.core m := by
  unfold State.vWrite
  rw [hf]
  cases f.vote <;> rfl

theorem State.getV_vWrite (u : State) (n : Nat) {f : VFlight} (hf : f.sp = []) (t : Nat) :
    ((u.vWrite n f).slot n).regs.getV t
      = (f.tiles.foldl (fun r w => r.setV w.tile (w.onto (r.getV w.tile))) (u.slot n).regs).getV t := by
  unfold State.vWrite
  rw [hf]
  cases f.vote <;> simp [Regs.getV, TileWrite.onto]

/-- What the tiles hold after the results of a flight without stores. -/
theorem State.getLsbD_vWrite {f : VFlight} {dsts : List Nat} {out : List (Nat × Nat × Nat × Nat)} (hsp : f.sp = [])
    (htiles : f.tiles = (dedup dsts).map (tileWrite out)) (hc : ∀ x ∈ out, x.2.2.2 < 2 ^ x.2.2.1) (hd : ∀ x ∈ out, x.1 ∈ dsts)
    (u : State) (n t : Nat) {b : Nat} (hb : b < 32768) :
    (((u.vWrite n f).slot n).regs.getV t).getLsbD b = bitAfter (out.map Piece.ofOut) t b (((u.slot n).regs.getV t).getLsbD b) := by
  rw [State.getV_vWrite u n hsp, htiles, Regs.getV_foldl_onto (nodup_dedup dsts) _ (fun _ => rfl)]
  by_cases ht : t ∈ dsts
  · rw [if_pos (mem_dedup_iff.mpr ht), getLsbD_onto_tileWrite out hc t _ hb]
  · rw [if_neg (mt mem_dedup_iff.mp ht), bitAfter_of_forall_ne]
    intro p hp
    obtain ⟨x, hx, rfl⟩ := List.mem_map.mp hp
    rintro rfl
    exact ht (hd x hx)

/-! ### The issue of a vector word (06 R144-R150) -/

/-- What a vector word sees in a state. -/
def State.vEnv (s : State) (sl : Slot) (sh : VShape) (ga gb : Nat) : VEnv :=
  ⟨s.cur, s, sl, sh, (s.copiedOf .V ga gb).1, (s.copiedOf .V ga gb).2⟩

/-- The entry of a word among those in flight. -/
def VEnv.flight (e : VEnv) (cycles : Nat) (d : VDo) : VFlight :=
  { pos := e.sl.vec.pc.pos, word := e.sl.vec.pc.word, due := e.s.now + cycles + 5, tiles := (dedup d.dsts).map (tileWrite (d.out ()).tiles),
    maskOp := (d.out ()).mask, vote := (d.out ()).vote, sp := (d.out ()).sp, probe := (d.out ()).probe, written := false,
    reads := d.reads, writes := d.writes }

theorem wordOf_eq (i : Instr) : wordOf i = ((encode i).getD 0).toNat := by
  unfold wordOf
  cases encode i <;> rfl

theorem VShape.cycles_eq (sh : VShape) : sh.cycles = ceilDiv (sh.rows * sh.cols) 256 := by
  rw [VShape.cycles, ceilDiv, Nat.add_sub_assoc (by decide)]

/-- A word that is ready has neither the engine, its shape nor the mask stack to wait for (06 R144, R147, R156). -/
theorem State.vReady.not_waiting {s : State} {i : Instr} {swap mask : Bool} {reads writes : List (Nat × Nat)} {srcs dsts : List Nat}
    (h : s.vReady i swap mask reads writes srcs dsts) :
    ¬ (s.vFree = false ∨ (swap = true ∧ (s.slot s.cur).vec.settled = false)
        ∨ (mask = true ∧ (s.slot s.cur).vec.pendingMask = true)) := by
  obtain ⟨-, hbusy, hswap, hmask, -⟩ := h
  rintro (hf | ⟨hs, hw⟩ | ⟨hm, hp⟩)
  · exact of_decide_eq_false hf hbusy
  · obtain ⟨f, hf, hx⟩ := List.all_eq_false.mp hw
    exact hx (hswap hs f hf)
  · obtain ⟨f, hf, hx⟩ := List.any_eq_true.mp hp
    rcases hmask hm f hf with hw | hk
    · simp [hw] at hx
    · simp [hk] at hx

/-- No tile that a ready word writes has a pending write, and with PENDDBG none that it reads (06 R146, R148). -/
theorem State.vReady.tiles {s : State} {i : Instr} {swap mask : Bool} {reads writes : List (Nat × Nat)} {srcs dsts : List Nat}
    (h : s.vReady i swap mask reads writes srcs dsts) :
    dsts.any (s.slot s.cur).vec.pendingTile = false
    ∧ ((s.slot s.cur).vec.pc.view.penddbg && srcs.any (s.slot s.cur).vec.pendingTile) = false := by
  obtain ⟨-, -, -, -, htiles, -⟩ := h
  have apart {t : Nat} (ht : (s.slot s.cur).vec.pendingTile t = true) :
      t ∉ dsts ∧ ((s.slot s.cur).vec.pc.view.penddbg = true → t ∉ srcs) := by
    obtain ⟨f, hf, hx⟩ := List.any_eq_true.mp ht
    rw [Bool.and_eq_true, Bool.not_eq_true', List.any_eq_true] at hx
    obtain ⟨hunwritten, w, hw, hwt⟩ := hx
    obtain rfl := beq_iff_eq.mp hwt
    exact (htiles f hf).resolve_left (by simp [hunwritten]) w hw
  constructor
  · exact List.any_eq_false.mpr fun t ht hp => (apart hp).1 ht
  · rw [Bool.and_eq_false_imp]
    exact fun hdbg => List.any_eq_false.mpr fun t ht hp => (apart hp).2 hdbg ht

section
variable {s : State} {i : Instr} {reg : Nat} {swap mask : Bool} {ga gb : Nat} {plan : VEnv → VPlan} {sh : VShape} {e : VEnv}
  (he : e = s.vEnv ((s.slot s.cur).swapped reg swap) sh ga gb) (hsh : e.sl.regs.vshape reg = some sh)
include he hsh

/-- A ready word whose checks pass is done: it issues. -/
theorem vWord_issues {d : VDo} (hr : s.vReady i swap mask d.reads d.writes d.srcs d.dsts) (hp : plan e = .ok d) (hv : d.votes = false) :
    vWord i (some (reg, swap)) ga gb mask plan s = Act.run (.done (e.issue e.sh.cycles (wordOf i) d)) .V s := by
  obtain ⟨hdst, hsrc⟩ := hr.tiles
  have hwait := hr.not_waiting
  obtain ⟨hwf, -, -, -, -, hroom, hstart, hchan, hzero⟩ := hr
  have hz : (d.reads ++ d.writes).any (fun r => s.zeroingAt s.cur r.1 r.2) = false := by
    rw [List.any_eq_false]
    intro r h
    simp [hzero r h]
  subst he
  rw [wordOf_eq, VShape.cycles_eq]
  simp only [vWord, hwf, Bool.true_eq_false, if_false, Option.any_some, if_neg hwait]
  cases swap
  all_goals
    simp only [State.vEnv, Slot.swapped, if_true, Bool.false_eq_true, if_false] at hsh hp
    simp only [hsh, Option.isSome_some, if_true, hp]
    simp [hdst, hsrc, hv, hroom, hstart, hchan, hz, State.vEnv, Slot.swapped]

/-- A ready word whose checks fail raises the fault. -/
theorem vWord_raises {code status addr : Nat} (hr : s.vReady i swap mask [] [] [] []) (hp : plan e = .bad code status addr) :
    vWord i (some (reg, swap)) ga gb mask plan s = s.trapAt s.cur .V code (wordOf i + status) addr := by
  have hwait := hr.not_waiting
  obtain ⟨hwf, -⟩ := hr
  subst he
  rw [wordOf_eq]
  simp only [vWord, hwf, Bool.true_eq_false, if_false, Option.any_some, if_neg hwait]
  cases swap
  all_goals
    simp only [State.vEnv, Slot.swapped, if_true, Bool.false_eq_true, if_false] at hsh hp
    simp only [hsh, hp]

end

/-- The state in which a word has issued, but for its draw. -/
def VEnv.flown (e : VEnv) (d : VDo) : State := e.s.withFlight e.sl (e.flight e.sh.cycles d) e.sh.cycles

/-- A word that leaves the mask stack issues with its flight, and with its draw if it makes one. -/
theorem VEnv.issue_eq {e : VEnv} (he : e.slot = e.s.cur) (word : Nat) {d : VDo} (hv : d.votes = (d.out ()).vote.isSome)
    (hm : (d.out ()).mask = .keep) :
    e.issue e.sh.cycles word d = d.draw.elim (e.flown d) fun b => (e.flown d).drawFilter e.s.cur b word := by
  have flown : State.modCore (coreOf e.s.cur) (fun k => { k with vBusy := e.s.now + e.sh.cycles })
      (State.modVec e.s.cur (fun v => { v with
          fly := v.fly ++ [e.flight e.sh.cycles d],
          votesFormed := if d.votes then v.votesFormed + 1 else v.votesFormed }) (State.modSlot e.s.cur (fun _ => e.sl) e.s))
        = e.flown d := by
    rw [State.modVec, State.modSlot_modSlot, hv]
    rfl
  rw [← flown, VEnv.issue, if_pos hm, he]
  cases d.draw <;> rfl

/-- The flight of a word without stores holds its results. -/
theorem VEnv.holds_flight {s : State} {e : VEnv} {cycles : Nat} {d : VDo} (hs : e.s = s) (hpc : e.sl.vec = (s.slot s.cur).vec)
    (hsp : (d.out ()).sp = []) (hc : ∀ x ∈ (d.out ()).tiles, x.2.2.2 < 2 ^ x.2.2.1) (hd : ∀ x ∈ (d.out ()).tiles, x.1 ∈ d.dsts) :
    (e.flight cycles d).holds s cycles
      { tiles := (d.out ()).tiles.map Piece.ofOut, mask := (d.out ()).mask, vote := (d.out ()).vote, probe := (d.out ()).probe,
        reads := d.reads, writes := d.writes } := by
  refine ⟨by rw [← hpc]; rfl, by rw [← hpc]; rfl, by rw [← hs]; rfl, rfl, rfl, rfl, rfl, rfl, rfl,
    fun u n => ⟨fun t b hb => ?_, fun b => ?_⟩⟩
  · exact State.getLsbD_vWrite hsp rfl hc hd u n t hb
  · rw [State.core_vWrite u n _ hsp]
    rfl

/-! ### The draw filter (02 R50, R51) -/

/-- The triple of a slot's draw from a coordinate on. -/
def State.drawEntry (s : State) (slot base : Nat) : DrawEntry :=
  ⟨slot, (s.slot slot).vec.pc.view.tensorid, (s.slot slot).vec.pc.view.stepno, BitVec.ofNat 64 base⟩

/-- A new triple enters the filter, and the 65th leaves it. -/
theorem State.drawFilter_new {s : State} {slot base : Nat} (word : Nat)
    (h : s.drawEntry slot base ∉ (s.core (coreOf slot)).filter) :
    s.drawFilter slot base word = s.modCore (coreOf slot) fun c =>
      { c with filter := (s.drawEntry slot base :: (s.core (coreOf slot)).filter).take 64 } := by
  have others : (s.core (coreOf slot)).filter.filter (· != s.drawEntry slot base) = (s.core (coreOf slot)).filter := by
    rw [List.filter_eq_self]
    intro x hx
    exact bne_iff_ne.mpr fun hxd => h (hxd ▸ hx)
  have fresh : (s.core (coreOf slot)).filter.contains (s.drawEntry slot base) = false := by simpa using h
  rw [State.drawEntry] at others fresh
  simp only [State.drawFilter, fresh, if_true, State.modCore, others, State.drawEntry]

/-- A triple that the filter holds stops the slot while TRAPCTL is 1. -/
theorem State.drawFilter_reused {s : State} {slot base : Nat} (word : Nat)
    (h : s.drawEntry slot base ∈ (s.core (coreOf slot)).filter) (ht : (s.slot slot).vec.pc.view.trapctl = true) :
    s.drawFilter slot base word = (s.modCore (coreOf slot) fun c =>
      { c with filter := (s.drawEntry slot base :: c.filter.filter (· != s.drawEntry slot base)).take 64 }).trapAt slot .V
        fKEYREUSE word 0 := by
  have known : (s.core (coreOf slot)).filter.contains (s.drawEntry slot base) = true := by simpa using h
  rw [State.drawEntry] at known
  simp only [State.drawFilter, known, ht, Bool.true_eq_false, if_false, if_true, State.drawEntry]

/-- The issue of a word neither stops nor frees its slot. -/
theorem State.Moved.stop {slot : Nat} {e : Engine} {f : Counter → Counter} {s t : State} (h : State.Moved slot e f s t) :
    (t.slot slot).stop = (s.slot slot).stop := by
  rw [h.regs, Slot.setCounter_stop]

theorem State.cur_trapAt {s : State} {n : Nat} (e : Engine) (code status addr : Nat) (h : (s.slot n).stop = none) :
    (s.trapAt n e code status addr).cur = s.cur :=
  (trapped_raiseTrap s n e code status addr naCursor none none h).package.2.2.1

theorem State.stop_trapAt {s : State} {n : Nat} (e : Engine) (code status addr : Nat) (h : (s.slot n).stop = none) :
    ((s.trapAt n e code status addr).slot n).stop = some ⟨s.hub.traps.nextId, e, code, false⟩ := by
  rw [State.trapAt, (trapped_raiseTrap s n e code status addr naCursor none none h).stop]
  rfl

/-- A word that issues in spite of its fault leaves its slot stopped. -/
theorem stop_of_done_trapAt {s u : State} (e : Engine) (code status addr : Nat) (hcur : u.cur = s.cur)
    (h : (u.slot s.cur).stop = none) :
    ∃ t, Host.Outcome.next (Act.run (.done (u.trapAt s.cur e code status addr)) e s) = (.next t : Out)
      ∧ (t.slot s.cur).stop = some ⟨u.hub.traps.nextId, e, code, false⟩ := by
  have hc := (State.cur_trapAt e code status addr h).trans hcur
  obtain ⟨t, hnext, hleft⟩ := completes_done e s _ hc
  rw [hc] at hleft
  exact ⟨t, hnext, hleft.stop.trans (State.stop_trapAt e code status addr h)⟩

section
variable (s : State) (sl : Slot) (fl : VFlight) (cycles : Nat)

theorem State.slot_withFlight : (s.withFlight sl fl cycles).slot s.cur = { sl with vec := { sl.vec with
    fly := sl.vec.fly ++ [fl], votesFormed := if fl.vote.isSome then sl.vec.votesFormed + 1 else sl.vec.votesFormed } } := by
  simp [State.withFlight]

@[simp] theorem State.filter_withFlight : ((s.withFlight sl fl cycles).core (s.cur / 2)).filter = (s.core (s.cur / 2)).filter := by
  simp [State.withFlight]

/-- The filter stays as it was. -/
theorem State.modCore_withFlight : (s.withFlight sl fl cycles).modCore (s.cur / 2)
    (fun c => { c with filter := (s.core (s.cur / 2)).filter }) = s.withFlight sl fl cycles := by
  rw [State.withFlight, State.modCore_modCore]
  rfl

theorem State.drawEntry_withFlight (base : Nat) : (s.withFlight sl fl cycles).drawEntry s.cur base
    = ⟨s.cur, sl.vec.pc.view.tensorid, sl.vec.pc.view.stepno, BitVec.ofNat 64 base⟩ := by
  rw [State.drawEntry, State.slot_withFlight]

end

/-! ### VRNG (06 R170) -/

/-- The coordinate of a position. -/
def VEnv.coord (e : VEnv) (i j : Nat) : Nat := (e.x.toNat + i * e.y.toNat + j) % 2 ^ 64

/-- The draw at a position. -/
def VEnv.draw (e : VEnv) (i j : Nat) : Nat :=
  let v := e.sl.vec.pc.view
  ctrDraw v.key v.stepno.toNat v.tensorid.toNat 0 (e.coord i j)

/-- What VRNG does. -/
def VEnv.draws (e : VEnv) (vd : Nat) : VDo :=
  { dsts := e.tilesOf vd 32
    draw := e.each.head?.map fun p => e.coord p.1 p.2
    out := fun _ => { tiles := e.map vd 32 e.draw } }

theorem shpOf_eq (s : BitVec 2) (w : BitVec 1) : shpOf s w = (s.toNat, w == 1) := by
  have bit : ∀ w : BitVec 1, w.getLsbD 0 = (w == 1) := by decide
  rw [shpOf, bit]

theorem exec_vrng (d a b : BitVec 6) (reg : BitVec 2) (w : BitVec 1) (s : State) :
    exec (.vrng d a b reg w) s = .next (vWord (.vrng d a b reg w) (some (reg.toNat, w == 1)) a.toNat b.toNat true
      (fun e => planIf (e.fits (· == 0x1C) false []) (e.draws d.toNat)) s) := by
  rw [← shpOf_eq]
  rfl

theorem VEnv.draw_lt (e : VEnv) (i j : Nat) : e.draw i j < 2 ^ 32 := Nat.mod_lt _ (by decide)

theorem CtlView.key_eq (v : CtlView) :
    v.key = v.key0.toNat + v.key1.toNat * 2 ^ 32 + v.key2.toNat * 2 ^ 64 + v.key3.toNat * 2 ^ 96 := by
  simp only [CtlView.key, BitVec.toNat_append]
  rw [← Nat.shiftLeft_add_eq_or_of_lt v.key0.isLt, ← Nat.shiftLeft_add_eq_or_of_lt v.key1.isLt,
    ← Nat.shiftLeft_add_eq_or_of_lt v.key2.isLt]
  simp only [Nat.shiftLeft_eq]
  omega

/-- The draw at a position is that of the slot's key, step and tensor at the position's coordinate (02 R48; 06 R170). -/
theorem State.draw_vEnv (s : State) (sl : Slot) (sh : VShape) (ga gb : Nat) :
    (s.vEnv sl sh ga gb).draw = fun i j =>
      let v := sl.vec.pc.view
      ctrDraw (v.key0.toNat + v.key1.toNat * 2 ^ 32 + v.key2.toNat * 2 ^ 64 + v.key3.toNat * 2 ^ 96) v.stepno.toNat v.tensorid.toNat 0
        (((s.copiedOf .V ga gb).1.toNat + i * (s.copiedOf .V ga gb).2.toNat + j) % 2 ^ 64) := by
  funext i j
  rw [VEnv.draw, CtlView.key_eq]
  rfl

/-- A word whose operands need no name beyond v63 fits a shape of its class without random rounding (03 R67; 06 R143). -/
theorem VEnv.fits_of {e : VEnv} {cls : Nat → Bool} (hc : cls e.sh.code = true) (hr : e.sh.rnd ≠ 4) : e.fits cls false [] = true := by
  simp [VEnv.fits, hc, hr]

/-- The shape of an unsigned 32-bit format is 32 bits wide (03 R74). -/
theorem Regs.vshape_width_uint32 {r : Regs} {reg : Nat} {sh : VShape} (h : r.vshape reg = some sh) (hcode : sh.code = 0x1C) :
    sh.width = 32 := by
  have hfmt := (Regs.vshape_limits h).1
  rw [hcode, fmtOf, Option.some.injEq] at hfmt
  rw [VShape.width, ← hfmt]
  rfl

theorem VEnv.draws_fits {e : VEnv} (hcode : e.sh.code = 0x1C) (hrnd : e.sh.rnd ≠ 4) (vd : Nat) :
    planIf (e.fits (· == 0x1C) false []) (e.draws vd) = .ok (e.draws vd) := by
  rw [VEnv.fits_of (by simpa using hcode) hrnd]
  rfl

theorem VEnv.draws_draw (e : VEnv) (vd : Nat) : (e.draws vd).draw = (e.sh.on e.sl).head?.map fun p => e.coord p.1 p.2 := by
  rw [VEnv.draws, VEnv.each_eq]

/-- The triple of the first enabled position, if there is one. -/
def VEnv.triples (e : VEnv) : List DrawEntry :=
  ((e.sh.on e.sl).head?.map fun p =>
    ⟨e.slot, e.sl.vec.pc.view.tensorid, e.sl.vec.pc.view.stepno, BitVec.ofNat 64 (e.coord p.1 p.2)⟩).toList

theorem VEnv.triples_eq {e : VEnv} (d : VDo) (he : e.slot = e.s.cur) : e.triples
    = ((e.sh.on e.sl).head?.map fun p => (e.flown d).drawEntry e.s.cur (e.coord p.1 p.2)).toList := by
  simp only [VEnv.triples, VEnv.flown, State.drawEntry_withFlight, he]

section
variable {s : State} {d a b : BitVec 6} {reg : BitVec 2} {w : BitVec 1} {sh : VShape} {e : VEnv}
  (he : e = s.vEnv ((s.slot s.cur).swapped reg.toNat (w == 1)) sh a.toNat b.toNat)
include he

/-- The flight of a VRNG holds a draw for each enabled position. -/
theorem VEnv.holds_flight_draws (vd : Nat) :
    (e.flight sh.cycles (e.draws vd)).holds s sh.cycles { tiles := e.sh.fill e.sl vd 32 e.draw } := by
  have hv : e.sl.vec = (s.slot s.cur).vec := by rw [he]; exact Slot.swapped_vec ..
  have hs : e.s = s := by rw [he]; rfl
  rw [← e.map_pieces vd 32 e.draw_lt]
  exact VEnv.holds_flight hs hv rfl (fun _ hx => e.map_code_lt vd 32 _ hx) (fun _ hx => e.map_place_mem vd 32 _ hx)

variable (hsh : e.sl.regs.vshape reg.toNat = some sh) (hcode : sh.code = 0x1C) (hrnd : sh.rnd ≠ 4)
  (hr : s.vReady (.vrng d a b reg w) (w == 1) true [] [] [] [e.sl.tileOf d.toNat])
include hsh hcode hrnd hr

/-- A ready VRNG of an unsigned 32-bit shape issues, and makes the draw of its first enabled position. -/
theorem exec_vrng_ready : exec (.vrng d a b reg w) s = .next (Act.run (.done ((e.draws d.toNat).draw.elim (e.flown (e.draws d.toNat))
    fun base => (e.flown (e.draws d.toNat)).drawFilter s.cur base (wordOf (.vrng d a b reg w)))) .V s) := by
  have hwide : e.sh.cols * 32 ≤ 1024 := by
    have h := (Regs.vshape_limits hsh).2
    rw [Regs.vshape_width_uint32 hsh hcode] at h
    rwa [he]
  rw [← e.tilesOf_narrow d.toNat 32 hwide] at hr
  have hcode' : e.sh.code = 0x1C := by rwa [he]
  have hrnd' : e.sh.rnd ≠ 4 := by rwa [he]
  rw [exec_vrng, vWord_issues he hsh hr (VEnv.draws_fits hcode' hrnd' d.toNat) rfl, VEnv.issue_eq (by rw [he]; rfl) _ rfl rfl,
    show e.s.cur = s.cur by rw [he]; rfl]

/-- A VRNG whose triple is new, or that has no enabled position, completes. -/
theorem vrng_completes (hnew : ∀ x ∈ e.triples, x ∉ (s.core (s.cur / 2)).filter) :
    Completes (exec (.vrng d a b reg w) s) .V ((e.flown (e.draws d.toNat)).modCore (s.cur / 2) fun c =>
      { c with filter := if e.triples = [] then (s.core (s.cur / 2)).filter
                         else (e.triples ++ (s.core (s.cur / 2)).filter).take 64 }) := by
  have hs : e.s = s := by rw [he]; rfl
  have hcur : (e.flown (e.draws d.toNat)).cur = s.cur := by rw [VEnv.flown, hs]; rfl
  have hfilter : ((e.flown (e.draws d.toNat)).core (s.cur / 2)).filter = (s.core (s.cur / 2)).filter := by
    rw [VEnv.flown, hs, State.filter_withFlight]
  rw [exec_vrng_ready he hsh hcode hrnd hr, VEnv.draws_draw]
  have htriples := VEnv.triples_eq (e := e) (e.draws d.toNat) (by rw [he]; rfl)
  cases hp : (e.sh.on e.sl).head? with
  | none =>
    rw [hp, Option.map_none, Option.toList_none] at htriples
    rw [htriples, Option.map_none, Option.elim_none, if_pos rfl, VEnv.flown, hs, State.modCore_withFlight]
    exact completes_done .V s _ rfl
  | some p =>
    rw [hp, Option.map_some, Option.toList_some, hs] at htriples
    rw [htriples] at hnew ⊢
    rw [if_neg (List.cons_ne_nil _ _), Option.map_some, Option.elim_some,
      State.drawFilter_new _ (by rw [coreOf, hfilter]; exact hnew _ (List.mem_singleton_self _)), coreOf, hfilter]
    exact completes_done .V s _ hcur

/-- A VRNG whose triple the filter holds stops its slot while TRAPCTL is 1. -/
theorem vrng_stops {x : DrawEntry} (hx : e.triples = [x]) (hold : x ∈ (s.core (s.cur / 2)).filter)
    (ht : e.sl.vec.pc.view.trapctl = true) (hstop : e.sl.stop = none) :
    ∃ t, exec (.vrng d a b reg w) s = .next t
      ∧ ((t.slot s.cur).stop.map fun (z : Stop) => (z.eng, z.code, z.final)) = some (.V, 0x12, false) := by
  have hs : e.s = s := by rw [he]; rfl
  have hcur : (e.flown (e.draws d.toNat)).cur = s.cur := by rw [VEnv.flown, hs]; rfl
  have hfilter : ((e.flown (e.draws d.toNat)).core (s.cur / 2)).filter = (s.core (s.cur / 2)).filter := by
    rw [VEnv.flown, hs, State.filter_withFlight]
  have hview : ((e.flown (e.draws d.toNat)).slot s.cur).vec.pc.view.trapctl = true := by
    rw [VEnv.flown, hs, State.slot_withFlight]
    exact ht
  have hruns : ((e.flown (e.draws d.toNat)).slot s.cur).stop = none := by
    rw [VEnv.flown, hs, State.slot_withFlight]
    exact hstop
  rw [exec_vrng_ready he hsh hcode hrnd hr, VEnv.draws_draw]
  have htriples := VEnv.triples_eq (e := e) (e.draws d.toNat) (by rw [he]; rfl)
  cases hp : (e.sh.on e.sl).head? with
  | none =>
    rw [hp, Option.map_none, Option.toList_none, hx] at htriples
    exact absurd htriples (List.cons_ne_nil _ _)
  | some p =>
    rw [hp, Option.map_some, Option.toList_some, hs, hx, List.singleton_inj] at htriples
    rw [htriples, ← hfilter] at hold
    rw [Option.map_some, Option.elim_some, State.drawFilter_reused _ hold hview]
    obtain ⟨t, hnext, hstopped⟩ := stop_of_done_trapAt .V fKEYREUSE (wordOf (.vrng d a b reg w)) 0 ((State.modCore_cur ..).trans hcur)
      ((congrArg Slot.stop (State.modCore_slot ..)).trans hruns)
    refine ⟨t, hnext, ?_⟩
    rw [hstopped]
    rfl

end

/-! ### VSTAT (06 R171) -/

theorem VEnv.sumOf_eq (e : VEnv) (term : Nat → Nat → Nat) : e.sumOf term = e.sh.sumOver e.sl term := by
  simp only [VEnv.sumOf, VShape.sumOver, positions_eq_places, VEnv.enabled_eq]

/-- What VSTAT does. -/
def VEnv.probes (e : VEnv) (srcs : List Nat) (kind : ProbeKind) (x : Nat × Nat) : VDo :=
  { srcs := srcs.flatMap fun n => e.tilesOf n e.w
    out := fun _ =>
      { probe := some { kind := kind, pslot := e.x.toNat, s0 := x.1, s1 := x.2, tag := e.sl.act.inctag, fmt := e.sh.code,
                        from_ := e.slot } } }

/-- The checks of VSTAT. -/
def VEnv.probePlan (e : VEnv) (srcs : List Nat) (cls : Nat → Bool) (kind : ProbeKind) (x : Nat × Nat) : VPlan :=
  if e.fits cls false [] = false ∨ 4096 ≤ e.x.toNat then .bad fILLEGAL 0 0
  else if e.s.ownsPslot (ctxOf e.sl.act.inctag) e.x.toNat = false then .bad fPERMISSION 0 0
  else .ok (e.probes srcs kind x)

theorem statWord_eq (i : Instr) (gs : BitVec 6) (srcs : List Nat) (s : BitVec 2) (w : BitVec 1) (cls : Nat → Bool) (kind : ProbeKind)
    (sums : VEnv → Nat × Nat) (st : State) : statWord i gs srcs s w cls kind sums st
      = vWord i (some (s.toNat, w == 1)) gs.toNat 0 true (fun e => e.probePlan srcs cls kind (sums e)) st := by
  rw [← shpOf_eq]
  rfl

/-- Each VSTAT word is the probe of its rule. -/
theorem exec_probe {i : Instr} {d : BitVec 6} {reg : BitVec 2} {w : BitVec 1} {format : Nat → Bool} {srcs : List (BitVec 6)}
    {k : ProbeKind} {sums : Slot → VShape → Nat × Nat} (h : probeRule i = some (d, reg, w, format, srcs, k, sums)) (s : State) :
    exec i s = .next (vWord i (some (reg.toNat, w == 1)) d.toNat 0 true
      (fun e => e.probePlan (srcs.map BitVec.toNat) format k (sums e.sl e.sh)) s) := by
  unfold probeRule at h
  split at h <;> cases h
  all_goals refine congrArg Host.Outcome.next ((statWord_eq ..).trans ?_)
  all_goals simp only [VEnv.sumOf_eq, VEnv.val_eq, VEnv.each_eq, VEnv.code_eq]
  all_goals rfl

section
variable {s : State} {i : Instr} {d : BitVec 6} {reg : BitVec 2} {w : BitVec 1} {format : Nat → Bool} {srcs : List (BitVec 6)}
  {k : ProbeKind} {sums : Slot → VShape → Nat × Nat} {sh : VShape} {e : VEnv}
  (h : probeRule i = some (d, reg, w, format, srcs, k, sums))
  (he : e = s.vEnv ((s.slot s.cur).swapped reg.toNat (w == 1)) sh d.toNat 0) (hsh : e.sl.regs.vshape reg.toNat = some sh)
  (hfit : e.fits format false [] = true) (hn : e.x.toNat < 4096)
include h he hsh hfit hn

/-- A ready VSTAT of a slot number of the context's own issues with its probe. -/
theorem probe_issues (howns : s.ownsPslot (ctxOf e.sl.act.inctag) e.x.toNat = true)
    (hr : s.vReady i (w == 1) true [] [] (srcs.map fun m => e.sl.tileOf m.toNat) []) :
    IssuesV s i e.sl sh.cycles
      { probe := some { kind := k, pslot := e.x.toNat, s0 := (sums e.sl sh).1, s1 := (sums e.sl sh).2, tag := e.sl.act.inctag,
                        fmt := sh.code, from_ := s.cur } } := by
  have hs : e.s = s := by rw [he]; rfl
  have hslot : e.slot = s.cur := by rw [he]; rfl
  obtain rfl : e.sh = sh := by rw [he]; rfl
  have hplan : e.probePlan (srcs.map BitVec.toNat) format k (sums e.sl e.sh)
      = .ok (e.probes (srcs.map BitVec.toNat) k (sums e.sl e.sh)) := by
    simp only [VEnv.probePlan, hfit, hs, howns, Bool.true_eq_false, Nat.not_le.mpr hn, or_self, if_false]
  have hsrcs : (srcs.map fun m => e.sl.tileOf m.toNat) = (e.probes (srcs.map BitVec.toNat) k (sums e.sl e.sh)).srcs := by
    simp only [VEnv.probes, VEnv.tilesOf_narrow e _ e.w (Regs.vshape_limits hsh).2, List.flatMap_map]
    exact List.map_eq_flatMap
  rw [hsrcs] at hr
  refine ⟨e.flight e.sh.cycles (e.probes (srcs.map BitVec.toNat) k (sums e.sl e.sh)), ?issues, ?holds⟩
  case issues =>
    rw [exec_probe h, vWord_issues he hsh hr hplan rfl, VEnv.issue_eq (by rw [hs, hslot]) _ rfl rfl, VEnv.flown, hs]
    exact completes_done .V s _ rfl
  case holds =>
    have hv : e.sl.vec = (s.slot s.cur).vec := by rw [he]; exact Slot.swapped_vec ..
    rw [← hslot]
    exact VEnv.holds_flight (d := e.probes (srcs.map BitVec.toNat) k (sums e.sl e.sh)) hs hv rfl (fun _ hx => absurd hx List.not_mem_nil)
      (fun _ hx => absurd hx List.not_mem_nil)

/-- A ready VSTAT of another slot number raises PERMISSION. -/
theorem probe_raises (howns : s.ownsPslot (ctxOf e.sl.act.inctag) e.x.toNat = false)
    (hr : s.vReady i (w == 1) true [] [] [] []) (hstop : e.sl.stop = none) : Raises (exec i s) s .V 0x09 (wordOf i) 0 := by
  have hs : e.s = s := by rw [he]; rfl
  have hplan : e.probePlan (srcs.map BitVec.toNat) format k (sums e.sl e.sh) = .bad fPERMISSION 0 0 := by
    simp only [VEnv.probePlan, hfit, hs, howns, Bool.true_eq_false, Nat.not_le.mpr hn, or_self, if_false, if_true]
  rw [exec_probe h, vWord_raises he hsh hr hplan]
  refine raises_trapAt s .V fPERMISSION (wordOf i) 0 ?_
  rwa [he, State.vEnv, Slot.swapped_stop] at hstop

end

/-! ### The statement -/

/-- Settles O30: a VRNG issues with its draws and enters the draw filter, or stops its slot there; a VSTAT issues with its probe, or fails
the check of its slot number. -/
theorem drawsAndProbes : Obligations.DrawsAndProbes := by
  refine ⟨?vrng, ?vstat⟩
  case vrng =>
    intro s d a b reg w sl
    dsimp only
    intro sh hsh hcode hrnd hr
    constructor
    · intro hnew
      refine ⟨(s.vEnv sl sh a.toNat b.toNat).flight sh.cycles ((s.vEnv sl sh a.toNat b.toNat).draws d.toNat), ?_, ?_⟩
      · rw [← State.draw_vEnv]
        exact VEnv.holds_flight_draws rfl d.toNat
      · exact vrng_completes (e := s.vEnv sl sh a.toNat b.toNat) rfl hsh hcode hrnd hr hnew
    · intro x hx hold ht hstop
      exact vrng_stops (e := s.vEnv sl sh a.toNat b.toNat) rfl hsh hcode hrnd hr hx hold ht hstop
  case vstat =>
    intro s i d reg w format srcs k sums h sl n img owns sh hsh hcode hrnd hn
    have hfit : (s.vEnv sl sh d.toNat 0).fits format false [] = true := VEnv.fits_of hcode hrnd
    constructor
    · intro howns hr
      exact probe_issues h rfl hsh hfit hn (decide_eq_true howns) hr
    · intro hforeign hr hstop
      exact probe_raises h rfl hsh hfit hn (decide_eq_false hforeign) hr hstop

end Sys2Proof.Machine
end

section
/-! CERTIFICATES of the family 04_kernel, control words: how a counter moves (04 R96, R99-R106), the words that the three counters share, loops,
rotation, regions and the end (R103-R111), and the fences (R137, R138). -/

namespace Sys2Proof.Machine
/-! ### How a counter moves (04 R96, R101, R105, R106) -/

/-- Falling through moves to the next word, ends a guard with its last word, and notes the end of the bodies that end on the word. -/
theorem Counter.fallThrough_eq (c : Counter) : c.fallThrough = { c with
    word := c.word + 1, guard := c.guard.filter fun g => decide (c.word < g.1)
    ending := if c.loops.any fun v => v.last == c.word then some (c.word, (c.loops.head?.map (·.lvl)).getD 0) else c.ending } := by
  unfold Counter.fallThrough
  rcases hg : c.guard with _ | ⟨last, y⟩ <;> rcases hl : c.loops with _ | ⟨l, rest⟩
  all_goals simp only [List.any_nil, Bool.false_eq_true, if_false, Option.filter, decide_eq_true_eq, List.head?_cons,
    Option.map_some, Option.getD_some]
  all_goals split <;> rfl

/-- A transfer moves to its target; a guard stays for a forward transfer within its words. -/
theorem Counter.transferTo_eq (c : Counter) (t : Nat) : c.transferTo t = { c with
    word := t, loops := (keepLevels t c.loops.reverse).reverse, delay := none
    guard := c.guard.filter fun g => decide (t ≤ g.1 ∧ c.word < t) } := by
  unfold Counter.transferTo
  rcases hg : c.guard with _ | ⟨last, y⟩ <;> simp only [Option.filter, decide_eq_true_eq]

/-- A counter with no branch on its way falls through. -/
theorem Counter.leave_of_delay_none {c : Counter} (h : c.delay = none) :
    c.leave = Counter.fallThrough { c with pos := c.pos + 1, left := c.left + 1 } := by
  simp only [Counter.leave, h]

/-- A delay word before the last falls through. -/
theorem Counter.leave_of_delay_succ {c : Counter} {n : Nat} {t : Option Nat} (h : c.delay = some (n + 2, t)) :
    c.leave = Counter.fallThrough { c with pos := c.pos + 1, left := c.left + 1, delay := some (n + 1, t) } := by
  simp only [Counter.leave, h]

/-- The last delay word of a taken branch is left for the target. -/
theorem Counter.leave_of_delay_one {c : Counter} {t : Nat} (h : c.delay = some (1, some t)) :
    c.leave = Counter.transferTo { c with pos := c.pos + 1, left := c.left + 1 } t := by
  simp only [Counter.leave, h]

/-- The last delay word of another branch falls through. -/
theorem Counter.leave_of_delay_one_none {c : Counter} (h : c.delay = some (1, none)) :
    c.leave = Counter.fallThrough { c with pos := c.pos + 1, left := c.left + 1, delay := none } := by
  simp only [Counter.leave, h]

/-- Whatever way a counter leaves, it counts the position, and its waiting effects and its view stay. -/
theorem Counter.leave_counts (c : Counter) :
    c.leave.pos = c.pos + 1 ∧ c.leave.left = c.left + 1 ∧ c.leave.deferred = c.deferred ∧ c.leave.view = c.view := by
  simp only [Counter.leave]
  split <;> simp only [Counter.fallThrough_eq, Counter.transferTo_eq, and_self]

theorem Counter.leave_issued (c : Counter) : c.leave.issued = c.issued := by
  simp only [Counter.leave]
  split <;> simp only [Counter.fallThrough_eq, Counter.transferTo_eq]

/-- The levels whose bodies hold the target stay, up to the first whose body does not. -/
theorem keepLevels_append {t : Nat} {low high : List LoopLevel} (hlow : ∀ l ∈ low, l.first ≤ t ∧ t ≤ l.last)
    (hhigh : ∀ l ∈ high.head?, ¬ (l.first ≤ t ∧ t ≤ l.last)) : keepLevels t (low ++ high) = low := by
  induction low with
  | nil =>
    cases high with
    | nil => rfl
    | cons h _ => exact if_neg (hhigh h rfl)
  | cons l low ih =>
    rw [List.cons_append, keepLevels, if_pos (hlow l List.mem_cons_self), ih fun m hm => hlow m (List.mem_cons_of_mem _ hm)]

/-- The way of a branch that no level holds: its two delay words, and then its target or the next word. -/
theorem branched_leaves {c : Counter} (hd : c.delay = none) (t : Option Nat) :
    (branched t c).word = c.word + 1 ∧ (branched t c).leave.word = c.word + 2
    ∧ (branched t c).leave.leave.word = t.getD (c.word + 3) ∧ (branched t c).leave.leave.delay = none := by
  have h0 : (branched t c).delay = some (2, t) := rfl
  have hw : (branched t c).word = c.word + 1 := by
    rw [branched, Counter.leave_of_delay_none hd, Counter.fallThrough_eq]
  have h1 : (branched t c).leave.delay = some (1, t) ∧ (branched t c).leave.word = c.word + 2 := by
    rw [Counter.leave_of_delay_succ h0, Counter.fallThrough_eq, hw]
    exact ⟨rfl, rfl⟩
  refine ⟨hw, h1.2, ?_⟩
  cases t with
  | none =>
    rw [Counter.leave_of_delay_one_none h1.1, Counter.fallThrough_eq, h1.2]
    exact ⟨rfl, rfl⟩
  | some t =>
    rw [Counter.leave_of_delay_one h1.1, Counter.transferTo_eq]
    exact ⟨rfl, rfl⟩

/-- Settles O21: a counter falls through its word, or transfers after the second delay word of a taken branch. -/
theorem leavingAPosition : Obligations.LeavingAPosition := by
  refine ⟨Counter.leave_counts, fun c hd => ?_, fun c l rest hd hl => ?_, fun c last y hd => ?_, fun c t hd _ => ?_,
    fun c t inner outer hd hl hout hin => ?_⟩
  · rw [Counter.leave_of_delay_none hd, Counter.fallThrough_eq]
    exact ⟨rfl, rfl, hd⟩
  · rw [Counter.leave_of_delay_none hd, Counter.fallThrough_eq]
    simp only [hl, List.any_eq_true, beq_iff_eq, List.head?_cons, Option.map_some, Option.getD_some]
  · rw [Counter.leave_of_delay_none hd, Counter.fallThrough_eq]
    simp [Option.filter_eq_some_iff]
  · obtain ⟨hw, hw1, hw2, hd2⟩ := branched_leaves hd (some t)
    obtain ⟨-, -, hn2, hdn⟩ := branched_leaves hd none
    exact ⟨hw, hw1, hw2, hd2, hn2, hdn⟩
  · rw [Counter.leave_of_delay_one hd, Counter.transferTo_eq]
    refine ⟨rfl, ?_, rfl, fun last y => ?_⟩
    · have hkeep : keepLevels t (outer.reverse ++ inner.reverse) = outer.reverse :=
        keepLevels_append (fun l h => hout l (List.mem_reverse.mp h)) (by rwa [List.head?_reverse])
      simp only [hl, List.reverse_append, hkeep, List.reverse_reverse]
    · simp [Option.filter_eq_some_iff]

/-! ### Words of the common control (04 R99, R101) -/

section
variable {i : Instr} {srcs : List RegRef} {enq : Bool} {body : State → Act} {s : State}

/-- A word of the common control that may issue answers what its body answers; one that enqueues needs room for its outcome. -/
theorem exec_ready (he : exec i s = .next (ccWord i srcs enq body s)) (hs : Instr.reads i = srcs) (hw : Instr.writes i = [])
    (hc : s.controls i = true) (hq : enq = true → s.queueRoom = true) : exec i s = .next (Act.run (body s) .S s) := by
  subst hs
  simp only [State.controls, State.issues, Bool.and_eq_true, Option.isNone_iff_eq_none] at hc
  obtain ⟨⟨hwf, hready⟩, hdelay⟩ := hc
  have hroom : (enq && !s.outRoom) = false := by
    rw [Bool.and_eq_false_imp]
    intro h
    rw [Bool.not_eq_false']
    exact hq h
  rw [he, ccWord, hdelay, Option.isSome_none, Bool.and_false, if_neg Bool.false_ne_true, sWord_ready hwf (hw ▸ hready), hroom]
  rfl

/-- A word that enqueues an outcome waits while the queue is full. -/
theorem exec_full (he : exec i s = .next (ccWord i srcs true body s)) (hs : Instr.reads i = srcs) (hw : Instr.writes i = [])
    (hc : s.controls i = true) (hq : s.queueRoom = false) : exec i s = .next s := by
  subst hs
  simp only [State.controls, State.issues, Bool.and_eq_true, Option.isNone_iff_eq_none] at hc
  obtain ⟨⟨hwf, hready⟩, hdelay⟩ := hc
  have hroom : s.outRoom = false := hq
  rw [he, ccWord, hdelay, Option.isSome_none, Bool.and_false, if_neg Bool.false_ne_true, sWord_ready hwf (hw ▸ hready), hroom]
  rfl

/-- A word of the common control is no delay word. -/
theorem ccWord_delay (hwf : i.wellFormed = true) (hd : (s.slot s.cur).seq.pc.delay ≠ none) :
    ccWord i srcs enq body s = s.trapAt s.cur .S fILLEGAL 0 0 := by
  rw [ccWord, hwf, Option.isSome_iff_ne_none.mpr hd]
  rfl

end

theorem State.Traced.modSlot {core : Nat} {s t : State} (h : State.Traced core s t) (n : Nat) (f : Slot → Slot) :
    State.Traced core (s.modSlot n f) (t.modSlot n f) := by
  refine ⟨h.package, ?_, h.agenda, h.cores, h.own⟩
  rw [State.modSlot, State.modSlot, h.slots, h.slot_eq]

theorem State.Traced.modSeq {core : Nat} {s t : State} (h : State.Traced core s t) (n : Nat) (f : SeqState → SeqState) :
    State.Traced core (s.modSeq n f) (t.modSeq n f) := h.modSlot n _

/-- The BRANCH entry of a word whose outcome enters the queue. -/
theorem State.traced_traceBranch (s : State) (data : Nat) (k : OutcomeKind) :
    State.Traced (coreOf s.cur) (s.withOutcome k) ((s.traceBranch data).enqueue k) := by
  have h : State.Traced (coreOf s.cur) s (s.traceBranch data) := State.traced_traceAt ..
  obtain ⟨-, hcur, -⟩ := h.package
  rw [State.enqueue, hcur]
  exact h.modSeq s.cur _

theorem State.withOutcome_cur (s : State) (k : OutcomeKind) : (s.withOutcome k).cur = s.cur := rfl

/-- A word that leaves its position by a rule of its own, with a BRANCH entry and its outcome. -/
theorem completes_branch {s s₁ : State} {f : Counter → Counter} (data : Nat) (k : OutcomeKind) (hf : ∀ c, (f c).deferred = c.deferred)
    (hc : s₁.cur = s.cur) (hp : (s₁.slot s.cur).seq.pc.pos = (s.slot s.cur).seq.pc.pos) :
    CompletesBy (.next (Act.run (.leaveBy ((s₁.traceBranch data).enqueue k) f) .S s)) .S f (s₁.withOutcome k) := by
  have htr := s₁.traced_traceBranch data k
  obtain ⟨-, hcur, -⟩ := htr.package
  rw [State.withOutcome_cur, hc] at hcur
  obtain ⟨t, ht, hm⟩ := completes_leaveBy .S s ((s₁.traceBranch data).enqueue k) f hf hcur (by
    rw [htr.slot_eq, State.withOutcome, hcur, hc, State.slot_modSeq_same]
    exact hp)
  refine ⟨t, ht, ?_⟩
  rw [State.withOutcome_cur, hc]
  rw [hcur] at hm
  rw [hc] at htr
  exact hm.of_traced htr

theorem branched_deferred (t : Option Nat) (c : Counter) : (branched t c).deferred = c.deferred := (Counter.leave_counts c).2.2.1

/-! ### The words of the common control -/

/-- The words of the common control (03 R55). -/
def commonWord : Instr → Bool
  | .nop | .bprep .. | .bprepg .. | .blink .. | .bgo .. | .lset .. | .lstep .. | .lonlyFirst .. | .lonlyLast .. | .lonlyStage ..
  | .rotset .. | .rgn .. | .rgnend | .endActivation | .halt .. | .icinv .. => true
  | _ => false

theorem isControl_iff (w : Word) : isControl w = true ↔ w.toNat < 2 ^ 28 := by
  have := w.isLt
  rw [isControl, decide_eq_true_iff, field, field]
  omega

/-- A number of a word above the common control, with room for `r` more. -/
def aboveControl (n r : Nat) : Prop := 2 ^ 28 ≤ n ∧ n + r ≤ 2 ^ 32

theorem aboveControl.place {k n r lo : Nat} {x : BitVec k} (h : aboveControl n (2 ^ (k + lo) + r)) : aboveControl (n + place x lo) r := by
  have hx : Sys2Proof.place x lo < 2 ^ (k + lo) := by
    rw [Sys2Proof.place, pow_add]
    exact Nat.mul_lt_mul_of_pos_right x.isLt (by positivity)
  exact ⟨by have := h.1; omega, by have := h.2; omega⟩

theorem le_toNat_of_ofNat {n : Nat} {w : Word} (h : some (BitVec.ofNat 32 n) = some w) (hn : aboveControl n 1) : 2 ^ 28 ≤ w.toNat := by
  rw [← Option.some.inj h, BitVec.toNat_ofNat, Nat.mod_eq_of_lt hn.2]
  exact hn.1

/-- Every other word lies above those of the common control; a package step has no word. -/
theorem le_toNat_of_encode {i : Instr} {w : Word} (h : encode i = some w) (hc : commonWord i = false) : 2 ^ 28 ≤ w.toNat := by
  cases i
  all_goals first
    | exact Bool.noConfusion (show true = false from hc)
    | exact absurd h.symm (Option.some_ne_none w)
    | refine le_toNat_of_ofNat h ?_
  all_goals
    repeat refine aboveControl.place ?_
    exact ⟨by decide, by decide⟩

theorem commonWord_of_isControl {i : Instr} {w : Word} (h : encode i = some w) (hw : isControl w = true) : commonWord i = true := by
  rw [isControl_iff] at hw
  by_contra hc
  exact absurd (le_toNat_of_encode h (Bool.eq_false_iff.mpr hc)) (Nat.not_le.mpr hw)

/-- A word of the common control other than NOP answers as such a word. -/
theorem exec_commonWord {i : Instr} (h : commonWord i = true) (hn : i ≠ .nop) (s : State) :
    ∃ srcs enq body, exec i s = .next (ccWord i srcs enq body s) := by
  cases i
  case nop => exact absurd rfl hn
  all_goals first
    | exact Bool.noConfusion (show false = true from h)
    | exact ⟨_, _, _, rfl⟩

/-- A word that raises ILLEGAL and has no effect. -/
theorem raises_run {s : State} (code status addr : Nat) (h : (s.slot s.cur).stop = none) :
    Raises (.next (Act.run (.trap code status addr) .S s)) s .S code status addr := raises_trapAt s .S code status addr h

/-! ### NOP and the branch words (04 R96, R101, R102) -/

theorem State.passed_S (s : State) (slot p : Nat) : s.passed slot .S p = s.modSlot slot fun sl => sl.takeDeferred .S p := by
  simp only [State.passed, reduceCtorEq, false_and, if_false]

/-- Leaving a position of the sequencer changes its slot alone. -/
theorem State.leave_S (s : State) (slot : Nat) : s.leave slot .S = s.modSlot slot fun sl =>
    (sl.setCounter .S sl.seq.pc.leave).takeDeferred .S sl.seq.pc.pos := by
  rw [State.leave, State.passed_S, State.modCounter, State.modSlot_modSlot]
  rfl

/-- NOP is not issued: its counter moves, and the effects that wait at the position change no more than views and shapes (05 R126). -/
theorem nop_leaves (s : State) : ∃ t, exec .nop s = .next t ∧ (t.slot s.cur).seq.pc.pos = (s.slot s.cur).seq.pc.pos + 1
    ∧ (t.slot s.cur).seq.pc.word = (s.slot s.cur).seq.pc.leave.word ∧ (t.slot s.cur).seq.pc.issued = (s.slot s.cur).seq.pc.issued
    ∧ t.mem = s.mem ∧ t.hub = s.hub ∧ t.cores = s.cores ∧ (∀ n, n ≠ s.cur → t.slot n = s.slot n)
    ∧ (∀ g, (t.slot s.cur).regs.getG g = (s.slot s.cur).regs.getG g) := by
  have hpc := Slot.takeDeferred_counter ((s.slot s.cur).setCounter .S (s.slot s.cur).seq.pc.leave) .S (s.slot s.cur).seq.pc.pos
  have hregs := Slot.takeDeferred_eq ((s.slot s.cur).setCounter .S (s.slot s.cur).seq.pc.leave) .S (s.slot s.cur).seq.pc.pos
  rw [Slot.counter_setCounter] at hpc
  refine ⟨s.leave s.cur .S, rfl, ?_⟩
  rw [State.leave_S]
  refine ⟨?_, ?_, ?_, rfl, rfl, rfl, fun n hn => State.slot_modSlot_other _ _ _ _ hn, fun g => ?_⟩
  · rw [State.slot_modSlot_same]
    exact (congrArg Counter.pos hpc).trans (Counter.leave_counts _).1
  · rw [State.slot_modSlot_same]
    exact (congrArg Counter.word hpc).trans rfl
  · rw [State.slot_modSlot_same]
    exact (congrArg Counter.issued hpc).trans (Counter.leave_issued _)
  · rw [State.slot_modSlot_same, hregs]
    rfl

/-- BPREP and BPREPG: a target within 0 to 2^24 - 1 enters its register, and another raises ILLEGAL. -/
theorem prepares {i : Instr} {srcs : List RegRef} {s : State} (x : State → Int) (b : Nat)
    (he : exec i s = .next (ccWord i srcs false (fun s => if x s < 0 ∨ 2 ^ 24 ≤ x s then .trap fILLEGAL 0 0
      else .done (s.modRegs s.cur fun r => r.setB b (BitVec.ofInt 64 (x s)))) s))
    (hs : Instr.reads i = srcs) (hw : Instr.writes i = []) (hc : s.controls i = true) :
    (0 ≤ x s → x s < 2 ^ 24 → Completes (exec i s) .S (s.modRegs s.cur fun r => { r with b := r.b.put b (BitVec.ofInt 64 (x s)) }))
    ∧ (x s < 0 ∨ 2 ^ 24 ≤ x s → (s.slot s.cur).stop = none → Raises (exec i s) s .S 0x01 0 0) := by
  rw [exec_ready he hs hw hc nofun]
  constructor
  · intro h0 h1
    rw [if_neg (by omega)]
    exact completes_done .S s _ rfl
  · intro h hstop
    rw [if_pos h]
    exact raises_run _ _ _ hstop

/-- What BGO does: the outcome and the way it leaves, by its flag. -/
theorem exec_bgo (p : BitVec 1) (t f : BitVec 3) (s : State) : exec (.bgo p t f) s = .next (ccWord (.bgo p t f) [.c f.toNat] true
    (fun s => if (s.slot s.cur).regs.getC f.toNat = p.getLsbD 0 then
        .leaveBy ((s.traceBranch 1).enqueue (.transfer (((s.slot s.cur).regs.getB t.toNat).toNat % 2 ^ 24)))
          (branched (some (((s.slot s.cur).regs.getB t.toNat).toNat % 2 ^ 24)))
      else .leaveBy ((s.traceBranch 0).enqueue .proceed) (branched none)) s) := rfl

theorem bgo_taken {s : State} {p : BitVec 1} {t f : BitVec 3} (hc : s.controls (.bgo p t f) = true) (hq : s.queueRoom = true)
    (hf : (s.slot s.cur).regs.getC f.toNat = p.getLsbD 0) :
    CompletesBy (exec (.bgo p t f) s) .S (branched (some (((s.slot s.cur).regs.getB t.toNat).toNat % 2 ^ 24)))
      (s.withOutcome (.transfer (((s.slot s.cur).regs.getB t.toNat).toNat % 2 ^ 24))) := by
  rw [exec_ready (exec_bgo p t f s) rfl rfl hc fun _ => hq, if_pos hf]
  exact completes_branch 1 _ (branched_deferred _) rfl rfl

theorem bgo_passed {s : State} {p : BitVec 1} {t f : BitVec 3} (hc : s.controls (.bgo p t f) = true) (hq : s.queueRoom = true)
    (hf : (s.slot s.cur).regs.getC f.toNat ≠ p.getLsbD 0) :
    CompletesBy (exec (.bgo p t f) s) .S (branched none) (s.withOutcome .proceed) := by
  rw [exec_ready (exec_bgo p t f s) rfl rfl hc fun _ => hq, if_neg hf]
  exact completes_branch 0 _ (branched_deferred _) rfl rfl

theorem exec_blink (t l : BitVec 3) (s : State) : exec (.blink t l) s = .next (ccWord (.blink t l) [] true
    (fun s => .leaveBy
      (((s.modRegs s.cur fun r => r.setB l.toNat (BitVec.ofNat 64 (((s.slot s.cur).seq.pc.word + 3) % 2 ^ 24))).traceBranch 1).enqueue
        (.transfer (((s.slot s.cur).regs.getB t.toNat).toNat % 2 ^ 24)))
      (branched (some (((s.slot s.cur).regs.getB t.toNat).toNat % 2 ^ 24)))) s) := rfl

theorem blink_taken {s : State} {t l : BitVec 3} (hc : s.controls (.blink t l) = true) (hq : s.queueRoom = true) :
    CompletesBy (exec (.blink t l) s) .S (branched (some (((s.slot s.cur).regs.getB t.toNat).toNat % 2 ^ 24)))
      ((s.modRegs s.cur fun r => r.setB l.toNat (BitVec.ofNat 64 (((s.slot s.cur).seq.pc.word + 3) % 2 ^ 24))).withOutcome
        (.transfer (((s.slot s.cur).regs.getB t.toNat).toNat % 2 ^ 24))) := by
  rw [exec_ready (exec_blink t l s) rfl rfl hc fun _ => hq]
  refine completes_branch 1 _ (branched_deferred _) rfl ?_
  rw [State.slot_modRegs_same]

/-- Settles O22: the branch words answer through the shared rule of the common control. -/
theorem branchWords : Obligations.BranchWords := by
  refine ⟨nop_leaves, fun s t o hc => ?_, fun s d a i hc => ?_, fun s p t f l => ⟨bgo_taken, bgo_passed, blink_taken, fun hc hq => ?_,
    fun hc hq => ?_⟩, fun s i w he hw hn hwf hd hstop => ?_⟩
  · exact prepares (fun s => (s.slot s.cur).seq.pc.word + o.toInt) t.toNat rfl rfl rfl hc
  · exact prepares (fun s => (s.g a.toNat).toInt + i.toInt) d.toNat rfl rfl rfl hc
  · exact exec_full (exec_bgo p t f s) rfl rfl hc hq
  · exact exec_full (exec_blink t l s) rfl rfl hc hq
  · obtain ⟨srcs, enq, body, hx⟩ := exec_commonWord (commonWord_of_isControl he hw) hn s
    rw [hx, ccWord_delay hwf hd]
    exact raises_trapAt s .S fILLEGAL 0 0 hstop


/-! ### Rotation, regions and the end (04 R108-R111) -/

theorem exec_rotset (i : BitVec 12) (s : State) : exec (.rotset i) s = .next (ccWord (.rotset i) [] true (fun s =>
    .done ((s.modCounter s.cur .S fun c => { c with view := { c.view with rotcfg := i.setWidth 6, rrb := 0 } }).withOutcome
      (.rotset i.toNat))) s) := by
  rw [← BitVec.ofNat_toNat]
  rfl

theorem exec_rgn (st : BitVec 1) (a : BitVec 6) (i : BitVec 12) (s : State) : exec (.rgn st a i) s
    = .next (ccWord (.rgn st a i) [.g a.toNat] true (fun s => if (s.slot s.cur).seq.region.isSome then .trap fILLEGAL 0 0
      else .done ((s.modSeq s.cur fun q =>
          { q with region := some (if a = 0 then s.now else (s.g a.toNat).toNat, 8 * i.toNat, st.getLsbD 0) }).withOutcome
        (.region (if a = 0 then s.now else (s.g a.toNat).toNat) (8 * i.toNat) (st.getLsbD 0)))) s) := rfl

theorem exec_rgnend (s : State) : exec .rgnend s = .next (ccWord .rgnend [] true (fun s =>
    if (s.slot s.cur).seq.region.isNone then .trap fILLEGAL 0 0
    else .done ((s.modSeq s.cur fun q => { q with region := none }).withOutcome .regionEnd)) s) := rfl

theorem exec_halt (a : BitVec 6) (s : State) : exec (.halt a) s = .next (ccWord (.halt a) [.g a.toNat] true (fun s =>
    if 2 ^ 16 ≤ (s.g a.toNat).toNat then .trap fILLEGAL 0 0
    else .stay ((s.modSlot s.cur fun sl => { sl with halt := some ((s.g a.toNat).setWidth 16) }).reachEnd)) s) := rfl

/-- Settles O24: each word has its effect with its outcome, and raises ILLEGAL where its operand or its place forbids it. -/
theorem rotationRegionEnd : Obligations.RotationRegionEnd := by
  intro s hq
  refine ⟨fun i hc => ?rotset, fun st a i hc => ⟨fun hr => ?rgn, fun hr hstop => ?inRegion⟩,
    fun hc => ⟨fun hr => ?rgnend, fun hr hstop => ?noRegion⟩, fun hc => ?endActivation,
    fun a hc => ⟨fun h => ?halt, fun h hstop => ?wide⟩⟩
  case rotset =>
    rw [exec_ready (exec_rotset i s) rfl rfl hc fun _ => hq]
    exact completes_done .S s _ rfl
  case rgn =>
    rw [exec_ready (exec_rgn st a i s) rfl rfl hc fun _ => hq, hr]
    exact completes_done .S s _ rfl
  case inRegion =>
    rw [exec_ready (exec_rgn st a i s) rfl rfl hc fun _ => hq, if_pos (Option.isSome_iff_ne_none.mpr hr)]
    exact raises_run _ _ _ hstop
  case rgnend =>
    rw [exec_ready (exec_rgnend s) rfl rfl hc fun _ => hq, if_neg (by rwa [Option.isNone_iff_eq_none])]
    exact completes_done .S s _ rfl
  case noRegion =>
    rw [exec_ready (exec_rgnend s) rfl rfl hc fun _ => hq, hr]
    exact raises_run _ _ _ hstop
  case endActivation =>
    rw [exec_ready (body := fun s => .stay s.reachEnd) rfl rfl rfl hc fun _ => hq]
    exact completes_stay .S s _ rfl
  case halt =>
    rw [exec_ready (exec_halt a s) rfl rfl hc fun _ => hq, if_neg (Nat.not_le.mpr h)]
    exact completes_stay .S s _ rfl
  case wide =>
    rw [exec_ready (exec_halt a s) rfl rfl hc fun _ => hq, if_pos h]
    exact raises_run _ _ _ hstop

/-! ### Lagging counters (04 R97, R99) -/

section
variable {q : SeqState} {e : Engine} {before after : List Outcome} {o : Outcome}

theorem SeqState.nextOutcome_none (h : q.outq.all (fun o => o.taken e) = true) : q.nextOutcome e = none := by
  rw [SeqState.nextOutcome, Option.map_eq_none_iff, List.find?_eq_none]
  intro o ho
  simpa using List.all_eq_true.mp h o ho

variable (hq : q.outq = before ++ o :: after) (hb : ∀ x ∈ before, x.taken e = true) (ho : o.taken e = false)
include hq hb ho

/-- The outcome that a counter takes is the oldest that it has not taken. -/
theorem SeqState.nextOutcome_some : q.nextOutcome e = some o.kind := by
  have hn : before.find? (fun o => !o.taken e) = none := by
    rw [List.find?_eq_none]
    intro x hx
    simp [hb x hx]
  rw [SeqState.nextOutcome, hq, List.find?_append, hn, Option.none_or, List.find?_cons_of_pos (by simp [ho]), Option.map_some]

/-- It is marked as taken; an outcome that all three have taken leaves the queue. -/
theorem SeqState.takeOutcome_eq : q.takeOutcome e
    = { q with outq := (before ++ o.take e :: after).filter fun o => !(o.takenV && o.takenM && o.takenA) } := by
  rw [SeqState.takeOutcome, hq, mapFirst_append _ _ before after o (fun x hx => by simp [hb x hx]) (by simp [ho])]

end

namespace OutcomeKind

/-- What a taken outcome does to a counter leaves the effects that wait. -/
theorem apply_deferred (k : OutcomeKind) (c : Counter) : (k.apply c).deferred = c.deferred := by
  obtain ⟨-, -, hd, -⟩ := c.leave_counts
  cases k
  case skip => rfl
  case endAct => rfl
  all_goals exact hd

/-- Every outcome but the activation's end moves the counter past the position. -/
theorem apply_pos {k : OutcomeKind} (h : k ≠ .endAct) (c : Counter) : (k.apply c).pos = c.pos + 1 := by
  obtain ⟨hp, -⟩ := c.leave_counts
  cases k
  case skip => rfl
  case endAct => exact absurd rfl h
  all_goals exact hp

theorem applyRegion_pc (k : OutcomeKind) (m : MatState) : (k.applyRegion m).pc = m.pc := by cases k <;> rfl

theorem applyRegion_region (k : OutcomeKind) (m : MatState) : (k.applyRegion m).region = match k with
    | .region b w st => some (b, w, st)
    | .regionEnd => none
    | .endAct => none
    | _ => m.region := by cases k <;> rfl

end OutcomeKind

/-- A slot whose engine has taken an outcome, before the effects that wait at the position. -/
def Slot.taking (sl : Slot) (e : Engine) (k : OutcomeKind) : Slot :=
  let sl' := ({ sl with seq := sl.seq.takeOutcome e } : Slot).setCounter e (k.apply (sl.counter e))
  if e = .M then { sl' with mat := k.applyRegion sl'.mat } else sl'

section
variable {sl : Slot} {e : Engine} (he : e ≠ .S) (k : OutcomeKind)
include he

theorem Slot.taking_counter : (sl.taking e k).counter e = k.apply (sl.counter e) := by
  cases e with
  | S => exact absurd rfl he
  | M => exact k.applyRegion_pc _
  | V => rfl
  | A => rfl

theorem Slot.taking_seq : (sl.taking e k).seq = sl.seq.takeOutcome e := by
  cases e with
  | S => exact absurd rfl he
  | V => rfl
  | M => rfl
  | A => rfl

theorem Slot.taking_regs : (sl.taking e k).regs = sl.regs := by
  cases e with
  | S => exact absurd rfl he
  | V => rfl
  | M => rfl
  | A => rfl

theorem Slot.setCounter_seq (c : Counter) : (sl.setCounter e c).seq = sl.seq := by
  cases e with
  | S => exact absurd rfl he
  | V => rfl
  | M => rfl
  | A => rfl

end

/-- Passing a position changes the slot, and at most the draw filter of its core. -/
theorem State.passed_frame (s : State) (slot : Nat) (e : Engine) (p : Nat) : (s.passed slot e p).mem = s.mem
    ∧ (s.passed slot e p).hub = s.hub ∧ ∀ n, (s.passed slot e p).slot n = (s.modSlot slot fun sl => sl.takeDeferred e p).slot n := by
  unfold State.passed
  dsimp only
  split <;> exact ⟨rfl, rfl, fun _ => rfl⟩

/-- The three updates of LAGGING_OUTCOME_TAKE are one of the slot. -/
theorem State.modSlot_taking (s : State) (n : Nat) {e : Engine} (he : e ≠ .S) (k : OutcomeKind) :
    (let t := (s.modSeq n (·.takeOutcome e)).modCounter n e k.apply
     if e = .M then t.modMat n k.applyRegion else t) = s.modSlot n fun sl => sl.taking e k := by
  cases e with
  | S => exact absurd rfl he
  | V =>
    rw [if_neg nofun, State.modSeq, State.modCounter, State.modSlot_modSlot]
    rfl
  | A =>
    rw [if_neg nofun, State.modSeq, State.modCounter, State.modSlot_modSlot]
    rfl
  | M =>
    rw [if_pos rfl, State.modSeq, State.modCounter, State.modSlot_modSlot, State.modMat, State.modSlot_modSlot]
    rfl

/-- LAGGING_OUTCOME_TAKE of an outcome that is no body's end. -/
theorem exec_laggingOutcomeTake {s : State} {e : Engine} {k : OutcomeKind} (he : e ≠ .S)
    (hk : (s.slot s.cur).seq.nextOutcome e = some k) (ha : k ≠ .again) (hx : k ≠ .exit) : exec (.laggingOutcomeTake e) s
      = .next ((s.modSlot s.cur fun sl => sl.taking e k).passed s.cur e ((s.slot s.cur).counter e).pos) := by
  rw [← State.modSlot_taking s s.cur he]
  change execLaggingOutcomeTake e s = _
  rw [execLaggingOutcomeTake, if_neg he, hk]
  cases k
  case again => exact absurd rfl ha
  case exit => exact absurd rfl hx
  all_goals cases e <;> rfl

/-- A counter with no outcome to take waits. -/
theorem exec_laggingOutcomeTake_waits {s : State} {e : Engine} (hk : (s.slot s.cur).seq.nextOutcome e = none) :
    exec (.laggingOutcomeTake e) s = .next s := by
  change execLaggingOutcomeTake e s = _
  rw [execLaggingOutcomeTake, hk]
  exact congrArg Host.Outcome.next (ite_self _)

/-- Settles O25: the engine's counter and, for the matrix engine, its region change by the outcome, and then it passes its position. -/
theorem laggingOutcomes : Obligations.LaggingOutcomes := by
  intro s e he sl c
  refine ⟨fun h => exec_laggingOutcomeTake_waits (SeqState.nextOutcome_none h), fun before after o hq hb ho ha hx => ?_⟩
  have hk := SeqState.nextOutcome_some hq hb ho
  obtain ⟨hmem, hhub, hslots⟩ := (s.modSlot s.cur fun sl => sl.taking e o.kind).passed_frame s.cur e c.pos
  refine ⟨_, exec_laggingOutcomeTake he hk ha hx, hmem, hhub, fun n hn => ?_, ?_⟩
  · rw [hslots, State.slot_modSlot_other _ _ _ _ hn, State.slot_modSlot_other _ _ _ _ hn]
  rw [hslots, State.slot_modSlot_same, State.slot_modSlot_same]
  have hc := Slot.takeDeferred_counter (sl.taking e o.kind) e c.pos
  have hsl := Slot.takeDeferred_eq (sl.taking e o.kind) e c.pos
  have hstill := Slot.takeDeferred_still (sl.taking e o.kind) e c.pos
  rw [Slot.taking_counter he] at hc hstill
  rw [Slot.taking_regs he] at hsl
  rw [OutcomeKind.apply_deferred] at hstill
  generalize (sl.taking e o.kind).takeDeferred e c.pos = t at hc hsl hstill
  refine ⟨?seq, fun g => ?regs, fun h => ?endAct, fun h => ?pos, fun w h => ?transfer, fun h => ?proceed, fun l h => ?enter, fun w h => ?skip,
    fun last y h => ?guard, fun n h haw => ?rotset, fun h => ?region⟩
  case seq =>
    rw [hsl, ← SeqState.takeOutcome_eq hq hb ho]
    exact (Slot.setCounter_seq he _).trans (Slot.taking_seq he _)
  case regs => rw [hsl]; rfl
  case endAct => rw [hc, h]; exact ⟨rfl, rfl⟩
  case pos => rw [hc]; exact OutcomeKind.apply_pos h c
  case transfer => rw [hc, h]; exact ⟨rfl, rfl⟩
  case proceed => rw [hc, h]; rfl
  case enter => rw [hc, h]; rfl
  case skip => rw [hc, h]; rfl
  case guard => rw [hc, h]; rfl
  case rotset =>
    obtain ⟨hview, -⟩ := hstill haw
    obtain ⟨-, -, -, hv⟩ := c.leave_counts
    rw [hview, h, ← hv]
    rfl
  case region =>
    subst h
    rw [hsl]
    exact o.kind.applyRegion_region _


/-! ### Loops (04 R103-R106) -/

/-- What an LSET with `p` LSTEP words after it does (R103). -/
def State.setsLoop (s : State) (sg l : BitVec 3) (a : BitVec 6) (n : BitVec 12) (p : Nat) : Act :=
  let c := (s.slot s.cur).seq.pc
  let last := c.word + p + n.toNat
  let trip := (s.g a.toNat).toNat
  let iters := if trip = 0 then 0 else trip + sg.toNat
  if c.loops.head?.any (fun t => decide (l.toNat ≤ t.lvl) || decide (t.last < last)) ∨ 2 ^ 32 ≤ trip ∨ 5 ≤ p ∨ s.controlAt last = true then
    .trap fILLEGAL 0 0
  else if iters = 0 then .leaveBy ((s.traceBranch 0).enqueue (.skip (last + 1))) (fun c => c.leaveFor (last + 1))
  else
    let lv : LoopLevel :=
      { lvl := l.toNat, trip := trip, stages := sg.toNat + 1, iters := iters, i := 0, first := c.word + p + 1, last := last, strides := [] }
    .leaveBy ((s.traceBranch 2).enqueue (.enter lv)) (fun c => { c.leave with loops := lv :: c.loops })

theorem exec_lset (sg l : BitVec 3) (a : BitVec 6) (n : BitVec 12) (s : State) : exec (.lset sg l a n) s
    = .next (ccWord (.lset sg l a n) [.g a.toNat] true (fun s =>
      match s.countLsteps l.toNat ((s.slot s.cur).seq.pc.word + 1) 5 with
      | .error t => .hold t
      | .ok p => s.setsLoop sg l a n p) s) := rfl

/-- The conditions under which LSET raises ILLEGAL are the negation of those under which its level fits. -/
theorem lset_illegal_iff {l p : Nat} (top : Option LoopLevel) (last trip : Nat) (control : Bool) :
    (top.any (fun t => decide (l ≤ t.lvl) || decide (t.last < last)) = true ∨ 2 ^ 32 ≤ trip ∨ 5 ≤ p ∨ control = true)
      ↔ ¬ ((∀ v ∈ top, v.lvl < l ∧ last ≤ v.last) ∧ trip < 2 ^ 32 ∧ p < 5 ∧ control = false) := by
  cases top <;> cases control <;> simp <;> omega

section
variable {s : State} (sg l : BitVec 3) (a : BitVec 6) (n : BitVec 12) (p : Nat)

/-- LSET skips a body without iterations, enters its level otherwise, and raises ILLEGAL where the level does not fit. -/
theorem setsLoop_leaves :
    let c := (s.slot s.cur).seq.pc
    let last := c.word + p + n.toNat
    let trip := (s.g a.toNat).toNat
    let lv : LoopLevel := { lvl := l.toNat, trip := trip, stages := sg.toNat + 1, iters := trip + sg.toNat, i := 0,
                            first := c.word + p + 1, last := last, strides := [] }
    let fits := (∀ v ∈ c.loops.head?, v.lvl < l.toNat ∧ last ≤ v.last) ∧ trip < 2 ^ 32 ∧ p < 5 ∧ s.controlAt last = false
    let o := Host.Outcome.next (Act.run (s.setsLoop sg l a n p) .S s)
    (fits → trip = 0 → CompletesBy o .S (fun c => { c with pos := c.pos + 1, left := c.left + 1, word := last + 1 })
      (s.withOutcome (.skip (last + 1))))
    ∧ (fits → trip ≠ 0 → CompletesBy o .S (fun c => { c.leave with loops := lv :: c.loops }) (s.withOutcome (.enter lv)))
    ∧ (¬ fits → (s.slot s.cur).stop = none → Raises o s .S 0x01 0 0) := by
  intro c last trip lv fits o
  have hif : (c.loops.head?.any (fun t => decide (l.toNat ≤ t.lvl) || decide (t.last < last)) = true ∨ 2 ^ 32 ≤ trip ∨ 5 ≤ p
      ∨ s.controlAt last = true) ↔ ¬ fits := lset_illegal_iff ..
  simp only [o, State.setsLoop]
  refine ⟨fun hf h0 => ?_, fun hf h0 => ?_, fun hf hstop => ?_⟩
  · rw [if_neg (mt hif.mp (not_not_intro hf)), if_pos (if_pos h0)]
    exact completes_branch 0 (.skip (last + 1)) (fun _ => rfl) rfl rfl
  · have hi : trip + sg.toNat ≠ 0 := fun h => h0 (Nat.eq_zero_of_add_eq_zero_right h)
    rw [if_neg (mt hif.mp (not_not_intro hf)), if_neg (by rwa [if_neg h0]), if_neg h0]
    exact completes_branch 2 (.enter lv) (fun c => c.leave_counts.2.2.1) rfl rfl
  · rw [if_pos (hif.mpr hf)]
    exact raises_run _ _ _ hstop

end

/-- What an LSTEP registers at the level that is the highest (R104). -/
def State.addsStride (s : State) (d a : BitVec 6) (i : BitVec 12) : Act :=
  match (s.slot s.cur).seq.pc.loops with
  | l :: t =>
    if l.lvl = a.toNat ∧ (s.slot s.cur).seq.pc.word < l.first then
      .done (s.modCounter s.cur .S fun c => { c with loops := { l with strides := l.strides ++ [(d.toNat, i.toInt)] } :: t })
    else .done s
  | [] => .done s

theorem exec_lstep (d a : BitVec 6) (i : BitVec 12) (s : State) : exec (.lstep d a i) s = .next (ccWord (.lstep d a i) [] false (fun s =>
    match s.afterLset a.toNat (s.slot s.cur).seq.pc.word with
    | .error t => .hold t
    | .ok false => .trap fILLEGAL 0 0
    | .ok true => s.addsStride d a i) s) := rfl

/-- LSTEP registers its stride at the highest level while that level's body lies ahead. -/
theorem addsStride_ahead {s : State} {d a : BitVec 6} {i : BitVec 12} {l : LoopLevel} {rest : List LoopLevel}
    (hl : (s.slot s.cur).seq.pc.loops = l :: rest) (hlvl : l.lvl = a.toNat) (hw : (s.slot s.cur).seq.pc.word < l.first) :
    s.addsStride d a i = .done (s.modCounter s.cur .S fun c =>
      { c with loops := { l with strides := l.strides ++ [(d.toNat, i.toInt)] } :: rest }) := by
  rw [State.addsStride, hl]
  exact if_pos ⟨hlvl, hw⟩

/-- LSTEP has no effect where its level's body does not lie ahead. -/
theorem addsStride_done {s : State} {d a : BitVec 6} {i : BitVec 12}
    (h : ∀ l ∈ (s.slot s.cur).seq.pc.loops.head?, l.lvl = a.toNat → l.first ≤ (s.slot s.cur).seq.pc.word) :
    s.addsStride d a i = .done s := by
  rw [State.addsStride]
  split
  next l rest hl => exact if_neg fun hlw => absurd hlw.2 (Nat.not_lt.mpr (h l (by rw [hl]; rfl) hlw.1))
  next => rfl

/-- Every mode of LONLY is one word of the common control, with the predicate of its mode. -/
theorem exec_lonly {i : Instr} {l : BitVec 3} {n : BitVec 12} {pick : LoopLevel → Option Bool} (h : lonlyMode i = some (l, n, pick))
    (s : State) : exec i s = .next (lonly i l.toNat n.toNat pick s) ∧ Instr.reads i = [] ∧ Instr.writes i = [] := by
  cases i
  case lonlyFirst | lonlyLast =>
    obtain ⟨rfl, rfl, rfl⟩ := h
    exact ⟨rfl, rfl, rfl⟩
  case lonlyStage =>
    obtain ⟨rfl, rfl, rfl⟩ := h
    refine ⟨?_, rfl, rfl⟩
    change Host.Outcome.next (lonly _ _ _ _ s) = _
    congr 2
    funext v
    split
    · rfl
    · exact congrArg some (decide_eq_decide.mpr (by omega))
  all_goals exact absurd h.symm (Option.some_ne_none _)

/-- LONLY leaves with the guard of its mode. -/
theorem lonly_guards {s : State} {i : Instr} {l : BitVec 3} {n : BitVec 12} {pick : LoopLevel → Option Bool} {v : LoopLevel} {y : Bool}
    (hm : lonlyMode i = some (l, n, pick)) (hc : s.controls i = true) (hq : s.queueRoom = true)
    (hv : (s.slot s.cur).seq.pc.loops.find? (fun v => v.lvl == l.toNat) = some v) (hlast : (s.slot s.cur).seq.pc.word + n.toNat ≤ v.last)
    (hcontrol : (rangeFrom ((s.slot s.cur).seq.pc.word + 1) n.toNat).any s.controlAt = false) (hy : pick v = some y) :
    CompletesBy (exec i s) .S (fun c => { c.leave with guard := some (c.word + n.toNat, y) })
      (s.withOutcome (.guard ((s.slot s.cur).seq.pc.word + n.toNat) y)) := by
  obtain ⟨he, hs, hw⟩ := exec_lonly hm s
  rw [exec_ready he hs hw hc fun _ => hq]
  simp only [hv, hy]
  rw [if_neg (not_or.mpr ⟨Nat.not_lt.mpr hlast, Bool.eq_false_iff.mp hcontrol⟩)]
  exact completes_branch _ _ (fun c => c.leave_counts.2.2.1) rfl rfl

/-! ### The end of a body (04 R106) -/

section
variable {c : Counter} {above rest : List LoopLevel} {l : LoopLevel} {w hi : Nat}
variable (hl : c.loops = above ++ l :: rest) (habove : ∀ v ∈ above, v.last ≠ w) (hlast : l.last = w) (hend : c.ending = some (w, hi))
include hl habove hlast hend

/-- The level that a body's end takes is the highest that ends on the word. -/
theorem Counter.endingLevel_eq : c.endingLevel = some l := by
  rw [Counter.endingLevel, hend, Option.bind_some, hl,
    List.find?_append, List.find?_eq_none.mpr (fun v hv => by simpa using habove v hv), Option.none_or,
    List.find?_cons_of_pos (by simpa using hlast)]

theorem Counter.again_eq : c.again = { c with
    loops := above ++ { l with i := l.i + 1 } :: rest, word := l.first, ending := none, guard := none
    view := if l.lvl = hi then c.view.advance else c.view } := by
  have hmap := mapFirst_append (fun v : LoopLevel => v.last == w) (fun v => { v with i := v.i + 1 }) above rest l
    (fun v hv => by simpa using habove v hv) (by simpa using hlast)
  rw [Counter.again, Counter.endingLevel_eq hl habove hlast hend, hend, hl]
  simp only [hmap]

theorem Counter.exit_eq : c.exit = { c with
    loops := above ++ rest, ending := if (above ++ rest).any (fun v => v.last == w) then some (w, hi) else none } := by
  have hdrop := dropFirst_append (fun v : LoopLevel => v.last == w) above rest l (fun v hv => by simpa using habove v hv) (by simpa using hlast)
  rw [Counter.exit, Counter.endingLevel_eq hl habove hlast hend, hend, hl]
  simp only [hdrop]

end

/-- No level above the one that ends, ends on the word. -/
theorem any_last_append {above rest : List LoopLevel} {w : Nat} (h : ∀ v ∈ above, v.last ≠ w) :
    ((above ++ rest).any fun v => v.last == w) = rest.any fun v => v.last == w := by
  rw [List.any_append, List.any_eq_false.mpr (fun v hv => by simpa using h v hv), Bool.false_or]

theorem CtlView.advance_eq (v : CtlView) (p : Prop) [Decidable p] : (if p then v.advance else v)
    = { v with rrb := if p ∧ v.rotcfg ≠ 0 then BitVec.ofNat 5 ((v.rrb.toNat + 1) % v.rotcfg.toNat) else v.rrb } := by
  by_cases hp : p
  · rw [if_pos hp, CtlView.advance]
    by_cases h0 : v.rotcfg = 0
    · rw [if_pos h0, if_neg fun h => h.2 h0]
    · rw [if_neg h0, if_pos ⟨hp, h0⟩]
  · rw [if_neg hp, if_neg fun h => hp h.1]

/-- A stride is added to each register that the level steps, and the others stay. -/
theorem getG_addStrides (r : Regs) (st : List (Nat × Int)) (g : Nat) (hn : (st.map (·.1)).Nodup) (h0 : ∀ p ∈ st, p.1 ≠ 0) :
    (addStrides r st).getG g = r.getG g + BitVec.ofInt 64 (((st.find? fun p => p.1 == g).map (·.2)).getD 0) := by
  induction st generalizing r with
  | nil => simp [addStrides]
  | cons p st ih =>
    obtain ⟨hp, hst⟩ := List.nodup_cons.mp hn
    have hp0 := h0 p List.mem_cons_self
    change (addStrides (r.setG p.1 (r.getG p.1 + BitVec.ofInt 64 p.2)) st).getG g = _
    rw [ih _ hst fun q hq => h0 q (List.mem_cons_of_mem _ hq)]
    by_cases hg : p.1 = g
    · subst hg
      have hnone : (st.find? fun q => q.1 == p.1) = none := by
        rw [List.find?_eq_none]
        intro q hq
        have : q.1 ≠ p.1 := fun h => hp (List.mem_map.mpr ⟨q, hq, h⟩)
        simpa using this
      rw [Regs.getG_setG_same _ _ _ hp0, hnone, List.find?_cons_of_pos (by simp)]
      simp
    · rw [Regs.getG_setG_other _ _ _ _ (Ne.symm hg), List.find?_cons_of_neg (by simpa using hg)]

/-- The body's end where a level with iterations left repeats, and where its last one is over. -/
theorem exec_loopBodyEnd_S {s : State} {l : LoopLevel} {w hi : Nat} (hend : (s.slot s.cur).seq.pc.ending = some (w, hi))
    (hl : (s.slot s.cur).seq.pc.endingLevel = some l) (hq : s.queueRoom = true) : exec (.loopBodyEnd .S) s = .next (
      if l.i + 1 < l.iters then
        if l.strides.any (fun p => (s.slot s.cur).seq.exposed (.g p.1) || (s.slot s.cur).seq.locked (.g p.1)) then s
        else
          let s := s.traceEntry s.cur .S (s.slot s.cur).seq.pc.view.tracemode.toNat 3 2 w 2 none
          ((s.modRegs s.cur fun r => addStrides r l.strides).enqueue .again).modCounter s.cur .S Counter.again
      else
        let s := s.traceEntry s.cur .S (s.slot s.cur).seq.pc.view.tracemode.toNat 3 2 w 3 none
        (s.enqueue .exit).modCounter s.cur .S Counter.exit) := by
  have hroom : s.outRoom = true := hq
  change execLoopBodyEnd .S s = _
  rw [execLoopBodyEnd, if_neg (by simp [Slot.counter, hend]), if_pos rfl, State.bodyEndS]
  simp only [hend, hl, hroom, Bool.true_eq_false, if_false]

/-- The outcome of a body's end, and what it does to the sequencer's counter. -/
theorem State.slot_endsBody {s : State} {n : Nat} (hc : s.cur = n) (k : OutcomeKind) (f : Counter → Counter) :
    ((s.enqueue k).modCounter n .S f).slot n = { s.slot n with seq := { (s.slot n).seq with
      outq := (s.slot n).seq.outq ++ [⟨k, false, false, false⟩], pc := f (s.slot n).seq.pc } } := by
  subst hc
  rw [State.slot_modCounter_same, State.enqueue, State.slot_modSeq_same]
  rfl

/-- What the sequencer does at a body's end. -/
theorem loopBodyEnd_S (s : State) (above rest : List LoopLevel) (l : LoopLevel) (w hi : Nat) :
    let c := (s.slot s.cur).seq.pc
    let pending := l.strides.any fun p => (s.slot s.cur).seq.exposed (.g p.1) || (s.slot s.cur).seq.locked (.g p.1)
    c.loops = above ++ l :: rest → (∀ v ∈ above, v.last ≠ w) → l.last = w → c.ending = some (w, hi) → s.queueRoom = true →
    let rrb := if l.lvl = hi ∧ c.view.rotcfg ≠ 0 then BitVec.ofNat 5 ((c.view.rrb.toNat + 1) % c.view.rotcfg.toNat) else c.view.rrb
    (l.i + 1 < l.iters → pending = true → exec (.loopBodyEnd .S) s = .next s)
    ∧ (l.i + 1 < l.iters → pending = false → ∃ t, exec (.loopBodyEnd .S) s = .next t ∧ t.mem = s.mem ∧ t.hub = s.hub
      ∧ (t.slot s.cur).seq = { (s.slot s.cur).seq with
          outq := (s.slot s.cur).seq.outq ++ [⟨.again, false, false, false⟩]
          pc := { c with word := l.first, ending := none, guard := none, loops := above ++ { l with i := l.i + 1 } :: rest,
                         view := { c.view with rrb := rrb } } }
      ∧ ∀ g, (l.strides.map (·.1)).Nodup → (∀ p ∈ l.strides, p.1 ≠ 0) → (t.slot s.cur).regs.getG g
          = (s.slot s.cur).regs.getG g + BitVec.ofInt 64 (((l.strides.find? fun p => p.1 == g).map (·.2)).getD 0))
    ∧ (l.iters ≤ l.i + 1 → ∃ t, exec (.loopBodyEnd .S) s = .next t ∧ t.mem = s.mem ∧ (t.slot s.cur).regs = (s.slot s.cur).regs
      ∧ (t.slot s.cur).seq = { (s.slot s.cur).seq with
          outq := (s.slot s.cur).seq.outq ++ [⟨.exit, false, false, false⟩]
          pc := { c with loops := above ++ rest, ending := if rest.any (fun v => v.last == w) then some (w, hi) else none } }) := by
  intro c pending hl habove hlast hend hq rrb
  have hexec := exec_loopBodyEnd_S hend (Counter.endingLevel_eq hl habove hlast hend) hq
  refine ⟨fun hi1 hp => ?waits, fun hi1 hp => ?again, fun hi1 => ?exit⟩
  case waits =>
    rw [hexec, if_pos hi1, if_pos hp]
  case again =>
    have htr := s.traced_traceEntry s.cur .S (s.slot s.cur).seq.pc.view.tracemode.toNat 3 2 w 2 none
    rw [if_pos hi1, if_neg (Bool.eq_false_iff.mp hp)] at hexec
    dsimp only at hexec
    obtain ⟨-, hcur, -, -, -, -, hmem, hhub, -⟩ := htr.package
    rw [hcur] at hexec
    refine ⟨_, hexec, hmem, hhub, ?_⟩
    rw [State.slot_endsBody (by exact hcur), State.slot_modRegs_same, htr.slot_eq]
    refine ⟨?_, fun g hn h0 => getG_addStrides _ _ g hn h0⟩
    rw [Counter.again_eq hl habove hlast hend, CtlView.advance_eq]
  case exit =>
    have htr := s.traced_traceEntry s.cur .S (s.slot s.cur).seq.pc.view.tracemode.toNat 3 2 w 3 none
    rw [if_neg (Nat.not_lt.mpr hi1)] at hexec
    dsimp only at hexec
    obtain ⟨-, hcur, -, -, -, -, hmem, -⟩ := htr.package
    rw [hcur] at hexec
    refine ⟨_, hexec, hmem, ?_⟩
    rw [State.slot_endsBody hcur, htr.slot_eq]
    refine ⟨rfl, ?_⟩
    rw [Counter.exit_eq hl habove hlast hend, any_last_append habove]

/-- A lagging counter takes the end of a body as the sequencer enqueued it. -/
theorem exec_loopBodyEnd_lagging (s : State) {e : Engine} (he : e ≠ .S) {w hi : Nat}
    (hend : ((s.slot s.cur).counter e).ending = some (w, hi)) :
    ((s.slot s.cur).seq.nextOutcome e = some .again →
      exec (.loopBodyEnd e) s = .next ((s.modSeq s.cur (·.takeOutcome e)).modCounter s.cur e Counter.again))
    ∧ ((s.slot s.cur).seq.nextOutcome e = some .exit →
      exec (.loopBodyEnd e) s = .next ((s.modSeq s.cur (·.takeOutcome e)).modCounter s.cur e Counter.exit))
    ∧ ((s.slot s.cur).seq.nextOutcome e = none → exec (.loopBodyEnd e) s = .next s) := by
  change (_ → execLoopBodyEnd e s = _) ∧ (_ → execLoopBodyEnd e s = _) ∧ (_ → execLoopBodyEnd e s = _)
  rw [execLoopBodyEnd, hend, if_neg (by simp), if_neg he]
  exact ⟨fun h => by rw [h], fun h => by rw [h], fun h => by rw [h]⟩

/-- The slot of a lagging counter that has taken an outcome by a rule of its own. -/
theorem State.slot_takes (s : State) {e : Engine} (he : e ≠ .S) (f : Counter → Counter) :
    let t := (s.modSeq s.cur (·.takeOutcome e)).modCounter s.cur e f
    (t.slot s.cur).counter e = f ((s.slot s.cur).counter e) ∧ (t.slot s.cur).regs = (s.slot s.cur).regs := by
  intro t
  have hslot : t.slot s.cur = _ := State.slot_modCounter_same ..
  rw [State.slot_modSeq_same] at hslot
  rw [hslot, Slot.counter_setCounter]
  cases e with
  | S => exact absurd rfl he
  | V => exact ⟨rfl, rfl⟩
  | M => exact ⟨rfl, rfl⟩
  | A => exact ⟨rfl, rfl⟩

/-- Settles O23: LSET, LSTEP and LONLY answer as words of the common control, and a body's end by the level that ends first. -/
theorem loopWords : Obligations.LoopWords := by
  refine ⟨fun s sg l a n hc hq => ?lset, fun s d a i hc => ?lstep, fun s i l n pick v y hm hc hq => lonly_guards hm hc hq, loopBodyEnd_S,
    ?lagging⟩
  case lset =>
    rw [exec_ready (exec_lset sg l a n s) rfl rfl hc fun _ => hq]
    refine ⟨fun t h => by rw [h]; rfl, fun p h => ?_⟩
    rw [h]
    exact setsLoop_leaves sg l a n p
  case lstep =>
    rw [exec_ready (exec_lstep d a i s) rfl rfl hc nofun]
    refine ⟨fun t h => by rw [h]; rfl, fun h hstop => ?_, fun h hl => ?_, fun l rest h hl hlvl hw => ?_⟩
    · rw [h]
      exact raises_run _ _ _ hstop
    · rw [h]
      simp only [addsStride_done hl]
      exact completes_done .S s s rfl
    · rw [h]
      simp only [addsStride_ahead hl hlvl hw]
      exact completes_done .S s _ rfl
  case lagging =>
    intro s e above rest l w hi he c hl habove hlast hend
    obtain ⟨hagain, hexit, hnone⟩ := exec_loopBodyEnd_lagging s he hend
    refine ⟨fun ho => ⟨_, hagain ho, ?_⟩, fun ho => ⟨_, hexit ho, ?_⟩, hnone⟩
    · obtain ⟨hcounter, hregs⟩ := s.slot_takes he Counter.again
      rw [hcounter, Counter.again_eq (c := (s.slot s.cur).counter e) hl habove hlast hend]
      exact ⟨rfl, rfl, rfl, hregs, rfl⟩
    · obtain ⟨hcounter, hregs⟩ := s.slot_takes he Counter.exit
      rw [hcounter, Counter.exit_eq (c := (s.slot s.cur).counter e) hl habove hlast hend, any_last_append habove]
      exact ⟨rfl, rfl, rfl, hregs, rfl⟩


/-! ### Fences (05 R137, R138; 09 R244, R246) -/

theorem bitAt_eq_testBit (x n : Nat) : bitAt x n = x.testBit n := by
  rw [Nat.testBit_eq_decide_div_mod_eq]
  rfl

/-- A word of the sequencer that may issue does what its body says. -/
theorem exec_issues {i : Instr} {srcs : List RegRef} {body : State → Act} {s : State} (he : exec i s = .next (sWord i srcs [] body s))
    (hs : Instr.reads i = srcs) (hw : Instr.writes i = []) (h : s.issues i = true) : exec i s = .next (Act.run (body s) .S s) := by
  subst hs
  rw [State.issues, Bool.and_eq_true, hw] at h
  rw [he, sWord_ready h.1 h.2]

theorem GReq.isStore_eq_false (r : GReq) : r.isStore = false ↔ ∀ n, r.kind ≠ .store n := by
  cases h : r.kind <;> simp [GReq.isStore, h]

/-- A release may complete where each access in a class of the mask has performed. -/
theorem released_iff (sl : Slot) (mask scope : Nat) : sl.seq.released mask scope = true ↔ sl.performed mask scope := by
  rw [SeqState.released, List.all_eq_true, Slot.performed]
  refine forall₂_congr fun r _ => ?_
  rw [bitAt_eq_testBit, ← r.isStore_eq_false, Bool.or_eq_true, Bool.not_eq_true', ← Bool.not_eq_true, ← imp_iff_not_or]
  refine imp_congr_right fun _ => ?_
  by_cases hs : scope ≤ 1
  · simp [hs, GReq.atDie, Nat.lt_succ_of_le hs]
  · have hs2 : 2 ≤ scope := Nat.not_le.mp hs
    simp [hs, GReq.atPackage, hs2]

/-- An acquire completes at once where each earlier access in the classes of its mask is served. -/
theorem acquires_eq (sl : Slot) (mask : Nat) (h : ∀ r ∈ sl.seq.reqs, r.num < sl.seq.reqNum) :
    sl.seq.acquires (sl.seq.reqNum, mask) = sl.seq.reqs.all fun r => !mask.testBit r.cls || decide (r.stage = .served) := by
  rw [SeqState.acquires, Bool.eq_iff_iff, List.all_eq_true, List.all_eq_true]
  refine forall₂_congr fun r hr => ?_
  rw [decide_eq_true (h r hr), Bool.true_and, bitAt_eq_testBit]
  rfl

/-- The acquire of a fence: the lines go at once, or the acquire waits for the earlier accesses. -/
theorem State.acquired_eq (s : State) (mask scope : Nat) (h : ∀ r ∈ (s.slot s.cur).seq.reqs, r.num < (s.slot s.cur).seq.reqNum) :
    s.acquired mask scope = if scope < 2 then s
      else if ((s.slot s.cur).seq.reqs.all fun r => !mask.testBit r.cls || decide (r.stage = .served)) = true then
        s.modDie (s.cur / 80) fun d => { d with lines := d.lines.filter fun l => !mask.testBit l.cls }
      else s.modSeq s.cur fun q => { q with acqs := q.acqs ++ [(q.reqNum, mask)] } := by
  simp only [State.acquired, State.acquireAt, acquires_eq _ _ h, State.nearAcquire, State.dropLines, bitAt_eq_testBit,
    Nat.lt_succ_iff]
  rfl

theorem State.acquired_cur (s : State) (mask scope : Nat) : (s.acquired mask scope).cur = s.cur := by
  simp only [State.acquired, State.acquireAt]
  split
  · rfl
  · split <;> rfl

section
variable {s : State} {m : BitVec 4} {scope : BitVec 2} {n : BitVec 12}

/-- What a release does, and an acquire, and both: each as a word of the sequencer. -/
theorem exec_fenceRel (h : s.issues (.fenceRel m scope n) = true) : exec (.fenceRel m scope n) s = .next (Act.run
    (if (s.slot s.cur).seq.released (m.toNat * 2 ^ 12 + n.toNat) scope.toNat then .done s else .stall) .S s) :=
  exec_issues rfl rfl rfl h

theorem exec_fenceAcq (h : s.issues (.fenceAcq m scope n) = true) : exec (.fenceAcq m scope n) s = .next (Act.run
    (.done (s.acquired (m.toNat * 2 ^ 12 + n.toNat) scope.toNat)) .S s) :=
  exec_issues rfl rfl rfl h

theorem exec_fenceAr (h : s.issues (.fenceAr m scope n) = true) : exec (.fenceAr m scope n) s = .next (Act.run
    (if (s.slot s.cur).seq.released (m.toNat * 2 ^ 12 + n.toNat) scope.toNat then .done (s.acquired (m.toNat * 2 ^ 12 + n.toNat) scope.toNat) else .stall) .S s) :=
  exec_issues rfl rfl rfl h

theorem exec_fenceE {e : BitVec 3} (h : s.issues (.fenceE e) = true) : exec (.fenceE e) s = .next (Act.run
    (if (s.slot s.cur).fenceE e.toNat (s.slot s.cur).seq.pc.pos && (s.slot s.cur).seq.reqs.all (fun r => !r.isStore) then .done s
      else .stall) .S s) :=
  exec_issues rfl rfl rfl h

end

/-- An engine is settled exactly where it has left every earlier position and its words there have completed. -/
theorem engineSettled_iff (sl : Slot) {e : Engine} (he : e ≠ .S) (p : Nat) : sl.engineSettled e p = true ↔ sl.engineQuiet e p := by
  have hsig : (sl.signals.all fun g => g.eng != e || decide (p ≤ g.pos)) = true ↔ ∀ g ∈ sl.signals, g.eng = e → p ≤ g.pos := by
    simp only [List.all_eq_true, Bool.or_eq_true, bne_iff_ne, decide_eq_true_eq, ne_eq, ← imp_iff_not_or]
  rw [Slot.engineSettled, Bool.and_eq_true, Bool.and_eq_true, decide_eq_true_eq, hsig, and_assoc, and_comm (a := sl.engineDone e p = true)]
  cases e with
  | S => exact absurd rfl he
  | V => simp only [Slot.engineQuiet, Slot.engineDone, List.all_eq_true, decide_eq_true_eq]
  | M => simp only [Slot.engineQuiet, Slot.engineDone, Bool.and_eq_true, List.all_eq_true, decide_eq_true_eq]
  | A => simp only [Slot.engineQuiet, Slot.engineDone, Bool.and_eq_true, List.all_eq_true, decide_eq_true_eq, and_assoc]

/-- FENCE.E may complete where each engine that it names is quiet and no store of the slot awaits its acknowledgement. -/
theorem fenceE_iff (sl : Slot) (e : BitVec 3) (p : Nat) :
    (sl.fenceE e.toNat p && sl.seq.reqs.all (fun r => !r.isStore)) = true ↔
      (e.getLsbD 0 = true → sl.engineQuiet .V p) ∧ (e.getLsbD 1 = true → sl.engineQuiet .M p)
      ∧ (e.getLsbD 2 = true → sl.engineQuiet .A p) ∧ ∀ r ∈ sl.seq.reqs, ∀ n, r.kind ≠ .store n := by
  have hstores : (sl.seq.reqs.all fun r => !r.isStore) = true ↔ ∀ r ∈ sl.seq.reqs, ∀ n, r.kind ≠ .store n := by
    simp only [List.all_eq_true, Bool.not_eq_true', GReq.isStore_eq_false]
  have hengine (k : Nat) {x : Engine} (hx : x ≠ .S) :
      (!bitAt e.toNat k || sl.engineSettled x p) = true ↔ (e.getLsbD k = true → sl.engineQuiet x p) := by
    rw [bitAt_toNat, Bool.or_eq_true, Bool.not_eq_true', engineSettled_iff sl hx, imp_iff_not_or, Bool.not_eq_true]
  rw [Bool.and_eq_true, Slot.fenceE, Bool.and_eq_true, Bool.and_eq_true, hstores, hengine 0 (x := .V) nofun,
    hengine 1 (x := .M) nofun, hengine 2 (x := .A) nofun,
    and_assoc, and_assoc]

/-- FENCE.E completes with no effect of its own, or leaves the state as it is. -/
theorem fenceE_waits {s : State} {e : BitVec 3} (h : s.issues (.fenceE e) = true) :
    let sl := s.slot s.cur
    let done := (e.getLsbD 0 = true → sl.engineQuiet .V sl.seq.pc.pos) ∧ (e.getLsbD 1 = true → sl.engineQuiet .M sl.seq.pc.pos)
      ∧ (e.getLsbD 2 = true → sl.engineQuiet .A sl.seq.pc.pos) ∧ ∀ r ∈ sl.seq.reqs, ∀ n, r.kind ≠ .store n
    (done → Completes (exec (.fenceE e) s) .S s) ∧ (¬ done → exec (.fenceE e) s = .next s) := by
  rw [exec_fenceE h]
  refine ⟨fun hd => ?_, fun hd => ?_⟩
  · rw [if_pos ((fenceE_iff ..).mpr hd)]
    exact completes_done .S s s rfl
  · rw [if_neg (mt (fenceE_iff ..).mp hd)]
    rfl

/-! ### The instruction cache (04 R93, R95) -/

/-- The lines and the kernel entries that an ICINV of a level drops. -/
def State.invalidatesCode (s : State) (level ctx lo hi : Nat) : Act :=
  match level with
  | 0 => .done (s.dropCode (· == coreOf s.cur) ctx lo hi)
  | 1 => .done (s.dropCode (fun n => dieOfCore n == dieOfCore (coreOf s.cur)) ctx lo hi)
  | _ => .done ((s.dropCode (fun _ => true) ctx lo hi).icinvKernels ctx lo hi)

theorem exec_icinv (d a : BitVec 6) (i : BitVec 12) (s : State) : exec (.icinv d a i) s
    = .next (ccWord (.icinv d a i) [.g a.toNat] false (fun s =>
      let lo := (s.g a.toNat).toNat
      let hi := lo + 64 * (i.toNat + 1)
      if lo % 64 ≠ 0 then .trap fALIGN 0 lo
      else if 2 ^ 56 < hi then .trap fILLEGAL 0 0
      else s.invalidatesCode d.toNat (ctxOf (s.slot s.cur).act.inctag) lo hi) s) := rfl

/-- Settles O19: the fences by what has performed, and ICINV by the lines and the kernel entries that its range meets. -/
theorem fences : Obligations.Fences := by
  refine ⟨fun s m scope n => ⟨fun h hp => ?_, fun h hp => ?_, fun h hr => ?_, fun h hr hp => ?_, fun h hp => ?_⟩,
    fun s e h => fenceE_waits h, fun s d a i hc => ?icinv⟩
  · rw [exec_fenceRel h, if_pos ((released_iff ..).mpr hp)]
    exact completes_done .S s s rfl
  · rw [exec_fenceRel h, if_neg (mt (released_iff ..).mp hp)]
    rfl
  · rw [exec_fenceAcq h, ← State.acquired_eq _ _ _ hr]
    exact completes_done .S s _ (s.acquired_cur _ _)
  · rw [exec_fenceAr h, if_pos ((released_iff ..).mpr hp), ← State.acquired_eq _ _ _ hr]
    exact completes_done .S s _ (s.acquired_cur _ _)
  · rw [exec_fenceAr h, if_neg (mt (released_iff ..).mp hp)]
    rfl
  case icinv =>
    rw [exec_ready (exec_icinv d a i s) rfl rfl hc nofun]
    refine ⟨fun h0 hstop => ?_, fun h0 h1 hstop => ?_, fun h0 h1 => ⟨fun hd => ?_, fun hd => ?_, fun hd => ?_⟩⟩
    · simp only [if_pos h0]
      exact raises_run _ _ _ hstop
    · simp only [if_neg (not_not_intro h0), if_pos h1]
      exact raises_run _ _ _ hstop
    · subst hd
      simp only [if_neg (not_not_intro h0), if_neg (Nat.not_lt.mpr h1)]
      exact completes_done .S s _ rfl
    · subst hd
      simp only [if_neg (not_not_intro h0), if_neg (Nat.not_lt.mpr h1)]
      exact completes_done .S s _ rfl
    · subst hd
      simp only [if_neg (not_not_intro h0), if_neg (Nat.not_lt.mpr h1)]
      exact completes_done .S s _ rfl


end Sys2Proof.Machine
end

section
/-! CERTIFICATES of the family 04_kernel, graphs: the accesses of the hub to plain pages (R251), and the launch, the nodes and the completion of
graphs (R314-R321). -/

namespace Sys2Proof.Machine

/-! ### Walks of a plain page (10 R261, R264) -/

/-- A walk that finds a leaf finds it in memory, well formed, and permitting the access. -/
theorem State.walkFrom_leaf {s : State} {kind : Option AKind} {va e at_ : Nat} {left base level : Nat}
    (h : s.walkFrom kind va left base level = .leaf e at_) : s.memNat at_ 16 = e ∧ ∃ l, s.leafOk e l = true := by
  induction left generalizing base level with
  | zero => exact Walk.noConfusion h
  | succ left ih =>
    rw [State.walkFrom] at h
    split at h
    case h_1 | h_4 => exact Walk.noConfusion h
    case h_2 =>
      split at h
      · exact ih h
      · exact Walk.noConfusion h
    case h_3 =>
      split at h
      next hok =>
        split at h
        · obtain ⟨rfl, rfl⟩ := Walk.leaf.inj h
          exact ⟨rfl, level, hok⟩
        · exact Walk.noConfusion h
      · exact Walk.noConfusion h

/-- The walk of an address is that of its page. -/
theorem ptIndex_page {va vb : Nat} (h : va / 65536 = vb / 65536) (level : Nat) : ptIndex level va = ptIndex level vb := by
  unfold ptIndex
  split <;> simp only [field] <;> omega

theorem State.walkFrom_page (s : State) (kind : Option AKind) {va vb : Nat} (h : va / 65536 = vb / 65536) (left base level : Nat) :
    s.walkFrom kind va left base level = s.walkFrom kind vb left base level := by
  induction left generalizing base level with
  | zero => rfl
  | succ left ih => simp only [State.walkFrom, ptIndex_page h, ih]

theorem State.walk_page (s : State) (ctx : Nat) (kind : Option AKind) {va vb : Nat} (h : va / 65536 = vb / 65536) :
    s.walk ctx kind va = s.walk ctx kind vb := s.walkFrom_page kind h 5 _ 0

/-- Hardware has nothing to write at a leaf whose ACC and DIRTY are set. -/
theorem State.markEntry_marked {s : State} {e at_ : Nat} (hm : s.memNat at_ 16 = e) (h : e / 2 ^ 11 % 4 = 3) (kind : AKind) :
    s.markEntry e at_ kind = s := by
  have h11 : bitAt e 11 = true := by simp only [bitAt, beq_iff_eq]; omega
  have h12 : bitAt e 12 = true := by simp only [bitAt, beq_iff_eq]; omega
  subst hm
  rw [State.markEntry, if_pos rfl, if_pos h11]
  exact if_neg fun hk => Bool.noConfusion (h12.symm.trans hk.2)

/-- A plain leaf serves its bytes at its frame. -/
theorem State.touchEntry_plain {s : State} {e at_ : Nat} (hm : s.memNat at_ 16 = e) (hp : plainPage e) (hmark : e / 2 ^ 11 % 4 = 3)
    (port : Port) (act : Option Nat) (tag : BitVec 18) (va len : Nat) (kind : AKind) :
    s.touchEntry port act tag va len kind e at_ = (.served (e / 2 ^ 24 % 2 ^ 24 * 65536 + va % 65536), s) := by
  obtain ⟨htensor, hbig, hstate⟩ := hp
  have hnow : s.entryNow e at_ = e := by rw [State.entryNow, hm, if_pos rfl]
  have hs : lState e = 0 := hstate
  have ht : lTensor e = false := by simp only [lTensor, bitAt, beq_eq_false_iff_ne]; omega
  have hb : lBig e = false := by simp only [lBig, bitAt, beq_eq_false_iff_ne]; omega
  rw [State.touchEntry]
  simp only [hnow, hs, ht, Bool.false_and, Bool.false_eq_true, if_false, State.markEntry_marked hm hmark, leafPa, hb]
  rfl

theorem State.hbmEnd_dvd (s : State) : s.hbmEnd = 65536 * (s.hbmEnd / 65536) ∧ 0 < s.hbmEnd := by
  rw [State.hbmEnd]
  split <;> exact ⟨by norm_num, by norm_num⟩

/-- The frame of a plain leaf lies in HBM. -/
theorem State.plain_inHbm {s : State} {e l : Nat} (hok : s.leafOk e l = true) (hp : plainPage e) (va : Nat) :
    e / 2 ^ 24 % 2 ^ 24 * 65536 + va % 65536 < s.hbmEnd := by
  obtain ⟨-, -, hstate⟩ := hp
  have hs : lState e = 0 := hstate
  obtain ⟨hdvd, hpos⟩ := s.hbmEnd_dvd
  simp only [State.leafOk, Bool.and_eq_true, decide_eq_true_eq, hs] at hok
  obtain ⟨⟨⟨⟨⟨⟨-, hframe⟩, -⟩, -⟩, -⟩, -⟩, -⟩ := hok
  have hf : e / 2 ^ 24 % 2 ^ 24 ≤ s.hbmEnd / 65536 - 1 := hframe
  omega

/-! ### Accesses of the hub to a plain page (09 R251; 10 R274) -/

section
variable {s : State} {tag : BitVec 18} {kind : AKind} {va len pa : Nat}

theorem State.hubPage_inHbm (h : s.hubPage tag kind va len pa) : pa < s.hbmEnd := by
  obtain ⟨-, -, -, -, -, e, at_, hwalk, hplain, -, rfl⟩ := h
  obtain ⟨-, l, hok⟩ := State.walkFrom_leaf hwalk
  exact State.plain_inHbm hok hplain va

/-- An access of one piece of a plain page comes to its address. -/
theorem State.hit_hubPage (h : s.hubPage tag kind va len pa) : s.hit .hub tag va len kind = (.ok pa, s) := by
  have hhbm := s.paKind_hbm (State.hubPage_inHbm h)
  obtain ⟨hva, -, hend, hwalks, hreach, e, at_, hwalk, hplain, hmark, rfl⟩ := h
  obtain ⟨hm, -⟩ := State.walkFrom_leaf hwalk
  have hjoins : s.joins .hub tag va = none := by
    have hkey : s.hub.traps.walks.contains (walkKey tag va) = false := by
      rw [List.contains_eq_mem]
      exact decide_eq_false hwalks
    rw [State.joins, State.faultOf, hkey]
    rfl
  have htouch : s.touch .hub none tag va len kind = (.served (e / 2 ^ 24 % 2 ^ 24 * 65536 + va % 65536), s) := by
    have hw : s.walk (ctxOf tag) (some kind) va = .leaf e at_ := hwalk
    simp only [State.touch, State.translate, hw, State.touchEntry_plain hm hplain hmark]
  rw [State.hit, if_neg (by omega), if_neg (by omega), Int.toNat_natCast, hjoins, htouch]
  simp only [hhbm, reduceCtorEq, false_and, if_false, Option.isSome_none, Bool.false_eq_true]
  exact if_pos hreach

/-- A part of a plain page. -/
theorem State.hubPage_part (h : s.hubPage tag kind va len pa) {o n : Nat} (hn : 0 < n) (ho : o + n ≤ len) :
    s.hubPage tag kind (va + o) n (pa + o) := by
  obtain ⟨hva, hlen, hend, hwalks, hreach, e, at_, hwalk, hplain, hmark, hpa⟩ := h
  have hpage : (va + o) / 65536 = va / 65536 := by omega
  have hhome : homePart (pa + o) = homePart pa := by
    simp only [homePart]
    split <;> split <;> omega
  refine ⟨by omega, hn, by omega, by rwa [hpage], ?_, e, at_, by rw [s.walk_page _ _ hpage, hwalk], hplain, hmark, by omega⟩
  rw [State.reaches, hhome]
  exact hreach

end

/-- Pieces of physical memory that stand one after another and hold a range. -/
def coverRange : Nat → Nat → List (Nat × Nat) → Prop
  | _, len, [] => len = 0
  | pa, len, (p, k) :: t => p = pa ∧ 0 < k ∧ k ≤ len ∧ coverRange (pa + k) (len - k) t

/-- An access of a plain page comes to pieces that cover its bytes. -/
theorem State.hits_hubPage {s : State} {tag : BitVec 18} {kind : AKind} (n : Nat) {va len pa : Nat}
    (h : len = 0 ∨ s.hubPage tag kind va len pa ∧ len + va % 256 ≤ 256 * n) :
    ∃ l, s.hits .hub tag kind (pieces n va len) = (.ok l, s) ∧ coverRange pa len l := by
  induction n generalizing va len pa with
  | zero => exact ⟨[], rfl, (by omega : len = 0)⟩
  | succ n ih =>
    rw [pieces]
    by_cases h0 : len = 0
    · rw [if_pos h0]
      exact ⟨[], rfl, h0⟩
    obtain ⟨hpage, hn⟩ := h.resolve_left h0
    obtain ⟨k, hk⟩ : ∃ k, k = min len (256 - (va : Int) % 256).toNat := ⟨_, rfl⟩
    have hk0 : 0 < k ∧ k ≤ len := by omega
    have hrest : len - k = 0 ∨ s.hubPage tag kind (va + k) (len - k) (pa + k) ∧ len - k + (va + k) % 256 ≤ 256 * n := by
      by_cases hl : len - k = 0
      · exact .inl hl
      · exact .inr ⟨State.hubPage_part hpage (by omega) (by omega), by omega⟩
    obtain ⟨l, hl, hcover⟩ := ih hrest
    refine ⟨(pa, k) :: l, ?_, rfl, hk0.1, hk0.2, hcover⟩
    have hhit := State.hit_hubPage (State.hubPage_part hpage hk0.1 (by omega : 0 + k ≤ len))
    have hcast : ((va : Int) + (k : Nat) : Int) = ((va + k : Nat) : Int) := by push_cast; rfl
    have hhit0 : s.hit .hub tag va k kind = (.ok pa, s) := hhit
    rw [if_neg h0]
    simp only [← hk, State.hits, hcast, hhit0, hl]

theorem State.hitRange_hubPage {s : State} {tag : BitVec 18} {kind : AKind} {va len pa : Nat} (h : s.hubPage tag kind va len pa) :
    ∃ l, s.hitRange .hub tag kind va len = (.ok l, s) ∧ coverRange pa len l :=
  State.hits_hubPage _ (.inr ⟨h, by omega⟩)

theorem Bytes.readN_add (m : Bytes) (a k n : Nat) : m.readN a (k + n) = m.readN a k ++ m.readN (a + k) n := by
  induction k generalizing a with
  | zero => simp [Bytes.readN]
  | succ k ih => rw [Nat.add_right_comm, Bytes.readN, ih, Bytes.readN, Nat.add_right_comm a 1 k, Nat.add_assoc a k 1]; rfl

theorem Bytes.writeN_append (m : Bytes) (a : Nat) (xs ys : List Byte) :
    m.writeN a (xs ++ ys) = (m.writeN a xs).writeN (a + xs.length) ys := by
  induction xs generalizing m a with
  | nil => rfl
  | cons x xs ih => rw [List.cons_append, Bytes.writeN, ih, Bytes.writeN, List.length_cons, Nat.add_right_comm, Nat.add_assoc a _ 1]

/-- Reading the pieces reads the range. -/
theorem State.homeRead_cover {s : State} {l : List (Nat × Nat)} {pa len : Nat} (h : coverRange pa len l) (hpa : pa + len ≤ s.hbmEnd) :
    s.homeRead none l = (s.mem.readN pa len, s) := by
  induction l generalizing pa len with
  | nil =>
    obtain rfl : len = 0 := h
    rfl
  | cons x t ih =>
    obtain ⟨p, k⟩ := x
    obtain ⟨rfl, hk0, hk, ht⟩ := h
    have hread : s.mem.readN p len = s.mem.readN p k ++ s.mem.readN (p + k) (len - k) := by
      rw [← Bytes.readN_add, Nat.add_sub_cancel' hk]
    simp only [State.homeRead, s.physRead_hbm k (by omega : p < s.hbmEnd), ih ht (by omega), hread]

/-- Writing to the pieces writes the range. -/
theorem State.homePut_cover {s : State} {l : List (Nat × Nat)} {pa : Nat} {bs : List Byte} (h : coverRange pa bs.length l)
    (hpa : pa + bs.length ≤ s.hbmEnd) : s.homePut l bs = { s with mem := s.mem.writeN pa bs } := by
  induction l generalizing s pa bs with
  | nil =>
    obtain rfl : bs = [] := List.length_eq_zero_iff.mp h
    rfl
  | cons x t ih =>
    obtain ⟨p, k⟩ := x
    obtain ⟨rfl, hk0, hk, ht⟩ := h
    rw [State.homePut, s.physWrite_hbm _ (by omega)]
    have hmem : ((s.mem.writeN p (bs.take k)).writeN (p + k) (bs.drop k)) = s.mem.writeN p bs := by
      conv_rhs => rw [← List.take_append_drop k bs, Bytes.writeN_append, List.length_take, Nat.min_eq_left hk]
    rw [ih (by rwa [List.length_drop]) (by rw [List.length_drop]; exact (by omega : p + k + (bs.length - k) ≤ s.hbmEnd)), hmem]

section
variable {s : State} {tag : BitVec 18} {va len pa : Nat}

theorem State.hubPage_endsInHbm {kind : AKind} (h : s.hubPage tag kind va len pa) : pa + len ≤ s.hbmEnd := by
  have hlen : 0 < len := h.2.1
  have := State.hubPage_inHbm (State.hubPage_part h Nat.one_pos (o := len - 1) (by omega))
  omega

/-- A read of the hub on a plain page finds the bytes of memory, and changes nothing. -/
theorem State.hubRead_hubPage (h : s.hubPage tag .read va len pa) : s.hubRead tag va len = (.ok (s.mem.readN pa len), s) := by
  obtain ⟨l, hl, hcover⟩ := State.hitRange_hubPage h
  simp only [State.hubRead, hl, State.homeRead_cover hcover (State.hubPage_endsInHbm h)]

/-- A write of the hub on a plain page changes the bytes of memory alone. -/
theorem State.hubWrite_hubPage {bs : List Byte} (h : s.hubPage tag .write va bs.length pa) :
    s.hubWrite tag va bs = (.ok (), { s with mem := s.mem.writeN pa bs }) := by
  obtain ⟨l, hl, hcover⟩ := State.hitRange_hubPage h
  simp only [State.hubWrite, hl, State.homePut_cover hcover (State.hubPage_endsInHbm h)]

end

/-! ### Numbers in memory (00 R2) -/

theorem ofBytes_append (xs ys : List Byte) : ofBytes (xs ++ ys) = ofBytes xs + 256 ^ xs.length * ofBytes ys := by
  induction xs with
  | nil => simp [ofBytes]
  | cons x xs ih => rw [List.cons_append, ofBytes, ih, ofBytes, List.length_cons, pow_succ]; ring

theorem ofBytes_lt (xs : List Byte) : ofBytes xs < 256 ^ xs.length := by
  induction xs with
  | nil => exact Nat.one_pos
  | cons x xs ih =>
    have := x.isLt
    rw [ofBytes, List.length_cons, pow_succ]
    omega

/-- The number that bytes hold, byte by byte. -/
theorem numberAt_eq_ofBytes (byte : Nat → Byte) (n : Nat) : numberAt byte n = ofBytes ((List.range n).map byte) := by
  induction n with
  | zero => rfl
  | succ n ih =>
    rw [List.range_succ, List.map_append, ofBytes_append, ← ih, numberAt, List.range_succ, List.map_append, List.sum_append]
    simp [numberAt, ofBytes, Nat.mul_comm]

theorem State.ofBytes_readN (s : State) (pa n : Nat) : ofBytes (s.mem.readN pa n) = s.number pa n := by
  rw [Bytes.readN_eq_map, State.number, numberAt_eq_ofBytes]

theorem State.number_lt (s : State) (pa n : Nat) : s.number pa n < 256 ^ n := by
  have := ofBytes_lt (s.mem.readN pa n)
  rwa [s.ofBytes_readN, Bytes.readN_length] at this

/-- A register of `n` bytes holds a number of as many. -/
theorem State.toNat_number (s : State) (pa n : Nat) : (BitVec.ofNat (8 * n) (s.number pa n)).toNat = s.number pa n := by
  rw [BitVec.toNat_ofNat, pow_mul]
  exact Nat.mod_eq_of_lt (s.number_lt pa n)

/-- A part of the bytes of a range. -/
theorem Bytes.readN_part (m : Bytes) {pa len o n : Nat} (h : o + n ≤ len) : ((m.readN pa len).drop o).take n = m.readN (pa + o) n := by
  obtain ⟨k, rfl⟩ := Nat.exists_eq_add_of_le h
  rw [Nat.add_assoc, Bytes.readN_add, List.drop_left' (Bytes.readN_length ..), Bytes.readN_add, List.take_left' (Bytes.readN_length ..)]

/-- A part of the number that a range holds. -/
theorem State.number_part (s : State) {pa len o n : Nat} (h : o + n ≤ len) :
    s.number pa len / 256 ^ o % 256 ^ n = s.number (pa + o) n := by
  obtain ⟨k, rfl⟩ := Nat.exists_eq_add_of_le h
  simp only [← s.ofBytes_readN, Bytes.readN_add, ofBytes_append, List.length_append, Bytes.readN_length]
  have h1 := ofBytes_lt (s.mem.readN pa o)
  have h2 := ofBytes_lt (s.mem.readN (pa + o) n)
  rw [Bytes.readN_length] at h1 h2
  rw [pow_add, Nat.add_assoc, Nat.mul_assoc, ← Nat.mul_add, Nat.add_mul_div_left _ _ (by positivity), Nat.div_eq_of_lt h1, Nat.zero_add,
    Nat.add_mul_mod_self_left, Nat.mod_eq_of_lt h2]


/-! ### Changes of a graph (13 R313, R317) -/

theorem setAt_eq_set {α : Type} (l : List α) (n : Nat) (v : α) : setAt l n v = l.set n v := by
  induction l generalizing n with
  | nil => rfl
  | cons h t ih =>
    cases n with
    | zero => rfl
    | succ n => exact congrArg (h :: ·) (ih n)

/-- The state with a graph put at a number. -/
def State.putGraph (s : State) (g : Nat) (x : Graph) : State := s.modSpool fun p => { p with graphs := p.graphs.put g x }

@[simp] theorem State.graph_putGraph_same (s : State) (g : Nat) (x : Graph) : (s.putGraph g x).graph g = some x := by
  change Tab.find (Tab.put ..) g = _
  rw [Tab.find_put, if_pos rfl]

theorem State.graph_putGraph_other (s : State) {g k : Nat} (x : Graph) (h : k ≠ g) : (s.putGraph g x).graph k = s.graph k := by
  change Tab.find (Tab.put ..) k = _
  rw [Tab.find_put, if_neg h]
  rfl

theorem State.putGraph_putGraph (s : State) (g : Nat) (x y : Graph) : (s.putGraph g x).putGraph g y = s.putGraph g y := by
  change s.modSpool (fun p => { p with graphs := (p.graphs.put g x).put g y }) = _
  simp only [Tab.put_put]
  rfl

@[simp] theorem State.putGraph_slots (s : State) (g : Nat) (x : Graph) : (s.putGraph g x).slots = s.slots := rfl
@[simp] theorem State.putGraph_mem (s : State) (g : Nat) (x : Graph) : (s.putGraph g x).mem = s.mem := rfl
@[simp] theorem State.putGraph_traps (s : State) (g : Nat) (x : Graph) : (s.putGraph g x).hub.traps = s.hub.traps := rfl
@[simp] theorem State.putGraph_queue (s : State) (g : Nat) (x : Graph) (q : Nat) : (s.putGraph g x).queue q = s.queue q := rfl

section
variable {s : State} {g n : Nat} {x : Graph} {y : Node}

theorem State.nodeAt_eq (hg : s.graph g = some x) (n : Nat) : s.nodeAt g n = x.nodes[n]? := by rw [State.nodeAt, hg]; rfl

theorem State.graphTag_eq (hg : s.graph g = some x) : s.graphTag g = x.tag := by rw [State.graphTag, hg]

theorem State.modGraph_eq (hg : s.graph g = some x) (f : Graph → Graph) : s.modGraph g f = s.putGraph g (f x) := by
  rw [State.modGraph, hg]
  rfl

theorem State.modNode_eq (hg : s.graph g = some x) (hn : x.nodes[n]? = some y) (f : Node → Node) :
    s.modNode g n f = s.putGraph g { x with nodes := x.nodes.set n (f y) } := by
  rw [State.modNode, State.modGraph_eq hg, hn]
  simp only [setAt_eq_set]

theorem State.nodeSet_eq (hg : s.graph g = some x) (y : Node) : s.nodeSet g n y = s.putGraph g { x with nodes := x.nodes.set n y } := by
  rw [State.nodeSet, hg]
  rfl

theorem State.modNode_eq_nodeSet (hg : s.graph g = some x) (hn : x.nodes[n]? = some y) (f : Node → Node) :
    s.modNode g n f = s.nodeSet g n (f y) := (State.modNode_eq hg hn f).trans (State.nodeSet_eq hg _).symm

end

/-- From `s` to `t`, graph `g` has become `x`; the slots, the clock, the contexts and the other graphs stand. -/
structure State.GraphStep (g : Nat) (x : Graph) (s t : State) : Prop where
  graph : t.graph g = some x
  others : ∀ k, k ≠ g → t.graph k = s.graph k
  nextId : t.hub.spool.nextId = s.hub.spool.nextId
  slots : t.slots = s.slots
  now : t.now = s.now
  ctx : ∀ c, t.ctx c = s.ctx c

namespace State.GraphStep

variable {g : Nat} {x y : Graph} {s t u : State}

theorem refl (h : s.graph g = some x) : GraphStep g x s s := ⟨h, fun _ _ => rfl, rfl, rfl, rfl, fun _ => rfl⟩

theorem trans (h : GraphStep g x s t) (k : GraphStep g y t u) : GraphStep g y s u :=
  ⟨k.graph, fun j hj => (k.others j hj).trans (h.others j hj), k.nextId.trans h.nextId, k.slots.trans h.slots, k.now.trans h.now,
    fun c => (k.ctx c).trans (h.ctx c)⟩

theorem putGraph (s : State) (g : Nat) (x : Graph) : GraphStep g x s (s.putGraph g x) :=
  ⟨s.graph_putGraph_same g x, fun _ h => s.graph_putGraph_other x h, rfl, rfl, rfl, fun _ => rfl⟩

/-- An operation that leaves Spool, the slots, the clock and the contexts alone. -/
theorem of_eq (h : s.graph g = some x) (hp : t.hub.spool = s.hub.spool) (hs : t.slots = s.slots) (hn : t.now = s.now)
    (hr : t.hub.ctx.regs = s.hub.ctx.regs) : GraphStep g x s t := by
  have hgraph (k : Nat) : t.graph k = s.graph k := by rw [State.graph, hp, State.graph]
  exact ⟨(hgraph g).trans h, fun k _ => hgraph k, by rw [hp], hs, hn, fun c => by rw [State.ctx, hr, State.ctx]⟩

theorem contextFrame (h : GraphStep g x s t) (c : Nat) : t.contextFrame c = s.contextFrame c := by
  rw [State.contextFrame, h.now, h.ctx, State.contextFrame]

end State.GraphStep

/-! ### Events (18 R411, R415) -/

/-- An event of Spool changes memory, the rings and the endpoint at most. -/
theorem State.writeEvent_frame (s : State) {body : Record} (hw : body.who = .spool) : (s.writeEvent body).hub.spool = s.hub.spool
    ∧ (s.writeEvent body).slots = s.slots ∧ (s.writeEvent body).now = s.now ∧ (s.writeEvent body).hub.ctx.regs = s.hub.ctx.regs := by
  have hphys (t : State) (pa : Nat) (bs : List Byte) : (t.physWrite pa bs).hub.spool = t.hub.spool ∧ (t.physWrite pa bs).slots = t.slots
      ∧ (t.physWrite pa bs).now = t.now ∧ (t.physWrite pa bs).hub.ctx.regs = t.hub.ctx.regs := by
    rw [State.physWrite]
    split
    · split <;> exact ⟨rfl, rfl, rfl, rfl⟩
    · exact ⟨rfl, rfl, rfl, rfl⟩
    · exact ⟨rfl, rfl, rfl, rfl⟩
  cases hadmits : s.hub.traps.event.admits with
  | false =>
    rw [s.writeEvent_lost body hadmits]
    exact ⟨rfl, rfl, rfl, rfl⟩
  | true =>
    rw [s.writeEvent_written body hadmits, State.ringWrite, hw]
    simp only [Bool.false_eq_true, if_false]
    generalize hq : s.physWrite _ _ = q
    have h := hq ▸ hphys s _ _
    split <;> exact h

/-! ### Nodes that become ready (13 R317, R325) -/

/-- A node whose last incoming edge has fired. -/
def freedNode (es : List Edge) (cf : Int) (m : Nat) (y : Node) : Node :=
  if y.phase ≠ .waiting ∨ es.any (fun e => e.dst == m && !e.fired) = true then y
  else if y.timed ∧ cf < y.tick then { y with phase := .due } else { y with phase := .ready }

/-- The graph once node `m` has been looked at. -/
def Graph.release (x : Graph) (cf : Int) (m : Nat) : Graph := { x with nodes := x.nodes.modify m (freedNode x.edges cf m) }

theorem freedNode_freedNode (es : List Edge) (cf : Int) (m : Nat) (y : Node) :
    freedNode es cf m (freedNode es cf m y) = freedNode es cf m y := by
  by_cases hw : y.phase ≠ .waiting ∨ es.any (fun e => e.dst == m && !e.fired) = true
  · have h : freedNode es cf m y = y := if_pos hw
    rw [h, h]
  · have h : (freedNode es cf m y).phase ≠ .waiting := by
      rw [freedNode, if_neg hw]
      split <;> exact nofun
    exact if_pos (.inl h)

theorem Graph.release_eq_set {x : Graph} {m : Nat} {y : Node} (hm : x.nodes[m]? = some y) (cf : Int) :
    x.release cf m = { x with nodes := x.nodes.set m (freedNode x.edges cf m y) } := by
  rw [Graph.release, List.modify_eq_set_getElem?, hm]
  rfl

theorem Graph.release_same {x : Graph} {m : Nat} {cf : Int} (h : ∀ y, x.nodes[m]? = some y → freedNode x.edges cf m y = y) : x.release cf m = x := by
  have hnodes : x.nodes.modify m (freedNode x.edges cf m) = x.nodes := by
    refine List.ext_getElem? fun k => ?_
    rw [List.getElem?_modify]
    by_cases hk : m = k
    · subst hk
      cases hm : x.nodes[m]? with
      | none => simp
      | some y => simp [h y hm]
    · simp [hk]
  rw [Graph.release, hnodes]

/-- The nodes of a graph once those of a list have been looked at. -/
theorem Graph.release_foldl (x : Graph) (cf : Int) (ds : List Nat) : ∃ ns, ds.foldl (fun x d => x.release cf d) x = { x with nodes := ns }
    ∧ ns.length = x.nodes.length ∧ ∀ m, ns[m]? = if m ∈ ds then (x.nodes[m]?).map (freedNode x.edges cf m) else x.nodes[m]? := by
  induction ds generalizing x with
  | nil => exact ⟨x.nodes, rfl, rfl, fun m => by simp⟩
  | cons d ds ih =>
    obtain ⟨ns, hfold, hlen, hns⟩ := ih (x.release cf d)
    refine ⟨ns, hfold, by rw [hlen]; exact List.length_modify .., fun m => ?_⟩
    have hedges : (x.release cf d).edges = x.edges := rfl
    have hstep : (x.release cf d).nodes[m]? = if d = m then (x.nodes[m]?).map (freedNode x.edges cf m) else x.nodes[m]? := by
      rw [Graph.release, List.getElem?_modify]
      split
      next h => rw [h]; rfl
      next h => exact Option.map_id'
    rw [hns, hedges, hstep]
    by_cases hd : d = m
    · subst hd
      simp only [if_true, List.mem_cons_self, Option.map_map]
      split
      · exact congrArg (Option.map · _) (funext (freedNode_freedNode x.edges cf d))
      · rfl
    · simp [hd, Ne.symm hd]

/-- Looking at a node: it is freed as its edges say, and a node that is ready late records its slip. -/
theorem State.releaseNode_cases {s : State} {g : Nat} {x : Graph} (hg : s.graph g = some x) (m : Nat) :
    let x' := x.release (s.contextFrame (ctxOf x.tag)) m
    (s.releaseNode g m = s ∧ x' = x) ∨ s.releaseNode g m = s.putGraph g x'
    ∨ x.launched < s.now ∧ ∃ body : Record, body.who = .spool ∧ s.releaseNode g m = (s.putGraph g x').writeEvent body := by
  intro x'
  rw [State.releaseNode, hg, State.nodeAt_eq hg]
  cases hm : x.nodes[m]? with
  | none => exact .inl ⟨rfl, Graph.release_same fun y hy => by rw [hm] at hy; exact absurd hy.symm (Option.some_ne_none y)⟩
  | some y =>
    have hset : x' = _ := Graph.release_eq_set hm (s.contextFrame (ctxOf x.tag))
    rw [freedNode] at hset
    dsimp only
    by_cases hw : y.phase ≠ .waiting ∨ x.edges.any (fun e => e.dst == m && !e.fired) = true
    · rw [if_pos hw]
      refine .inl ⟨rfl, Graph.release_same fun z hz => ?_⟩
      obtain rfl : y = z := Option.some.inj (hm.symm.trans hz)
      exact if_pos hw
    rw [if_neg hw] at hset ⊢
    by_cases ht : y.timed ∧ s.contextFrame (ctxOf x.tag) < y.tick
    · rw [if_pos ht] at hset ⊢
      rw [State.modNode_eq hg hm, hset]
      exact .inr (.inl rfl)
    rw [if_neg ht] at hset ⊢
    rw [State.modNode_eq hg hm, ← hset]
    split
    next hlate =>
      refine .inr (.inr ⟨lt_of_le_of_lt (le_max_left ..) hlate.2, _, rfl, rfl⟩)
    next => exact .inr (.inl rfl)

theorem State.GraphStep.releaseNode {s : State} {g : Nat} {x : Graph} (hg : s.graph g = some x) (m : Nat) :
    State.GraphStep g (x.release (s.contextFrame (ctxOf x.tag)) m) s (s.releaseNode g m) := by
  rcases State.releaseNode_cases hg m with ⟨h, hx⟩ | h | ⟨-, body, hw, h⟩
  · rw [h, hx]
    exact .refl hg
  · rw [h]
    exact .putGraph ..
  · rw [h]
    obtain ⟨hspool, hslots, hnow, hregs⟩ := (s.putGraph g _).writeEvent_frame hw
    exact (State.GraphStep.putGraph s g _).trans (.of_eq (s.graph_putGraph_same g _) hspool hslots hnow hregs)

theorem State.GraphStep.releaseNodes {s : State} {g : Nat} {x : Graph} (hg : s.graph g = some x) (ds : List Nat) : State.GraphStep g
    (ds.foldl (fun z d => z.release (s.contextFrame (ctxOf x.tag)) d) x) s (ds.foldl (fun s d => s.releaseNode g d) s) := by
  induction ds generalizing s x with
  | nil => exact .refl hg
  | cons d ds ih =>
    have h := State.GraphStep.releaseNode hg d
    have := ih h.graph
    rw [h.contextFrame] at this
    exact h.trans this


/-! ### The end of a node (13 R317, R319) -/

theorem State.early_iff (s : State) (tag : BitVec 18) (y : Node) :
    s.early tag y.raw.toNat ↔ y.timed ∧ s.contextFrame (ctxOf tag) < y.tick := by
  rw [Node.timed, bitAt, beq_iff_eq, Node.tick, field_eq _ (by rfl : 369 - 320 + 1 = 50)]
  rfl

/-- The edges of a graph once those of a node have fired. -/
def Graph.firedOf (x : Graph) (n : Nat) : List Edge := x.edges.map fun e => if e.src = n then { e with fired := true } else e

/-- Firing keeps where an edge leads. -/
theorem Graph.mem_firedOf_dsts (x : Graph) (n m : Nat) :
    m ∈ ((x.firedOf n).filter fun e => e.src == n).map (·.dst) ↔ ∃ e ∈ x.edges, e.src = n ∧ e.dst = m := by
  have hsrc (e : Edge) : (if e.src = n then { e with fired := true } else e).src = e.src := by split <;> rfl
  have hdst (e : Edge) : (if e.src = n then { e with fired := true } else e).dst = e.dst := by split <;> rfl
  simp only [Graph.firedOf, List.mem_map, List.mem_filter, beq_iff_eq]
  constructor
  · rintro ⟨_, ⟨⟨e, he, rfl⟩, hn⟩, rfl⟩
    exact ⟨e, he, (hsrc e).symm.trans hn, (hdst e).symm⟩
  · rintro ⟨e, he, hn, rfl⟩
    exact ⟨_, ⟨⟨e, he, rfl⟩, (hsrc e).trans hn⟩, hdst e⟩

section
variable {s : State} {g n : Nat} {x : Graph} {y : Node}

/-- A node completes: its edges fire, and the nodes that they lead to are looked at. -/
theorem State.GraphStep.completes (hg : s.graph g = some x) (hn : x.nodes[n]? = some y) : ∃ ns,
    State.GraphStep g { x with nodes := ns, progress := true, edges := x.firedOf n } s (s.nodeEnds g n .complete)
    ∧ ns.length = x.nodes.length ∧ ns[n]? = some { y with phase := .complete }
    ∧ ∀ m, m ≠ n → ns[m]? = if ∃ e ∈ x.edges, e.src = n ∧ e.dst = m
        then (x.nodes[m]?).map (freedNode (x.firedOf n) (s.contextFrame (ctxOf x.tag)) m) else x.nodes[m]? := by
  obtain ⟨x₁, hx₁⟩ : ∃ x₁, x₁ = ({ x with nodes := x.nodes.set n { y with phase := .complete } } : Graph) := ⟨_, rfl⟩
  obtain ⟨x₂, hx₂⟩ : ∃ x₂, x₂ = ({ x₁ with progress := true, edges := x.firedOf n } : Graph) := ⟨_, rfl⟩
  obtain ⟨t, ht, hstep⟩ : ∃ t, s.nodeEnds g n .complete
      = (((x.firedOf n).filter fun e => e.src == n).map (·.dst)).foldl (fun s d => s.releaseNode g d) t ∧ State.GraphStep g x₂ s t := by
    rw [State.nodeEnds, State.modNode_eq hg hn, ← hx₁]
    generalize hu : (s.putGraph g x₁).modHub _ = u
    have hu1 : State.GraphStep g x₁ s u := by
      rw [← hu]
      exact (State.GraphStep.putGraph s g x₁).trans (.of_eq (s.graph_putGraph_same g x₁) rfl rfl rfl rfl)
    rw [hu1.graph]
    dsimp only
    generalize hv : u.modCtxWork _ _ = v
    have hv1 : State.GraphStep g x₁ u v := by
      rw [← hv]
      exact .of_eq hu1.graph rfl rfl rfl rfl
    rw [State.progress, State.modGraph_eq hv1.graph, State.modGraph_eq (State.graph_putGraph_same ..), State.putGraph_putGraph]
    have hedges : ({ ({ x₁ with progress := true } : Graph) with edges := x₁.edges.map fun e => if e.src = n then { e with fired := true } else e }
        : Graph) = x₂ := by
      rw [hx₂, hx₁]
      rfl
    rw [hedges, State.graph_putGraph_same]
    dsimp only
    have hfired : x₂.edges = x.firedOf n := by rw [hx₂]
    exact ⟨v.putGraph g x₂, by rw [List.foldl_map, hfired], (hu1.trans hv1).trans (.putGraph ..)⟩
  obtain ⟨ns, hfold, hlen, hns⟩ := Graph.release_foldl x₂ (s.contextFrame (ctxOf x.tag)) (((x.firedOf n).filter fun e => e.src == n).map (·.dst))
  have hall := State.GraphStep.releaseNodes hstep.graph (((x.firedOf n).filter fun e => e.src == n).map (·.dst))
  rw [hstep.contextFrame, show x₂.tag = x.tag by rw [hx₂, hx₁], hfold, ← ht] at hall
  refine ⟨ns, ?_, ?_, ?_, fun m hm => ?_⟩
  · rw [hx₂, hx₁] at hall
    exact hstep.trans hall
  · rw [hlen, hx₂, hx₁]
    exact List.length_set ..
  · have hy : x₂.nodes[n]? = some { y with phase := .complete } := by
      rw [hx₂, hx₁]
      exact List.getElem?_set_self (List.getElem?_eq_some_iff.mp hn).1
    have hfreed (cf : Int) : freedNode x₂.edges cf n { y with phase := .complete } = { y with phase := .complete } := if_pos (.inl nofun)
    rw [hns, hy, Option.map_some, hfreed, ite_self]
  · have hy : x₂.nodes[m]? = x.nodes[m]? := by
      rw [hx₂, hx₁]
      exact List.getElem?_set_ne (Ne.symm hm)
    have hedges : x₂.edges = x.firedOf n := by rw [hx₂]
    rw [hns, hy, hedges]
    simp only [x.mem_firedOf_dsts]

end

/-- When a node is freed, and what it becomes (13 R317, R324). -/
theorem freedNode_of_held {es : List Edge} {cf : Int} {m : Nat} {y : Node}
    (h : ¬ (y.phase = .waiting ∧ ∀ e ∈ es, e.dst = m → e.fired = true)) : freedNode es cf m y = y := by
  refine if_pos ?_
  by_contra hn
  obtain ⟨hw, hany⟩ := not_or.mp hn
  refine h ⟨not_not.mp hw, fun e he hd => ?_⟩
  by_contra hf
  exact hany (List.any_eq_true.mpr ⟨e, he, by simp [hd, hf]⟩)

theorem freedNode_of_free {es : List Edge} {cf : Int} {m : Nat} {y : Node} (hw : y.phase = .waiting)
    (hf : ∀ e ∈ es, e.dst = m → e.fired = true) :
    freedNode es cf m y = if y.timed ∧ cf < y.tick then { y with phase := .due } else { y with phase := .ready } := by
  refine if_neg (not_or.mpr ⟨not_not_intro hw, fun hany => ?_⟩)
  obtain ⟨e, he, hd⟩ := List.any_eq_true.mp hany
  rw [Bool.and_eq_true, beq_iff_eq, Bool.not_eq_true'] at hd
  exact Bool.noConfusion ((hf e he hd.1).symm.trans hd.2)

/-- The end of a node that completes, from a state whose graph differs at most in its marks. -/
theorem State.GraphStep.nodeCompletes {s v : State} {g n : Nat} {x : Graph} {y : Node} {p a : Bool} (hg : s.graph g = some x)
    (hv : State.GraphStep g { x with progress := p, awake := a } s v) (hn : x.nodes[n]? = some y) :
    s.NodeCompletes (v.nodeEnds g n .complete) g n := by
  obtain ⟨ns, hstep, hlen, hself, hother⟩ := State.GraphStep.completes hv.graph (show _ = some y from hn)
  refine ⟨x, _, hg, hstep.graph, rfl, hlen, rfl, rfl, hstep.slots.trans hv.slots, fun m b c hb hc => ?_⟩
  by_cases hm : m = n
  · subst hm
    obtain rfl : y = b := Option.some.inj (hn.symm.trans hb)
    exact ⟨fun _ => Option.some.inj (hc.symm.trans hself), fun h => absurd rfl h, fun h => absurd rfl h, fun h => absurd rfl h⟩
  have hc' : (if ∃ e ∈ x.edges, e.src = n ∧ e.dst = m
      then (x.nodes[m]?).map (freedNode (x.firedOf n) (v.contextFrame (ctxOf x.tag)) m) else x.nodes[m]?) = some c :=
    (hother m hm).symm.trans hc
  rw [hb, hv.contextFrame] at hc'
  refine ⟨fun h => absurd h hm, fun _ hfree hearly => ?due, fun _ hfree hearly => ?ready, fun _ hheld => ?held⟩
  case due =>
    rw [if_pos hfree.2.1, Option.map_some, freedNode_of_free (es := x.firedOf n) hfree.1 hfree.2.2, if_pos ((s.early_iff ..).mp hearly)] at hc'
    exact (Option.some.inj hc').symm
  case ready =>
    rw [if_pos hfree.2.1, Option.map_some, freedNode_of_free (es := x.firedOf n) hfree.1 hfree.2.2, if_neg (mt (s.early_iff ..).mpr hearly)] at hc'
    exact (Option.some.inj hc').symm
  case held =>
    by_cases he : ∃ e ∈ x.edges, e.src = n ∧ e.dst = m
    · rw [if_pos he, Option.map_some, freedNode_of_held (es := x.firedOf n) fun h => hheld ⟨h.1, he, h.2⟩] at hc'
      exact (Option.some.inj hc').symm
    · rw [if_neg he] at hc'
      exact (Option.some.inj hc').symm

/-- A node fails or halts: its reservations end, and the graph notes it, the first of its kind first (13 R319). -/
def Graph.spoils (x : Graph) (b : BadNode) (ns : List Node) : Graph :=
  { x with nodes := ns, firstBad := match x.firstBad with
      | none => some b
      | some o => if (b.failed && !o.failed) || (b.failed == o.failed && o.cycle == b.cycle && decide (b.node < o.node)) then some b else some o }

theorem Graph.spoils_firstBad {x : Graph} (h : x.firstBad = none) (b : BadNode) (ns : List Node) : (x.spoils b ns).firstBad = some b := by
  rw [Graph.spoils, h]

/-- The phase of a node that failed, or halted. -/
def badPhase (failed : Bool) (code : Nat) : NodePhase := if failed then .failed code else .halted code

/-- The reservations of a node end (12 R294). -/
def State.unreserve (s : State) (g n : Nat) : State := s.modHub fun h => { h with queues := h.queues.map fun (k, q) => (k, q.release g n) }

theorem State.unreserve_putGraph (s : State) (g n : Nat) (x : Graph) : (s.putGraph g x).unreserve g n = (s.unreserve g n).putGraph g x := rfl

/-- A node fails or halts. -/
theorem State.nodeEnds_bad {s : State} {g n : Nat} {x : Graph} {y : Node} (hg : s.graph g = some x) (hn : x.nodes[n]? = some y)
    (failed : Bool) (code : Nat) : s.nodeEnds g n (badPhase failed code)
      = (s.unreserve g n).putGraph g (x.spoils ⟨failed, code, s.now, n⟩ (x.nodes.set n { y with phase := badPhase failed code })) := by
  have hmarks (z : Graph) (f : Graph → Graph) : ((s.putGraph g z).unreserve g n).modGraph g f = (s.unreserve g n).putGraph g (f z) := by
    rw [s.unreserve_putGraph, State.modGraph_eq (State.graph_putGraph_same ..), State.putGraph_putGraph]
  cases failed
  all_goals
    simp only [badPhase, Bool.false_eq_true, if_false, if_true]
    rw [State.nodeEnds, State.modNode_eq hg hn]
    exact hmarks _ _

section
variable (s : State) (who : Raiser) (code : Nat) (tag : BitVec 18) (status addr : Nat) (walk : Option WalkKey)

@[simp] theorem State.hubWalkFault_slots : (s.hubWalkFault who code tag status addr walk).slots = s.slots := rfl
@[simp] theorem State.hubWalkFault_mem : (s.hubWalkFault who code tag status addr walk).mem = s.mem := rfl
@[simp] theorem State.hubWalkFault_now : (s.hubWalkFault who code tag status addr walk).now = s.now := rfl
@[simp] theorem State.hubWalkFault_graph (g : Nat) : (s.hubWalkFault who code tag status addr walk).graph g = s.graph g := rfl

/-- The record of a fault that Spool raises for a context. -/
def State.spoolFault : FaultEntry :=
  ⟨s.hub.traps.nextId, s.unitRecord code .spool (some tag) status addr naCursor, none, none, none, false⟩

theorem State.hubWalkFault_table : (s.hubWalkFault .spool code tag status addr none).hub.traps.table
    = s.hub.traps.table ++ [s.spoolFault code tag status addr] := rfl

end

@[simp] theorem State.unreserve_slots (s : State) (g n : Nat) : (s.unreserve g n).slots = s.slots := rfl
@[simp] theorem State.unreserve_mem (s : State) (g n : Nat) : (s.unreserve g n).mem = s.mem := rfl
@[simp] theorem State.unreserve_traps (s : State) (g n : Nat) : (s.unreserve g n).hub.traps = s.hub.traps := rfl

/-- A node fails with a fault that Spool raises for it. -/
theorem State.nodeFault_fails {s v : State} {g n : Nat} {x x' : Graph} {y : Node} (hg : s.graph g = some x) (hv : State.GraphStep g x' s v)
    (hx : x'.tag = x.tag ∧ x'.firstBad = x.firstBad ∧ x'.edges = x.edges) (hmem : v.mem = s.mem)
    (htable : v.hub.traps.table = s.hub.traps.table) (hn : x'.nodes[n]? = some y) (code status addr : Nat) :
    s.NodeFails (v.nodeFault g n code status addr) g n code status addr := by
  obtain ⟨htag, hbad, hedges⟩ := hx
  obtain ⟨hlt, -⟩ := List.getElem?_eq_some_iff.mp hn
  rw [State.nodeFault, State.nodeWalkFault, State.graphTag_eq hv.graph, htag, show NodePhase.failed code = badPhase true code from rfl,
    State.nodeEnds_bad ((v.hubWalkFault_graph ..).trans hv.graph) hn]
  refine ⟨x, _, v.spoolFault code x.tag status addr, hg, State.graph_putGraph_same .., ?_, fun h => ?_, hedges, ?_, ?_⟩
  · rw [Graph.spoils, List.getElem?_set_self hlt]
    rfl
  · rw [Graph.spoils_firstBad (hbad.trans h), State.hubWalkFault_now, hv.now]
  · rw [State.putGraph_traps, State.unreserve_traps, State.hubWalkFault_table, htable]
  · simp only [State.putGraph_slots, State.putGraph_mem, State.unreserve_slots, State.unreserve_mem, State.hubWalkFault_slots,
      State.hubWalkFault_mem, hv.slots, hmem, and_true]
    exact ⟨rfl, rfl, rfl, rfl, rfl⟩

theorem Tab.get_map_release (m : Tab WorkQueue) (g n k : Nat) :
    (Tab.get WorkQueue.reset (m.map fun (k, q) => (k, q.release g n)) k).refused = (Tab.get WorkQueue.reset m k).refused := by
  induction m with
  | nil => rfl
  | cons e m ih =>
    obtain ⟨j, q⟩ := e
    by_cases h : k = j
    · simp only [List.map_cons, Tab.get, if_pos h]
      rfl
    · simp only [List.map_cons, Tab.get, if_neg h]
      exact ih

/-- The end of a node keeps what its queues have refused. -/
theorem State.nodeFault_refused {s : State} {g n : Nat} {x : Graph} {y : Node} (hg : s.graph g = some x) (hn : x.nodes[n]? = some y)
    (code status addr k : Nat) : ((s.nodeFault g n code status addr).queue k).refused = (s.queue k).refused := by
  rw [State.nodeFault, State.nodeWalkFault, State.graphTag_eq hg]
  rw [show NodePhase.failed code = badPhase true code from rfl, State.nodeEnds_bad ((s.hubWalkFault_graph ..).trans hg) hn]
  exact Tab.get_map_release ..

/-! ### Taking a node (13 R317) -/

/-- Spool takes a node exactly where it may. -/
theorem State.canTake_iff {s : State} {g n kind : Nat} {x : Graph} {y : Node} (hg : s.graph g = some x) (hn : x.nodes[n]? = some y) :
    s.canTake g n kind = true ↔ s.takes g n kind x y := by
  have hkind : (y.kind == kind) = true ↔ y.raw.toNat % 256 = kind := by
    rw [beq_iff_eq, Node.kind, field_eq _ (by rfl : 7 - 0 + 1 = 8), pow_zero, Nat.div_one]
    rfl
  rw [State.canTake, hg, State.nodeAt_eq hg, hn, State.takes]
  simp only [Bool.and_eq_true, hkind, State.runs, beq_iff_eq, Option.isNone_iff_eq_none, Bool.not_eq_true', and_assoc, hg, hn, true_and]
  rfl


/-! ### Reading a graph (13 R312-R316) -/

theorem Edge.ofRecord_eq : Edge.ofRecord
    = fun e => ⟨e % 2 ^ 16, e / 2 ^ 16 % 2 ^ 16, e / 2 ^ 64 % 2 ^ 64, e / 2 ^ 128 % 2 ^ 64, false⟩ := by
  funext e
  rw [Edge.ofRecord, field_eq e (by rfl : 15 - 0 + 1 = 16), field_eq e (by rfl : 31 - 16 + 1 = 16), field_eq e (by rfl : 127 - 64 + 1 = 64),
    field_eq e (by rfl : 191 - 128 + 1 = 64), pow_zero, Nat.div_one]

theorem firstBadOf_none {f : Nat → Option Nat} {size : Nat} {l : List Nat} (h : ∀ r ∈ l, f r = none) (i : Nat) :
    firstBadOf f size l i = none := by
  induction l generalizing i with
  | nil => rfl
  | cons r t ih =>
    rw [firstBadOf, h r List.mem_cons_self]
    exact ih (fun r hr => h r (List.mem_cons_of_mem _ hr)) _

/-- The records of a table in memory. -/
theorem State.recordsOf_eq {s : State} {size pa : Nat} {l : List Nat} (h : ∀ i r, l[i]? = some r → r = s.number (pa + size * i) size) :
    recordsOf size l.length (s.mem.readN pa (size * l.length)) = l := by
  refine List.ext_getElem? fun i => ?_
  rw [recordsOf, rangeFrom_eq_range', List.getElem?_map]
  by_cases hi : i < l.length
  · have hpart : size * i + size ≤ size * l.length := by
      rw [← Nat.mul_succ]
      exact Nat.mul_le_mul_left size hi
    rw [List.getElem?_range' hi, Option.map_some, Nat.zero_add, Nat.one_mul, Bytes.readN_part _ hpart, s.ofBytes_readN, List.getElem?_eq_getElem hi,
      h i _ (List.getElem?_eq_getElem hi)]
  · rw [List.getElem?_eq_none (by simpa using hi), List.getElem?_eq_none (by simpa using hi)]
    rfl

/-- Spool reads a graph that passes the checks, and changes nothing. -/
theorem State.loadGraph_graphAt {s : State} {tag : BitVec 18} {root : Nat} {nodes edges : List Nat} (h : s.graphAt tag root nodes edges) :
    s.loadGraph tag root = (.ok (nodes.map Node.fresh) (edges.map Edge.ofRecord), s) := by
  obtain ⟨hroot, pa, na, hpage, hbad, hnn, hne, hnodes, hrecords, hedges, hcycle⟩ := h
  generalize hh : s.number pa 64 = h at *
  have hnn' : field h 47 32 = nodes.length := (field_eq h (by rfl : 47 - 32 + 1 = 16)).trans hnn
  have hne' : field h 63 48 = edges.length := (field_eq h (by rfl : 63 - 48 + 1 = 16)).trans hne
  have hnb : field h 127 64 = h / 2 ^ 64 % 2 ^ 64 := field_eq h (by rfl : 127 - 64 + 1 = 64)
  have heb : field h 191 128 = h / 2 ^ 128 % 2 ^ 64 := field_eq h (by rfl : 191 - 128 + 1 = 64)
  have hnodesOk : firstBadOf nodeBad 64 nodes 0 = none := firstBadOf_none (fun r hr => by
    obtain ⟨i, hi⟩ := List.mem_iff_getElem?.mp hr
    exact (hrecords i r hi).2) 0
  have hnodesAt := State.recordsOf_eq fun i r hi => (hrecords i r hi).1
  have hedgesAt : ∃ bs, (if edges.length = 0 then (Hit.ok [], s) else s.hubRead tag (h / 2 ^ 128 % 2 ^ 64) (32 * edges.length)) = (.ok bs, s)
      ∧ recordsOf 32 edges.length bs = edges ∧ firstBadOf (edgeBad nodes.length) 32 edges 0 = none := by
    by_cases he : edges = []
    · subst he
      exact ⟨[], rfl, rfl, rfl⟩
    obtain ⟨ea, hea, herecords⟩ := hedges he
    refine ⟨_, (if_neg (mt List.length_eq_zero_iff.mp he)).trans (State.hubRead_hubPage hea), State.recordsOf_eq fun i r hi => (herecords i r hi).1,
      firstBadOf_none (fun r hr => ?_) 0⟩
    obtain ⟨i, hi⟩ := List.mem_iff_getElem?.mp hr
    exact (herecords i r hi).2
  obtain ⟨bs, hread, hrecs, hedgesOk⟩ := hedgesAt
  rw [State.loadGraph, if_neg (not_not_intro hroot), State.hubRead_hubPage hpage]
  simp only [s.ofBytes_readN, hh, hbad, hnn', hne', hnb, heb, State.hubRead_hubPage hnodes, hnodesAt, hnodesOk, hread, hrecs, hedgesOk,
    Edge.ofRecord_eq, hcycle]

/-! ### The launch of a graph (13 R316, R317) -/

/-- A launch as Spool enters it, before it looks at its nodes. -/
def State.launching (s : State) (tag : BitVec 18) (root : Nat) (queue : Option Nat) (parent : Option (Nat × Nat)) (depth : Nat)
    (nodes edges : List Nat) : Graph :=
  { root := root, tag := tag, queue := queue, parent := parent, depth := depth
    nodes := (nodes.map Node.fresh).map fun y => y.launchedAt (s.contextFrame (ctxOf tag)) s.now, edges := edges.map Edge.ofRecord
    launched := s.now, firstBad := none, outcome := none, progress := false, awake := false }

section
variable {s : State} {tag : BitVec 18} {root : Nat} {nodes edges : List Nat} (h : s.graphAt tag root nodes edges) (hroom : s.graphRoom)
variable (queue : Option Nat) (parent : Option (Nat × Nat)) (depth : Nat)

/-- The nodes of a graph that is launched in the present cycle are looked at with no event. -/
theorem State.releaseNodes_launched {g : Nat} {x : Graph} {t : State} (hg : t.graph g = some x) (hl : x.launched = t.now) (ds : List Nat) :
    ∃ gs, ds.foldl (fun s d => s.releaseNode g d) t = t.modSpool fun p => { p with graphs := gs } := by
  induction ds generalizing t x with
  | nil => exact ⟨t.hub.spool.graphs, rfl⟩
  | cons d ds ih =>
    have hstep := State.GraphStep.releaseNode hg d
    obtain ⟨gs, hgs⟩ := ih hstep.graph (hl.trans hstep.now.symm)
    rw [List.foldl_cons, hgs]
    rcases State.releaseNode_cases hg d with ⟨he, -⟩ | he | ⟨hlate, -⟩
    · exact ⟨gs, by rw [he]⟩
    · exact ⟨gs, by rw [he]; rfl⟩
    · exact absurd hlate (by rw [hl]; exact lt_irrefl _)

/-- A node that a launch has looked at. -/
theorem freedNode_launched {r m : Nat} (hr : (BitVec.ofNat 512 r).toNat = r) (cf : Int) (now : Nat) :
    let y := freedNode (edges.map Edge.ofRecord) cf m ((Node.fresh r).launchedAt cf now)
    y.raw.toNat = r ∧ y.active = 0 ∧ y.cmds = 0 ∧ y.iter = 0
    ∧ ((∃ e ∈ edges, e / 2 ^ 16 % 2 ^ 16 = m) → y.phase = .waiting)
    ∧ (¬ (∃ e ∈ edges, e / 2 ^ 16 % 2 ^ 16 = m) →
      y.phase = if (Node.fresh r).timed ∧ cf < (Node.fresh r).tick then .due else .ready) := by
  obtain ⟨z, hz⟩ : ∃ z, z = (Node.fresh r).launchedAt cf now := ⟨_, rfl⟩
  have hfresh : z.raw = BitVec.ofNat 512 r ∧ z.active = 0 ∧ z.cmds = 0 ∧ z.iter = 0 ∧ z.phase = .waiting := by
    rw [hz, Node.launchedAt]
    split <;> exact ⟨rfl, rfl, rfl, rfl, rfl⟩
  obtain ⟨hraw, hactive, hcmds, hiter, hphase⟩ := hfresh
  have hnat : z.raw.toNat = r := by rw [hraw, hr]
  have hfired (e : Edge) (he : e ∈ edges.map Edge.ofRecord) : e.fired = false := by
    obtain ⟨a, -, rfl⟩ := List.mem_map.mp he
    rfl
  have hheld : (∃ e ∈ edges, e / 2 ^ 16 % 2 ^ 16 = m) ↔ ∃ e ∈ edges.map Edge.ofRecord, e.dst = m := by
    simp only [List.mem_map, exists_exists_and_eq_and, Edge.ofRecord_eq]
  rw [← hz, hheld]
  by_cases he : ∃ e ∈ edges.map Edge.ofRecord, e.dst = m
  · obtain ⟨e, hmem, hdst⟩ := he
    have hsame : freedNode (edges.map Edge.ofRecord) cf m z = z :=
      freedNode_of_held fun hw => Bool.noConfusion ((hfired e hmem).symm.trans (hw.2 e hmem hdst))
    rw [hsame]
    exact ⟨hnat, hactive, hcmds, hiter, fun _ => hphase, fun hn => absurd ⟨e, hmem, hdst⟩ hn⟩
  · have hfree : freedNode (edges.map Edge.ofRecord) cf m z = _ :=
      freedNode_of_free hphase fun e hmem hdst => absurd ⟨e, hmem, hdst⟩ he
    have htimed : z.timed = (Node.fresh r).timed ∧ z.tick = (Node.fresh r).tick := by
      rw [Node.timed, Node.tick, hraw]
      exact ⟨rfl, rfl⟩
    rw [hfree, htimed.1, htimed.2]
    split <;> exact ⟨hnat, hactive, hcmds, hiter, fun hn => absurd hn he, fun _ => rfl⟩

/-- The launch of a graph that passes the checks (13 R316): it stands under the next number, and the others stay. -/
theorem State.launch_graphAt (h : s.graphAt tag root nodes edges) (hroom : s.graphRoom) : ∃ gs, s.launch tag root queue parent depth
      = (some s.hub.spool.nextId, s.modSpool fun p => { p with nextId := s.hub.spool.nextId + 1, graphs := gs })
    ∧ s.Launched (s.modSpool fun p => { p with nextId := s.hub.spool.nextId + 1, graphs := gs }) tag root queue parent depth nodes edges
    ∧ ∀ k, k ≠ s.hub.spool.nextId → Tab.find gs k = s.graph k := by
  obtain ⟨x, hx⟩ : ∃ x, x = s.launching tag root queue parent depth nodes edges := ⟨_, rfl⟩
  obtain ⟨t, ht⟩ : ∃ t, t = s.modSpool fun p =>
    { p with nextId := s.hub.spool.nextId + 1, graphs := p.graphs.put s.hub.spool.nextId x } := ⟨_, rfl⟩
  have htg : t.graph s.hub.spool.nextId = some x := by
    rw [ht]
    exact s.graph_putGraph_same _ x
  have hlaunch : s.launch tag root queue parent depth = (some s.hub.spool.nextId,
      (rangeFrom 0 nodes.length).foldl (fun t n => t.releaseNode s.hub.spool.nextId n) t) := by
    rw [State.launch, if_neg (Nat.not_le.mpr hroom), State.loadGraph_graphAt h, ht, hx]
    simp only [List.length_map]
    rfl
  have hlaunched : x.launched = t.now := by rw [hx, ht]; rfl
  have htag : x.tag = tag := by rw [hx]; rfl
  have hcf : t.contextFrame (ctxOf tag) = s.contextFrame (ctxOf tag) := by rw [ht]; rfl
  obtain ⟨gs, hgs⟩ := State.releaseNodes_launched htg hlaunched (rangeFrom 0 nodes.length)
  obtain ⟨ns, hfold, hlen, hns⟩ := x.release_foldl (s.contextFrame (ctxOf tag)) (rangeFrom 0 nodes.length)
  have hstep := State.GraphStep.releaseNodes htg (rangeFrom 0 nodes.length)
  rw [htag, hcf, hfold, hgs] at hstep
  have hfinal : (t.modSpool fun p => { p with graphs := gs })
      = s.modSpool fun p => { p with nextId := s.hub.spool.nextId + 1, graphs := gs } := by rw [ht]; rfl
  rw [hfinal] at hstep hgs
  refine ⟨gs, by rw [hlaunch, hgs], ⟨rfl, rfl, rfl, { x with nodes := ns }, hstep.graph, ?launched⟩, fun k hk => ?others⟩
  case others =>
    have hother := hstep.others k hk
    have htk : t.graph k = s.graph k := by
      rw [ht]
      exact s.graph_putGraph_other x hk
    exact hother.trans htk
  rw [hx] at hlen ⊢
  refine ⟨rfl, rfl, rfl, rfl, rfl, rfl, rfl, rfl, ?_, ?_, fun m r y hr hy => ?_⟩
  · rw [hlen]
    simp only [State.launching, List.length_map]
  · exact congrArg (edges.map ·) Edge.ofRecord_eq
  have hraw : (BitVec.ofNat 512 r).toNat = r := by
    obtain ⟨-, -, na, -, -, -, -, -, hrecords, -⟩ := h
    rw [(hrecords m r hr).1]
    exact s.toNat_number _ 64
  have hm : m ∈ rangeFrom 0 nodes.length := by
    rw [rangeFrom_eq_range', List.mem_range'_1]
    exact ⟨Nat.zero_le m, by rw [Nat.zero_add]; exact (List.getElem?_eq_some_iff.mp hr).1⟩
  have hy' := (hns m).symm.trans hy
  rw [if_pos hm, hx] at hy'
  simp only [State.launching, List.getElem?_map, hr, Option.map_some, Option.some.injEq] at hy'
  obtain ⟨h1, h2, h3, h4, h5, h6⟩ := freedNode_launched (edges := edges) (m := m) hraw (s.contextFrame (ctxOf tag)) s.now
  rw [hy'] at h1 h2 h3 h4 h5 h6
  have hearly := s.early_iff tag (Node.fresh r)
  rw [show (Node.fresh r).raw.toNat = r from hraw] at hearly
  refine ⟨h1, h2, h3, h4, h5, fun hn he => ?_, fun hn he => ?_⟩
  · rw [h6 hn, if_pos (hearly.mp he)]
  · rw [h6 hn, if_neg (mt hearly.mpr he)]

end


/-! ### The record of a launch (12 R295, R296; 13 R316) -/

theorem State.ringTag_eq (s : State) (x : WorkQueue) : s.tagOf x.ctx.toNat = s.ringTag x := by
  have := (s.ctx x.ctx.toNat).inc.isLt
  rw [State.tagOf, mkTag, Nat.mod_eq_of_lt this]
  rfl

/-- Word `k` of a record is a part of its number. -/
theorem State.recordWord_eq (s : State) (pa : Nat) {k : Nat} (h : k < 4) :
    (s.recordWord pa k).toNat = s.number pa 32 / 2 ^ (64 * k) % 2 ^ 64 := by
  have hpart := s.number_part (pa := pa) (len := 32) (o := 8 * k) (n := 8) (by omega)
  rw [State.recordWord]
  refine (s.toNat_number (pa + 8 * k) 8).trans (hpart.symm.trans ?_)
  rw [show (256 : Nat) = 2 ^ 8 from rfl, ← pow_mul, ← pow_mul, ← Nat.mul_assoc]

/-- A record of a launch that is not malformed passes Envelope's checks. -/
theorem recordBad_launch {r : Nat} (hk : r % 2 ^ 64 % 256 = 1) (h : ¬ malformed fun k => r / 2 ^ (64 * k) % 2 ^ 64) :
    recordBad r = false ∧ field r 7 0 = 1 := by
  simp only [malformed, not_or, not_and, Nat.mul_zero, pow_zero, Nat.div_one] at h
  obtain ⟨htop, -, -, hargs, -⟩ := h
  obtain ⟨h1, h2⟩ := hargs hk
  have hkind : field r 7 0 = 1 := by simp only [field]; omega
  have h63 : field r 63 9 = 0 := by simp only [field]; omega
  have h0 : field r 127 64 % 64 = 0 := by simp only [field]; omega
  have h1 : field r 191 128 % 16 = 0 := by simp only [field]; omega
  refine ⟨?_, hkind⟩
  simp only [recordBad, hkind, h63, h0, h1]
  rfl

theorem State.takeRecord_recordAt {s : State} {q pa : Nat} (hmay : s.mayTake (s.queue q)) (hrec : s.recordAt (s.queue q) pa)
    (hok : recordBad (s.number pa 32) = false) (k : Nat → State → State) :
    s.takeRecord q (field (s.number pa 32) 7 0) k = k (s.number pa 32) s := by
  obtain ⟨hphase, hfeed, hrun, htail, hres, hbroad⟩ := hmay
  have hused : (s.queue q).used ≠ 0 := fun h0 => htail (by
    have : (s.queue q).tail - (s.queue q).head = 0 := BitVec.eq_of_toNat_eq h0
    exact BitVec.sub_eq_iff_eq_add.mp this |>.trans (BitVec.zero_add _))
  have hruns : s.runs (s.queue q).ctx.toNat = true := by simp [State.runs, hres, hbroad]
  have hread : s.hubRead (s.tagOf (s.queue q).ctx.toNat) ((s.queue q).entry (s.queue q).head) 32 = (.ok (s.mem.readN pa 32), s) := by
    rw [s.ringTag_eq]
    exact State.hubRead_hubPage hrec
  rw [State.takeRecord]
  simp only [hphase, hfeed, hrun, hused, hruns, hread, s.ofBytes_readN, hok, ne_eq, not_true_eq_false, Bool.false_eq_true, Bool.true_eq_false,
    or_self, if_false, if_true]

/-- What Envelope does with the record of a launch. -/
def State.launchesRecord (q r : Nat) (s : State) : State :=
  match s.launch (s.tagOf (s.queue q).ctx.toNat) (field r 127 64) (some q) none 0 with
  | (some g, s) => s.modQueue q fun x => { x with running := some g, taken := BitVec.ofNat 256 r }
  | (none, s) => s

theorem exec_queueRecordLaunch (s : State) : exec .queueRecordLaunch s = .next (s.takeRecord s.cur 1 (State.launchesRecord s.cur)) := rfl

/-- QUEUE_RECORD_LAUNCH: the graph of the record stands, and the queue runs it. -/
theorem queueRecordLaunch_launches (s : State) (q pa : Nat) (nodes edges : List Nat) (hcur : s.cur = q) :
    let x := s.queue q
    let word (k : Nat) : Nat := (s.recordWord pa k).toNat
    s.mayTake x → s.recordAt x pa → ¬ malformed word → word 0 % 256 = 1 → s.graphRoom → s.graphAt (s.ringTag x) (word 1) nodes edges →
    ∃ u, exec .queueRecordLaunch s = .next u ∧ s.Launched u (s.ringTag x) (word 1) (some q) none 0 nodes edges
      ∧ u.queue q = { x with running := some s.hub.spool.nextId, taken := BitVec.ofNat 256 (s.number pa 32) } := by
  intro x word hmay hrec hbad hkind hroom hgraph
  obtain ⟨r, hr⟩ : ∃ r, r = s.number pa 32 := ⟨_, rfl⟩
  have hword (k : Nat) (h : k < 4) : word k = r / 2 ^ (64 * k) % 2 ^ 64 := by rw [hr]; exact s.recordWord_eq pa h
  have hmal : malformed word ↔ malformed fun k => r / 2 ^ (64 * k) % 2 ^ 64 := by
    simp only [malformed, hword 0 (by decide), hword 1 (by decide), hword 2 (by decide), hword 3 (by decide)]
  have hkind' : r % 2 ^ 64 % 256 = 1 := by
    rw [hword 0 (by decide), Nat.mul_zero, pow_zero, Nat.div_one] at hkind
    exact hkind
  obtain ⟨hok, hfield⟩ := recordBad_launch hkind' (mt hmal.mpr hbad)
  have hroot : field r 127 64 = word 1 := by
    rw [hword 1 (by decide)]
    exact field_eq r (by rfl : 127 - 64 + 1 = 64)
  obtain ⟨gs, hlaunch, hlaunched, -⟩ := State.launch_graphAt (some q) none 0 hgraph hroom
  rw [hr] at hok hfield hroot
  have htake := State.takeRecord_recordAt hmay hrec hok (State.launchesRecord q)
  rw [hfield] at htake
  rw [exec_queueRecordLaunch, hcur, htake, State.launchesRecord, s.ringTag_eq, hroot, hlaunch]
  exact ⟨_, rfl, hlaunched, State.queue_modQueue_same ..⟩


/-! ### Empty and timed nodes (13 R317, R324) -/

section
variable {s : State} {g n : Nat} {x : Graph} {y : Node} (hcur : s.cur = g) (hg : s.graph g = some x) (hn : x.nodes[n]? = some y)
include hcur hg hn

theorem emptyNodeTaken_completes (h : s.takes g n 0 x y) : ∃ u, exec (.emptyNodeTaken n) s = .next u ∧ s.NodeCompletes u g n := by
  change ∃ u, execEmptyNodeTaken n s = .next u ∧ _
  rw [execEmptyNodeTaken, hcur, if_pos ((State.canTake_iff hg hn).mpr h)]
  exact ⟨_, rfl, State.GraphStep.nodeCompletes hg (.refl hg) hn⟩

theorem emptyNodeTaken_waits (h : ¬ s.takes g n 0 x y) : exec (.emptyNodeTaken n) s = .next s := by
  change execEmptyNodeTaken n s = _
  rw [execEmptyNodeTaken, hcur, if_neg (mt (State.canTake_iff hg hn).mp h)]

theorem timedNodeDue_ready (hy : y.phase = .due)
    (ht : ((y.raw.toNat / 2 ^ 320 % 2 ^ 50 : Nat) : Int) ≤ (s.now / 2 ^ 14 : Nat) - (s.ctx (x.tag.toNat / 64)).foff.toNat) :
    exec (.timedNodeDue n) s = .next (s.nodeSet g n { y with phase := .ready }) := by
  have htick : (y.tick : Int) ≤ s.contextFrame (ctxOf x.tag) := by
    rw [Node.tick, field_eq _ (by rfl : 369 - 320 + 1 = 50)]
    exact ht
  change execTimedNodeDue n s = _
  rw [execTimedNodeDue, hcur, State.nodeAt_eq hg, hn]
  simp only [State.graphTag_eq hg, hy, htick, true_and, if_true, State.modNode_eq_nodeSet hg hn]

theorem timedNodeDue_waits (hy : y.phase ≠ .due) : exec (.timedNodeDue n) s = .next s := by
  change execTimedNodeDue n s = _
  rw [execTimedNodeDue, hcur, State.nodeAt_eq hg, hn]
  exact congrArg Host.Outcome.next (if_neg fun h => hy h.1)

end

/-! ### Groups and shares (13 R321, R322, R328) -/

theorem State.freeBands_eq (s : State) (core : Nat) : s.freeBands core = s.openBands core := by
  rw [State.freeBands, State.openBands, rangeFrom_eq_range', List.range_eq_range']
  refine List.filter_congr fun p _ => ?_
  rw [Bool.not_or, Slot.hasBand, Slot.hasBand, bitAt_toNat, bitAt_toNat]

theorem otherSlot_eq (x : Nat) : otherSlot x = beside x := by
  rw [otherSlot, beside]
  split <;> omega

/-- A slot can take a tile exactly where it fits it. -/
theorem State.canHold_eq (s : State) (x ctx : Nat) (h : Header) : s.canHold x ctx h = s.fitsTile ctx h.spBytes x := by
  rw [State.canHold, State.hasSpace, State.fitsTile, State.roomFor, otherSlot_eq, s.freeBands_eq]
  rfl

theorem State.countFree_eq (s : State) (ctx first size : Nat) (h : Header) :
    s.countFree ctx h (rangeFrom first size) = s.roomIn ctx h.spBytes ((List.range size).map (first + ·)) := by
  rw [State.countFree, State.roomIn, rangeFrom_eq_range', List.range'_eq_map_range]
  simp only [s.canHold_eq]

/-- The running maximum stays at the first of the greatest. -/
theorem foldl_greatest (f : Nat → Nat) (l : List Nat) (m : Nat) (hl : (m :: l).Pairwise (· < ·)) :
    let r := l.foldl (fun m x => if f m < f x then x else m) m
    r ∈ m :: l ∧ ∀ z ∈ m :: l, f z < f r ∨ f z = f r ∧ r ≤ z := by
  induction l generalizing m with
  | nil => exact ⟨List.mem_singleton_self m, fun z hz => .inr (by rw [List.mem_singleton.mp hz]; exact ⟨rfl, le_refl _⟩)⟩
  | cons x l ih =>
    obtain ⟨hm, hx⟩ := List.pairwise_cons.mp hl
    have hmx := hm x List.mem_cons_self
    rw [List.foldl_cons]
    by_cases hf : f m < f x
    · obtain ⟨hr, hz⟩ := ih x hx
      rw [if_pos hf]
      refine ⟨List.mem_cons_of_mem _ hr, fun z hzm => ?_⟩
      rcases List.mem_cons.mp hzm with rfl | hzm
      · have := hz x List.mem_cons_self
        exact .inl (by omega)
      · exact hz z hzm
    · have hpair : (m :: l).Pairwise (· < ·) :=
        List.pairwise_cons.mpr ⟨fun z hz => hm z (List.mem_cons_of_mem _ hz), (List.pairwise_cons.mp hx).2⟩
      obtain ⟨hr, hz⟩ := ih m hpair
      rw [if_neg hf]
      refine ⟨?_, fun z hzm => ?_⟩
      · rcases List.mem_cons.mp hr with h | h
        · exact List.mem_cons.mpr (.inl h)
        · exact List.mem_cons_of_mem _ (List.mem_cons_of_mem _ h)
      rcases List.mem_cons.mp hzm with rfl | hzm
      · exact hz z List.mem_cons_self
      rcases List.mem_cons.mp hzm with rfl | hzm
      · have := hz m List.mem_cons_self
        omega
      · exact hz z (List.mem_cons_of_mem _ hzm)

/-- The first of the greatest of some rising numbers. -/
theorem greatestOf_spec (f : Nat → Nat) {l : List Nat} (hl : l.Pairwise (· < ·)) (h0 : l ≠ []) (d : Nat) :
    greatestOf f l d ∈ l ∧ ∀ z ∈ l, f z < f (greatestOf f l d) ∨ f z = f (greatestOf f l d) ∧ greatestOf f l d ≤ z := by
  cases l with
  | nil => exact absurd rfl h0
  | cons x l =>
    have hfirst : greatestOf f (x :: l) d = l.foldl (fun m x => if f m < f x then x else m) x := by
      rw [greatestOf, List.headD_cons, List.foldl_cons, if_neg (lt_irrefl _)]
    rw [hfirst]
    exact foldl_greatest f l x hl

theorem pairwise_rangeFrom_filter (n : Nat) (p : Nat → Bool) : ((rangeFrom 0 n).filter p).Pairwise (· < ·) := by
  rw [rangeFrom_eq_range']
  exact List.Pairwise.filter p List.pairwise_lt_range'

theorem mem_rangeFrom_filter {n z : Nat} {p : Nat → Bool} : z ∈ (rangeFrom 0 n).filter p ↔ z < n ∧ p z = true := by
  rw [rangeFrom_eq_range', List.mem_filter, List.mem_range'_1]
  simp

/-- The tiles of a node shared among some dies (13 R322). -/
def sharesOf (tiles : Nat) (dies : List Nat) : List (Nat × Nat × Nat) :=
  (dies.zip (rangeFrom 0 dies.length)).map fun (d, k) => (d, k * tiles / dies.length, (k + 1) * tiles / dies.length)

theorem sharesOf_getElem {tiles k d : Nat} {dies : List Nat} {r : Nat × Nat × Nat} (hd : dies[k]? = some d)
    (hr : (sharesOf tiles dies)[k]? = some r) : r = (d, k * tiles / dies.length, (k + 1) * tiles / dies.length) := by
  have hk := (List.getElem?_eq_some_iff.mp hd).1
  have hz : (dies.zip (rangeFrom 0 dies.length))[k]? = some (d, k) := by
    rw [List.getElem?_zip_eq_some, rangeFrom_eq_range']
    exact ⟨hd, by rw [List.getElem?_range' hk, Nat.zero_add, Nat.one_mul]⟩
  rw [sharesOf, List.getElem?_map, hz, Option.map_some] at hr
  exact (Option.some.inj hr).symm

theorem length_sharesOf (tiles : Nat) (dies : List Nat) : (sharesOf tiles dies).length = dies.length := by
  rw [sharesOf, List.length_map, List.length_zip, rangeFrom_eq_range', List.length_range', Nat.min_self]

/-- A node under a group. -/
def Node.inGroup (y : Node) (team : Option Nat) (dies : List Nat) : Node :=
  { y with team := team, shares := sharesOf y.tiles dies, ranges := sharesOf y.tiles dies }

/-- The team and the die with most room for a node's tiles, the lowest of several (13 R321). -/
def State.bestTeam (s : State) (ctx : Nat) (h : Header) : Nat :=
  greatestOf (fun t => s.countFree ctx h (teamSlots t)) ((rangeFrom 0 20).filter fun t => s.diePresent (t / 5)) 0
def State.bestDie (s : State) (ctx : Nat) (h : Header) : Nat := greatestOf (fun d => s.countFree ctx h (dieSlots d)) s.dies_ 0

section
variable (s : State) (ctx : Nat) (y : Node)

theorem State.formGroup_team (h : y.memb = 0) : s.formGroup ctx y = y.inGroup (some (s.bestTeam ctx y.header)) [s.bestTeam ctx y.header / 5] := by
  rw [State.formGroup, if_pos h]
  rfl

theorem State.formGroup_die (h : y.memb = 1) : s.formGroup ctx y = y.inGroup none [s.bestDie ctx y.header] := by
  rw [State.formGroup, h]
  rfl

theorem State.formGroup_package (h0 : y.memb ≠ 0) (h1 : y.memb ≠ 1) : s.formGroup ctx y = y.inGroup none s.dies_ := by
  rw [State.formGroup, if_neg h0, if_neg h1]
  rfl

variable (hdie : ∃ d < 4, s.diePresent d = true)
include hdie

theorem State.bestTeam_spec (h : Header) : (s.bestTeam ctx h < 20 ∧ s.diePresent (s.bestTeam ctx h / 5) = true)
    ∧ ∀ z, z < 20 ∧ s.diePresent (z / 5) = true →
      s.countFree ctx h (teamSlots z) < s.countFree ctx h (teamSlots (s.bestTeam ctx h))
      ∨ s.countFree ctx h (teamSlots z) = s.countFree ctx h (teamSlots (s.bestTeam ctx h)) ∧ s.bestTeam ctx h ≤ z := by
  obtain ⟨d, hd, hp⟩ := hdie
  have hmem : 5 * d ∈ (rangeFrom 0 20).filter fun t => s.diePresent (t / 5) :=
    mem_rangeFrom_filter.mpr ⟨by omega, by rwa [Nat.mul_div_cancel_left _ (by decide)]⟩
  obtain ⟨hbest, hall⟩ := greatestOf_spec (fun t => s.countFree ctx h (teamSlots t)) (pairwise_rangeFrom_filter 20 fun t => s.diePresent (t / 5))
    (List.ne_nil_of_mem hmem) 0
  exact ⟨mem_rangeFrom_filter.mp hbest, fun z hz => hall z (mem_rangeFrom_filter.mpr hz)⟩

theorem State.bestDie_spec (h : Header) : (s.bestDie ctx h < 4 ∧ s.diePresent (s.bestDie ctx h) = true)
    ∧ ∀ z, z < 4 ∧ s.diePresent z = true →
      s.countFree ctx h (dieSlots z) < s.countFree ctx h (dieSlots (s.bestDie ctx h))
      ∨ s.countFree ctx h (dieSlots z) = s.countFree ctx h (dieSlots (s.bestDie ctx h)) ∧ s.bestDie ctx h ≤ z := by
  obtain ⟨d, hd, hp⟩ := hdie
  obtain ⟨hbest, hall⟩ := greatestOf_spec (fun d => s.countFree ctx h (dieSlots d)) (pairwise_rangeFrom_filter 4 s.diePresent)
    (List.ne_nil_of_mem (mem_rangeFrom_filter.mpr ⟨hd, hp⟩)) 0
  exact ⟨mem_rangeFrom_filter.mp hbest, fun z hz => hall z (mem_rangeFrom_filter.mpr hz)⟩

/-- The group of a node and the shares of its dies (13 R321, R322). -/
theorem State.formGroup_grouped : s.grouped ctx y (s.formGroup ctx y) := by
  have hmemb : y.raw.toNat / 2 ^ 40 % 4 = y.memb := (field_eq _ (by rfl : 41 - 40 + 1 = 2)).symm
  rw [State.grouped, hmemb]
  by_cases h0 : y.memb = 0
  · obtain ⟨⟨hlt, hp⟩, hall⟩ := s.bestTeam_spec ctx hdie y.header
    rw [s.formGroup_team ctx y h0]
    refine ⟨_, [s.bestTeam ctx y.header / 5], _, rfl, length_sharesOf .., fun _ _ _ => sharesOf_getElem, fun _ => ⟨_, rfl, hlt, rfl, hp, fun z hz hpz => ?_⟩, fun h => ?_, fun h => ?_⟩
    · have := hall z ⟨hz, hpz⟩
      simp only [teamSlots, s.countFree_eq] at this
      exact this
    · exact absurd (h0.symm.trans h) (by decide)
    · exact absurd h (by rw [h0]; decide)
  by_cases h1 : y.memb = 1
  · obtain ⟨⟨hlt, hp⟩, hall⟩ := s.bestDie_spec ctx hdie y.header
    rw [s.formGroup_die ctx y h1]
    refine ⟨_, [s.bestDie ctx y.header], _, rfl, length_sharesOf .., fun _ _ _ => sharesOf_getElem, fun h => absurd h h0, fun _ => ⟨_, rfl, hlt, rfl, hp, fun z hz hpz => ?_⟩, fun h => ?_⟩
    · have := hall z ⟨hz, hpz⟩
      simp only [dieSlots, s.countFree_eq] at this
      exact this
    · exact absurd h (by rw [h1]; decide)
  · have hall : s.dies_ = (List.range 4).filter s.diePresent := by
      rw [State.dies_, rangeFrom_eq_range', List.range_eq_range']
    rw [s.formGroup_package ctx y h0 h1]
    exact ⟨_, s.dies_, _, rfl, length_sharesOf .., fun _ _ _ => sharesOf_getElem, fun h => absurd h h0, fun h => absurd h h1, fun _ => ⟨rfl, hall⟩⟩

end


/-! ### Kernel nodes (04 R92, R93; 12 R294; 13 R317) -/

theorem Header.tileCount_eq (h : Header) : h.tileCount = (h.levels.map (·.1)).prod := by
  rw [Header.tileCount, List.prod_eq_foldl]

theorem nodeArg_eq_argOf (r i : Nat) : nodeArg r i = argOf r i := field_eq r (by omega)

theorem State.nodeLevel_eq (s : State) (r : Nat) : s.nodeLevel r = s.levelFor r := by
  have hn : field (argOf r 1) 50 48 = argOf r 1 / 2 ^ 48 % 8 := field_eq _ (by rfl : 50 - 48 + 1 = 3)
  have hslot (i : Nat) : field (argOf r 1) (12 * i + 11) (12 * i) = argOf r 1 / 2 ^ (12 * i) % 2 ^ 12 := field_eq _ (by omega)
  rw [State.nodeLevel, State.levelFor]
  simp only [nodeArg_eq_argOf, hn, hslot, rangeFrom_eq_range', List.range_eq_range']

/-- The kernel entry that may serve a node is the first of its tag and base that is not stale (04 R93). -/
theorem State.kernelFor_some {s : State} {tag : BitVec 18} {base id : Nat} {e : KEntry} {before after : List (Nat × KEntry)}
    (hk : s.hub.spool.kernels = before ++ (id, e) :: after)
    (hbefore : ∀ p ∈ before, ¬ (p.2.tag = tag ∧ p.2.base = base ∧ p.2.stale = false)) (he : e.tag = tag ∧ e.base = base ∧ e.stale = false) :
    s.kernelFor tag base = some (id, e) := by
  obtain ⟨h1, h2, h3⟩ := he
  rw [State.kernelFor, hk, List.find?_append, List.find?_eq_none.mpr (fun p hp => by simpa [and_assoc] using hbefore p hp), Option.none_or,
    List.find?_cons_of_pos (by simp [h1, h2, h3])]

theorem State.kernelFor_none {s : State} {tag : BitVec 18} {base : Nat}
    (h : ∀ p ∈ s.hub.spool.kernels, ¬ (p.2.tag = tag ∧ p.2.base = base ∧ p.2.stale = false)) : s.kernelFor tag base = none :=
  List.find?_eq_none.mpr fun p hp => by simpa [and_assoc] using h p hp

/-- A queue takes a reservation of some entries. -/
def State.opens (s : State) (d : Nat × Nat) : Prop :=
  (s.queue d.1).phase = .active ∧ (s.queue d.1).commit.toNat + d.2 ≤ 2 ^ (s.queue d.1).log2sz.toNat

theorem State.refuses_iff (s : State) (d : Nat × Nat) :
    ((s.queue d.1).phase != .active || decide ((s.queue d.1).size < (s.queue d.1).commit.toNat + d.2)) = true ↔ ¬ s.opens d := by
  rw [Bool.or_eq_true, bne_iff_ne, decide_eq_true_eq, State.opens, not_and_or, Nat.not_le]
  rfl

theorem State.refusing_none {s : State} {decls : List (Nat × Nat)} (h : ∀ d ∈ decls, s.opens d) : s.refusing decls = none := by
  rw [State.refusing, Option.map_eq_none_iff, List.find?_eq_none]
  exact fun d hd hr => (s.refuses_iff d).mp hr (h d hd)

theorem State.refusing_some {s : State} {early late : List (Nat × Nat)} {d : Nat × Nat} (he : ∀ c ∈ early, s.opens c) (hd : ¬ s.opens d) :
    s.refusing (early ++ d :: late) = some d.1 := by
  rw [State.refusing, List.find?_append, List.find?_eq_none.mpr (fun c hc hr => (s.refuses_iff c).mp hr (he c hc)), Option.none_or,
    List.find?_cons_of_pos (by exact (s.refuses_iff d).mpr hd), Option.map_some]

/-- A queue with the reservation of a node. -/
def WorkQueue.reserved (x : WorkQueue) (g n entries : Nat) : WorkQueue :=
  { x with commit := x.commit + BitVec.ofNat 17 entries
           resv := x.resv.filter (fun r => !(r.graph == g && r.node == n)) ++ [⟨g, n, entries, 0⟩] }

/-- Reserving changes the queues that are declared, each once. -/
theorem State.reserve_eq (s : State) (g n : Nat) (decls : List (Nat × Nat)) (hnodup : (decls.map (·.1)).Nodup) :
    ∃ qs, s.reserve g n decls = s.modHub (fun h => { h with queues := qs })
    ∧ (∀ d ∈ decls, Tab.get WorkQueue.reset qs d.1 = (s.queue d.1).reserved g n d.2)
    ∧ ∀ q, (∀ d ∈ decls, d.1 ≠ q) → Tab.get WorkQueue.reset qs q = s.queue q := by
  induction decls generalizing s with
  | nil => exact ⟨s.hub.queues, rfl, nofun, fun _ _ => rfl⟩
  | cons d decls ih =>
    obtain ⟨hd, hrest⟩ := List.nodup_cons.mp hnodup
    have hne (c : Nat × Nat) (hc : c ∈ decls) : c.1 ≠ d.1 := fun h => hd (List.mem_map.mpr ⟨c, hc, h⟩)
    obtain ⟨qs, hqs, hin, hout⟩ := ih (s.modQueue d.1 (·.reserved g n d.2)) hrest
    refine ⟨qs, hqs, fun c hc => ?_, fun q hq => ?_⟩
    · rcases List.mem_cons.mp hc with rfl | hc
      · rw [hout c.1 hne, State.queue_modQueue_same]
      · rw [hin c hc, State.queue_modQueue_other _ _ _ _ (hne c hc)]
    · rw [hout q fun c hc => hq c (List.mem_cons_of_mem _ hc), State.queue_modQueue_other _ _ _ _ (hq d List.mem_cons_self).symm]

/-- The node as its dispatch begins (11 R286; 13 R321). -/
def State.beginning (s : State) (y : Node) (id : Nat) (e : KEntry) : Node :=
  s.formGroup (ctxOf e.tag) { y with
    kentry := id, header := e.header, phase := .dispatching, tiles := e.header.tileCount, level := s.nodeLevel y.raw.toNat
    epoch := (s.ctx (ctxOf e.tag)).epoch.toNat }

theorem State.beginning_begun (s : State) (y : Node) (id : Nat) (e : KEntry) (hdie : ∃ d < 4, s.diePresent d = true) : s.begun y id e (s.beginning y id e) := by
  rw [State.begun, State.beginning, ← Header.tileCount_eq, ← State.nodeLevel_eq]
  exact s.formGroup_grouped _ _ hdie

section
variable {s : State} {g n id : Nat} {x : Graph} {y : Node} {e : KEntry} (hg : s.graph g = some x) (hn : x.nodes[n]? = some y)
include hg hn

/-- A kernel node whose queues all take its reservations begins to dispatch. -/
theorem State.beginKernel_reserves (ht : y.tiles = 0) (hc : e.header.tileCount ≠ 0) (ho : ∀ d ∈ e.header.qdecl, s.opens d)
    (hnodup : (e.header.qdecl.map (·.1)).Nodup) : ∃ qs, s.beginKernel g n id e
      = (s.modHub fun h => { h with queues := qs }).putGraph g { x with nodes := x.nodes.set n (s.beginning y id e) }
    ∧ (∀ d ∈ e.header.qdecl, Tab.get WorkQueue.reset qs d.1 = (s.queue d.1).reserved g n d.2)
    ∧ ∀ q, (∀ d ∈ e.header.qdecl, d.1 ≠ q) → Tab.get WorkQueue.reset qs q = s.queue q := by
  obtain ⟨x₁, hx₁⟩ : ∃ x₁, x₁ = ({ x with nodes := x.nodes.set n { y with kentry := id, header := e.header } } : Graph) := ⟨_, rfl⟩
  obtain ⟨qs, hqs, hin, hout⟩ := (s.putGraph g x₁).reserve_eq g n e.header.qdecl hnodup
  refine ⟨qs, ?_, hin, hout⟩
  have hrefusing : (s.putGraph g x₁).refusing e.header.qdecl = none := State.refusing_none ho
  obtain ⟨hlt, -⟩ := List.getElem?_eq_some_iff.mp hn
  have hn₁ : x₁.nodes[n]? = some { y with kentry := id, header := e.header } := by
    rw [hx₁]
    exact List.getElem?_set_self hlt
  rw [State.beginKernel, State.nodeAt_eq hg, hn, State.modNode_eq hg hn, ← hx₁]
  simp only [ht, ne_eq, not_true_eq_false, if_false, hc, hrefusing]
  rw [hqs, State.modNode_eq (by exact s.graph_putGraph_same g x₁) hn₁]
  have hset : ({ x₁ with nodes := x₁.nodes.set n (s.beginning y id e) } : Graph) = { x with nodes := x.nodes.set n (s.beginning y id e) } := by
    rw [hx₁]
    simp only [List.set_set]
  rw [← hset]
  exact State.putGraph_putGraph (s.modHub fun h => { h with queues := qs }) g _ _

/-- A queue that refuses fails the node, and counts the refusal. -/
theorem State.beginKernel_refused (ht : y.tiles = 0) (hc : e.header.tileCount ≠ 0) {early late : List (Nat × Nat)} {d : Nat × Nat}
    (hd : e.header.qdecl = early ++ d :: late) (hearly : ∀ c ∈ early, s.opens c) (hr : ¬ s.opens d) :
    s.NodeFails (s.beginKernel g n id e) g n 0x0C d.1 0
    ∧ ((s.beginKernel g n id e).queue d.1).refused = satAdd32 (s.queue d.1).refused 1 := by
  obtain ⟨x₁, hx₁⟩ : ∃ x₁, x₁ = ({ x with nodes := x.nodes.set n { y with kentry := id, header := e.header } } : Graph) := ⟨_, rfl⟩
  obtain ⟨v, hv⟩ : ∃ v, v = (s.putGraph g x₁).refuseQueue d.1 := ⟨_, rfl⟩
  have hrefusing : (s.putGraph g x₁).refusing e.header.qdecl = some d.1 := by
    rw [hd]
    exact State.refusing_some (s := s.putGraph g x₁) hearly hr
  obtain ⟨hlt, -⟩ := List.getElem?_eq_some_iff.mp hn
  have hn₁ : x₁.nodes[n]? = some { y with kentry := id, header := e.header } := by
    rw [hx₁]
    exact List.getElem?_set_self hlt
  have hbegin : s.beginKernel g n id e = v.nodeFault g n fQUEUEFULL (fullStatus d.1 0) 0 := by
    rw [State.beginKernel, State.nodeAt_eq hg, hn, State.modNode_eq hg hn, ← hx₁]
    simp only [ht, ne_eq, not_true_eq_false, if_false, hc, hrefusing]
    rw [hv]
  have hstep : State.GraphStep g x₁ s v := by
    rw [hv]
    exact (State.GraphStep.putGraph s g x₁).trans (.of_eq (s.graph_putGraph_same g x₁) rfl rfl rfl rfl)
  have hstatus : fullStatus d.1 0 = d.1 := by rw [fullStatus, Nat.zero_mul, Nat.add_zero]
  rw [hbegin, State.nodeFault_refused hstep.graph hn₁, hstatus]
  refine ⟨State.nodeFault_fails hg hstep (by rw [hx₁]; exact ⟨rfl, rfl, rfl⟩) (by rw [hv]; rfl) (by rw [hv]; rfl) hn₁ _ _ _, ?_⟩
  rw [hv, State.refuseQueue, State.queue_modQueue_same, State.putGraph_queue]

/-! The dispatch and the validation of a kernel node. -/

variable (hcur : s.cur = g)
include hcur

theorem exec_kernelNodeDispatch_known (h : s.takes g n 1 x y) (hk : s.kernelFor x.tag (argOf y.raw.toNat 0) = some (id, e)) :
    exec (.kernelNodeDispatch n) s = .next (s.beginKernel g n id e) := by
  change execKernelNodeDispatch n s = _
  rw [execKernelNodeDispatch]
  simp only [hcur, (State.canTake_iff hg hn).mpr h, Bool.true_eq_false, if_false, State.nodeAt_eq hg, hn, State.graphTag_eq hg,
    nodeArg_eq_argOf, hk]

theorem exec_kernelNodeDispatch_unknown (h : s.takes g n 1 x y) (hk : s.kernelFor x.tag (argOf y.raw.toNat 0) = none) :
    exec (.kernelNodeDispatch n) s = .next (s.nodeSet g n { y with phase := .validating }) := by
  change execKernelNodeDispatch n s = _
  rw [execKernelNodeDispatch]
  simp only [hcur, (State.canTake_iff hg hn).mpr h, Bool.true_eq_false, if_false, State.nodeAt_eq hg, hn, State.graphTag_eq hg,
    nodeArg_eq_argOf, hk, State.modNode_eq_nodeSet hg hn]

/-- A kernel node begins to dispatch under a kernel entry, or a queue refuses it. -/
theorem kernelNodeDispatch_begins (h : s.takes g n 1 x y) (hk : s.kernelFor x.tag (argOf y.raw.toNat 0) = some (id, e)) (ht : y.tiles = 0)
    (hc : (e.header.levels.map (·.1)).prod ≠ 0) (hdie : ∃ d < 4, s.diePresent d = true) :
    ((∀ d ∈ e.header.qdecl, s.opens d) → (e.header.qdecl.map (·.1)).Nodup → ∃ u, exec (.kernelNodeDispatch n) s = .next u
        ∧ (∃ z, u.graph g = some { x with nodes := x.nodes.set n z } ∧ s.begun y id e z) ∧ u.slots = s.slots ∧ u.mem = s.mem
        ∧ (∀ d ∈ e.header.qdecl, u.queue d.1 = { s.queue d.1 with
            commit := (s.queue d.1).commit + BitVec.ofNat 17 d.2
            resv := (s.queue d.1).resv.filter (fun r => !(r.graph == g && r.node == n)) ++ [⟨g, n, d.2, 0⟩] })
        ∧ ∀ q, (∀ d ∈ e.header.qdecl, d.1 ≠ q) → u.queue q = s.queue q)
    ∧ ∀ (early late : List (Nat × Nat)) (d : Nat × Nat), e.header.qdecl = early ++ d :: late → (∀ c ∈ early, s.opens c) → ¬ s.opens d →
        ∃ u, exec (.kernelNodeDispatch n) s = .next u ∧ s.NodeFails u g n 0x0C d.1 0
          ∧ (u.queue d.1).refused = BitVec.ofNat 32 (min (2 ^ 32 - 1) ((s.queue d.1).refused.toNat + 1)) := by
  rw [exec_kernelNodeDispatch_known hg hn hcur h hk]
  rw [← Header.tileCount_eq] at hc
  refine ⟨fun ho hnodup => ?_, fun early late d hd he hr => ⟨_, rfl, State.beginKernel_refused hg hn ht hc hd he hr⟩⟩
  obtain ⟨qs, hbegin, hin, hout⟩ := State.beginKernel_reserves (id := id) hg hn ht hc ho hnodup
  rw [hbegin]
  exact ⟨_, rfl, ⟨_, State.graph_putGraph_same .., s.beginning_begun y id e hdie⟩, rfl, rfl, hin, hout⟩

/-- The state in which a node's header is checked: it no longer waits for an entry. -/
theorem exec_kernelValidation (hy : y.phase = .validating) {pa : Nat} (hk : s.kernelFor x.tag (argOf y.raw.toNat 0) = none)
    (hlen : s.hub.spool.kernels.length < 1024) (hwait : s.hub.spool.waiting = [] ∨ s.hub.spool.waiting.head? = some (g, n))
    (hpage : s.hubPage x.tag .read (argOf y.raw.toNat 0) 256 pa) :
    let bound (q : Nat) : Bool := (s.queue q).phase != .unbound && (s.queue q).ctx.toNat == x.tag.toNat / 64
    (∀ b, kernelHeaderBad (s.number pa 256) bound = some b →
      exec (.kernelValidation n) s = .next ((s.stopsWaiting g n).nodeFault g n fILLEGAL 0 (argOf y.raw.toNat 0 + b)))
    ∧ (kernelHeaderBad (s.number pa 256) bound = none →
      let e : KEntry := { id := 0, base := argOf y.raw.toNat 0, tag := x.tag, header := Header.ofNat (s.number pa 256), count := 0,
                          stale := false, used := 0 }
      exec (.kernelValidation n) s = .next (((s.stopsWaiting g n).addKernel e).2.beginKernel g n s.hub.spool.nextId e)) := by
  have hroom : s.kernelRoom = true := by rw [State.kernelRoom, decide_eq_true hlen, Bool.true_or]
  have hhead : s.hub.spool.waiting.headD (g, n) = (g, n) := by
    rcases hwait with h | h
    · rw [h]
      rfl
    · rw [List.headD_eq_head?_getD, h]
      rfl
  have hread := State.hubRead_hubPage hpage
  intro bound
  have hbound : (fun q => ((s.stopsWaiting g n).queue q).phase != .unbound && ((s.stopsWaiting g n).queue q).ctx.toNat == ctxOf x.tag) = bound := rfl
  rw [show exec (.kernelValidation n) s = execKernelValidation n s from rfl, execKernelValidation]
  simp only [hcur, State.nodeAt_eq hg, hn, State.graphTag_eq hg, nodeArg_eq_argOf, hy, ne_eq, not_true_eq_false, if_false, hk, hroom, hhead,
    Bool.true_eq_false, or_self, hread, s.ofBytes_readN, hbound]
  exact ⟨fun b hb => by rw [hb], fun hb => by rw [hb]; rfl⟩

/-- A kernel node whose header is read: it fails at the first failing byte, or begins under a new entry. -/
theorem kernelValidation_ends (hy : y.phase = .validating) (pa : Nat)
    (hk : ∀ p ∈ s.hub.spool.kernels, ¬ (p.2.tag = x.tag ∧ p.2.base = argOf y.raw.toNat 0 ∧ p.2.stale = false))
    (hlen : s.hub.spool.kernels.length < 1024) (hwait : s.hub.spool.waiting = [] ∨ s.hub.spool.waiting.head? = some (g, n))
    (hpage : s.hubPage x.tag .read (argOf y.raw.toNat 0) 256 pa) :
    let base := argOf y.raw.toNat 0
    let h := s.number pa 256
    let bound (q : Nat) : Bool := (s.queue q).phase != .unbound && (s.queue q).ctx.toNat == x.tag.toNat / 64
    (∀ b, kernelHeaderBad h bound = some b → ∃ u, exec (.kernelValidation n) s = .next u ∧ s.NodeFails u g n 0x01 0 (base + b))
    ∧ (kernelHeaderBad h bound = none → y.tiles = 0 → (Header.ofNat h).qdecl = [] → (Header.ofNat h).tileCount ≠ 0 →
        (∃ d < 4, s.diePresent d = true) →
        let id := s.hub.spool.nextId
        let e : KEntry := { id := 0, base := base, tag := x.tag, header := Header.ofNat h, count := 0, stale := false,
                            used := s.hub.spool.dispatches }
        ∃ u, exec (.kernelValidation n) s = .next u ∧ u.hub.spool.kernels = s.hub.spool.kernels.put id e ∧ u.hub.spool.nextId = id + 1
          ∧ (∀ p ∈ u.hub.spool.waiting, p ≠ (g, n)) ∧ (∃ z, u.graph g = some { x with nodes := x.nodes.set n z } ∧ s.begun y id e z)
          ∧ u.slots = s.slots ∧ u.mem = s.mem) := by
  intro base h bound
  obtain ⟨hbad, hgood⟩ := exec_kernelValidation hg hn hcur hy (State.kernelFor_none hk) hlen hwait hpage
  refine ⟨fun b hb => ⟨_, hbad b hb, ?_⟩, fun hb ht hq hc hdie => ?_⟩
  · exact State.nodeFault_fails hg (v := s.stopsWaiting g n) ⟨hg, fun _ _ => rfl, rfl, rfl, rfl, fun _ => rfl⟩ ⟨rfl, rfl, rfl⟩ rfl rfl hn _ _ _
  intro id e
  obtain ⟨v, hv⟩ : ∃ v, v = ((s.stopsWaiting g n).addKernel { e with used := 0 }).2 := ⟨_, rfl⟩
  have hkernels : v.hub.spool.kernels = s.hub.spool.kernels.put id e := by
    rw [hv]
    exact congrArg (fun ks => Tab.put ks id e) (if_pos hlen)
  have hvg : v.graph g = some x := by rw [hv]; exact hg
  obtain ⟨qs, hbegin, -⟩ := State.beginKernel_reserves (s := v) (id := id) (e := { e with used := 0 }) hvg hn ht hc
    (fun d hd => absurd hd (by rw [hq]; exact List.not_mem_nil)) (by rw [hq]; exact List.nodup_nil)
  have hexec : exec (.kernelValidation n) s = .next (v.beginKernel g n id { e with used := 0 }) := by
    rw [hv]
    exact hgood hb
  have hsame : v.beginning y id { e with used := 0 } = s.beginning y id e := by
    rw [hv]
    rfl
  rw [hbegin, hsame] at hexec
  obtain ⟨hnext, hwaiting, hslots, hmem⟩ : v.hub.spool.nextId = s.hub.spool.nextId + 1
      ∧ v.hub.spool.waiting = s.hub.spool.waiting.filter (· != (g, n)) ∧ v.slots = s.slots ∧ v.mem = s.mem := by
    rw [hv]
    exact ⟨rfl, rfl, rfl, rfl⟩
  obtain ⟨z, hz⟩ : ∃ z, z = s.beginning y id e := ⟨_, rfl⟩
  rw [← hz] at hexec
  refine ⟨_, hexec, hkernels, hnext, fun p hp => ?_, ⟨z, State.graph_putGraph_same .., hz ▸ s.beginning_begun y id e hdie⟩, hslots, hmem⟩
  have hw : p ∈ v.hub.spool.waiting := hp
  rw [hwaiting] at hw
  exact bne_iff_ne.mp (List.mem_filter.mp hw).2

end


/-! ### The dimension-mapping word (08 R233-R235) -/

/-- A number below a power of 64 is 0 where each of its digits is. -/
theorem eq_zero_iff_digits {n x : Nat} (h : x < 64 ^ n) : x = 0 ↔ ∀ j < n, x / 64 ^ j % 64 = 0 := by
  induction n generalizing x with
  | zero =>
    rw [pow_zero, Nat.lt_one_iff] at h
    simp [h]
  | succ n ih =>
    have hx : x / 64 < 64 ^ n := Nat.div_lt_of_lt_mul (by rwa [pow_succ, Nat.mul_comm] at h)
    rw [Nat.forall_lt_succ_left, pow_zero, Nat.div_one]
    have hdigit (j : Nat) : x / 64 ^ (j + 1) % 64 = x / 64 / 64 ^ j % 64 := by rw [Nat.div_div_eq_div_mul, pow_succ, Nat.mul_comm]
    simp only [hdigit, ← ih hx]
    omega

/-- A part of the low bits of a number is that part of the number. -/
theorem mod_div_mod_pow {x a b c : Nat} (h : b + c ≤ a) : x % 2 ^ a / 2 ^ b % 2 ^ c = x / 2 ^ b % 2 ^ c := by
  rw [show 2 ^ a = 2 ^ b * 2 ^ (a - b) by rw [← pow_add, Nat.add_sub_of_le (by omega)], Nat.mod_mul_right_div_self,
    Nat.mod_mod_of_dvd _ (Nat.pow_dvd_pow 2 (by omega))]

theorem length_filter_or {α : Type} (l : List α) (p q : α → Bool) (h : ∀ x ∈ l, ¬ (p x = true ∧ q x = true)) :
    (l.filter fun x => p x || q x).length = (l.filter p).length + (l.filter q).length := by
  induction l with
  | nil => rfl
  | cons x l ih =>
    have hx := h x List.mem_cons_self
    have hl := ih fun y hy => h y (List.mem_cons_of_mem _ hy)
    cases hp : p x <;> cases hq : q x <;> simp_all <;> omega

section
variable (g : Nat)

theorem dmwOp_eq (j : Nat) : dmwOp g j = g / 2 ^ (6 * j + 9) % 8 := field_eq g (by omega : 6 * j + 11 - (6 * j + 9) + 1 = 3)
theorem dmwAxis_eq (j : Nat) : dmwAxis g j = g / 2 ^ (6 * j + 6) % 8 := field_eq g (by omega : 6 * j + 8 - (6 * j + 6) + 1 = 3)
theorem dmwSlots_eq : dmwSlots g = g / 2 ^ 3 % 8 + 1 := congrArg (· + 1) (field_eq g (by rfl : 5 - 3 + 1 = 3))
theorem dmwRank_eq : dmwRank g = g % 8 + 1 := by rw [dmwRank, field_eq g (by rfl : 2 - 0 + 1 = 3), pow_zero, Nat.div_one]; rfl

/-- How many slots of the word meet a test on their operation and axis. -/
def dmwMeeting (p : Nat → Nat → Bool) : Nat := ((List.range (dmwSlots g)).filter fun j => p (dmwOp g j) (dmwAxis g j)).length

theorem dmwCount_eq (o a : Nat) : dmwCount g o a = dmwMeeting g fun op ax => op == o && ax == a := by
  rw [dmwCount, dmwMeeting, dmwList, rangeFrom_eq_range', ← List.range_eq_range', List.filter_map, List.length_map]
  rfl

theorem dmwMeeting_or (p q : Nat → Nat → Bool) (h : ∀ op ax, ¬ (p op ax = true ∧ q op ax = true)) :
    dmwMeeting g (fun op ax => p op ax || q op ax) = dmwMeeting g p + dmwMeeting g q := length_filter_or _ _ _ fun _ _ => h _ _

/-- The slots that a whole axis takes part in. -/
theorem dmwWhole_eq (a : Nat) :
    (dmwCount g 0 a + dmwCount g 4 a + dmwCount g 3 a + if a = 0 then 0 else dmwCount g 3 (a - 1))
      = dmwMeeting g fun op ax => ((op == 0 || op == 4) && ax == a) || (op == 3 && (ax == a || ax + 1 == a)) := by
  have hbelow : (if a = 0 then 0 else dmwCount g 3 (a - 1)) = dmwMeeting g fun op ax => op == 3 && ax + 1 == a := by
    split
    next h =>
      refine (List.length_eq_zero_iff.mpr (List.filter_eq_nil_iff.mpr fun j _ => ?_)).symm
      simp [h]
    next h =>
      rw [dmwCount_eq]
      congr 1
      funext op ax
      rw [Bool.eq_iff_iff]
      simp only [Bool.and_eq_true, beq_iff_eq]
      omega
  rw [hbelow, dmwCount_eq, dmwCount_eq, dmwCount_eq, ← dmwMeeting_or, ← dmwMeeting_or, ← dmwMeeting_or]
  · congr 1
    funext op ax
    cases op == 0 <;> cases op == 4 <;> cases op == 3 <;> cases ax == a <;> cases ax + 1 == a <;> rfl
  all_goals
    intro op ax
    simp only [Bool.and_eq_true, Bool.or_eq_true, beq_iff_eq]
    omega

/-- The slots past the last one of the destination are reserved. -/
theorem dmwReserved_iff : field g 53 6 / 2 ^ (6 * dmwSlots g) = 0 ↔ ∀ j, dmwSlots g ≤ j → j < 8 → dmwOp g j = 0 ∧ dmwAxis g j = 0 := by
  have hslots : dmwSlots g ≤ 8 := by rw [dmwSlots_eq]; omega
  have hlt : field g 53 6 / 2 ^ (6 * dmwSlots g) < 64 ^ (8 - dmwSlots g) := by
    refine Nat.div_lt_of_lt_mul ?_
    rw [show 64 = 2 ^ 6 from rfl, ← pow_mul, ← pow_add, field_eq g (by rfl : 53 - 6 + 1 = 48)]
    exact lt_of_lt_of_le (Nat.mod_lt _ (by positivity)) (Nat.pow_le_pow_right (by decide) (by omega))
  rw [eq_zero_iff_digits hlt]
  have hdigit (j : Nat) (hj : dmwSlots g + j < 8) : field g 53 6 / 2 ^ (6 * dmwSlots g) / 64 ^ j % 64 = 0
      ↔ dmwOp g (dmwSlots g + j) = 0 ∧ dmwAxis g (dmwSlots g + j) = 0 := by
    obtain ⟨m, hm⟩ : ∃ m, m = dmwSlots g + j := ⟨_, rfl⟩
    have hsextet : field g 53 6 / 2 ^ (6 * dmwSlots g) / 64 ^ j % 64 = g / 2 ^ (6 * m + 6) % 64 := by
      rw [field_eq g (by rfl : 53 - 6 + 1 = 48), Nat.div_div_eq_div_mul, show 64 = 2 ^ 6 from rfl, ← pow_mul, ← pow_add, ← Nat.mul_add, ← hm,
        mod_div_mod_pow (by omega), Nat.div_div_eq_div_mul, ← pow_add, Nat.add_comm 6]
    have hhigh : g / 2 ^ (6 * m + 9) = g / 2 ^ (6 * m + 6) / 8 := by
      rw [Nat.div_div_eq_div_mul, show 8 = 2 ^ 3 from rfl, ← pow_add]
    rw [hsextet, ← hm, dmwOp_eq, dmwAxis_eq, hhigh]
    omega
  constructor
  · intro h j hj h8
    obtain ⟨k, rfl⟩ := Nat.exists_eq_add_of_le hj
    exact (hdigit k h8).mp (h k (by omega))
  · intro h j hj
    exact (hdigit j (by omega)).mpr (h _ (by omega) (by omega))

/-- R235's condition on one slot of the destination. -/
def layoutSlot (h : SShape) (sr : Nat) (p : Nat × Nat) : Bool :=
  match p.1 with
  | 3 => decide (p.2 + 1 < sr)
  | 5 => decide (sr ≤ p.2 ∧ p.2 ≤ 5 ∧ 1 ≤ h.ext.getD p.2 0)
  | 6 => false
  | 7 => false
  | _ => decide (p.2 < sr)

theorem layoutSlot_iff (h : SShape) (sr op ax : Nat) (hop : op < 8) : layoutSlot h sr (op, ax) = true ↔
    op < 6 ∧ (op = 3 → ax + 1 < sr) ∧ (op = 5 → sr ≤ ax ∧ ax ≤ 5 ∧ 1 ≤ h.ext.getD ax 0) ∧ (op ≠ 3 → op ≠ 5 → ax < sr) := by
  interval_cases op <;> simp [layoutSlot]

theorem layoutSlots_iff (h : SShape) : (dmwList g).all (layoutSlot h (dmwRank g)) = true ↔ ∀ j, j < dmwSlots g →
    dmwOp g j < 6 ∧ (dmwOp g j = 3 → dmwAxis g j + 1 < dmwRank g)
    ∧ (dmwOp g j = 5 → dmwRank g ≤ dmwAxis g j ∧ dmwAxis g j ≤ 5 ∧ 1 ≤ h.ext.getD (dmwAxis g j) 0)
    ∧ (dmwOp g j ≠ 3 → dmwOp g j ≠ 5 → dmwAxis g j < dmwRank g) := by
  rw [dmwList, rangeFrom_eq_range', ← List.range_eq_range', List.all_map, List.all_eq_true]
  refine forall_congr' fun j => ?_
  rw [List.mem_range, Function.comp_apply, layoutSlot_iff _ _ _ _ (by rw [dmwOp_eq]; exact Nat.mod_lt _ (by decide))]

/-- R235's condition on one axis of the source: it stands whole in one slot, or it is split over two. -/
def layoutNamed (a : Nat) : Bool :=
  let whole := dmwCount g 0 a + dmwCount g 4 a + dmwCount g 3 a + if a = 0 then 0 else dmwCount g 3 (a - 1)
  (whole == 1 && dmwCount g 1 a == 0 && dmwCount g 2 a == 0) || (whole == 0 && dmwCount g 1 a == 1 && dmwCount g 2 a == 1)

/-- How many slots a whole axis takes part in, and in how many its outer and its inner part stands. -/
def dmwWhole (a : Nat) : Nat := dmwMeeting g fun op ax => ((op == 0 || op == 4) && ax == a) || (op == 3 && (ax == a || ax + 1 == a))
def dmwOuter (a : Nat) : Nat := dmwMeeting g fun op ax => op == 1 && ax == a
def dmwInner (a : Nat) : Nat := dmwMeeting g fun op ax => op == 2 && ax == a

theorem layoutNamed_iff (a : Nat) : layoutNamed g a = true ↔
    (dmwWhole g a = 1 ∧ dmwOuter g a = 0 ∧ dmwInner g a = 0) ∨ (dmwWhole g a = 0 ∧ dmwOuter g a = 1 ∧ dmwInner g a = 1) := by
  rw [layoutNamed, dmwWhole_eq, dmwCount_eq, dmwCount_eq, ← dmwWhole, ← dmwOuter, ← dmwInner]
  simp only [Bool.or_eq_true, Bool.and_eq_true, beq_iff_eq, and_assoc]

theorem layoutAxes_iff : (rangeFrom 0 (dmwRank g)).all (layoutNamed g) = true ↔ ∀ a, a < dmwRank g →
    (dmwWhole g a = 1 ∧ dmwOuter g a = 0 ∧ dmwInner g a = 0) ∨ (dmwWhole g a = 0 ∧ dmwOuter g a = 1 ∧ dmwInner g a = 1) := by
  simp only [List.all_eq_true, rangeFrom_eq_range', ← List.range_eq_range', List.mem_range, layoutNamed_iff]

theorem dmwSplits_eq : dmwSplits g = (List.range 8).filter fun a => decide (0 < dmwOuter g a + dmwInner g a) := by
  simp only [dmwSplits, dmwCount_eq, dmwOuter, dmwInner, rangeFrom_eq_range', ← List.range_eq_range']
  rfl

/-- R235's condition on the element format. -/
def layoutFormat (h : SShape) : Bool :=
  match fmtOf h.fmt with
  | some f =>
    (f.width != 6 && f.width != 64)
    && (f.width == 4 * 2 ^ field g 63 62
        || (f.width == 2 && field g 63 62 == 0 && dmwOp g 0 == 0 && dmwAxis g 0 == 0 && h.ext.getD 0 0 % 2 == 0))
  | none => false

theorem layoutFormat_iff (h : SShape) : layoutFormat g h = true ↔ ∃ f, fmtOf h.fmt = some f ∧ f.width ≠ 6 ∧ f.width ≠ 64
    ∧ (f.width = 4 * 2 ^ (g / 2 ^ 62 % 4) ∨ (f.width = 2 ∧ g / 2 ^ 62 % 4 = 0 ∧ dmwOp g 0 = 0 ∧ dmwAxis g 0 = 0 ∧ h.ext.getD 0 0 % 2 = 0)) := by
  have hgran : field g 63 62 = g / 2 ^ 62 % 4 := field_eq g (by rfl : 63 - 62 + 1 = 2)
  rw [layoutFormat, hgran]
  cases hf : fmtOf h.fmt with
  | none => simp
  | some f => simp [and_assoc]

theorem layoutOk_eq (h : SShape) : layoutOk h g = (
    decide (dmwRank g ≤ 6) && field g 53 6 / 2 ^ (6 * dmwSlots g) == 0 && (dmwList g).all (layoutSlot h (dmwRank g))
    && (rangeFrom 0 (dmwRank g)).all (layoutNamed g) && decide ((dmwSplits g).length ≤ 2)
    && (dmwSplits g).all (fun a => h.axis a % dmwFactor g a == 0) && (decide (2 ≤ (dmwSplits g).length) || field g 61 58 == 0)
    && (decide (1 ≤ (dmwSplits g).length) || field g 57 54 == 0) && layoutFormat g h && h.gstr.getD 0 0 == 0) := rfl

theorem layoutMeets_iff (h : SShape) : layoutMeets h g ↔
    dmwRank g ≤ 6 ∧ (∀ j, dmwSlots g ≤ j → j < 8 → dmwOp g j = 0 ∧ dmwAxis g j = 0)
    ∧ (∀ j, j < dmwSlots g → dmwOp g j < 6 ∧ (dmwOp g j = 3 → dmwAxis g j + 1 < dmwRank g)
      ∧ (dmwOp g j = 5 → dmwRank g ≤ dmwAxis g j ∧ dmwAxis g j ≤ 5 ∧ 1 ≤ h.ext.getD (dmwAxis g j) 0)
      ∧ (dmwOp g j ≠ 3 → dmwOp g j ≠ 5 → dmwAxis g j < dmwRank g))
    ∧ (∀ a, a < dmwRank g →
      (dmwWhole g a = 1 ∧ dmwOuter g a = 0 ∧ dmwInner g a = 0) ∨ (dmwWhole g a = 0 ∧ dmwOuter g a = 1 ∧ dmwInner g a = 1))
    ∧ (dmwSplits g).length ≤ 2 ∧ ((dmwSplits g).length < 2 → g / 2 ^ 58 % 16 = 0) ∧ ((dmwSplits g).length < 1 → g / 2 ^ 54 % 16 = 0)
    ∧ h.gstr.getD 0 0 = 0
    ∧ ∃ f, fmtOf h.fmt = some f ∧ f.width ≠ 6 ∧ f.width ≠ 64
      ∧ (f.width = 4 * 2 ^ (g / 2 ^ 62 % 4) ∨ (f.width = 2 ∧ g / 2 ^ 62 % 4 = 0 ∧ dmwOp g 0 = 0 ∧ dmwAxis g 0 = 0 ∧ h.ext.getD 0 0 % 2 = 0))
      ∧ ∀ a ∈ dmwSplits g, (if a = 0 ∧ f.width = 2 then h.ext.getD 0 0 / 2 else h.ext.getD a 0)
          % (if (dmwSplits g).head? = some a then 2 ^ (g / 2 ^ 54 % 16) else 2 ^ (g / 2 ^ 58 % 16)) = 0 := by
  simp only [layoutMeets, dmwSplits_eq, dmwWhole, dmwOuter, dmwInner, dmwMeeting, dmwOp_eq, dmwAxis_eq, dmwSlots_eq, dmwRank_eq]

theorem dmwFactor_eq (a : Nat) : dmwFactor g a = if (dmwSplits g).head? = some a then 2 ^ (g / 2 ^ 54 % 16) else 2 ^ (g / 2 ^ 58 % 16) := by
  rw [dmwFactor, field_eq g (by rfl : 57 - 54 + 1 = 4), field_eq g (by rfl : 61 - 58 + 1 = 4)]
  rfl

theorem layoutOk_iff (h : SShape) : layoutOk h g = true ↔ layoutMeets h g := by
  have hlo : field g 57 54 = g / 2 ^ 54 % 16 := field_eq g (by rfl : 57 - 54 + 1 = 4)
  have hhi : field g 61 58 = g / 2 ^ 58 % 16 := field_eq g (by rfl : 61 - 58 + 1 = 4)
  have hsplit {m x : Nat} : (decide (m ≤ (dmwSplits g).length) || x == 0) = true ↔ ((dmwSplits g).length < m → x = 0) := by
    rw [Bool.or_eq_true, decide_eq_true_eq, beq_iff_eq, ← Nat.not_lt, ← imp_iff_not_or]
  have hdivides {f : Fmt} (hf : fmtOf h.fmt = some f) : (dmwSplits g).all (fun a => h.axis a % dmwFactor g a == 0) = true
      ↔ ∀ a ∈ dmwSplits g, (if a = 0 ∧ f.width = 2 then h.ext.getD 0 0 / 2 else h.ext.getD a 0)
          % (if (dmwSplits g).head? = some a then 2 ^ (g / 2 ^ 54 % 16) else 2 ^ (g / 2 ^ 58 % 16)) = 0 := by
    simp only [List.all_eq_true, beq_iff_eq, dmwFactor_eq, SShape.axis, hf, Option.getD_some]
  rw [layoutOk_eq, layoutMeets_iff]
  simp only [Bool.and_eq_true]
  rw [decide_eq_true_eq, beq_iff_eq, dmwReserved_iff, layoutSlots_iff, layoutAxes_iff, decide_eq_true_eq, hsplit, hsplit, layoutFormat_iff,
    beq_iff_eq, hlo, hhi]
  constructor
  · rintro ⟨⟨⟨⟨⟨⟨⟨⟨⟨hrank, hpast⟩, hslots⟩, haxes⟩, htwo⟩, hdiv⟩, h2⟩, h1⟩, f, hf, h6, h64, hgran⟩, hstr⟩
    exact ⟨hrank, hpast, hslots, haxes, htwo, h2, h1, hstr, f, hf, h6, h64, hgran, (hdivides hf).mp hdiv⟩
  · rintro ⟨hrank, hpast, hslots, haxes, htwo, h2, h1, hstr, f, hf, h6, h64, hgran, hdiv⟩
    exact ⟨⟨⟨⟨⟨⟨⟨⟨⟨hrank, hpast⟩, hslots⟩, haxes⟩, htwo⟩, (hdivides hf).mpr hdiv⟩, h2⟩, h1⟩, f, hf, h6, h64, hgran⟩, hstr⟩

end


/-! ### The checks of a winch command (08 R222, R226-R231, R235; 19 R430) -/

theorem WinchKind.operandsOk_wcopy (h : SShape) (b : Reg) :
    WinchKind.wcopy.operandsOk h b = true ↔ h.ext.getD 5 0 ≤ 1 ∧ (h.count = 0 ∨ h.run ≠ 0) := by
  rw [WinchKind.operandsOk, Bool.and_eq_true, Bool.or_eq_true, decide_eq_true_eq, beq_iff_eq, bne_iff_ne, SShape.count, SShape.copies,
    List.prod_eq_foldl]

/-- The operands and the features that a winch command needs. -/
theorem WinchWord.allowed_iff (w : WinchWord) (s : State) (h : SShape) (b : Reg) :
    w.allowed s h b.toNat ↔ w.kind.operandsOk h b = true ∧ s.winchFeature w.kind ≠ some fILLEGAL := by
  obtain ⟨kind, _, _, _, _⟩ := w
  cases kind
  case wcopy => simp [WinchWord.allowed, State.winchFeature, WinchKind.operandsOk_wcopy]
  case wlayout => simp [WinchWord.allowed, State.winchFeature, WinchKind.operandsOk, layoutOk_iff]
  case wnvme =>
    have hcode : (some fPERMISSION : Option Nat) ≠ some fILLEGAL := by decide
    simp only [WinchWord.allowed, State.winchFeature, WinchKind.operandsOk, decide_eq_true_eq]
    split <;> simp [hcode]
  all_goals simp [WinchWord.allowed, State.winchFeature, WinchKind.operandsOk]

theorem field_top {lo hi : Nat} (b : BitVec (hi + 1)) (h : lo ≤ hi) : field b.toNat hi lo = b.toNat / 2 ^ lo := by
  refine Nat.mod_eq_of_lt (Nat.div_lt_of_lt_mul ?_)
  rw [← pow_add, show lo + (hi - lo + 1) = hi + 1 by omega]
  exact b.isLt

section
variable (c : WCmd)

theorem WCmd.bits_top : c.bits 511 468 = c.block.toNat / 2 ^ 468 := field_top (hi := 511) c.block (by decide)
theorem WCmd.bits_eq {hi lo w : Nat} (h : hi - lo + 1 = w) : c.bits hi lo = c.block.toNat / 2 ^ lo % 2 ^ w := field_eq _ h
theorem WCmd.opa_eq : c.opa = c.block.toNat / 2 ^ 64 % 2 ^ 64 := c.bits_eq (by rfl)
theorem WCmd.opb_eq : c.opb = c.block.toNat / 2 ^ 128 % 2 ^ 64 := c.bits_eq (by rfl)
theorem WCmd.opc_eq : c.opc = c.block.toNat / 2 ^ 192 % 2 ^ 64 := c.bits_eq (by rfl)
theorem WCmd.daddr_eq : c.daddr = c.block.toNat % 2 ^ 56 := by
  rw [WCmd.daddr, c.bits_eq (by rfl : 55 - 0 + 1 = 56), pow_zero, Nat.div_one]

/-- The reserved bits above NLB of WNVME. -/
theorem WCmd.bits_wnvme_high : c.bits 255 225 = c.opc / 2 ^ 33 := by
  rw [c.bits_eq (by rfl : 255 - 225 + 1 = 31), WCmd.opc_eq, show 2 ^ 64 = 2 ^ 33 * 2 ^ 31 by norm_num, Nat.mod_mul_right_div_self,
    Nat.div_div_eq_div_mul, ← pow_add]

theorem WCmd.bits_wnvme_low : c.bits 223 192 = c.opc % 2 ^ 32 := by
  rw [c.bits_eq (by rfl : 223 - 192 + 1 = 32), WCmd.opc_eq, Nat.mod_mod_of_dvd _ (Nat.pow_dvd_pow 2 (by decide))]

variable {c} {w : WinchWord} (hk : c.kind = w.kind)
include hk

theorem WCmd.blockOk_iff : c.blockOk = true ↔ w.blockFits c.block.toNat := by
  have hreserved : c.bits 463 461 = c.block.toNat / 2 ^ 461 % 8 := c.bits_eq (by rfl : 463 - 461 + 1 = 3)
  have haddress : c.bits 63 56 = c.block.toNat / 2 ^ 56 % 256 := c.bits_eq (by rfl : 63 - 56 + 1 = 8)
  rw [WCmd.blockOk, WinchWord.blockFits, c.bits_top, hreserved, haddress, c.bits_eq (by rfl : 447 - 256 + 1 = 192),
    c.bits_wnvme_high, c.bits_wnvme_low, ← c.opa_eq, ← c.opb_eq, ← c.opc_eq, hk]
  cases w.kind
  all_goals simp [and_assoc, -Nat.reducePow]

theorem WCmd.misaligned_eq : c.misaligned = w.skew c.block.toNat c.gb.toNat := by
  rw [WCmd.misaligned, WinchWord.skew, ← c.opa_eq, ← c.daddr_eq, hk]
  cases w.kind
  case woff | wret | wenc =>
    exact (if_congr not_and_or.symm rfl rfl).trans (ite_not ..)
  case wcsum | wdec => exact ite_not ..
  all_goals rfl

end

/-! ### The winch of a command (08 R221) -/

/-- The least of a rising list is its first element of least measure. -/
theorem leastOf_least (f : Nat → Nat) (l : List Nat) (m : Nat) (hl : (m :: l).Pairwise (· ≤ ·)) :
    leastOf f l m ∈ m :: l ∧ ∀ u ∈ m :: l, f (leastOf f l m) ≤ f u ∧ (u < leastOf f l m → f (leastOf f l m) < f u) := by
  induction l generalizing m with
  | nil => exact ⟨List.mem_singleton_self m, fun u hu => by rw [List.mem_singleton.mp hu]; exact ⟨le_refl _, fun h => absurd h (lt_irrefl _)⟩⟩
  | cons x l ih =>
    obtain ⟨hm, hx⟩ := List.pairwise_cons.mp hl
    rw [leastOf]
    by_cases hf : f x < f m
    · rw [if_pos hf]
      obtain ⟨hr, hu⟩ := ih x hx
      refine ⟨List.mem_cons_of_mem _ hr, fun u hum => ?_⟩
      rcases List.mem_cons.mp hum with rfl | hum
      · have := (hu x List.mem_cons_self).1
        exact ⟨by omega, fun _ => by omega⟩
      · exact hu u hum
    · rw [if_neg hf]
      obtain ⟨hr, hu⟩ := ih m (List.pairwise_cons.mpr ⟨fun u h => hm u (List.mem_cons_of_mem _ h), (List.pairwise_cons.mp hx).2⟩)
      refine ⟨?_, fun u hum => ?_⟩
      · rcases List.mem_cons.mp hr with h | h
        · rw [h]
          exact List.mem_cons_self
        · exact List.mem_cons_of_mem _ (List.mem_cons_of_mem _ h)
      · have hleast := hu m List.mem_cons_self
        have hmx := hm x List.mem_cons_self
        rcases List.mem_cons.mp hum with rfl | hum
        · exact hleast
        rcases List.mem_cons.mp hum with rfl | hum
        · exact ⟨by omega, fun hlt => by have := hleast.2 (by omega); omega⟩
        · exact hu u (List.mem_cons_of_mem _ hum)

theorem State.winchFor_picks {s : State} {die sel v : Nat} (h : s.picksWinch die sel v) (hsel : sel < 8) (h6 : sel ≠ 6) :
    s.winchFor die sel = v := by
  obtain ⟨hnamed, hshortest⟩ := h
  rw [State.winchFor]
  split
  next hlt => exact (hnamed hlt).symm
  next hlt =>
    obtain ⟨hv, hleast⟩ := hshortest (by omega)
    obtain ⟨f, hf⟩ : ∃ f : Nat → Nat, f = fun w => (s.winch w).queue.length := ⟨_, rfl⟩
    have hrange : (rangeFrom (6 * die) 6).Pairwise (· ≤ ·) := by
      rw [rangeFrom_eq_range']
      exact List.pairwise_le_range'
    have hmem (u : Nat) : u ∈ 6 * die :: rangeFrom (6 * die) 6 ↔ u / 6 = die := by
      rw [rangeFrom_eq_range', List.mem_cons, List.mem_range'_1]
      omega
    obtain ⟨hr, hmin⟩ := leastOf_least f (rangeFrom (6 * die) 6) (6 * die) (List.pairwise_cons.mpr
      ⟨fun u hu => by rw [rangeFrom_eq_range', List.mem_range'_1] at hu; exact hu.1, hrange⟩)
    rw [hmem] at hr
    rw [← hf]
    have h1 := hleast _ hr
    have h2 := hmin v ((hmem v).mpr hv)
    have hfe (u : Nat) : (s.winch u).queue.length = f u := by rw [hf]
    simp only [hfe] at h1
    omega

theorem winchKindOf_major {m : Nat} {kind : WinchKind} (h : winchKindOf m = some kind) : m = kind.major :=
  (beq_iff_eq.mp (List.find?_some (p := fun k : WinchKind => k.major == m) h)).symm

/-- The winch commands that name a shape. -/
theorem winchKindOf_shaped {m : Nat} {kind : WinchKind} (h : winchKindOf m = some kind) : m ≤ 0x11 ↔ kind = .wcopy ∨ kind = .wlayout := by
  rw [winchKindOf_major h]
  cases kind <;> simp [WinchKind.major]

/-! ### Copy nodes (13 R318) -/

/-- The winch command that a copy node's block makes. -/
def State.copyCmd (s : State) (g n : Nat) (tag : BitVec 18) (kind : WinchKind) (h : SShape) (gb : Reg) (block : BitVec 512) : WCmd :=
  { kind := kind, num := 0, tag := tag, pusher := .node g n, block := block, gb := gb, shape := h
    key := (s.ctx (ctxOf tag)).image.key, step := (s.ctx (ctxOf tag)).image.stepno, cursor := 0, stage := .queued, page := none, landed := 0
    acc := [], fault := none, olds := [], cid := 0, relReq := 0, relCmd := 0 }

/-- A copy node's command goes to its winch, once it is read. -/
def State.pushesCopy (s : State) (g n : Nat) (c : WCmd) (die sel : Nat) : State :=
  if sel = 6 ∨ s.diePresent die = false ∨ c.kind.operandsOk c.shape c.gb = false ∨ s.winchFeature c.kind = some fILLEGAL ∨ c.blockOk = false then
    s.nodeFault g n fILLEGAL 0 0
  else
    match c.misaligned with
    | some a => s.nodeFault g n fALIGN 0 a
    | none =>
      let w := s.winchFor die sel
      if (s.winchFeature c.kind).isSome then s.nodeFault g n fPERMISSION 0 0
      else if 64 ≤ (s.winch w).queue.length then s
      else ((s.pushWinch w c).modNode g n fun y => { y with phase := .issued }).graphBusy g

section
variable {s : State} {g n : Nat} {x : Graph} {y : Node} (hg : s.graph g = some x) (hn : x.nodes[n]? = some y) (hcur : s.cur = g)
include hg hn hcur

theorem exec_copyNodePush (h : s.takes g n 2 x y) {kind : WinchKind} {shape : SShape} {bpa ipa : Nat}
    (hkind : winchKindOf (argOf y.raw.toNat 2 % 64) = some kind) (hblock : s.hubPage x.tag .read (argOf y.raw.toNat 0) 64 bpa)
    (himage : kind = .wcopy ∨ kind = .wlayout →
      s.hubPage x.tag .read (argOf y.raw.toNat 3) 184 ipa ∧ imageShape (s.bytesAt ipa 184) = some shape)
    (hplain : ¬ (kind = .wcopy ∨ kind = .wlayout) → shape = SShape.none) :
    exec (.copyNodePush n) s = .next (s.pushesCopy g n
      (s.copyCmd g n x.tag kind shape (BitVec.ofNat 64 (argOf y.raw.toNat 1)) (BitVec.ofNat 512 (s.number bpa 64)))
      (argOf y.raw.toNat 2 / 2 ^ 12 % 4) (argOf y.raw.toNat 2 / 2 ^ 8 % 8)) := by
  have hread := State.hubRead_hubPage hblock
  have hmajor : field (argOf y.raw.toNat 2) 5 0 = argOf y.raw.toNat 2 % 64 := by
    rw [field_eq _ (by rfl : 5 - 0 + 1 = 6), pow_zero, Nat.div_one]
    rfl
  have hsel : field (argOf y.raw.toNat 2) 10 8 = argOf y.raw.toNat 2 / 2 ^ 8 % 8 := field_eq _ (by rfl : 10 - 8 + 1 = 3)
  have hdie : field (argOf y.raw.toNat 2) 13 12 = argOf y.raw.toNat 2 / 2 ^ 12 % 4 := field_eq _ (by rfl : 13 - 12 + 1 = 2)
  rw [show exec (.copyNodePush n) s = execCopyNodePush n s from rfl, execCopyNodePush]
  by_cases hshaped : kind = .wcopy ∨ kind = .wlayout
  · obtain ⟨hpage, himg⟩ := himage hshaped
    have hread2 := State.hubRead_hubPage hpage
    have hbytes : s.mem.readN ipa 184 = s.bytesAt ipa 184 := Bytes.readN_eq_map ..
    simp only [hcur, (State.canTake_iff hg hn).mpr h, Bool.true_eq_false, if_false, State.nodeAt_eq hg, hn, State.graphTag_eq hg,
      nodeArg_eq_argOf, hmajor, hsel, hdie, hread, s.ofBytes_readN, (winchKindOf_shaped hkind).mpr hshaped, decide_true, if_true, hread2,
      hbytes, himg, hkind]
    rfl
  · have hsmall : ¬ argOf y.raw.toNat 2 % 64 ≤ 0x11 := mt (winchKindOf_shaped hkind).mp hshaped
    simp only [hcur, (State.canTake_iff hg hn).mpr h, Bool.true_eq_false, if_false, State.nodeAt_eq hg, hn, State.graphTag_eq hg,
      nodeArg_eq_argOf, hmajor, hsel, hdie, hread, s.ofBytes_readN, hsmall, decide_false, hkind, hplain hshaped]
    rfl

omit hg hn hcur in
theorem State.winchFeature_none {kind : WinchKind} (h : s.winchFeature kind ≠ some fILLEGAL)
    (hdrive : kind = .wnvme → s.hub.dev.agreed.getLsbD 5 = true) : s.winchFeature kind = none := by
  cases kind
  case woff | wret =>
    rw [State.winchFeature]
    exact if_pos (by_contra fun hf => h (if_neg hf))
  case wnvme => exact if_pos (hdrive rfl)
  all_goals rfl

/-- What a copy node's command comes to (13 R318): ILLEGAL, ALIGN, or a place at the end of the queue of its winch. -/
theorem copyNodePush_ends (h : s.takes g n 2 x y) (kind : WinchKind) (shape : SShape) (bpa ipa v : Nat) :
    let r := y.raw.toNat
    let sel := argOf r 2 / 2 ^ 8 % 8
    let die := argOf r 2 / 2 ^ 12 % 4
    let gb : Reg := BitVec.ofNat 64 (argOf r 1)
    let w : WinchWord := ⟨kind, 0, 0, none, BitVec.ofNat 3 sel⟩
    let shaped := kind = .wcopy ∨ kind = .wlayout
    winchKindOf (argOf r 2 % 64) = some kind → s.hubPage x.tag .read (argOf r 0) 64 bpa →
    (shaped → s.hubPage x.tag .read (argOf r 3) 184 ipa ∧ imageShape (s.bytesAt ipa 184) = some shape) → (¬ shaped → shape = SShape.none) →
    let k := s.number bpa 64
    (sel = 6 ∨ s.diePresent die = false ∨ ¬ w.allowed s shape gb.toNat ∨ ¬ w.blockFits k →
      ∃ u, exec (.copyNodePush n) s = .next u ∧ s.NodeFails u g n 0x01 0 0)
    ∧ (sel ≠ 6 → s.diePresent die = true → w.allowed s shape gb.toNat → w.blockFits k → ∀ a, w.skew k gb.toNat = some a →
      ∃ u, exec (.copyNodePush n) s = .next u ∧ s.NodeFails u g n 0x04 0 a)
    ∧ (sel ≠ 6 → s.diePresent die = true → w.allowed s shape gb.toNat → w.blockFits k → w.skew k gb.toNat = none →
      (kind = .wnvme → s.hub.dev.agreed.getLsbD 5 = true) → s.picksWinch die sel v → (s.winch v).queue.length < 64 →
      ∃ (c : WCmd) (u : State), exec (.copyNodePush n) s = .next u ∧ u = ((s.modWinch v fun z =>
          { z with queue := z.queue ++ [c], pushes := z.pushes + 1 }).nodeSet g n { y with phase := .issued }).graphBusy g
        ∧ c.kind = kind ∧ c.num = (s.winch v).pushes ∧ c.tag = x.tag ∧ c.pusher = .node g n ∧ c.block.toNat = k ∧ c.gb = gb ∧ c.shape = shape
        ∧ c.key = (s.ctx (x.tag.toNat / 64)).image.key ∧ c.step = (s.ctx (x.tag.toNat / 64)).image.stepno ∧ c.cursor = 0
        ∧ c.stage = .queued) := by
  intro r sel die gb w shaped hkind hblock himage hplain k
  obtain ⟨c, hc⟩ : ∃ c, c = s.copyCmd g n x.tag kind shape gb (BitVec.ofNat 512 k) := ⟨_, rfl⟩
  have hexec : exec (.copyNodePush n) s = .next (s.pushesCopy g n c die sel) := by
    rw [hc]
    exact exec_copyNodePush hg hn hcur h hkind hblock himage hplain
  obtain ⟨hckind, hcshape, hcgb, hcblock⟩ : c.kind = w.kind ∧ c.shape = shape ∧ c.gb = gb ∧ c.block.toNat = k := by
    rw [hc]
    exact ⟨rfl, rfl, rfl, State.toNat_number s bpa 64⟩
  have hallowed : w.allowed s shape gb.toNat ↔ ¬ (c.kind.operandsOk c.shape c.gb = false ∨ s.winchFeature c.kind = some fILLEGAL) := by
    rw [hckind, hcshape, hcgb, w.allowed_iff, not_or, Bool.not_eq_false]
  have hfits : w.blockFits k ↔ ¬ c.blockOk = false := by rw [Bool.not_eq_false, WCmd.blockOk_iff hckind, hcblock]
  have hskew : c.misaligned = w.skew k gb.toNat := by rw [WCmd.misaligned_eq hckind, hcblock, hcgb]
  have hgood (hsel : sel ≠ 6) (hdie : s.diePresent die = true) (ha : w.allowed s shape gb.toNat) (hf : w.blockFits k) :
      ¬ (sel = 6 ∨ s.diePresent die = false ∨ c.kind.operandsOk c.shape c.gb = false ∨ s.winchFeature c.kind = some fILLEGAL
        ∨ c.blockOk = false) := by
    rintro (hb | hb | hb | hb | hb)
    · exact hsel hb
    · exact Bool.noConfusion (hb.symm.trans hdie)
    · exact hallowed.mp ha (.inl hb)
    · exact hallowed.mp ha (.inr hb)
    · exact hfits.mp hf hb
  rw [hexec, State.pushesCopy, hskew]
  refine ⟨fun hbad => ?_, fun hsel hdie ha hf a hskew => ?_, fun hsel hdie ha hf hskew hdrive hpick hroom => ?_⟩
  · rw [if_pos]
    · exact ⟨_, rfl, State.nodeFault_fails hg (.refl hg) ⟨rfl, rfl, rfl⟩ rfl rfl hn _ _ _⟩
    · rwa [hallowed, hfits, not_not, not_not, or_assoc] at hbad
  · rw [if_neg (hgood hsel hdie ha hf), hskew]
    exact ⟨_, rfl, State.nodeFault_fails hg (.refl hg) ⟨rfl, rfl, rfl⟩ rfl rfl hn _ _ _⟩
  · have hfeature : s.winchFeature c.kind = none :=
      State.winchFeature_none (fun hb => hallowed.mp ha (.inr hb)) fun hk => hdrive (hckind.symm.trans hk)
    have hwinch : s.winchFor die sel = v := State.winchFor_picks hpick (Nat.mod_lt _ (by decide)) hsel
    rw [if_neg (hgood hsel hdie ha hf), hskew]
    simp only [hfeature, hwinch, Option.isSome_none, Bool.false_eq_true, if_false, Nat.not_le.mpr hroom]
    rw [State.modNode_eq_nodeSet (by exact hg) hn]
    refine ⟨{ c with num := (s.winch v).pushes }, _, rfl, rfl, hckind, rfl, ?_, ?_, hcblock, hcgb, hcshape, ?_, ?_, ?_, ?_⟩
    all_goals
      rw [hc]
      rfl

end


/-- A conditional or a loop node runs its child once more (13 R320). -/
def Node.runsAgain (y : Node) (kind v : Nat) : Prop :=
  kind = 4 ∧ v ≠ 0 ∨ kind = 5 ∧ v ≠ 0 ∧ (argOf y.raw.toNat 3 % 2 ^ 32 = 0 ∨ y.iter < argOf y.raw.toNat 3 % 2 ^ 32)

/-- A control node runs no child any more (13 R320). -/
def Node.runsNone (y : Node) (kind v : Nat) : Prop :=
  (kind = 4 ∨ kind = 5) ∧ ¬ y.runsAgain kind v
  ∨ kind = 6 ∧ argOf y.raw.toNat 2 / 2 ^ 8 % 2 ^ 13 ≤ v ∧ argOf y.raw.toNat 2 / 2 ^ 21 % 2 = 0

theorem field_maxIterations (a : Nat) : field a 31 0 = a % 2 ^ 32 := by
  rw [field_eq _ (by rfl : 31 - 0 + 1 = 32), pow_zero, Nat.div_one]

theorem field_caseCount (a : Nat) : field a 20 8 = a / 2 ^ 8 % 2 ^ 13 := field_eq a (by rfl : 20 - 8 + 1 = 13)

/-- A launch stands as well with a mark on another graph. -/
theorem State.Launched.putGraph {s u : State} {tag : BitVec 18} {root : Nat} {queue : Option Nat} {parent : Option (Nat × Nat)} {depth : Nat}
    {nodes edges : List Nat} (h : s.Launched u tag root queue parent depth nodes edges) {g : Nat} (hne : g ≠ s.hub.spool.nextId) (x : Graph) :
    s.Launched (u.putGraph g x) tag root queue parent depth nodes edges := by
  obtain ⟨hnext, hslots, hmem, z, hz, hrest⟩ := h
  exact ⟨hnext, hslots, hmem, z, (u.graph_putGraph_other x hne.symm).trans hz, hrest⟩

section
variable {s : State} {g n : Nat} {x : Graph} {y : Node} (hg : s.graph g = some x) (hn : x.nodes[n]? = some y) (hcur : s.cur = g)
include hg hn hcur

/-! ### Collective nodes (13 R318) -/

theorem collectiveNodePush_issues (h : s.takes g n 3 x y) (pa : Nat) (hpage : s.hubPage x.tag .read (argOf y.raw.toNat 0) 64 pa) :
    let a := argOf y.raw.toNat 1
    let d : TCmd := { num := 0, bytes := BitVec.ofNat 512 (s.number pa 64), tag := x.tag, cls := a / 2 ^ 4 % 16, pusher := some (.node g n),
                      started := 0, relReq := 0, relCmd := 0 }
    exec (.collectiveNodePush n) s
      = .next (((s.modStream (a % 16) fun z => { z with queue := z.queue ++ [d] }).nodeSet g n { y with phase := .issued }).graphBusy g) := by
  intro a d
  have hread := State.hubRead_hubPage hpage
  have hclass : field a 7 4 = a / 2 ^ 4 % 16 := field_eq a (by rfl : 7 - 4 + 1 = 4)
  have hstream : field a 3 0 = a % 16 := by
    rw [field_eq a (by rfl : 3 - 0 + 1 = 4), pow_zero, Nat.div_one]
    rfl
  obtain ⟨t, ht⟩ : ∃ t, t = s.modStream (a % 16) fun z => { z with queue := z.queue ++ [d] } := ⟨_, rfl⟩
  have htg : t.graph g = some x := by rw [ht]; exact hg
  rw [show exec (.collectiveNodePush n) s = execCollectiveNodePush n s from rfl, execCollectiveNodePush]
  simp only [hcur, (State.canTake_iff hg hn).mpr h, Bool.true_eq_false, if_false, State.nodeAt_eq hg, hn, State.graphTag_eq hg,
    nodeArg_eq_argOf, hread, s.ofBytes_readN]
  rw [hclass, hstream, ← ht, State.modNode_eq_nodeSet htg hn]

/-! ### Control nodes (13 R320) -/

variable {kind : Nat} (hkind : y.raw.toNat % 256 = kind)
include hkind

omit hg hn hcur in
theorem Node.kind_eq : y.kind = kind := by
  rw [Node.kind, field_eq _ (by rfl : 7 - 0 + 1 = 8), pow_zero, Nat.div_one]
  exact hkind

omit hg hn hcur in
theorem State.chosenChild_none {v : Nat} (h : y.runsNone kind v) (s : State) (tag : BitVec 18) : s.chosenChild tag y v = (.ok none, s) := by
  rw [State.chosenChild, Node.kind_eq hkind]
  rcases h with ⟨rfl | rfl, hnot⟩ | ⟨rfl, hlate, hdefault⟩
  · have hv : ¬ v ≠ 0 := fun hv => hnot (.inl ⟨rfl, hv⟩)
    simp only [hv, if_false]
  · have hv : ¬ (v ≠ 0 ∧ (argOf y.raw.toNat 3 % 2 ^ 32 = 0 ∨ y.iter < argOf y.raw.toNat 3 % 2 ^ 32)) := fun hv => hnot (.inr ⟨rfl, hv⟩)
    simp only [nodeArg_eq_argOf, field_maxIterations, hv, if_false]
  · have hv : ¬ (v < argOf y.raw.toNat 2 / 2 ^ 8 % 2 ^ 13 ∨ bitAt (argOf y.raw.toNat 2) 21 = true) := by
      rw [bitAt, beq_iff_eq]
      omega
    simp only [nodeArg_eq_argOf, field_caseCount, hv, if_false]

omit hg hn hcur in
theorem State.chosenChild_some {s : State} {v root ca : Nat} {tag : BitVec 18}
    (h : y.runsAgain kind v ∧ root = argOf y.raw.toNat 1 ∨ kind = 6 ∧ ¬ y.runsNone kind v
      ∧ s.hubPage tag .read (argOf y.raw.toNat 1 + 8 * min v (argOf y.raw.toNat 2 / 2 ^ 8 % 2 ^ 13)) 8 ca ∧ root = s.number ca 8) :
    s.chosenChild tag y v = (.ok (some root), s) := by
  rw [State.chosenChild, Node.kind_eq hkind]
  rcases h with ⟨⟨rfl, hv⟩ | ⟨rfl, hv⟩, rfl⟩ | ⟨rfl, hsome, hpage, rfl⟩
  · simp only [nodeArg_eq_argOf, if_pos hv]
  · simp only [nodeArg_eq_argOf, field_maxIterations, if_pos hv]
  · have hv : v < argOf y.raw.toNat 2 / 2 ^ 8 % 2 ^ 13 ∨ bitAt (argOf y.raw.toNat 2) 21 = true := by
      by_contra hno
      rw [bitAt, beq_iff_eq] at hno
      exact hsome (.inr ⟨rfl, by omega, by omega⟩)
    simp only [nodeArg_eq_argOf, field_caseCount, if_pos hv, State.hubRead_hubPage hpage, s.ofBytes_readN]

/-- What the condition of a control node comes to (13 R320). -/
theorem exec_controlNodeEvaluate {pa : Nat} {child : Option Nat} (h : y.phase = .evaluating ∨ (4 ≤ kind ∧ s.takes g n kind x y))
    (hpage : s.hubPage x.tag .read (argOf y.raw.toNat 0) 8 pa) (hchild : s.chosenChild x.tag y (s.number pa 8) = (.ok child, s)) :
    exec (.controlNodeEvaluate n) s = .next (s.runChild g n child) := by
  have htaken : y.phase = .evaluating ∨ (4 ≤ kind ∧ s.canTake g n kind = true) := h.imp_right (And.imp_right (State.canTake_iff hg hn).mpr)
  rw [show exec (.controlNodeEvaluate n) s = execControlNodeEvaluate n s from rfl, execControlNodeEvaluate]
  simp only [hcur, State.nodeAt_eq hg, hn, Node.kind_eq hkind, if_pos htaken, State.graphTag_eq hg, nodeArg_eq_argOf,
    State.hubRead_hubPage hpage, s.ofBytes_readN, hchild]

omit hcur hkind in
theorem State.runChild_none : s.NodeCompletes (s.runChild g n none) g n := by
  have hprogress : s.progress g = s.putGraph g { x with progress := true } := State.modGraph_eq hg _
  rw [State.runChild, hprogress]
  exact State.GraphStep.nodeCompletes (p := true) (a := x.awake) hg (.putGraph ..) hn

omit hcur hkind in
theorem State.runChild_deep (root : Nat) (hdepth : 4 ≤ x.depth) : s.NodeFails (s.runChild g n (some root)) g n 0x01 0 0 := by
  have hprogress : s.progress g = s.putGraph g { x with progress := true } := State.modGraph_eq hg _
  simp only [State.runChild, hg, if_pos hdepth, hprogress]
  exact State.nodeFault_fails (x' := { x with progress := true }) hg (.putGraph ..) ⟨rfl, rfl, rfl⟩ rfl rfl hn _ _ _

omit hcur hkind in
theorem State.runChild_launches {root : Nat} (hdepth : x.depth < 4) (hroom : s.graphRoom) (hne : g ≠ s.hub.spool.nextId) {nodes edges : List Nat}
    (h : s.graphAt x.tag root nodes edges) : s.Launched (s.runChild g n (some root)) x.tag root none (some (g, n)) (x.depth + 1) nodes edges
    ∧ (s.runChild g n (some root)).graph g
      = some { x with progress := true, nodes := x.nodes.set n { y with phase := .child s.hub.spool.nextId } } := by
  obtain ⟨gs, hlaunch, hlaunched, hothers⟩ := State.launch_graphAt none (some (g, n)) (x.depth + 1) h hroom
  obtain ⟨u, hu⟩ : ∃ u, u = s.modSpool fun p => { p with nextId := s.hub.spool.nextId + 1, graphs := gs } := ⟨_, rfl⟩
  have hug : u.graph g = some x := by
    rw [hu]
    exact (hothers g hne).trans hg
  have hrun : s.runChild g n (some root)
      = u.putGraph g { x with progress := true, nodes := x.nodes.set n { y with phase := .child s.hub.spool.nextId } } := by
    simp only [State.runChild, hg, if_neg (Nat.not_le.mpr hdepth), hlaunch, ← hu]
    rw [State.progress, State.modGraph_eq hug, State.modNode_eq (x := { x with progress := true }) (State.graph_putGraph_same ..) hn,
      State.putGraph_putGraph]
  rw [← hu] at hlaunched
  rw [hrun]
  exact ⟨hlaunched.putGraph hne _, State.graph_putGraph_same ..⟩

end


/-! ### The end of a graph (12 R297; 13 R317, R319) -/

theorem Graph.result_endedAs {x : Graph} {o code : Nat} (h : x.endedAs o code) : x.result = some (o, code) := by
  rcases h with ho | ⟨ho, b, hb, rfl, rfl, hy⟩ | ⟨ho, hb, rfl, rfl, hy⟩
  · rw [Graph.result, ho]
  · have hany : x.nodes.any (fun n => n.phase.running) = false :=
      List.any_eq_false.mpr fun y hm hr => Bool.noConfusion ((hy y hm).symm.trans hr)
    rw [Graph.result, ho, hb]
    simp only [hany, Bool.false_eq_true, if_false]
  · have hall : x.nodes.all (fun n => n.phase == .complete) = true := List.all_eq_true.mpr fun y hm => beq_iff_eq.mpr (hy y hm)
    rw [Graph.result, ho, hb]
    simp only [hall, if_true]

@[simp] theorem State.graph_dropGraph_same (s : State) (c : Nat) : (s.dropGraph c).graph c = none := by
  change Tab.find (Tab.del ..) c = _
  rw [Tab.find_del, if_pos rfl]

theorem State.graph_dropGraph_other (s : State) {c g : Nat} (h : g ≠ c) : (s.dropGraph c).graph g = s.graph g := by
  change Tab.find (Tab.del ..) g = _
  rw [Tab.find_del, if_neg h]
  rfl

section
variable {s : State} {g n c : Nat} {x k : Graph} {y : Node} (hcur : s.cur = g) (hg : s.graph g = some x) (hn : x.nodes[n]? = some y)
  (hy : y.phase = .child c) (hc : s.graph c = some k)
include hcur hg hn hy hc

theorem childGraphEnd_waits (h : k.result = none) : exec (.childGraphEnd n) s = .next s := by
  rw [show exec (.childGraphEnd n) s = execChildGraphEnd n s from rfl, execChildGraphEnd]
  simp only [hcur, State.nodeAt_eq hg, hn, hy, hc, Option.bind_some, h, Option.map_none]

/-- What the node of a child graph that has ended becomes, from the state that has taken the child over. -/
def State.childEnds (g n o code : Nat) (y : Node) (v : State) : State :=
  if o = 2 then v.nodeEnds g n (.failed code)
  else if o = 1 then v.nodeEnds g n (.halted code)
  else if y.kind = 5 then v.modNode g n fun y => { y with iter := y.iter + 1, phase := .evaluating }
  else v.nodeEnds g n .complete

/-- The graph with what its child did in the frame. -/
def Graph.takesOver (x k : Graph) : Graph := { x with progress := x.progress || k.progress, awake := x.awake || k.awake }

theorem exec_childGraphEnd (hne : c ≠ g) {o code : Nat} (h : k.result = some (o, code)) :
    exec (.childGraphEnd n) s = .next (((s.dropGraph c).putGraph g (x.takesOver k)).childEnds g n o code y) := by
  rw [show exec (.childGraphEnd n) s = execChildGraphEnd n s from rfl, execChildGraphEnd]
  simp only [hcur, State.nodeAt_eq hg, hn, hy, hc, Option.bind_some, h, Option.map_some]
  rw [State.modGraph_eq ((s.graph_dropGraph_other hne.symm).trans hg)]
  rfl

theorem childGraphEnd_ends (hne : c ≠ g) {o code : Nat} (h : k.endedAs o code) (ho : o ≤ 2) :
    ∃ u, exec (.childGraphEnd n) s = .next u ∧ u.graph c = none ∧ u.slots = s.slots ∧ ∃ x', u.graph g = some x'
      ∧ (o = 0 → y.raw.toNat % 256 = 5 → x'.nodes = x.nodes.set n { y with iter := y.iter + 1, phase := .evaluating })
      ∧ (o = 0 → y.raw.toNat % 256 ≠ 5 → (x'.nodes[n]?).map (·.phase) = some .complete ∧ x'.edges = x.edges.map (fun e =>
          if e.src = n then { e with fired := true } else e))
      ∧ (o = 1 → (x'.nodes[n]?).map (·.phase) = some (.halted code) ∧ (x.firstBad = none → x'.firstBad = some ⟨false, code, s.now, n⟩))
      ∧ (o = 2 → (x'.nodes[n]?).map (·.phase) = some (.failed code) ∧ (x.firstBad = none → x'.firstBad = some ⟨true, code, s.now, n⟩)) := by
  rw [exec_childGraphEnd hcur hg hn hy hc hne (Graph.result_endedAs h)]
  obtain ⟨v, hv⟩ : ∃ v, v = (s.dropGraph c).putGraph g (x.takesOver k) := ⟨_, rfl⟩
  have hvg : v.graph g = some (x.takesOver k) := by rw [hv]; exact State.graph_putGraph_same ..
  have hvc : v.graph c = none := by rw [hv, State.graph_putGraph_other _ _ hne, State.graph_dropGraph_same]
  have hvs : v.slots = s.slots ∧ v.now = s.now := by rw [hv]; exact ⟨rfl, rfl⟩
  have hvn : (x.takesOver k).nodes[n]? = some y := hn
  obtain ⟨hlt, -⟩ := List.getElem?_eq_some_iff.mp hn
  have hbad (failed : Bool) : let u := v.nodeEnds g n (badPhase failed code)
      u.graph c = none ∧ u.slots = s.slots ∧ ∃ x', u.graph g = some x' ∧ (x'.nodes[n]?).map (·.phase) = some (badPhase failed code)
        ∧ (x.firstBad = none → x'.firstBad = some ⟨failed, code, s.now, n⟩) := by
    intro u
    have hu : u = _ := State.nodeEnds_bad hvg hvn failed code
    rw [hu]
    refine ⟨(State.graph_putGraph_other _ _ hne).trans hvc, hvs.1, _, State.graph_putGraph_same .., ?_, fun hx => ?_⟩
    · rw [Graph.spoils, List.getElem?_set_self (show n < (x.takesOver k).nodes.length from hlt)]
      rfl
    · rw [Graph.spoils_firstBad (x := x.takesOver k) hx, hvs.2]
  rw [← hv]
  refine ⟨_, rfl, ?_⟩
  obtain rfl | rfl | rfl : o = 0 ∨ o = 1 ∨ o = 2 := by omega
  case inl =>
    by_cases hkind : y.raw.toNat % 256 = 5
    · have hchild : v.childEnds g n 0 code y = v.putGraph g { x.takesOver k with
          nodes := x.nodes.set n { y with iter := y.iter + 1, phase := .evaluating } } := by
        rw [State.childEnds, if_neg (by decide), if_neg (by decide), if_pos (Node.kind_eq hkind), State.modNode_eq hvg hvn]
        rfl
      rw [hchild]
      exact ⟨(State.graph_putGraph_other _ _ hne).trans hvc, hvs.1, _, State.graph_putGraph_same .., fun _ _ => rfl, fun _ h => absurd hkind h,
        nofun, nofun⟩
    · have hchild : v.childEnds g n 0 code y = v.nodeEnds g n .complete := by
        rw [State.childEnds, if_neg (by decide), if_neg (by decide), if_neg (by rwa [Node.kind_eq rfl])]
      obtain ⟨ns, hstep, hlen, hself, -⟩ := State.GraphStep.completes hvg hvn
      rw [hchild]
      exact ⟨(hstep.others c hne).trans hvc, hstep.slots.trans hvs.1, _, hstep.graph, fun _ h => absurd h hkind,
        fun _ _ => ⟨by rw [hself]; rfl, rfl⟩, nofun, nofun⟩
  case inr.inl =>
    obtain ⟨hc', hs', x', hx', hphase, hfirst⟩ := hbad false
    exact ⟨hc', hs', x', hx', nofun, nofun, fun _ => ⟨hphase, hfirst⟩, nofun⟩
  case inr.inr =>
    obtain ⟨hc', hs', x', hx', hphase, hfirst⟩ := hbad true
    exact ⟨hc', hs', x', hx', nofun, nofun, nofun, fun _ => ⟨hphase, hfirst⟩⟩

end

/-! ### The completion of a root graph (12 R296, R297) -/

theorem WorkQueue.remove_eq_popped (x : WorkQueue) : x.remove = x.popped := by
  rw [WorkQueue.remove, WorkQueue.popped]
  cases x.owners with
  | nil => rfl
  | cons o t =>
    cases o with
    | none => rfl
    | some p => rfl

/-- Removing a record keeps how the queue raises its vector. -/
theorem WorkQueue.popped_intr (x : WorkQueue) : x.popped.intr = x.intr ∧ x.popped.vector = x.vector := by
  rw [WorkQueue.popped]
  split
  · split <;> exact ⟨rfl, rfl⟩
  · exact ⟨rfl, rfl⟩

theorem State.finishRecord_eq_finished (s : State) (q r : Nat) : s.finishRecord q r = s.finished q (r % 2 ^ 64) := by
  have hbit : bitAt r 8 = true ↔ r % 2 ^ 64 / 2 ^ 8 % 2 = 1 := by
    rw [bitAt, beq_iff_eq]
    omega
  obtain ⟨hintr, hvector⟩ := (s.queue q).popped_intr
  rw [State.finishRecord, State.recordIntr, State.finished, State.queue_modQueue_same, WorkQueue.remove_eq_popped]
  simp only [hintr, hvector, WorkQueue.remove_eq_popped, Bool.and_eq_true, hbit]

/-- The end of a record and the bytes of memory do not meet. -/
theorem State.finished_withMem (s : State) (m : Bytes) (q word0 : Nat) :
    State.finished { s with mem := m } q word0 = { s.finished q word0 with mem := m } := by
  by_cases h : word0 / 2 ^ 8 % 2 = 1 ∧ (s.queue q).intr = true
  · rw [State.finished, if_pos (by exact h), State.finished, if_pos h]
    rfl
  · rw [State.finished, if_neg (by exact h), State.finished, if_neg h]
    rfl

theorem State.finished_slots (s : State) (q word0 : Nat) : (s.finished q word0).slots = s.slots := by
  rw [State.finished]
  split <;> rfl

theorem Bytes.read_writeN_overlaid (m : Bytes) (pa : Nat) (bs : List Byte) (a : Nat) :
    (m.writeN pa bs).read a = overlaid m.read pa bs a := by
  rw [Bytes.read_writeN, overlaid, List.getElem!_eq_getElem?_getD]
  rfl

section
variable {s : State} {g q o code : Nat} {x : Graph} (hcur : s.cur = g) (hg : s.graph g = some x)
include hcur hg

theorem graphCompletionWrite_waits (h : x.result = none) : exec .graphCompletionWrite s = .next s := by
  rw [show exec .graphCompletionWrite s = execGraphCompletionWrite s from rfl, execGraphCompletionWrite]
  simp only [hcur, hg, h]

variable (hp : x.parent = none) (hq : x.queue = some q) (h : x.endedAs o code)
include hp hq h

theorem graphCompletionWrite_silent (hat : (s.queue q).taken.toNat / 2 ^ 128 % 2 ^ 64 = 0) : exec .graphCompletionWrite s
    = .next ((s.modSpool fun p => { p with graphs := p.graphs.del g }).finished q ((s.queue q).taken.toNat % 2 ^ 64)) := by
  have haddr : field (s.queue q).taken.toNat 191 128 = 0 := (field_eq _ (by rfl : 191 - 128 + 1 = 64)).trans hat
  rw [show exec .graphCompletionWrite s = execGraphCompletionWrite s from rfl, execGraphCompletionWrite]
  simp only [hcur, hg, Graph.result_endedAs h, hp, hq, haddr, if_true, State.finishRecord_eq_finished]
  rfl

theorem graphCompletionWrite_writes {pa : Nat} (hat : (s.queue q).taken.toNat / 2 ^ 128 % 2 ^ 64 ≠ 0)
    (hpage : s.hubPage x.tag .write ((s.queue q).taken.toNat / 2 ^ 128 % 2 ^ 64) 16 pa) :
    let r := (s.queue q).taken.toNat
    let out := bytesOf 8 (r / 2 ^ 192) ++ bytesOf 8 (o + if o = 0 then 0 else code * 2 ^ 16)
    ∃ u, exec .graphCompletionWrite s = .next u
      ∧ (∀ a, u.mem.read a = overlaid s.mem.read pa out a) ∧ u.slots = s.slots
      ∧ u.hub = ((s.modSpool fun p => { p with graphs := p.graphs.del g }).finished q (r % 2 ^ 64)).hub := by
  intro r out
  have haddr : field r 191 128 = r / 2 ^ 128 % 2 ^ 64 := field_eq _ (by rfl : 191 - 128 + 1 = 64)
  have hvalue : field r 255 192 = r / 2 ^ 192 := field_top (hi := 255) (s.queue q).taken (by decide)
  have houtcome : (if o = 0 then 0 else code) * 2 ^ 16 = if o = 0 then 0 else code * 2 ^ 16 := by
    rw [ite_mul, Nat.zero_mul]
  have hlen : out.length = 16 := by simp [out, bytesOf]
  have hwrite := State.hubWrite_hubPage (bs := out) (by rw [hlen]; exact hpage)
  rw [show exec .graphCompletionWrite s = execGraphCompletionWrite s from rfl, execGraphCompletionWrite]
  simp only [hcur, hg, Graph.result_endedAs h, hp, hq, toBytes_eq_bytesOf, State.finishRecord_eq_finished]
  rw [haddr, hvalue, houtcome, if_neg hat, hwrite]
  have hdrop : State.dropGraph { s with mem := s.mem.writeN pa out } g = { s.dropGraph g with mem := s.mem.writeN pa out } := rfl
  dsimp only
  rw [hdrop, State.finished_withMem]
  exact ⟨_, rfl, Bytes.read_writeN_overlaid _ _ _, State.finished_slots .., rfl⟩

end


/-! ### Graphs (13 R314-R321) -/

/-- What an evaluation of a control node comes to (13 R320). -/
theorem controlNodeEvaluate_ends (s : State) (g n kind : Nat) (x : Graph) (y : Node) (pa : Nat) (hcur : s.cur = g) (hg : s.graph g = some x)
    (hn : x.nodes[n]? = some y) :
    let r := y.raw.toNat
    let v := s.number pa 8
    r % 256 = kind → y.phase = .evaluating ∨ (4 ≤ kind ∧ s.takes g n kind x y) → s.hubPage x.tag .read (argOf r 0) 8 pa →
    (y.runsNone kind v → ∃ u, exec (.controlNodeEvaluate n) s = .next u ∧ s.NodeCompletes u g n)
    ∧ ∀ (root ca : Nat),
      (y.runsAgain kind v ∧ root = argOf r 1
        ∨ kind = 6 ∧ ¬ y.runsNone kind v
          ∧ s.hubPage x.tag .read (argOf r 1 + 8 * min v (argOf r 2 / 2 ^ 8 % 2 ^ 13)) 8 ca ∧ root = s.number ca 8) →
      (4 ≤ x.depth → ∃ u, exec (.controlNodeEvaluate n) s = .next u ∧ s.NodeFails u g n 0x01 0 0)
      ∧ (x.depth < 4 → s.graphRoom → g ≠ s.hub.spool.nextId → ∀ nodes edges, s.graphAt x.tag root nodes edges →
        ∃ u, exec (.controlNodeEvaluate n) s = .next u ∧ s.Launched u x.tag root none (some (g, n)) (x.depth + 1) nodes edges
          ∧ u.graph g = some { x with progress := true, nodes := x.nodes.set n { y with phase := .child s.hub.spool.nextId } }) := by
  intro r v hkind htaken hpage
  refine ⟨fun hnone => ?_, fun root ca hsome => ?_⟩
  · exact ⟨_, exec_controlNodeEvaluate hg hn hcur hkind htaken hpage (State.chosenChild_none hkind hnone s x.tag), State.runChild_none hg hn⟩
  · have hexec := exec_controlNodeEvaluate hg hn hcur hkind htaken hpage (State.chosenChild_some hkind hsome)
    exact ⟨fun hdepth => ⟨_, hexec, State.runChild_deep hg hn root hdepth⟩,
      fun hdepth hroom hne nodes edges h => ⟨_, hexec, State.runChild_launches hg hn hdepth hroom hne h⟩⟩

/-- Settles O51: each event of a graph, of a node, of a control node and of a child graph by its own rule (13 R314-R321; 12 R296, R297). -/
theorem graphs : Obligations.Graphs := by
  unfold Obligations.Graphs
  refine ⟨queueRecordLaunch_launches, fun s g n x y hcur hg hn => ?nodes,
    fun s g n kind x y pa hcur hg hn => controlNodeEvaluate_ends s g n kind x y pa hcur hg hn,
    fun s g n c o code x k y hcur hg hn hy hc hne => ⟨childGraphEnd_waits hcur hg hn hy hc, childGraphEnd_ends hcur hg hn hy hc hne⟩,
    fun s g q o code pa x hcur hg hp hq => ⟨graphCompletionWrite_waits hcur hg, graphCompletionWrite_silent hcur hg hp hq,
      fun hend hat hpage => graphCompletionWrite_writes hcur hg hp hq hend hat hpage⟩⟩
  refine ⟨emptyNodeTaken_completes hcur hg hn, emptyNodeTaken_waits hcur hg hn, timedNodeDue_ready hcur hg hn, timedNodeDue_waits hcur hg hn,
    fun h => ⟨fun hk => exec_kernelNodeDispatch_unknown hg hn hcur h (State.kernelFor_none hk), fun before after id e hk hbefore he ht hc hdie =>
      kernelNodeDispatch_begins hg hn hcur h (State.kernelFor_some hk hbefore he) ht hc hdie⟩,
    fun hy pa hk hlen hwait hpage => kernelValidation_ends hg hn hcur hy pa hk hlen hwait hpage,
    fun h kind shape bpa ipa v => copyNodePush_ends hg hn hcur h kind shape bpa ipa v,
    fun h pa hpage => collectiveNodePush_issues hg hn hcur h pa hpage⟩


end Sys2Proof.Machine
end
